-- ==== Sys2Proof/Word.lean ====
section
/-! DEFINITION. Plain names for the quantities of Table 00-6 and for bytes on a wire.

Quantities the manual counts are `Nat` or `Int` in the unit of Table 00-6 (R10, R11); a field that
wraps is reduced where the manual says it wraps. -/

namespace Sys2Proof

/-- One byte of a frame, a record or a payload, 0 to 255. -/
abbrev Byte := Nat

/-- A sweep index, compared modulo 2^32 (R123). -/
abbrev SweepIx := Nat

/-- A worker position: ring and north hop, hop 1 nearest the north end (R6, R8). -/
abbrev Wk := Nat × Nat


end Sys2Proof
end

