-- ==== Sys2Proof/Config.lean ====
section
/-! DEFINITION. The configuration set as decoded content (chapter 18, with the tables it holds from every
chapter), and the free values of the model: constants without a body that no proof can see into. -/

namespace Sys2Proof

/-- The slot codes of Table 02-6 (R43). -/
inductive SlotCode where
  | a | b | single | invalid
  deriving DecidableEq, Repr, Inhabited

/-- Worker types of Table 01-1. -/
inductive WType where
  | dzc24 | dzs2
  deriving DecidableEq, Repr, Inhabited

/-- TIME_SOURCE (R75). -/
inductive TimeSource where
  | ptp | ppsHost | ptpThenPps
  deriving DecidableEq, Repr, Inhabited

/-- Worker table entry, Table 01-1 (R28); ABSENT positions are not listed. -/
structure WorkerEntry where
  typ : WType := .dzc24
  format : Nat := 0
  string : Nat := 0
  serialCheck : Bool := false
  serial : Nat := 0
  deriving DecidableEq, Repr, Inhabited

/-- String table entry, Table 01-2 (R29); strings with PRESENT 0 are not listed. -/
structure StringEntry where
  ring : Nat := 0
  firstHop : Nat := 1
  lastHop : Nat := 1
  dzsHop : Nat := 1
  cellCount : Nat := 12
  bay : Nat := 0
  curveSet : Nat := 0
  vStringMax : Nat := 1500000
  iRated : Nat := 0
  deriving DecidableEq, Repr, Inhabited

/-- Channel table entry, Table 01-3 (R30); entries with USED 0 are not listed. -/
structure ChannelEntry where
  position : Nat := 0
  string : Nat := 0
  bay : Nat := 0
  tempInput : Nat := 0
  nameplate : Nat := 0
  deriving DecidableEq, Repr, Inhabited

/-- Format table entry, Table 05-5 (R130): items as (code, offset). -/
structure FormatEntry where
  wtype : Nat := 0
  slotLen : Nat := 0
  items : List (Nat × Nat) := []
  deriving DecidableEq, Repr, Inhabited

/-- The SWEEP section (R124, R136, R142, R75, R76). -/
structure SweepCfg where
  period : Nat := 100
  /-- sweep corner code per ring, 1 where not listed -/
  sweepCorner : List (Nat × Nat) := []
  /-- burst corner code per ring, 4 where not listed -/
  burstCorner : List (Nat × Nat) := []
  bursts : Bool := false
  stepSize : Nat := 10
  stepWindow : Nat := 20
  timeSource : TimeSource := .ptp
  ptpMaster : Bool := false
  ptpDomain : Nat := 0
  /-- logInterval of Sync, -4 to 0 (Table 03-4) -/
  ptpSyncLog : Int := -3
  /-- logInterval of Announce, 0 to 3 -/
  ptpAnnounceLog : Int := 0
  /-- path asymmetry of ETH1 and ETH2, ns -/
  ptpAsymmetry : List Int := [0, 0]
  deriving DecidableEq, Repr, Inhabited

/-- SENSE parameters, Table 06-1 (voltages in 0.1 mV, grace in s). -/
structure SenseCfg where
  owOpenMin : Nat := 1000
  owHighR : Nat := 300
  stackMax : Nat := 250
  cellDev : Nat := 500
  cellFaultPersist : Nat := 10
  pairMargin : Nat := 500
  stackMargin : Nat := 250
  senseDeratePct : Nat := 50
  secondFaultGrace : Nat := 900
  deriving DecidableEq, Repr, Inhabited

/-- BAL_MODE of a string (Table 06-8). -/
inductive BalMode where
  | off | top | bottom | mid
  deriving DecidableEq, Repr, Inhabited

/-- BALANCE parameters, Table 06-8; mode TOP where not listed. -/
structure BalCfg where
  modes : List (Nat × BalMode) := []
  deadband : Nat := 500
  efficiency : Nat := 85
  settleMin : Nat := 20
  spreadMax : Nat := 5000
  deriving DecidableEq, Repr, Inhabited

/-- Dormancy defaults and the survey interval (R165, R169). -/
structure DormCfg where
  vMin : Nat := 25000
  vMax : Nat := 36500
  tMin : Int := -3000
  tMax : Int := 5500
  checkInterval : Nat := 10
  vBusMax : Nat := 60000
  iOpenMax : Int := 2000
  surveyH : Nat := 24
  deriving DecidableEq, Repr, Inhabited

/-- An OCV curve set, Tables 07-3 and 07-4 (R176, R177). `pts[branch][temperature]` lists (SOC, OCV). -/
structure CurveSet where
  plateau : Bool := false
  hysteresis : Bool := false
  pointCount : Nat := 2
  tempCount : Nat := 1
  zoneCount : Nat := 0
  vChgCutoff : Nat := 36000
  vDisCutoff : Nat := 28000
  vErr : Nat := 0
  hystFull : Nat := 0
  sdPpmDay : Nat := 0
  sdDoubling : Nat := 10
  temps : List Int := []
  zones : List (Nat × Nat) := []
  rNom : Nat := 0
  pts : List (List (List (Nat × Nat))) := []
  deriving DecidableEq, Repr, Inhabited

/-- SOC parameters, Table 07-14. restI in 0.001 C (0.1 of the manual's 0.01 C unit). -/
structure SocCfg where
  restI : Nat := 5
  restTimeMin : Nat := 30
  restDvdt : Nat := 50
  anchorSigmaMax : Nat := 300
  bottomReserve : Nat := 200
  topReserve : Nat := 100
  iRefDis : Nat := 50
  iRefChg : Nat := 50
  socSlew : Nat := 50
  reserveDeratePct : Nat := 30
  countErrPpm : Nat := 2000
  iOffsetErr : Nat := 50
  sigmaProv : Nat := 1500
  deriving DecidableEq, Repr, Inhabited

/-- IMPEDANCE and CAPACITY parameters, Table 08-15. Percentages in 0.01 %, temperatures in 0.01 degC,
rates in 0.01 C, tauPolNom in 0.1 ms, fitResidMax in tenths, fallbackWeight in hundredths. -/
structure LearnCfg where
  impSocLo : Nat := 1000
  impSocHi : Nat := 9000
  impTMin : Int := 0
  impTMax : Int := 4500
  rDoubling : Nat := 20
  rOhmShare : Nat := 60
  tauPolNom : Nat := 500
  fitResidMax : Nat := 30
  impDrift : Nat := 50
  impRisePct : Nat := 50
  impOutlierPct : Nat := 30
  impSigmaRestore : Nat := 5
  swingMain : Nat := 6000
  swingFb : Nat := 4000
  tLo : Int := 1500
  tHi : Int := 3500
  tSpread : Nat := 800
  rateAvg : Nat := 50
  ratePeak : Nat := 100
  peakShare : Nat := 5
  midRestMaxMin : Nat := 240
  winMainH : Nat := 48
  winFbH : Nat := 336
  fallbackWeight : Nat := 25
  capStepMax : Nat := 200
  capSigmaInit : Nat := 300
  capDrift : Nat := 2
  capFadePct : Nat := 80
  maxAgeDays : Nat := 30
  deriving DecidableEq, Repr, Inhabited

/-- A stored curve, Table 09-2 (R227): KIND 1 DERATE_T, 2 DERATE_SOC, 3 THRESHOLD. -/
structure Curve where
  kind : Nat := 0
  pts : List (Int × Int) := []
  deriving DecidableEq, Repr, Inhabited

/-- A rule row, Table 09-6 (R234). -/
structure Rule where
  scope : Nat := 0
  enabled : Bool := true
  outside : Bool := false
  latch : Bool := false
  thrCurve : Bool := false
  cond : Nat := 0
  punit : Nat := 0
  dir : Nat := 0
  severity : Nat := 0
  action : Nat := 0
  alert : Nat := 0
  signal : Nat := 0
  deratePct : Nat := 100
  bayMask : Nat := 15
  thrA : Int := 0
  thrB : Int := 0
  hyst : Int := 0
  persist : Nat := 0
  rateSpan : Nat := 0
  argSignal : Nat := 0
  deriving DecidableEq, Repr, Inhabited

/-- LIMIT parameters, Table 09-11; DER curves per curve set, 255 none. -/
structure LimitCfg where
  derTDis : List Nat := List.replicate 8 255
  derTChg : List Nat := List.replicate 8 255
  derSocDis : List Nat := List.replicate 8 255
  derSocChg : List Nat := List.replicate 8 255
  limitRise : Nat := 10
  shareMinI : Nat := 5
  stringRExt : Nat := 2000
  bayIMaxDis : List Nat := List.replicate 4 0
  bayIMaxChg : List Nat := List.replicate 4 0
  carapaceMarginPct : Nat := 90
  holdLimitPct : Nat := 50
  deriving DecidableEq, Repr, Inhabited

/-- A sequence step, Table 10-6 (R256); the fields' defaults are those of an entry of zeros. -/
structure Step where
  kind : Nat := 0
  operand : Nat := 0
  arg : Nat := 0
  arg32 : Int := 0
  timeout : Nat := 0
  success : Nat := 0
  failure : Nat := 0
  deriving DecidableEq, Repr, Inhabited

/-- The SEQUENCE section and Table 10-15 (R256, R274): entry tables (0xFFFF none), steps, parameters.
insertWaitMax, leaseFloor, recoverDelay in s; zeroWait, bayEmptyTime in ms. -/
structure SeqCfg where
  strEntry : List Nat := List.replicate 16 0xFFFF
  bayEntry : List Nat := List.replicate 16 0xFFFF
  steps : List (Nat × Step) := []
  insertI : Nat := 20
  insertVErr : Nat := 1000
  insertBatch : Nat := 8
  insertWaitMax : Nat := 0
  zeroWait : Nat := 500
  zeroIPct : Nat := 5
  leaseFloor : Nat := 3
  recoverDelay : Nat := 10
  faultLimit : Nat := 3
  bayMinStrings : Nat := 1
  bayEmptyTime : Nat := 2000
  /-- strings whose FAILSAFE is HOLD -/
  holdStrings : List Nat := []
  /-- strings whose AUTO_CLOSE is 0 -/
  noAutoClose : List Nat := []
  deriving DecidableEq, Repr, Inhabited

/-- Precharge channel entry, Table 11-1 (R275). -/
structure PreEntry where
  phases : Nat := 0
  shedEn : Bool := false
  minPhases : Nat := 1
  rotate : Nat := 8
  phaseOffset : Nat := 0
  deadTime : Nat := 20
  iFloorPct : Nat := 2
  probePct : Nat := 2
  retryMax : Nat := 3
  iRun : Int := 1000
  iFast : Int := 0
  iCont : Int := 0
  i2tMax : Nat := 0
  isnsGain : Nat := 0
  scaleOut : Nat := 0
  scaleSrc : Nat := 0
  cLink : Nat := 1
  bandMin : Nat := 200
  bandMax : Nat := 4000
  tProbe : Nat := 200
  retryDelay : Nat := 10
  doneBand : Nat := 500
  vKnee : Nat := 500
  srcMargin : Nat := 20000
  fFree : Nat := 2000
  deriving DecidableEq, Repr, Inhabited

/-- LOAD_TYPE of a switch channel (Table 12-5). -/
inductive LoadType where
  | unused | lamp | coil | motor | heater | valve
  deriving DecidableEq, Repr, Inhabited

/-- FAILSAFE of a switch channel (Table 12-5). -/
inductive SwFailsafe where
  | off | on | hold
  deriving DecidableEq, Repr, Inhabited

/-- Switch channel entry, Table 12-5 (R315). -/
structure SwEntry where
  load : LoadType := .unused
  loadCode : Nat := 0
  failsafe : SwFailsafe := .off
  openOffEn : Bool := false
  openOnEn : Bool := false
  lampRetries : Nat := 8
  econDuty : Nat := 40
  iTrip : Int := 6000
  iOpen : Nat := 50
  tBlank : Nat := 0
  tPull : Nat := 200
  tRamp : Nat := 2000
  tOvl : Nat := 100
  shortGap : Nat := 10
  tOpenOn : Nat := 500
  deriving DecidableEq, Repr, Inhabited

/-- One address entry of the network section, Table 15-17 (R390); addresses as numbers. -/
structure NetAddr where
  addr6 : Nat := 0
  addr4 : Nat := 0
  prefix6 : Nat := 0
  prefix4 : Nat := 0
  vid : Nat := 0
  pcp : Nat := 0
  deriving DecidableEq, Repr, Inhabited

/-- The network section, Table 15-17: A ETH1, A ETH2, B ETH1, B ETH2. -/
structure NetCfg where
  addrs : List NetAddr := List.replicate 4 {}
  gateway4 : Nat := 0
  gateway6 : Nat := 0
  dscp : Nat := 0
  streamBudget : Nat := 40
  sessionIdle : Nat := 60
  deriving DecidableEq, Repr, Inhabited

/-- CAN controller entry, Table 16-2 (R398): MODE 0 OFF, 1 NORMAL, 2 LISTEN_ONLY. -/
structure CanCtlCfg where
  mode : Nat := 0
  fdEn : Bool := false
  tdcEn : Bool := false
  nbrp : Nat := 2
  ntseg1 : Nat := 63
  ntseg2 : Nat := 16
  nsjw : Nat := 16
  dbrp : Nat := 2
  dtseg1 : Nat := 31
  dtseg2 : Nat := 8
  dsjw : Nat := 8
  tdcOffset : Nat := 32
  deriving DecidableEq, Repr, Inhabited

/-- CAN receive object, Table 16-4 (R400). -/
structure CanRxCfg where
  ident : Nat := 0
  ide : Bool := false
  mask : Nat := 0
  acceptClassic : Bool := true
  acceptFd : Bool := true
  journal : Bool := false
  timeoutAlert : Bool := false
  alert : Nat := 0
  timeout : Nat := 0
  deriving DecidableEq, Repr, Inhabited

/-- CAN transmit object, Table 16-5 (R403); CONTENT of Table 16-6; items as (SIGNAL, INSTANCE). -/
structure CanTxCfg where
  ident : Nat := 0
  ide : Bool := false
  fdf : Bool := false
  brs : Bool := false
  length : Nat := 0
  content : Nat := 0
  arg : Nat := 0
  retryLimit : Nat := 8
  period : Nat := 20
  offset : Nat := 0
  items : List (Nat × Nat) := []
  deriving DecidableEq, Repr, Inhabited

/-- The CAN section of one controller (R410): objects by index, only entries that are not all zero. -/
structure CanPortCfg where
  ctl : CanCtlCfg := {}
  rx : List (Nat × CanRxCfg) := []
  tx : List (Nat × CanTxCfg) := []
  deriving DecidableEq, Repr, Inhabited

/-- CORE_LIMITS, Table 18-5. -/
structure CoreLimits where
  vCellMax : Nat := 36500
  vCellMin : Nat := 25000
  tCellMax : Int := 5500
  tCellMin : Int := -3000
  period : Nat := 100
  deriving DecidableEq, Repr, Inhabited

/-- A configuration set as decoded content (R441, Tables 18-4 and 18-5). -/
structure ConfigSet where
  format : Nat := 1
  pairDomain : Bool := true
  /-- DOMAIN_CONFIG is neither SINGLE nor PAIR -/
  oddDomain : Bool := false
  ownerSigned : Bool := false
  size : Nat := 0
  setId : Nat := 0
  core : CoreLimits := {}
  workers : List (Wk × WorkerEntry) := []
  strings : List (Nat × StringEntry) := []
  channels : List (Nat × ChannelEntry) := []
  network : NetCfg := {}
  can : List CanPortCfg := List.replicate 3 {}
  switches : List SwEntry := List.replicate 24 {}
  swWdPeriod : Nat := 100
  baySwitch : List (List Nat) := List.replicate 4 (List.replicate 8 255)
  sweep : SweepCfg := {}
  formats : List (Nat × FormatEntry) := []
  sense : SenseCfg := {}
  bal : BalCfg := {}
  dorm : DormCfg := {}
  curveSets : List CurveSet := []
  soc : SocCfg := {}
  learn : LearnCfg := {}
  curves : List (Nat × Curve) := []
  rules : List (Nat × Rule) := []
  limit : LimitCfg := {}
  seq : SeqCfg := {}
  precharge : List PreEntry := List.replicate 4 {}
  deriving DecidableEq, Repr, Inhabited

/-! Free values: nothing constrains them. -/

/-- Whether a square root (0), 2^x (1) or e^x (2) of an argument is rounded to the greater of the two single-precision numbers
beside it: the manual does not state the rounding (log 2). -/
opaque Config.roundUp : Nat → Rat → Bool
/-- The share (mA) that a phase being shed still carries, of its whole share, after so many of the cycles of a rotation: R287 says
that it falls to 0 over the rotation, and not how (log 157). -/
opaque Config.shedShare : Rat → Nat → Nat → Rat
/-- A value the manual leaves to the implementation or to chance: SESSION numbers, ephemeral keys,
nonces (R370). Applied to the counter `free` of the state (log 1). -/
opaque Config.freeValue : Nat → Nat
/-- Byte `i` of the IDENTITY.READ record where the manufacturing record, the identity key pair and Wenkesel's
signature give it (R370, R380, R381); the manual states no value (log 50). -/
opaque Config.identityByte : Nat → Nat
/-- OCV outside SOC 0 to 1 of a curve's points (SOC as a fraction, 0.1 mV): the points end there and the manual
states no value (log 28). -/
opaque Config.ocvBeyond : List (Rat × Rat) → Rat → Rat
/-- The share of the lower channel in a pulled pair's sum where no sweep gives the ratio of R150 (log 27);
applied to the two readings. -/
opaque Config.pullSplit : Nat → Nat → Rat
/-- ILIM of a cell whose sweep voltage has no valid value (R155, R224): the manual states none (log 36);
applied to the string's I_RATED in A. -/
opaque Config.limNoVoltage : Rat → Rat
/-- The rate the time servo trims to, ps per ms, from the present one and a measured offset: R75 says that the servo
corrects the rate and R84 bounds it, and no rule gives its law (log 150). -/
opaque Config.servoTrim : Int → Int → Int
/-- Whether an Ed25519 signature (RFC 8032) of a message is valid under a public key: no number of the manual depends on which
signatures are (log 184). -/
opaque Config.ed25519 : Nat → List Byte → List Byte → Bool
/-- The Wenkesel image public key, held in the boot ROM (R429, log 184). -/
opaque Config.imageKey : Nat
/-- SW_WD_PERIOD and BAY_SWITCH behind the 24 entries of the SWITCH section; like the sections below, the manual names the content
and gives no layout (log 89). -/
opaque Config.switchParams : List Byte → Nat × List (List Nat)
/-- The SWEEP section. -/
opaque Config.sweepSection : List Byte → SweepCfg
/-- The SENSE_BALANCE section. -/
opaque Config.senseBalance : List Byte → SenseCfg × BalCfg × DormCfg
/-- The ESTIMATION section. -/
opaque Config.estimation : List Byte → SocCfg × LearnCfg
/-- The LIMITS section. -/
opaque Config.limitSection : List Byte → LimitCfg
/-- The rest of Table 10-15 in the SEQUENCE section. -/
opaque Config.seqParams : List Byte → SeqCfg
/-- A charge or resistance result the manual's formula leaves without a value: a quotient by zero (log 5). -/
opaque Config.divZero : Rat → Rat

end Sys2Proof
end

