-- ==== Sys2Proof/Syntax.lean ====
section
/-! DEFINITION. What reaches the module: frames, datagrams, notices and measured events, and the commands
themselves (`Instr`), one constructor per row of spec/opcode_table.json. The table gives no operand fields;
each operand here is what the rule the row names reads. Content that travels between the modules of a pair
(R347, Table 14-6) is defined here too, because commands carry it. -/

namespace Sys2Proof

/-- The islands of Table 03-1 (R69), in the SOURCE code order of Table 17-1. -/
inductive Island where
  | mgi | rgi | esi | vsi | pwi | swi | cpi | fbi | pri
  deriving DecidableEq, Repr, Inhabited

/-- Why an island reset alone (R72; CAUSE of Table 17-3). -/
inductive ResetCause where
  | watchdog | lockstep | memory | command
  deriving DecidableEq, Repr, Inhabited

/-- Lever positions (chapter 02). -/
inductive Lever where
  | open_ | seated | locked
  deriving DecidableEq, Repr, Inhabited

/-- The handshake queues whose overrun R71 decides: the two sweep-data queues, and a control queue by
its producer and consumer. -/
inductive QueueName where
  | rgiEsi | esiVsi | control (producer consumer : Island)
  deriving DecidableEq, Repr, Inhabited

/-- Roles of Table 14-1 (R339). -/
inductive Role where
  | none_ | leader | syncing | ready | parked
  deriving DecidableEq, Repr, Inhabited

/-- Tone states of a ring port (R119). -/
inductive Tone where
  | tone | silent | dead
  deriving DecidableEq, Repr, Inhabited

/-! ## Ring frames (chapter 04 and 05) -/

/-- Body of a DZC-24 sweep slot (Table 05-6); an item the format lacks is empty or none. -/
structure DzcBody where
  cellV : List Nat := []
  temp : List Int := []
  stackDelta : Int := -32768
  flags : Nat := 0
  vMin : List Nat := []
  vMax : List Nat := []
  dieTemp : Option Int := none
  balMask : Nat := 0
  deriving DecidableEq, Repr, Inhabited

/-- Body of a DZS-2 sweep slot (Tables 05-6 and 05-10). Codes of Table 00-6 stand for not available. -/
structure DzsBody where
  iA : Int := 0
  iB : Int := 0
  meanA : Int := -2147483648
  meanB : Int := -2147483648
  prevA : Int := -2147483648
  prevB : Int := -2147483648
  vBat : Nat := 0xFFFFFFFF
  vBus : Nat := 0xFFFFFFFF
  stepTime : Nat := 0
  stepDi : Int := 0
  tShunt : Int := -32768
  contactors : Nat := 0
  mode : Nat := 0
  leaseLeft : Nat := 0
  flags : Nat := 0
  span : Nat := 0
  stepCount : Nat := 0
  iAMin : Int := -2147483648
  iAMax : Int := -2147483648
  iBMin : Int := -2147483648
  iBMax : Int := -2147483648
  deriving DecidableEq, Repr, Inhabited

/-- Body of a ROLL_CALL slot (Table 04-13). -/
structure RollBody where
  typ : Nat := 0
  format : Nat := 0
  serial : Nat := 0
  fw : Nat := 0
  bootCount : Nat := 0
  turnDelay : Nat := 0
  links : Nat := 0
  deriving DecidableEq, Repr, Inhabited

inductive SlotBody where
  | empty | dzc (b : DzcBody) | dzs (b : DzsBody) | roll (b : RollBody)
  deriving DecidableEq, Repr, Inhabited

/-- A received slot (Tables 04-10 and 04-11); `fill` is the FILL code. -/
structure SlotRx where
  slotLen : Nat := 8
  crcOk : Bool := true
  fill : Nat := 1
  latched : Bool := false
  turnFar : Bool := false
  timeOk : Bool := true
  resetSeen : Bool := false
  lenMismatch : Bool := false
  cmdCount : Nat := 0
  body : SlotBody := .empty
  deriving DecidableEq, Repr, Inhabited

/-- KIND of a collecting frame (Table 04-9). -/
inductive CollectKind where
  | sweep | reread | rollCall
  deriving DecidableEq, Repr, Inhabited

/-- A frame as an end sends it (Tables 04-4 and 04-9): a command with its target hop from that end (0 broadcast), or a
collecting frame with the SLOT_LEN of each of its slots. -/
inductive EndFrame where
  | command (opcode hop : Nat) (query : Bool) (count : Nat) (payload : List Byte)
  | collect (kind : CollectKind) (sweep : Nat) (lens : List Nat)
  deriving DecidableEq, Repr, Inhabited

/-- A received collecting frame (Tables 04-9 and 04-12). Slot i is that of the sending end's hop i + 1; SLOT_COUNT is the
header's, so a frame cut off on the ring holds fewer slots. `codeErr` is how many code violations the receiver has counted
since what it received before (R89). -/
structure CollectFrame where
  kind : CollectKind := .sweep
  sweep : Nat := 0
  turned : Bool := false
  fromSouth : Bool := false
  hopCnt : Nat := 0
  hopCntN : Nat := 255
  codeErr : Nat := 0
  slotCount : Nat := 255
  slots : List SlotRx := []
  eofOk : Bool := true
  hdrCrcOk : Bool := true
  crcOk : Bool := true
  errCount : Nat := 0
  errLast : Nat := 0
  returnErr : Bool := false
  deriving DecidableEq, Repr, Inhabited

/-- What a reply carries (Tables 04-7, 05-18, 06-5, 06-7, 06-11, 10-11). -/
inductive ReplyData where
  | none_
  | countRead (lastCrc bootCount : Nat)
  | latchMask (m : Nat)
  | counters (c : List Nat)
  | burst (block : List Int)
  | balRead (q : List Int) (duty : Nat)
  | owStatus (c : List Nat)
  | wakeCause (cause channel : Nat) (value : Int) (tDetect : Nat)
  | lease (left : Nat)
  | dzsRead (iA iB : Int) (vBat vBus : Nat) (contactors mode leaseLeft flags : Nat)
  deriving DecidableEq, Repr, Inhabited

/-- A received reply (Table 04-5). -/
structure RingReply where
  hop : Nat := 1
  hopCnt : Nat := 0
  hopCntN : Nat := 255
  codeErr : Nat := 0
  fromSouth : Bool := false
  crcOk : Bool := true
  opcode : Nat := 0
  cmdCount : Nat := 0
  status : Nat := 0
  arg : Nat := 0
  data : ReplyData := .none_
  deriving DecidableEq, Repr, Inhabited

/-- NOTICE_KIND (Table 04-15b). -/
inductive NoticeKind where
  | break_ | latch | wake | restart
  deriving DecidableEq, Repr, Inhabited

/-- A received notice (Table 04-15b). -/
structure NoticeFrame where
  kind : NoticeKind := .break_
  hopCnt : Nat := 0
  hopCntN : Nat := 255
  codeErr : Nat := 0
  cmdCount : Nat := 0
  serial : Nat := 0
  crcOk : Bool := true
  deriving DecidableEq, Repr, Inhabited

/-- A ring frame as forwarded between the modules of a pair (R106). -/
inductive RingFrame where
  | collect (f : CollectFrame) | reply (r : RingReply) | notice (n : NoticeFrame)
  deriving DecidableEq, Repr, Inhabited

/-! ## State that the pair exchanges (R347) -/

/-- A window start slot, Table 08-2. -/
structure StartSlot where
  valid : Bool := false
  mainOk : Bool := false
  fbOk : Bool := false
  restEnded : Bool := false
  sweep : Nat := 0
  socA : Nat := 0
  sigmaA : Nat := 0
  qStr : Int := 0
  absQ : Int := 0
  qLearn : Rat := 0
  activeN : Nat := 0
  peakN : Nat := 0
  deriving DecidableEq, Repr, Inhabited

/-- First-estimate progress of a cell (R196): sweeps with a base set, minutes seen, the first mean. -/
inductive FirstEst where
  | none_ | waitSweep | relaxing (minutes : Nat) (firstMean : Nat) (quiet : Bool)
  deriving DecidableEq, Repr, Inhabited

/-- The 512-byte cell state, Tables 07-1, 08-1, 08-2 and 09-1, with what the rules need beside it:
the last governing temperature (R27), whether a used sweep has delivered a voltage (R224), whether a
cut-off was reached since the last base (R192), and the first-estimate progress (R196). -/
structure CellSt where
  qBase : Int := 0
  qStrBase : Int := 0
  qCorr : Rat := 0
  sigma : Rat := 0
  anchorSweep : Nat := 0
  socAnchor : Nat := 0
  sigmaAnchor : Nat := 0
  tAnchor : Nat := 0
  means : List Nat := List.replicate 11 0xFFFF
  minuteHead : Nat := 0
  minuteSum : Nat := 0
  minuteN : Nat := 0
  minuteStale : Bool := false
  provisional : Bool := true
  countGap : Bool := false
  balGap : Bool := false
  capacityLow : Bool := false
  reconciled : Bool := false
  anchoredRest : Bool := false
  rohm25 : Option Nat := none
  rpol25 : Option Nat := none
  tauPol : Option Nat := none
  fitN : Nat := 0
  rohmVar : Rat := 0
  rpolVar : Rat := 0
  rohmBase : Option Nat := none
  outSum : Rat := 0
  outN : Nat := 0
  outAbove : Bool := false
  impOutlier : Bool := false
  impRise : Bool := false
  restored : Bool := false
  /-- FIT_N stood at 20 or more when it was restored: no new baseline (R220) -/
  restored20 : Bool := false
  lastReject : Nat := 0
  tFit : Nat := 0
  cap : Nat := 0
  capVar : Rat := 0
  capVer : Nat := 0
  capUpdates : Nat := 0
  learnDue : Bool := false
  nameplateOnly : Bool := false
  clamped : Bool := false
  capLost : Bool := false
  writePending : Bool := false
  capFade : Bool := false
  lastResult : Nat := 0
  lastUpdate : Nat := 0
  tUpdate : Nat := 0
  startLo : StartSlot := {}
  startHi : StartSlot := {}
  vPol0 : Rat := 0
  ilimDis : List Rat := [0, 0, 0]
  ilimChg : List Rat := [0, 0, 0]
  cutDisHold : Bool := false
  cutChgHold : Bool := false
  limitingDis : Bool := false
  limitingChg : Bool := false
  lastT : Option Int := none
  hasV : Bool := false
  cutDisSinceBase : Bool := false
  cutChgSinceBase : Bool := false
  firstEst : FirstEst := .waitSweep
  /-- corrections added to Q_CORR in this sweep, for R210 -/
  corrAdded : Rat := 0
  gapEvent : Bool := false
  deriving DecidableEq, Repr, Inhabited

/-- A published or computed limit of one direction: 2 s, 10 s, 30 s values (mA magnitudes), the binding
cause of Table 09-4, the percentage applied and the limiter. -/
structure DirLimit where
  vals : List Rat := [0, 0, 0]
  cause : Nat := 7
  pct : Nat := 100
  limiter : Option Nat := none
  deriving DecidableEq, Repr, Inhabited

/-- The STRING region of the state image (R171 to R192, R228, R229, R262). -/
structure StrEst where
  /-- Q_STR, int64, mC (R171) -/
  qStr : Int := 0
  /-- charge counted and not yet a whole mC, 0 to 999 uC (log 29) -/
  qFrac : Nat := 0
  /-- charge counted provisionally for missing sweeps, newest first, uC (R139) -/
  pend : List Int := []
  lastMean : Int := 0
  iCount : Int := 0
  /-- charge counted in the sweep: the change of Q_STR, mC -/
  dq : Int := 0
  gap : Bool := false
  dirChg : Bool := true
  qRev : Int := 0
  restMs : Nat := 0
  r : Rat := 0
  off : Rat := 0
  u : Rat := 0
  d : Rat := 0
  c : Rat := 0
  /-- fits of each code of Table 08-4 (R206) -/
  rejects : List Nat := List.replicate 12 0
  /-- r and off have begun (log 33) -/
  begun : Bool := false
  /-- the cut-off of this sweep: 0 none, 1 discharge, 2 charge (R191) -/
  cut : Nat := 0
  posDis : Nat := 0
  posChg : Nat := 0
  usable : Bool := false
  compDis : DirLimit := {}
  compChg : DirLimit := {}
  pubDis : DirLimit := {}
  pubChg : DirLimit := {}
  dvIns : Rat := 0
  deriving DecidableEq, Repr, Inhabited

/-- The BAY_DOMAIN region (R188, R189, R231). -/
structure BayEst where
  r : Rat := 0
  off : Rat := 0
  u : Rat := 0
  d : Rat := 0
  c : Rat := 0
  strings : Nat := 0
  usable : Bool := false
  /-- r and off have begun (log 33) -/
  begun : Bool := false
  offline : Bool := false
  conf : Nat := 0xFF
  pubDis : DirLimit := {}
  pubChg : DirLimit := {}
  /-- shares of the included strings per horizon, discharge then charge (R230) -/
  shareDis : List (Nat × List Rat) := []
  shareChg : List (Nat × List Rat) := []
  pubSoc : Option (Nat × Nat) := none
  deriving DecidableEq, Repr, Inhabited

/-- A rule-row instance record (R237, R238). -/
structure VRec where
  run : Nat := 0
  k0 : Nat := 0
  /-- sweep of its newest activation (R355) -/
  at_ : Nat := 0
  active : Bool := false
  acked : Bool := false
  lastEnter : Bool := false
  lastHold : Bool := false
  ref : Option Rat := none
  kref : Option Nat := none
  deriving DecidableEq, Repr, Inhabited

/-- What the journal record of a rule row will hold (R247, Table 17-3), until its evaluation writes it. -/
structure RowNote where
  active : Bool := true
  severity : Nat := 0
  scope : Nat := 0
  inst : Nat := 0
  value : Int := 0
  payload : List Byte := []
  row : Nat := 0
  alert : Nat := 0
  deriving DecidableEq, Repr, Inhabited

/-- The key of a rule-row record: row, whether it is the overflow record of a string (R243), instance. -/
structure VKey where
  row : Nat := 0
  overflow : Bool := false
  inst : Nat := 0
  deriving DecidableEq, Repr, Inhabited

/-- A Scarab instance (R252, R253, Table 10-13). Times are ms of the local timescale. -/
structure Inst where
  state : Nat := 0
  event : Option Nat := none
  step : Option Nat := none
  issued : Bool := false
  stepStart : Nat := 0
  stepSweep : Nat := 0
  zeroHold : Bool := false
  faults : List Nat := []
  /-- V_MATCH has held on sweep data since the stage of this sweep and awaits the DZS_READ of R263 -/
  vMatchSweep : Option Nat := none
  /-- a slot of R264 has been granted -/
  granted : Bool := false
  /-- the waited condition has been found true by a DZS_READ since the step began -/
  dzsTrue : Bool := false
  /-- a ring, SWI or PWI completion of the step in flight: 0 none, 1 success, 2 failure -/
  result : Nat := 0
  /-- replies still awaited by a LATCH_CLEAR step, and whether one of those that came was a failure -/
  waiting : Nat := 0
  stepFailed : Bool := false
  stateSince : Nat := 0
  /-- a DZS step of the running template has failed (R271) -/
  dzsFailed : Bool := false
  /-- the DZS_READ of a boot is under way (R260) -/
  polled : Bool := false
  /-- the DZS_READ that answers now was issued after V_MATCH held on sweep data (R258) -/
  fresh : Bool := false
  /-- 0 normal, 1 an entry of R254 runs, 2 the built-in fallback runs -/
  illegal : Nat := 0
  /-- the SEQUENCE section a running template keeps over an activation (R465) -/
  oldSeq : Option SeqCfg := none
  leaseGranted : Nat := 0
  /-- coils as last commanded, and since when without interruption, per coil (ms) -/
  coils : Nat := 0
  coilAt : List Nat := [0, 0, 0]
  deriving DecidableEq, Repr, Inhabited

/-- Held values of a worker (R138). -/
structure Held where
  age : Nat := 0
  sweep : Nat := 0
  slot : SlotRx := {}
  valid : Bool := false
  deriving DecidableEq, Repr, Inhabited

/-- Balancing readings named by a manifest (R162): the worker and its Q_CELL counters. -/
structure BalReading where
  wk : Wk := (0, 1)
  q : List Int := []
  deriving DecidableEq, Repr, Inhabited

/-- A sweep manifest (R127), with the values the leader places in it (R162, R194, R198, R278, R440). -/
structure Manifest where
  sweep : Nat := 0
  dropped : Bool := false
  used : List Wk := []
  bursts : List (Nat × Nat) := []
  bal : List BalReading := []
  tGap : List (Nat × Nat) := []
  dormant : Option Nat := none
  vOut : List Nat := []
  gen : Nat := 0
  deriving DecidableEq, Repr, Inhabited

/-- Which end serves which north hops (R115): the north end 1 to `north`, the south end `south` to W. -/
structure Partition where
  north : Nat := 0
  south : Nat := 1
  deriving DecidableEq, Repr, Inhabited

/-- A burst of a string, frozen or archived (R143 to R147, R386). -/
structure Burst where
  freezeId : Nat := 0
  tStep : Nat := 0
  frozenAt : Nat := 0
  /-- blocks received: (north hop, block) and samples -/
  blocks : List ((Nat × Nat) × List Int) := []
  /-- blocks skipped after three re-sends -/
  skipped : List (Nat × Nat) := []
  done : Bool := false
  abandoned : Bool := false
  /-- named by a manifest of this sweep -/
  entered : Option Nat := none
  /-- the string at the step: shunt channel A faulted, and the governing temperature of each used cell (R203, R207) -/
  atStep : Option (Bool × List (Nat × Option Int)) := none
  deriving DecidableEq, Repr, Inhabited

/-- Burst bookkeeping of a string. -/
structure BurstSt where
  active : Option Burst := none           -- R143; frozen or being read out; reset none
  lastFreeze : Option Nat := none         -- R143; STEP_TIME of the last freeze; reset none
  archive : List Burst := []              -- R386; archived bursts, newest first; reset none
  skippedSteps : Nat := 0                 -- R143; STEP_SKIPPED; reset 0
  missed : Nat := 0                       -- R145; BURST_MISSED; reset 0
  incomplete : Nat := 0                   -- R147; BURST_INCOMPLETE; reset 0
  abandonedN : Nat := 0                   -- R147; BURST_ABANDONED; reset 0
  deriving DecidableEq, Repr, Inhabited

/-- One sense pin of a DZC-24 (R151, R153, R158). -/
structure PinSt where
  last : Nat := 0               -- R151; newest classification: 0 none, 1 PASS, 2 HIGH_R, 3 OPEN, 4 INCONCLUSIVE
  openRun : Nat := 0            -- R153; OPEN tests in a row
  passRun : Nat := 0            -- R153; PASS tests in a row
  highRun : Nat := 0            -- R153; HIGH_R tests in a row
  suspect : Bool := false       -- R153
  opened : Bool := false        -- R153; SENSE_OPEN confirmed
  highR : Bool := false         -- R153; SENSE_HIGH_R confirmed
  deriving DecidableEq, Repr, Inhabited

/-- One channel's cell-fault bookkeeping (R153, R158). -/
structure ChanFault where
  run : Nat := 0                -- R153; sweeps the signature has held
  clearRun : Nat := 0           -- R158; sweeps within CELL_DEV
  passLo : Bool := false        -- R153; a forced test of pin c has classified PASS during the run
  passHi : Bool := false        -- R153; the same of pin c + 1
  fault : Bool := false         -- R153; CELL_FAULT
  deriving DecidableEq, Repr, Inhabited

/-- One temperature input (R153, R158). -/
structure TempSt where
  naRun : Nat := 0
  okRun : Nat := 0
  fault : Bool := false
  deriving DecidableEq, Repr, Inhabited

/-- A used DZC-24 slot kept for the reference and the split of R150 and R151. -/
structure SenseHist where
  sweep : Nat := 0
  pin : Option Nat := none
  cellV : List Nat := []
  delta : Int := 0
  deriving DecidableEq, Repr, Inhabited

/-- Sense bookkeeping of a DZC-24 (R148 to R158). -/
structure SenseSt where
  pins : List (Nat × PinSt) := []         -- R151; by pin; reset none
  hist : List SenseHist := []             -- R151; newest used slots, newest first; reset empty
  stackRun : Nat := 0                     -- R153; consecutive stack mismatches; reset 0
  stackOkRun : Nat := 0                   -- R158; consecutive sweeps without one; reset 0
  stackFault : Bool := false              -- R153; STACK_SENSE_FAULT; reset false
  lostEnd : Bool := false                 -- R155; an open end cell has no valid value; reset false
  chans : List (Nat × ChanFault) := []    -- R153; by channel; reset none
  temps : List (Nat × TempSt) := []       -- R153; by input; reset none
  secondAt : Option Nat := none           -- R157; local time of the second finding; reset none
  double_ : Bool := false                 -- R157; SENSE_DOUBLE; reset false
  wantForce : List Nat := []              -- R153; pins to force, one for each next sweep; reset none
  forced : List (Nat × Nat) := []         -- R149; (sweep, pin) of forces accepted; reset none
  deriving DecidableEq, Repr, Inhabited

/-- What the state image carries of one worker: the held value and its age, the balancing plan (Table 14-6), and what else of it
the estimate of the next sweeps reads (log 172). -/
structure WorkerImage where
  held : Held := {}
  plan : List (Option (Nat × Bool × Nat)) := []
  transfers : List (Nat × Nat × Nat) := []
  settled : List (Nat × Nat) := []
  edges : List (Nat × Nat) := []
  qBase : Option (List Int) := none
  rebase : Bool := false
  mismRun : Nat := 0
  sense : SenseSt := {}
  deriving DecidableEq, Repr, Inhabited

/-- The state image (Table 14-6) as content. -/
structure StateImage where
  cells : List (Nat × CellSt) := []
  strs : List (Nat × StrEst) := []
  bays : List BayEst := []
  verdict : List (VKey × VRec) := []
  strInst : List (Nat × Inst) := []
  bayInst : List (Nat × Inst) := []
  sweep : Nat := 0
  parts : List (Nat × Partition) := []
  bursts : List (Nat × BurstSt) := []
  workers : List (Wk × WorkerImage) := []
  /-- rows in overflow (R243) -/
  overflow : List Nat := []
  deriving DecidableEq, Repr, Inhabited

/-- A byte of a region of the state image (R347) whose content Table 14-6 states and whose layout no table does: the region
(1 STRING to 5 SWEEP), its content, and the offset of the byte (log 4). -/
opaque Config.imageByte : Nat → StateImage → Nat → Nat

/-- A precharge run record (R292). The segment is the state itself: PROBE is the first (Table 11-3). -/
structure RunRecord where
  state : Nat := 0
  vTarget : Nat := 0
  probeMs : Nat := 0
  done : Bool := false
  shortCount : Nat := 0
  retryLeft : Nat := 0
  acc : List Rat := []
  deriving DecidableEq, Repr, Inhabited

/-- A journal record (Table 17-1); the payload as bytes (Table 17-3). -/
structure JRec where
  seq : Nat := 0
  plant : Nat := 0
  local_ : Nat := 0
  sweep : Nat := 0
  code : Nat := 0
  severity : Nat := 0
  degraded : Bool := false
  held : Bool := false
  fall : Bool := false
  borrowed : Bool := false
  source : Nat := 0
  origin : Nat := 0
  role : Nat := 0
  scope : Nat := 0
  inst : Nat := 0xFFFFFFFF
  row : Nat := 0xFFFF
  alert : Nat := 0xFFFF
  value : Int := -2147483648
  setId : Nat := 0
  payload : List Byte := []
  deriving DecidableEq, Repr, Inhabited

/-- Pair frame head (Table 14-3): lane, sender's sweep, sender in slot B, sender's role. -/
structure PairHdr where
  lane : Nat := 0
  sweep : Nat := 0
  fromB : Bool := false
  role : Role := .none_
  deriving DecidableEq, Repr, Inhabited

/-- KEEPALIVE payload (Table 14-5). -/
structure Keepalive where
  leverLocked : Bool := false
  portsEnabled : Bool := false
  ejectPending : Bool := false
  resyncActive : Bool := false
  lane0Up : Bool := false
  lane1Up : Bool := false
  fwVersion : Nat := 0
  setId : Nat := 0
  digestSweep : Nat := 0
  deriving DecidableEq, Repr, Inhabited


/-! ## Carapace frames (chapter 13) -/

/-- The values a Carapace applies: codes per bay and direction (index 2b + d) and TL (R330). -/
structure CaraVals where
  codes : List Nat := List.replicate 8 0
  tl : Nat := 1
  deriving DecidableEq, Repr, Inhabited

/-- A CPX frame (R332). -/
structure CpxFrame where
  vals : CaraVals := {}
  trips : List Bool := List.replicate 4 false
  leverLocked : Bool := false
  schedule : Nat := 0
  seq : Nat := 0
  deriving DecidableEq, Repr, Inhabited

/-! ## Time, CAN and DCP -/

/-- A PTP message as the servo takes it (R76, R84): the best master seen, an offset measured on the port before its
asymmetry correction, or a Delay_Req. -/
inductive PtpMsg where
  | announce (grandmaster : Nat) (better : Bool)
  | offset (ns : Int)
  | delayReq
  deriving DecidableEq, Repr, Inhabited

/-- A PTP message that a master sends (Table 03-4): two-step Sync, its Follow_Up with the plant time of the Sync, an
Announce with clockClass, and the answer to a Delay_Req. -/
inductive PtpOut where
  | announce (clockClass : Nat)
  | sync
  | followUp (origin : Nat)
  | delayResp
  deriving DecidableEq, Repr, Inhabited

/-- A received CAN frame with its timestamp (R400, R405). -/
structure CanFrame where
  ident : Nat := 0
  ide : Bool := false
  fdf : Bool := false
  brs : Bool := false
  esi : Bool := false
  remote : Bool := false
  data : List Byte := []
  sofNs : Nat := 0
  deriving DecidableEq, Repr, Inhabited

/-- Where a datagram arrived (R362, R363). -/
inductive NetPort where
  | eth1 | eth2 | svc
  deriving DecidableEq, Repr, Inhabited

/-- What R367 reads of a well-formed request: the session, the sequence number, whether the trailer is
correct under K_H2M, UNAUTH, the payload length, and the sender: its address × 65,536 plus its UDP port. -/
structure DcpReq where
  port : NetPort := .eth1
  session : Nat := 0
  seq : Nat := 1
  macOk : Bool := true
  unauth : Bool := false
  len : Nat := 0
  src : Nat := 0
  deriving DecidableEq, Repr, Inhabited

/-- A datagram that fails R367 before its opcode is taken: what its bytes showed. -/
structure BadDatagram where
  port : NetPort := .eth1
  size : Nat := 0
  magicOk : Bool := true
  lengthField : Nat := 0
  version : Nat := 1
  status : Nat := 0
  reservedOk : Bool := true
  replyOrStream : Bool := false
  unauth : Bool := false
  opcode : Nat := 0
  session : Nat := 0
  seq : Nat := 0
  macOk : Bool := true
  fragmented : Bool := false
  /-- the sender, as in a request -/
  src : Nat := 0
  deriving DecidableEq, Repr, Inhabited

/-- A request bitmap of 256 alert sources as the sources named. -/
abbrev Bitmap := List Nat

/-- An image as the checks of R431 and R449 see it (Table 18-1): the header fields and whether each
signature and hash is right. -/
structure ImageFacts where
  magicOk : Bool := true
  hdrVersion : Nat := 1
  target : Nat := 0
  version : Nat := 0
  bodySize : Nat := 0
  formatMin : Nat := 1
  formatMax : Nat := 1
  genOwn : Nat := 0
  rollback : Nat := 0
  ownerSigned : Bool := false
  hashOk : Bool := true
  vendorOk : Bool := true
  ownerOk : Bool := true
  deriving DecidableEq, Repr, Inhabited

/-- Which Scarab instance a timing event concerns. -/
inductive InstKey where
  | str (n : Nat) | bay (b : Nat)
  deriving DecidableEq, Repr, Inhabited

/-- Edges of a phase under hysteretic control (R279). -/
inductive PhaseEvent where
  /-- a turn-on instant, in 1/256 of the SYNC period after the SYNC edge (R280) -/
  | turnOn (at_ : Nat)
  | peak
  | valley
  /-- both outputs have been low for so many ns (R276) -/
  | lowFor (ns : Nat)
  deriving DecidableEq, Repr, Inhabited

/-- What an overload of R302 covers. -/
inductive OverSet where
  | group (g : Nat) | feed (f : Nat) | both
  deriving DecidableEq, Repr, Inhabited

/-- The sender of a switch refresh (R309). -/
inductive RefreshFrom where
  | vsi | mgi
  deriving DecidableEq, Repr, Inhabited

/-- The commands: one constructor per row of spec/opcode_table.json, in the table's order. -/
inductive Instr where
  -- supply, lever and slot (chapter 02)
  | powerUp (slotId1 slotId0 : Bool) (peerPresent jumper : Bool)
  | auxLowRaise
  | auxLowClear
  | auxHighRaise
  | auxHighClear
  | auxProtectOpen
  | auxProtectReconnect
  | writeStop
  | writeStopLift
  | powerFail
  | vswFeedDip (feed : Nat)
  | vswFeedReturn (feed : Nat)
  | swiSupplyReset
  | swiSupplyRestart
  | moduleHotChange (boardT : Int)
  | slotChanged (slotId1 slotId0 : Bool)
  | leverLeaveLocked
  | ejectAssert
  | leverReachLocked
  | leverUnlocked
  | parkComplete
  | peerPresentChange (present : Bool)
  | peerEjectChange (low : Bool)
  -- Carapace (chapter 13)
  | carapaceSelfTestPass (links : List Bool) (bank : Nat) (tl : Nat)
  | carapaceSample (raw : List Int)
  | carapaceMeanTick
  | bcsNoValid (bay : Nat)
  | bcsDegradedExpire (bay : Nat)
  | bcsDiscrepancy (bay : Nat)
  | bcsModeLinkChange (bay chan : Nat)
  | toneLossTrip (port : Nat)
  | safetyChannelOpen (input chan : Nat)
  | safetyDiscrepancy (input : Nat)
  | safetyTestPulse (input out : Nat) (seenOnOther drawsLow : Bool)
  | tripReqHigh
  | tripOutputTest (bay out : Nat) (opens conducts : Bool)
  | bankChange (bank : Nat) (tl : Nat)
  | keyReset (bank : Nat) (tl : Nat)
  | keyStuck
  | keyReleaseStuck
  | cpiInternalFault
  | cpxFrameRx (f : CpxFrame)
  | cpxLost
  | carapaceReportRx
  -- islands and time (chapter 03)
  | islandReset (island : Island) (cause : ResetCause)
  | islandReturn (island : Island)
  | mgiOutageHandover
  | queueOverrun (queue : QueueName)
  | timePulse (island : Island) (ticks : Nat)
  | timePulseLost (island : Island)
  | ptpMessageRx (eth domain : Nat) (msg : PtpMsg)
  | ppsInEdge (offset : Int)
  | timeLock
  | timeSourceLost
  | holdoverExpire
  | pairTimeDisagree
  -- rings (chapter 04)
  | portLinkUp (port : Nat)
  | portLinkDown (port : Nat)
  | toneWindow (port : Nat) (hasA hasB hasS : Bool) (codeErr : Nat)
  | collectingFrameRx (port : Nat) (frame : CollectFrame)
  | replyFrameRx (port : Nat) (reply : RingReply)
  | probeReturn (port hop roundTrip : Nat)
  | turnedCommandRx (port : Nat)
  | noticeRx (port : Nat) (notice : NoticeFrame)
  | replyTimeout (ring hop : Nat)
  | rejoinStart (ring segment : Nat)
  | rejoinWatchExpire (ring segment : Nat)
  | quarantineExpire (ring segment : Nat)
  -- sweeps (chapter 05)
  | partitionFix
  | geyserSend
  | sweepFrameSend
  | readoutClose
  | provisionalManifest
  | estimateComplete
  | verdictStage
  | fastRowEval
  | heartbeatSend
  -- Scarab timing (chapter 10)
  | scarabDelayExpire (inst : InstKey)
  | scarabStepTimeout (inst : InstKey)
  | dzsReadPoll (string : Nat)
  | insertWaitExpire (string : Nat)
  | recoverDelayExpire (string : Nat)
  | bayEmptyExpire (bay : Nat)
  | switchCommandAck (chan : Nat)
  | prechargeCommandAck (chan : Nat)
  | burstAbandon (string : Nat)
  -- Caldera rounds
  | chargeMirrorRound
  | impedanceMirrorRound
  | capacityRecordWrite
  -- dormancy (chapter 06)
  | dormantWakeRing (port : Nat)
  | pcsDcReadyRise
  | pairLaneWake
  | dormantSurveyExpire
  -- precharge (chapter 11)
  | prechargeStart (chan vTarget : Nat)
  | prechargeStop (chan : Nat)
  | sdmSample (chan : Nat) (bitsOut bitsSrc : Nat)
  | voutLatch
  | phaseCycle (chan phase : Nat) (event : PhaseEvent) (current : Int) (cycleNs : Nat)
  | syncEdge (periodNs : Nat)
  | syncLost
  | rotationBoundary (chan : Nat)
  | fastLimit (chan phase : Nat)
  | slowLimitTick (chan : Nat) (means rms : List Int)
  | probeTimeout (chan ms : Nat)
  | retryDelayExpire (chan : Nat)
  | driverFault (chan : Nat) (same : Bool)
  | srcLow (chan : Nat)
  | prechargeResume (chan : Nat) (vOut : Nat)
  -- switch island (chapter 12)
  | swRefresh (source : RefreshFrom) (checkOk : Bool) (currents : List Int) (volts : List Nat)
  | swWatchdogExpire
  | switchShortAttempt (chan : Nat)
  | shortGapExpire (chan : Nat)
  | currentLimitExpire (chan : Nat)
  | overloadExpire (chan : Nat)
  | blankingEnd (chan : Nat) (inLimit : Bool)
  | junctionShutdown (chan : Nat)
  | junctionRestart (chan : Nat)
  | groupDieLimit (group : Nat) (dieT : Int)
  | groupDieResume (group : Nat) (dieT : Int)
  | pauseExpire (chan : Nat)
  | groupFeedOverload (which : OverSet) (means : List Int)
  | lampRetryStart (chan : Nat)
  | warmupWindowExpire (chan : Nat)
  | turnOnComplete (chan : Nat)
  | drivePhaseEnd (chan : Nat)
  | openLoadOnExpire (chan : Nat) (meanMa : Int)
  | offStateTest (chan : Nat) (upHigh downHigh : Bool)
  | partnerChannelOn (chan : Nat)
  -- pair link (chapter 14)
  | pairKeepaliveRx (h : PairHdr) (k : Keepalive)
  | pairRingFrameRx (h : PairHdr) (port : Nat) (frame : RingFrame)
  | pairManifestRx (h : PairHdr) (m : Manifest)
  | pairTimeRx (h : PairHdr) (offset : Int)
  | pairDigestRx (h : PairHdr) (digest : Nat)
  | pairScarabStepRx (h : PairHdr) (inst : InstKey) (img : Inst)
  | pairRunRecordRx (h : PairHdr) (chan : Nat) (rec_ : RunRecord)
  | pairSwitchImageRx (h : PairHdr) (image : Option (List Bool)) (currents : List Int)
  | pairEndRequestRx (h : PairHdr) (port : Nat) (frame : EndFrame) (departure : Nat)
  | pairJournalRx (h : PairHdr) (rec_ : JRec)
  | handoverOffer (h : PairHdr) (sweep : Nat)
  | handoverAccept (h : PairHdr) (sweep : Nat)
  | handoverDecline (h : PairHdr) (sweep : Nat)
  | departRx (h : PairHdr) (cause : Nat)
  | stateChunkRx (h : PairHdr) (block : Nat) (last : Bool) (img : Option StateImage)
  | setChunkRx (h : PairHdr) (slot offset : Nat) (data : List Byte)
  | streamCtrlResync (h : PairHdr) (genOwn : Nat)
  | streamCtrlResend (h : PairHdr) (blocks : List Nat)
  | streamCtrlSet (h : PairHdr) (slot : Nat)
  | parkNoticeRx (h : PairHdr)
  | pairLaneDown (lane : Nat)
  | pairLinkSilent (geysersSeen : List Nat)
  | splitRingSilence
  | failoverTakeover
  | handoverPoint
  | leadTokenChange (low : Bool)
  | tokenHoldExpire
  | tokenFault
  | pairBootTimeout
  | resyncRetryExpire
  -- CAN (chapter 16)
  | canFrameRx (ctl : Nat) (frame : CanFrame)
  | canRxTimeout (ctl obj : Nat)
  | canTxPeriod (ctl obj : Nat)
  | canTxDone (ctl obj : Nat) (mirrored : Bool)
  | canTxError (ctl obj : Nat) (mirrored counted : Bool)
  | busOffRecovery (ctl : Nat)
  -- journal (chapter 17)
  | journalWrite
  -- DCP sessions and streams (chapter 15)
  | sessionConfirmExpire (session : Nat)
  | sessionIdleExpire (session : Nat)
  | streamSend (stream : Nat) (dropPacket : Bool)
  | sessionOpen (req : DcpReq) (hostKeyId : Nat)
  | sessionConfirm (req : DcpReq)
  | sessionRekey (req : DcpReq) (hostKeyId : Nat)
  | sessionClose (req : DcpReq)
  | sessionEcho (req : DcpReq) (data : List Byte)
  | identityRead (req : DcpReq)
  | hostkeyList (req : DcpReq)
  | hostkeyAdd (req : DcpReq) (key keyId privilege : Nat)
  | hostkeyRemove (req : DcpReq) (keyId : Nat)
  | domainWake (serial wakeTag : Nat)
  | domainStatus (req : DcpReq)
  | domainService (req : DcpReq)
  | domainResume (req : DcpReq)
  | domainDormant (req : DcpReq) (wakeTag : Nat)
  | domainRestart (req : DcpReq) (delayMs : Nat)
  | restartDelayExpire
  | readCellSoc (req : DcpReq) (first count : Nat)
  | readCellImp (req : DcpReq) (first count : Nat)
  | readCellCap (req : DcpReq) (first count : Nat)
  | readWorker (req : DcpReq) (first count : Nat)
  | readStringSoc (req : DcpReq) (first count : Nat)
  | readStringState (req : DcpReq) (first count : Nat)
  | readBaySoc (req : DcpReq) (first count : Nat)
  | readBayState (req : DcpReq) (first count : Nat)
  | readLimit (req : DcpReq) (first count : Nat)
  | readRing (req : DcpReq) (first count : Nat)
  | readPrecharge (req : DcpReq) (first count : Nat)
  | readSwitch (req : DcpReq) (first count : Nat)
  | readCarapace (req : DcpReq) (first count : Nat)
  | readPair (req : DcpReq) (first count : Nat)
  | readBurst (req : DcpReq) (string hop block tStep : Nat)
  | readBurstList (req : DcpReq) (string : Nat)
  | streamSubscribe (req : DcpReq) (kind decimate sevMin first count destPort : Nat)
  | streamUnsubscribe (req : DcpReq) (stream : Nat)
  | streamList (req : DcpReq)
  | configStatus (req : DcpReq)
  | configBegin (req : DcpReq) (size format setId : Nat)
  | configBlock (req : DcpReq) (offset : Nat) (crcOk : Bool) (data : List Byte)
  | configCheck (req : DcpReq)
  | configCheckDone
  | configActivate (req : DcpReq) (actSweep : Nat)
  | configRevert (req : DcpReq) (actSweep : Nat)
  | configAbort (req : DcpReq)
  | configRead (req : DcpReq) (slot offset length : Nat)
  | setActivation
  | stringClose (req : DcpReq) (string : Nat)
  | stringOpen (req : DcpReq) (string : Nat)
  | stringService (req : DcpReq) (string : Nat)
  | stringRelease (req : DcpReq) (string : Nat)
  | stringUnlock (req : DcpReq) (string : Nat)
  | bayEnergise (req : DcpReq) (bay : Nat)
  | bayDrain (req : DcpReq) (bay : Nat)
  | bayService (req : DcpReq) (bay : Nat)
  | bayRelease (req : DcpReq) (bay : Nat)
  | latchAck (req : DcpReq) (row scope inst : Nat)
  | switchSet (req : DcpReq) (chan state : Nat)
  | switchReset (req : DcpReq) (chan : Nat)
  | prechargeReset (req : DcpReq) (chan : Nat)
  | journalStatus (req : DcpReq)
  | journalRead (req : DcpReq) (fromSeq count sevMask : Nat)
  | journalAckArchived (req : DcpReq) (upTo : Nat)
  | alertRead (req : DcpReq)
  | alertClear (req : DcpReq) (bits : Bitmap)
  | alertMask (req : DcpReq) (bits : Bitmap)
  | updateStatus (req : DcpReq)
  | updateBegin (req : DcpReq) (size version : Nat)
  | updateBlock (req : DcpReq) (offset : Nat) (crcOk : Bool) (data : List Byte)
  | updateVerify (req : DcpReq)
  | updateVerifyDone
  | updateActivate (req : DcpReq) (actTime : Nat)
  | updateAbort (req : DcpReq)
  | updateOwnerKey (req : DcpReq) (key : Nat) (sigOk : Bool)
  | updatePrepare
  | updateActTime
  | installPhaseDone (hashOk : Bool)
  | imageConfirm
  | trialExpire
  | safeHoldExpire
  | carapaceBankStart (selfTestOk : Bool)
  -- diagnostics, pair and time requests
  | diagPortCounters (req : DcpReq) (firstPort count : Nat)
  | diagWorkerCounters (req : DcpReq) (ring hop : Nat)
  | diagRingRejoin (req : DcpReq) (ring segment : Nat)
  | diagLatchClear (req : DcpReq) (ring hop : Nat)
  | diagOwForce (req : DcpReq) (ring pin hop : Nat)
  | diagRollCall (req : DcpReq) (ring : Nat)
  | diagRollCallRead (req : DcpReq) (first count : Nat)
  | diagIslandReset (req : DcpReq) (island : Nat)
  | diagModuleCounters (req : DcpReq)
  | pairStatus (req : DcpReq)
  | pairHandover (req : DcpReq)
  | pairPark (req : DcpReq)
  | pairResync (req : DcpReq)
  | timeStatus (req : DcpReq)
  | timeSet (req : DcpReq) (taiSeconds : Nat)
  -- rows at the table's end
  | carapaceSupplyLoss
  | safetyChannelClose (input chan : Nat)
  | canRxError (ctl recAfter : Nat)
  | canProtocolException (ctl : Nat)
  | dcpMalformedDatagram (d : BadDatagram)
  | pairFrameCrcError (lane : Nat)
  deriving DecidableEq, Repr, Inhabited

end Sys2Proof
end

