-- ==== Sys2Proof/Decode.lean ====
section
/-! DEFINITION. The command a word spells by the table's bits. No row of spec/opcode_table.json gives a bit, so no
word spells a command: commands reach the block as operations and events, not as instruction words. -/

namespace Sys2Proof

/-- The command that a word of `nbits` bits spells: none, for the table gives no row a word. -/
def decodeTableWord (_nbits _w : Nat) : Option Instr := none

end Sys2Proof
end

