-- ==== Sys2Proof/Machine/Flags.lean ====
section
/-! DEFINITION. Codes: record codes of Table 17-4 (conditions `c…`, record-only events `e…`), severities of
Table 17-2, status codes of Table 15-4, SCOPE codes of Table 17-1, and the flag bytes the records carry. -/

namespace Sys2Proof.Machine

/-! Severities (Table 17-2). -/

def sevTrace : Nat := 0
def sevInfo : Nat := 1
def sevWarning : Nat := 2
def sevAlarm : Nat := 3
def sevTrip : Nat := 4

/-! Fixed conditions (Table 17-4): code and alert source. -/

def cSlotChanged : Nat := 0x00
def cSlotInvalid : Nat := 0x01
def cModuleHot : Nat := 0x02
def cAuxHigh : Nat := 0x03
def cAuxLow : Nat := 0x04
def cLeverUnlocked : Nat := 0x05
def cEjectRefused : Nat := 0x06
def cQueueOverrun : Nat := 0x07
def cTimePulseLost : Nat := 0x08
def cTimeHoldover : Nat := 0x09
def cTimeFreerun : Nat := 0x0A
def cPairTimeDisagree : Nat := 0x0B
def cVerdictOverflow : Nat := 0x0C
def cJournalTripOverwritten : Nat := 0x0D
def cJournalQueueFull : Nat := 0x0E
def cCounterSaturated : Nat := 0x0F
def cWorkerNoReply : Nat := 0x10
def cMapMismatch : Nat := 0x11
def cHopDelayRange : Nat := 0x12
def cRollCallShift : Nat := 0x13
def cRollCallExtra : Nat := 0x14
def cRollCallInconsistent : Nat := 0x15
def cRingBreak : Nat := 0x16
def cRingIsolated : Nat := 0x17
def cRingSegmentErrors : Nat := 0x18
def cRingSegmentQuarantined : Nat := 0x19
def cRingSegmentUnstable : Nat := 0x1A
def cStale : Nat := 0x1B
def cPairSlotMissing : Nat := 0x1C
def cBurstMissed : Nat := 0x1D
def cBurstIncomplete : Nat := 0x1E
def cBurstAbandoned : Nat := 0x1F
def cSenseSuspect : Nat := 0x20
def cSenseOpen : Nat := 0x21
def cSenseHighR : Nat := 0x22
def cStackSenseFault : Nat := 0x23
def cSenseDouble : Nat := 0x24
def cCellFault : Nat := 0x25
def cTempSenseFault : Nat := 0x26
def cBalStackSpread : Nat := 0x27
def cCapacityLow : Nat := 0x28
def cCapacityLost : Nat := 0x29
def cSocMirrorInvalid : Nat := 0x2A
def cImpOutlier : Nat := 0x2B
def cImpRise : Nat := 0x2C
def cCapFade : Nat := 0x2D
def cLearnDue : Nat := 0x2E
def cDormantWorkerFault : Nat := 0x2F
def cContactorMismatch : Nat := 0x30
def cShuntFault : Nat := 0x31
def cVsenseFault : Nat := 0x32
def cStringLockout : Nat := 0x33
def cPrechargeFault : Nat := 0x34
def cPrechargeLockout : Nat := 0x35
def cSyncLost : Nat := 0x36
def cSwitchLatched : Nat := 0x37
def cOpenLoadOn : Nat := 0x38
def cOpenLoadOff : Nat := 0x39
def cShortToSupply : Nat := 0x3A
def cBayTripped : Nat := 0x40
def cSealChanged : Nat := 0x41
def cSealMismatch : Nat := 0x42
def cCpxLost : Nat := 0x43
def cKeyStuck : Nat := 0x44
def cBcsDegraded : Nat := 0x45
def cBcsDiscrepancy : Nat := 0x46
def cTripReqDriven : Nat := 0x47
def cPairLinkLost : Nat := 0x50
def cPairLaneDown : Nat := 0x51
def cPairDigestMismatch : Nat := 0x52
def cPairSyncFailed : Nat := 0x53
def cPairFailover : Nat := 0x54
def cPairUnsyncedTakeover : Nat := 0x55
def cHandoverFailed : Nat := 0x56
def cTokenFault : Nat := 0x57
def cSettingsIncompatible : Nat := 0x58
def cCanErrorPassive : Nat := 0x60
def cCanBusOff : Nat := 0x61
def cCanBusOffHeld : Nat := 0x62
def cTxAbandoned : Nat := 0x63
def cCanRxTimeout : Nat := 0x64
def cCanMirrorConflict : Nat := 0x65
def cCanConfig : Nat := 0x66
def cAuthFailures : Nat := 0x67
def cPcsLinkLost : Nat := 0x68

/-! Record-only events (Table 17-4). -/

def eBoot : Nat := 0x80
def ePowerFail : Nat := 0x81
def eIslandReset : Nat := 0x82
def eTimeStep : Nat := 0x83
def eStateChange : Nat := 0x84
def eRowActive : Nat := 0x85
def eRowRelease : Nat := 0x86
def eCommand : Nat := 0x87
def eCommandReject : Nat := 0x88
def eSeqIllegal : Nat := 0x89
def eInsertTimeout : Nat := 0x8A
def eOpenUnderLoad : Nat := 0x8B
def eContactorWeld : Nat := 0x8C
def eSocReconciled : Nat := 0x8D
def eCapacityIntent : Nat := 0x8E
def eCapacityWriteLost : Nat := 0x8F
def eImpJump : Nat := 0x90
def eSenseRestored : Nat := 0x91
def eRingRejoined : Nat := 0x92
def eRollCall : Nat := 0x93
def eHandover : Nat := 0x94
def ePark : Nat := 0x95
def eConfigEvent : Nat := 0x96
def eUpdateEvent : Nat := 0x97
def eCanRx : Nat := 0x98
def eCanState : Nat := 0x99
def eAlertMask : Nat := 0x9A
def eAlertClear : Nat := 0x9B
def eJournalAck : Nat := 0x9C
def eDormant : Nat := 0x9D
def eSerialSeen : Nat := 0x9E
def ePrechargeRefused : Nat := 0x9F

/-- The module-local conditions (R463). -/
def localCodes : List Nat :=
  [cSlotChanged, cSlotInvalid, cModuleHot, cAuxHigh, cAuxLow, cLeverUnlocked, cEjectRefused, cQueueOverrun, cTimePulseLost, cTimeHoldover, cTimeFreerun, cPairTimeDisagree, cJournalQueueFull, cCounterSaturated, cSealChanged, cSealMismatch, cCpxLost, cKeyStuck, cBcsDegraded, cBcsDiscrepancy, cPairLinkLost, cPairLaneDown, cPairSlotMissing, cPairDigestMismatch, cPairSyncFailed, cTokenFault, cSettingsIncompatible, cCanErrorPassive, cCanBusOff, cCanBusOffHeld, cTxAbandoned, cCanRxTimeout, cCanMirrorConflict, cCanConfig, cAuthFailures]

/-! Status codes (Table 15-4). -/

def stOk : Nat := 0x0000
def stAccepted : Nat := 0x0001
def stLengthError : Nat := 0x0100
def stHeaderError : Nat := 0x0101
def stBadOpcode : Nat := 0x0102
def stParamLength : Nat := 0x0103
def stParamRange : Nat := 0x0104
def stReplay : Nat := 0x0200
def stRekeyRequired : Nat := 0x0201
def stPrivilege : Nat := 0x0202
def stSessionLimit : Nat := 0x0203
def stStateReject : Nat := 0x0300
def stRoleReject : Nat := 0x0301
def stBusy : Nat := 0x0302
def stNotFound : Nat := 0x0303
def stCheckFailed : Nat := 0x0400
def stSignatureError : Nat := 0x0401
def stCrcError : Nat := 0x0402
def stSettingsIncompatible : Nat := 0x0403
def stInternal : Nat := 0x0500

/-! SCOPE codes of Table 17-1 above those of Table 15-7. -/

def scDomain : Nat := 0
def scString : Nat := 1
def scBay : Nat := 2
def scSwitch : Nat := 3
def scPrecharge : Nat := 4
def scConfig : Nat := 5
def scTime : Nat := 6
def scPair : Nat := 7
def scUpdate : Nat := 8
def scCell : Nat := 9
def scWorker : Nat := 10
def scPort : Nat := 11
def scCan : Nat := 12
def scSession : Nat := 13
def scIsland : Nat := 14
def scSegment : Nat := 15
def scModule : Nat := 16

/-! Not-available codes of Table 00-6 (R12). -/

def naCurrent : Int := -2147483648
def naTemp : Int := -32768
def naU16 : Nat := 0xFFFF
def naU32 : Nat := 0xFFFFFFFF

/-- A set of flags as a byte: bit i of the result is the i-th flag. -/
def bitsOf : List Bool → Nat
  | [] => 0
  | b :: t => (if b then 1 else 0) + 2 * bitsOf t

/-- Bit `i` of a flag word. -/
def bitAt (n i : Nat) : Bool := n / 2 ^ i % 2 = 1

end Sys2Proof.Machine
end

