-- ==== Sys2Proof/Machine/Operands.lean ====
section
/-! DEFINITION. Operand forms: byte encodings of R9 and Table 00-6, the checks of R92, binary32 rounding,
comparison modulo 2^32 (R123), and the plain list operations that every table of the state uses. -/

namespace Sys2Proof.Machine

/-! ## Little-endian fields (R9) -/

/-- `n` bytes of `v`, least significant first. -/
def le : Nat → Nat → List Byte
  | 0, _ => []
  | n + 1, v => v % 256 :: le n (v / 256)

/-- `n` bytes of `v` in two's complement. -/
def leI (n : Nat) (v : Int) : List Byte := le n (v % (256 ^ n : Nat)).toNat

/-- The value of little-endian bytes. -/
def unle : List Byte → Nat
  | [] => 0
  | b :: t => b + 256 * unle t

/-- A value in 64 bits, two's complement. -/
def int64 (v : Int) : Int := (v + 9223372036854775808) % 18446744073709551616 - 9223372036854775808

/-- Values as int32 each, the payload of a record whose code no table lists (R415). -/
def int32s (l : List Int) : List Byte := (l.map (leI 4)).flatten

/-- `n` zero bytes (R14). -/
def zeros (n : Nat) : List Byte := List.replicate n 0

/-- Bytes padded with zero, or cut, to exactly `n`. -/
def padTo (n : Nat) (l : List Byte) : List Byte := l.take n ++ zeros (n - l.length)

/-- A byte as an unsigned field of one byte, saturating. -/
def u8 (n : Nat) : Nat := min n 255
/-- A 16-bit saturating count (R427). -/
def sat16 (n : Nat) : Nat := min n 0xFFFF
/-- A 16-bit count advanced by one, saturating (R427). -/
def bump16 (n : Nat) : Nat := min 0xFFFF (n + 1)
/-- An 8-bit saturating count advanced by one (R138). -/
def bump8 (n : Nat) : Nat := min 255 (n + 1)

/-! ## Check sums (R92) -/

/-- One bit step of CRC-16, polynomial 0x1021. -/
def crc16Step (c : Nat) : Nat :=
  if c / 0x8000 % 2 = 1 then (c * 2 % 0x10000) ^^^ 0x1021 else c * 2 % 0x10000

/-- `n` bit steps of CRC-16. -/
def crc16Steps : Nat → Nat → Nat
  | 0, c => c
  | n + 1, c => crc16Steps n (crc16Step c)

/-- CRC-16 of R92. -/
def crc16 (bytes : List Byte) : Nat :=
  bytes.foldl (fun c b => crc16Steps 8 (c ^^^ (b * 256))) 0xFFFF

/-- One bit step of CRC-32C, reflected. -/
def crc32cStep (c : Nat) : Nat :=
  if c % 2 = 1 then (c / 2) ^^^ 0x82F63B78 else c / 2

/-- `n` bit steps of CRC-32C. -/
def crc32cSteps : Nat → Nat → Nat
  | 0, c => c
  | n + 1, c => crc32cSteps n (crc32cStep c)

/-- CRC-32C of R92. -/
def crc32c (bytes : List Byte) : Nat :=
  (bytes.foldl (fun c b => crc32cSteps 8 (c ^^^ b)) 0xFFFFFFFF) ^^^ 0xFFFFFFFF

/-! ## Rounding -/

/-- A rational rounded to the nearest integer, ties to even. -/
def roundEven (q : Rat) : Int :=
  let f := q.floor
  let r := q - f
  if r < 1 / 2 then f else if 1 / 2 < r then f + 1 else if f % 2 = 0 then f else f + 1

/-- A rational rounded to the nearest integer, ties upwards (log 11). -/
def roundInt (q : Rat) : Int := (q + 1 / 2).floor

/-- A rational rounded towards zero. -/
def truncInt (q : Rat) : Int := if 0 ≤ q then q.floor else -((-q).floor)

/-- The exponent of the leading bit of a positive rational. -/
def expo (q : Rat) : Int :=
  let e : Int := (Nat.log2 q.num.natAbs : Int) - (Nat.log2 q.den : Int)
  let p : Rat := if 0 ≤ e then ((2 ^ e.toNat : Nat) : Rat) else 1 / ((2 ^ (-e).toNat : Nat) : Rat)
  if p ≤ q then e else e - 1

/-- Two to an integer power. -/
def pow2 (e : Int) : Rat :=
  if 0 ≤ e then ((2 ^ e.toNat : Nat) : Rat) else 1 / ((2 ^ (-e).toNat : Nat) : Rat)

/-- Rounding to a binary format, to nearest with ties to even: `frac` fraction bits, `2 ^ emin` its smallest
step; without an upper bound (log 6). -/
def binRound (frac emin : Int) (q : Rat) : Rat :=
  if q = 0 then 0
  else
    let a := if 0 ≤ q then q else -q
    let u := pow2 (max (expo a - frac) emin)
    let r : Rat := (roundEven (a / u) : Rat) * u
    if 0 ≤ q then r else -r

/-- Rounding to binary32: the manual's single precision and float32 fields. -/
def f32 (q : Rat) : Rat := binRound 23 (-149) q

/-- Rounding to binary64: the manual's double precision (R227, R237). -/
def f64 (q : Rat) : Rat := binRound 52 (-1074) q

/-- Magnitude of a rational. -/
def absQ (q : Rat) : Rat := if 0 ≤ q then q else -q

/-- Clamp to a range. -/
def clampI (lo hi v : Int) : Int := if v < lo then lo else if hi < v then hi else v

/-- Clamp of a rational. -/
def clampQ (lo hi v : Rat) : Rat := if v < lo then lo else if hi < v then hi else v

/-! ## Sweep indexes modulo 2^32 (R123) -/

/-- The distance from sweep `a` to sweep `b`, modulo 2^32. -/
def sweepDiff (b a : Nat) : Nat := (b + 4294967296 - a % 4294967296) % 4294967296

/-- Sweep `a` lies after sweep `b`. -/
def sweepAfter (a b : Nat) : Bool := 0 < sweepDiff a b && sweepDiff a b < 2147483648

/-! ## Lists as sets, sequences and tables -/

/-- A list as a set: `x` added at the end unless present. -/
def addTo {α : Type} [DecidableEq α] (l : List α) (x : α) : List α := if x ∈ l then l else l ++ [x]

/-- A list as a set: `x` taken out. -/
def dropFrom {α : Type} [DecidableEq α] (l : List α) (x : α) : List α := l.filter (fun y => y ≠ x)

/-- The elements of `xs` added to `l`. -/
def addAll {α : Type} [DecidableEq α] (l xs : List α) : List α := xs.foldl addTo l

/-- Element `i` of a list rewritten by `f`. -/
def modAt {α : Type} (l : List α) (i : Nat) (f : α → α) : List α :=
  match l, i with
  | [], _ => []
  | x :: t, 0 => f x :: t
  | x :: t, i + 1 => x :: modAt t i f

/-- The value a table gives a key, or a default. -/
def look {κ α : Type} [DecidableEq κ] (d : α) (l : List (κ × α)) (k : κ) : α :=
  match l with
  | [] => d
  | (k', v) :: t => if k' = k then v else look d t k

/-- The value a table gives a key, if any. -/
def find {κ α : Type} [DecidableEq κ] (l : List (κ × α)) (k : κ) : Option α :=
  match l with
  | [] => none
  | (k', v) :: t => if k' = k then some v else find t k

/-- A table with key `k` set to `v`. -/
def put {κ α : Type} [DecidableEq κ] (l : List (κ × α)) (k : κ) (v : α) : List (κ × α) :=
  match l with
  | [] => [(k, v)]
  | (k', v') :: t => if k' = k then (k, v) :: t else (k', v') :: put t k v

/-- A table without key `k`. -/
def del {κ α : Type} [DecidableEq κ] (l : List (κ × α)) (k : κ) : List (κ × α) := l.filter (fun p => p.1 ≠ k)

/-- The least element of a list of naturals. -/
def leastN : List Nat → Option Nat
  | [] => none
  | x :: t => match leastN t with
    | none => some x
    | some y => some (min x y)

/-- The greatest element of a list of naturals. -/
def greatestN : List Nat → Option Nat
  | [] => none
  | x :: t => match greatestN t with
    | none => some x
    | some y => some (max x y)

/-- Insertion into a list sorted upwards by a key. -/
def insertBy {α : Type} (key : α → Int) (x : α) : List α → List α
  | [] => [x]
  | y :: t => if key x < key y then x :: y :: t else y :: insertBy key x t

/-- A list sorted upwards by a key, equal keys in their order. -/
def sortBy {α : Type} (key : α → Int) (l : List α) : List α :=
  l.foldr (fun x acc => insertBy' key x acc) []
where
  insertBy' (key : α → Int) (x : α) : List α → List α
    | [] => [x]
    | y :: t => if key x ≤ key y then x :: y :: t else y :: insertBy' key x t

/-- The lower median of a list of integers (R161), zero for the empty list. -/
def lowerMedian (l : List Int) : Int := (sortBy id l).getD ((l.length - 1) / 2) 0

/-- Sum of a list of rationals from the left. -/
def sumQ (l : List Rat) : Rat := l.foldl (· + ·) 0

/-- Sum of a list of integers from the left. -/
def sumI (l : List Int) : Int := l.foldl (· + ·) 0

/-- The least of a list of rationals, or a default. -/
def minQ (d : Rat) : List Rat → Rat
  | [] => d
  | x :: t => t.foldl (fun a b => if b < a then b else a) x

/-- The greatest of a list of rationals, or a default. -/
def maxQ (d : Rat) : List Rat → Rat
  | [] => d
  | x :: t => t.foldl (fun a b => if a < b then b else a) x

/-- The numbers `a` to `b`, inclusive; none when `b < a`. -/
def span (a b : Nat) : List Nat := (List.range (b + 1 - a)).map (· + a)

end Sys2Proof.Machine
end

