-- ==== Sys2Proof/Machine/SafeSet.lean ====
section
/-! DEFINITION. What a SAFE_HOLD runs on (R446): the core sections of a set with the built-in defaults, the standard
formats of Tables 05-7 and 05-8, and Fyviash's default templates (Table 10-10 and the default bay templates). -/

namespace Sys2Proof

/-- A step by its fields (Table 10-6). -/
def mkStep (kind operand arg success failure : Nat) (timeout : Nat := 0) (arg32 : Int := 0) : Step :=
  { kind := kind, operand := operand, arg := arg, arg32 := arg32, timeout := timeout, success := success, failure := failure }

/-- CLOSE and ABORT of a string: steps 0 to 9 of Table 10-10, each action a step of its own. -/
def closeSteps : List (Nat × Step) :=
  [(0, mkStep 1 1 0 1 27), (1, mkStep 2 0x23 0xFFFF 2 9), (2, mkStep 5 1 0 3 9 100), (3, mkStep 1 2 0 4 27),
   (4, mkStep 5 2 0 5 9), (5, mkStep 5 3 0 6 9), (6, mkStep 1 3 0 7 27), (7, mkStep 2 0x20 6 22 20),
   (8, mkStep 2 0x20 7 23 20), (9, mkStep 1 0 0 27 27), (22, mkStep 6 0 60 8 20), (23, mkStep 6 0 60 24 20),
   (24, mkStep 2 0x20 3 25 20), (25, mkStep 5 4 0 26 20 50), (26, mkStep 1 4 0 27 27), (27, mkStep 0xF 0 0 0 0)]

/-- OPEN of a string, its failures and the welded contactor: steps 10 to 14, 20 and 21 of Table 10-10. -/
def openSteps : List (Nat × Step) :=
  [(10, mkStep 1 6 0 28 27), (28, mkStep 7 0 1 11 11), (11, mkStep 5 5 0 13 12 50), (12, mkStep 0xA 2 0x8B 13 13),
   (13, mkStep 2 0x20 0 29 20), (29, mkStep 7 0 0 14 14), (14, mkStep 5 4 0 9 21 50), (20, mkStep 2 0x20 0 30 30),
   (30, mkStep 1 7 0 27 27), (21, mkStep 1 8 0 31 27), (31, mkStep 0xA 3 0x8C 27 27)]

/-- OPEN_TRIP, FAULT, RECOVER, UNLOCK and SERVICE of a string (R266, R271; log 62). -/
def faultSteps : List (Nat × Step) :=
  [(32, mkStep 1 6 0 33 33), (33, mkStep 2 0x20 0 34 20), (34, mkStep 5 4 0 30 21 50), (35, mkStep 2 0x20 0 36 27),
   (36, mkStep 5 4 0 27 21 50), (37, mkStep 2 0x24 0 38 27), (38, mkStep 5 4 0 9 27 50), (39, mkStep 2 0x20 0 37 27),
   (40, mkStep 1 9 0 27 27)]

/-- ENERGISE of a bay with its failure path. -/
def energiseSteps : List (Nat × Step) :=
  [(64, mkStep 1 1 0 65 76), (65, mkStep 5 6 0 66 76 100), (66, mkStep 3 0 1 67 76), (67, mkStep 6 0 200 68 76),
   (68, mkStep 4 0 1 69 76), (69, mkStep 5 7 0 70 76 1000), (70, mkStep 5 8 0 71 76 50 5000), (71, mkStep 8 0 1 72 76),
   (72, mkStep 5 9 0 73 76 500), (73, mkStep 4 0 0 74 74), (74, mkStep 1 2 0 75 75), (75, mkStep 0xF 0 0 0 0),
   (76, mkStep 4 0 0 77 77), (77, mkStep 8 3 0 78 78), (78, mkStep 8 1 0 79 79), (79, mkStep 3 0 0 80 80),
   (80, mkStep 1 0 0 75 75)]

/-- DRAIN, TRIP, TRIP_RESET and SERVICE of a bay. -/
def drainSteps : List (Nat × Step) :=
  [(81, mkStep 1 4 0 82 82), (82, mkStep 8 1 0 83 83), (83, mkStep 5 0xA 0 85 84 200), (84, mkStep 8 2 0 85 85),
   (85, mkStep 3 0 0 86 86), (86, mkStep 6 0 200 80 80), (87, mkStep 4 0 0 88 88), (88, mkStep 8 2 0 89 89),
   (89, mkStep 5 0xA 0 90 90), (90, mkStep 9 0 0 75 75), (91, mkStep 9 0 0 92 92), (92, mkStep 3 0 0 80 80),
   (93, mkStep 1 6 0 75 75)]

/-- The SEQUENCE section of a SAFE_HOLD: the default templates and the defaults of Table 10-15. -/
def safeSeq : SeqCfg :=
  { strEntry := [0, 10, 32, 9, 35, 37, 40, 9, 39] ++ List.replicate 7 0xFFFF
    bayEntry := [64, 81, 87, 91, 93, 80] ++ List.replicate 10 0xFFFF
    steps := closeSteps ++ openSteps ++ faultSteps ++ energiseSteps ++ drainSteps }

/-- The built-in rows of R446. The sources of rows that have no fixed condition are free ones (log 62). -/
def safeRules (c : CoreLimits) : List (Nat × Rule) :=
  [(0, { scope := 0, signal := 0x0001, cond := 0, thrA := (c.vCellMax : Int), persist := 2, action := 2, severity := 3, alert := 0x80 }),
   (1, { scope := 0, signal := 0x0001, cond := 1, thrA := (c.vCellMin : Int), persist := 2, action := 2, severity := 3, alert := 0x81 }),
   (2, { scope := 0, signal := 0x0004, cond := 0, thrA := c.tCellMax, persist := 2, action := 2, severity := 3, alert := 0x82 }),
   (3, { scope := 0, signal := 0x0004, cond := 1, thrA := c.tCellMin, persist := 2, action := 2, severity := 3, alert := 0x83 }),
   (4, { scope := 2, signal := 0x0027, cond := 4, thrA := 3, punit := 2, persist := 5, action := 2, severity := 3, alert := 0x1B }),
   (5, { scope := 3, signal := 0x0033, cond := 5, thrA := 1, punit := 1, persist := 50, action := 3, severity := 3, alert := 0x84 }),
   (6, { scope := 4, signal := 0x0042, cond := 0, thrA := 100, punit := 1, persist := 0, action := 3, severity := 3, alert := 0x68 })]

/-- The standard formats, at index 0 for a DZC-24 and 1 for a DZS-2 (Tables 05-7 and 05-8). -/
def standardFormats : List (Nat × FormatEntry) :=
  [(0, { wtype := 1, slotLen := 80, items := [(0x01, 3), (0x02, 51), (0x03, 75), (0x04, 77)] }),
   (1, { wtype := 2, slotLen := 64, items := [(0x21, 3), (0x22, 11), (0x23, 27), (0x24, 35), (0x25, 47)] })]

/-- What SAFE_HOLD runs on: the core sections, and defaults for every other section (R446). -/
def ConfigSet.safe (c : ConfigSet) : ConfigSet :=
  { format := c.format, pairDomain := c.pairDomain, size := c.size, setId := c.setId, core := c.core
    workers := c.workers.map (fun (w : Wk × WorkerEntry) => (w.1, { w.2 with format := if w.2.typ = .dzc24 then 0 else 1 }))
    strings := c.strings, channels := c.channels, network := c.network, can := c.can, switches := c.switches
    swWdPeriod := c.swWdPeriod, baySwitch := c.baySwitch
    sweep := { period := c.core.period }
    formats := standardFormats
    bal := { modes := c.strings.map (fun (x : Nat × StringEntry) => (x.1, BalMode.off)) }
    rules := safeRules c.core
    seq := safeSeq }

end Sys2Proof
end

