-- ==== Sys2Proof/Machine/State.lean ====
section
/-! DEFINITION. The state of the module in its slot, as plain data, and the machine right after reset.
Every field's default is its reset value; the comment behind a field names the rule of spec/ that gives the
field, and where the spec states no reset value the log entry (notes/assumptions/) that names it. -/

namespace Sys2Proof.Machine

/-- Why the machine could stop with a fault. No command of this hardware is without an effect in the spec, so
no meaning raises it. -/
inductive Fault where
  /-- Raised by no meaning. Safe: it stops. -/
  | none_
  deriving DecidableEq, Repr

/-- Why the machine could refuse a command. -/
inductive Refusal where
  /-- A command without a meaning yet, by its mnemonic: raised by an arm of `exec` only. Safe: it stops. -/
  | notModelled (mnemonic : String)
  deriving DecidableEq, Repr

/-! ## The Carapace (chapter 13) -/

/-- STATE of Table 13-5; `off` without supply (R46). -/
inductive CpiState where
  | off | selfTest | run | safe
  deriving DecidableEq, Repr, Inhabited

/-- One bay current input channel (R320 to R322). -/
structure BcsChan where
  linked : Bool := false        -- R321; 4 mA to 20 mA mode as found at self-test; reset false (log 20)
  faulted : Bool := false       -- R321; until the next self-test; reset false
  valid : Bool := false         -- R322; the newest sample is valid; reset false
  cur : Int := 0                -- R320; newest current, mA; reset 0 (log 20)
  deriving DecidableEq, Repr, Inhabited

/-- What the Carapace keeps for one bay. -/
structure CaraBay where
  out0 : Bool := false          -- R319; TRIP_b_0 energised; reset false
  out1 : Bool := false          -- R319; TRIP_b_1 energised; reset false
  stuck0 : Bool := false        -- R328; TRIP_b_0 did not open; never clears (R334); reset false
  stuck1 : Bool := false        -- R328; TRIP_b_1 did not open; reset false
  dead0 : Bool := false         -- R328; TRIP_b_0 did not conduct when energised; reset false
  dead1 : Bool := false         -- R328; TRIP_b_1 did not conduct; reset false
  causes : List Nat := []       -- R333; latched causes, Table 13-4, in order of arrival; non-volatile; reset none
  chA : BcsChan := {}           -- R322; BCS_b_A
  chB : BcsChan := {}           -- R322; BCS_b_B
  dis : List Int := []          -- R323; last 10 samples of I_DIS, newest first; reset none
  chg : List Int := []          -- R323; last 10 samples of I_CHG; reset none
  nDis : Nat := 0               -- R323; consecutive means of I_DIS beyond the limit; reset 0
  nChg : Nat := 0               -- R323; the same of I_CHG; reset 0
  degraded : Bool := false      -- R322; BCS_DEGRADED; reset false
  discrepancy : Bool := false   -- R322; BCS_DISCREPANCY; reset false
  okRun : Nat := 0              -- Table 13-6; consecutive samples with both channels valid (10 s are 100,000); reset 0
  agreeRun : Nat := 0           -- Table 13-6; consecutive samples within 1,000 A; reset 0
  bcs24h : Bool := false        -- R334; the latched BCS_FAULT is for 24 h of degradation; reset false
  deriving DecidableEq, Repr, Inhabited

/-- A dual-channel input (R325, R326). -/
structure SafeIn where
  open1 : Bool := false         -- R325; channel 1 open; reset false (log 20)
  open2 : Bool := false         -- R325; channel 2 open; reset false (log 20)
  disc : Bool := false          -- R325; discrepancy latched; reset false
  bothSeen : Bool := false      -- R325; both channels seen open together since the discrepancy; reset false
  cross1 : Bool := false        -- R326; the T_1 pulse appears on I_2; reset false
  cross2 : Bool := false        -- R326; the T_2 pulse appears on I_1; reset false
  ossd1 : Bool := false         -- R326; channel 1 is driven by an OSSD source; reset false
  ossd2 : Bool := false         -- R326; channel 2; reset false
  deriving DecidableEq, Repr, Inhabited

/-- The Carapace of this module. Nothing else of the module is part of it (R337). -/
structure Carapace where
  state : CpiState := .off                  -- R336; STATE; reset off, without supply
  epoch : Nat := 0                          -- R70; resets since power-up, modulo 256; reset 0
  slotInvalid : Bool := false               -- R44; the invalid slot code stands; reset false (log 20)
  slotB : Bool := false                     -- R328; slot B, for the test schedule; reset false (log 20)
  locked : Bool := false                    -- R52; lever at LOCKED as the microswitch senses; reset false (log 20)
  bank : List Nat := List.replicate 8 0     -- R330; codes of S0 to S31 as read, index 2b + d; factory 0
  bankTl : Nat := 1                         -- R330; selector TL as read; factory 1
  own : Option CaraVals := none             -- R331; values in force, non-volatile; reset blank
  partner : Option CaraVals := none         -- R332; the partner's values; reset none
  partnerTrips : List Bool := List.replicate 4 false -- R332; the partner's trip states; reset none
  partnerLocked : Bool := false             -- R332; the partner's lever at LOCKED; reset false
  partnerSeq : Nat := 0                     -- R332; newest CPX sequence count; reset 0
  partnerSched : Nat := 0                   -- R332; the partner's test schedule; reset 0
  cpxLost : Bool := false                   -- R332; CPX_LOST; reset false
  seq : Nat := 0                            -- R332; own 16-bit CPX sequence count; reset 0
  sealChanged : Bool := false               -- R331; SEAL_CHANGED; reset false
  keyStuck : Bool := false                  -- R334; KEY_STUCK; reset false
  bays : List CaraBay := List.replicate 4 {} -- R319; one per bay
  inputs : List SafeIn := List.replicate 5 {} -- R325; ESTOP, SI_0 to SI_3
  tones : List Tone := List.replicate 32 .dead -- R324; port states as the Carapace classifies them; reset DEAD (log 20)
  toneWins : List (Option Tone) := List.replicate 32 none -- R324, R119; class of the newest classified window per port; reset none
  tripReq : Bool := false                   -- R336; TRIP_REQ seen; reset false
  tested : Nat := 0                         -- R328; outputs tested in the running 2 s cycle; reset 0
  cpiBank : Nat := 0                        -- R449; firmware bank in use, 0 or 1; reset 0 (log 20)
  bankFails : Nat := 0                      -- R449; failed self-tests of a new bank; reset 0
  pulse : Nat := 0                          -- R80; time of the newest time pulse; reset 0
  sent : Option CpxFrame := none            -- R332; newest CPX frame sent; reset none
  deriving DecidableEq, Repr, Inhabited

/-- The newest report of the Carapace (Table 13-5) as fields. -/
structure CaraReport where
  state : Nat := 0
  flags : Nat := 0
  tripMask : Nat := 0
  dirPermit : Nat := 0
  toneLoss : Nat := 1
  limDis : List Int := List.replicate 4 0
  limChg : List Int := List.replicate 4 0
  bank : Nat := 0
  causes : List Nat := List.replicate 4 0
  inputs : Nat := 0
  tReport : Nat := 0
  degraded : List Bool := List.replicate 4 false
  discrepancy : List Bool := List.replicate 4 false
  partnerLocked : Bool := false
  deriving DecidableEq, Repr, Inhabited

/-! ## Supply, lever and slot (chapter 02) -/

/-- Where the module is between supply and service (R46, R74). -/
inductive Phase where
  /-- without AUX, or reset at the end of a power-fail sequence -/
  | off
  /-- Weevil repeats or runs an install phase; the firmware is not started (R433) -/
  | weevil
  /-- the rest of the module runs -/
  | on
  deriving DecidableEq, Repr, Inhabited

/-- Supply, lever, slot and static inputs. AUX_LOW, AUX_HIGH, MODULE_HOT, SLOT_CHANGED, SLOT_INVALID,
LEVER_UNLOCKED and EJECT_REFUSED are held as conditions (Table 17-4). -/
structure Supply where
  phase : Phase := .off                 -- R46; reset off
  recovery : Bool := false              -- R437; RECOVERY of the boot ROM; reset false
  protectOpen : Bool := false           -- R46; input protection open, running on hold-up; reset false
  writeStop : Bool := false             -- R46 Table 02-8; no new Caldera write starts; reset false
  slot : SlotCode := .single            -- R43; slot code read at boot; reset SINGLE (log 20)
  slotNow : SlotCode := .single         -- R15, R43; slot code as the contacts read now; reset SINGLE (log 20)
  jumper : Bool := false                -- R437; service jumper closed at power-up; reset false
  lever : Lever := .open_               -- R52; ejector lever; reset OPEN (log 20)
  ejectLow : Bool := false              -- R53; EJECT_N driven low; reset false
  lockSeen : Bool := false              -- R52; the lock stop has been withdrawn since insertion; reset false
  everLocked : Bool := false            -- R52; the lever has reached LOCKED since insertion; reset false
  parking : Bool := false               -- R53; parking runs; reset false
  parked : Bool := false                -- R53; parking complete, PARKED lit; reset false
  ejectFree : Bool := false             -- R52; parking has completed since the supply came: eject stop withdrawn; reset false
  outputsOff : Bool := false            -- R358; a parked module's ports, PWM and switch outputs are off; reset false
  peerPresent : Bool := false           -- R42; PEER_PRESENT_N reads low; reset false (log 20)
  peerEject : Bool := false             -- R53; PEER_EJECT_N reads low; reset false (log 20)
  boardT : Int := 0                     -- R37; hottest board temperature, 0.01 degC; reset 0 (log 20)
  dcReady : Bool := false               -- R258; PCS_DC_READY on; reset false (log 20)
  coverOff : Bool := false              -- R449; switch bank cover off; reset false (log 21)
  serial : Nat := 1                     -- R381; the module's serial number; reset 1 (log 20)
  bootNo : Nat := 0                     -- R381; starts counted; reset 0
  deriving DecidableEq, Repr, Inhabited

/-! ## Islands and time (chapter 03) -/

/-- One island (R69 to R72, R79). -/
structure IslandSt where
  up : Bool := false            -- R74; running, not in reset; reset false
  epoch : Nat := 0              -- R70; resets since power-up, modulo 256; reset 0
  nextPulse : Nat := 0          -- R79; plant time of the next pulse as told; reset 0
  counter : Nat := 0            -- R79; local counter as set at the newest pulse, ns; reset 0
  trim : Rat := 1               -- R79; trimmed counter rate, ns per ns of the island's own clock; reset 1 (log 149)
  degraded : Bool := false      -- R79; timestamps marked degraded; reset false
  lastReset : Option Nat := none -- R73; local time of its newest reset; reset none
  cause : Nat := 0              -- R72; CAUSE of its newest reset, Table 17-3; reset 0
  deriving DecidableEq, Repr, Inhabited

/-- Time states of Table 03-6. -/
inductive TimeState where
  | unset | locked | holdover | freerun
  deriving DecidableEq, Repr, Inhabited

/-- The time unit (R75 to R84). -/
structure TimeUnit where
  now : Nat := 0                    -- R75; local timescale, ns; reset 0 (log 8)
  offset : Int := 0                 -- R75; plant time minus the local timescale, ns; reset 0
  state : TimeState := .unset       -- R83; reset UNSET
  lockedAt : Nat := 0               -- R83; local time of the entry to LOCKED; reset 0
  heldAt : Nat := 0                 -- R83, R396; local time of the entry to HOLDOVER, ns; reset 0
  servo : Int := 0                  -- R84, R396; newest measured servo offset, ns; reset 0
  slew : Int := 0                   -- R84; offset still to be slewed out, ns; reset 0
  pendingStep : Option Int := none  -- R84; step waiting for a sweep boundary, ns; reset none
  masters : List (Option Nat) := [none, none] -- R76; grandmaster heard on ETH1, ETH2; reset none
  ptpPort : Option Nat := none      -- R76; the active PTP port; reset none
  grandmaster : Nat := 0            -- R396; reset 0
  ppsSeen : Bool := false           -- R75; PPS_IN edges are being received; reset false
  tod : Option (Nat × Nat) := none  -- R75, R396; TAI seconds given by TIME.SET and the local time of its receipt, ns; reset none
  todKnown : Bool := false          -- R75; the host has supplied the time of day; reset false
  sourceLost : Bool := false        -- R83; the source is lost; reset false
  lockWanted : Bool := false        -- R83, R84; LOCKED is entered by the step of the next sweep boundary; reset false
  trim : Int := 0                   -- R75, R83; rate trimmed by the servo, ps per ms of the local timescale; reset 0 (log 150)
  frac : Int := 0                   -- the model's own; part of a nanosecond of the rate not yet in `offset`, ps; reset 0
  ppsOut : Bool := false            -- R78; PPS_OUT high; reset false
  ppsEdge : Nat := 0                -- R78; plant-time second of the newest rising edge; reset 0
  deriving DecidableEq, Repr, Inhabited

/-! ## Journal and alerts (chapter 17) -/

/-- A holding instance of a fixed condition (R416): code, scope and instance (R463). -/
structure Cond where
  code : Nat := 0
  scope : Nat := 16
  inst : Nat := 0
  deriving DecidableEq, Repr, Inhabited

/-- The journal of the module (R413 to R422). -/
structure Journal where
  queue : List (Bool × JRec) := []      -- R419; records waiting for the MGI, oldest first, marked when they carry a SEQ; reset empty
  holding : List (Bool × JRec) := []    -- R72; VSI holding queue; reset empty
  heldLost : Nat := 0                   -- R72; records lost while the holding queue was full; reset 0
  stored : List (Nat × JRec) := []      -- R420; stored records with their section, oldest first; reset empty
  domNext : Nat := 0                    -- R417; next SEQ of the domain series; reset 0
  locNext : Nat := 9223372036854775808  -- R417; next SEQ of the local series; reset 2^63
  dropped : Nat := 0                    -- R419; 16-bit count of dropped records; reset 0
  tripOver : Nat := 0                   -- R420; JOURNAL_TRIP_OVERWRITTEN count, 16 bits; reset 0
  named : List Nat := []                -- R427; names of its counters whose saturation is recorded; reset none
  ackMark : Option Nat := none          -- R421; acknowledgement mark in Caldera; reset none
  deriving DecidableEq, Repr, Inhabited

/-- Conditions and the alert map (R423 to R426). -/
structure Alerts where
  conds : List Cond := []               -- R416; conditions that hold; reset none
  partner : List Cond := []             -- R463; module-local conditions of the follower, as its records say; reset none
  rows : List Nat := []                 -- R424; alert sources of active rule rows; reset none
  canObjs : List (Nat × Nat × Nat) := [] -- R424; timed-out CAN receive objects (controller, object, source); reset none
  sticky : List Nat := []               -- R424; sticky bits, in Caldera; reset none
  mask : List Nat := []                 -- R425; mask bits, in Caldera; reset none
  clearReq : List Nat := []             -- R424; ALERT.CLEAR waiting for step 6; reset none
  loading : Bool := true                -- R426; the ACTIVE set is neither loaded nor found absent; reset true
  deriving DecidableEq, Repr, Inhabited

/-! ## Kwetric rings and workers (chapters 04, 05 and 06) -/

/-- Who waits for the completion of a ring command. -/
inductive CmdTag where
  /-- nobody: balancing, sense and burst housekeeping -/
  | none_
  /-- training of R108 -/
  | train
  /-- restart handling of R117 -/
  | restart
  /-- a rejoin of R116 on a segment -/
  | rejoin (segment : Nat)
  /-- a step of a Scarab instance -/
  | scarab (inst : InstKey)
  /-- DZS_READ or DZS_CLEAR of a string at boot (R260) -/
  | boot (string : Nat)
  /-- DZS_READ of a string that waits on V_MATCH, issued since the verdict stage of a sweep (R258) -/
  | vmatch (string sweep : Nat)
  /-- OW_FORCE of a pin for a sweep (R153) -/
  | force (pin sweep : Nat)
  /-- a lease granted to a string (R270) -/
  | lease (string : Nat)
  /-- a diagnostic request of a session -/
  | diag (session seq opcode : Nat)
  /-- wake-up survey (R168, R169) -/
  | wake
  deriving DecidableEq, Repr, Inhabited

/-- A ring command: opcode of Table 04-7, payload bytes, who waits for it. -/
structure RingCmd where
  opcode : Nat := 0
  payload : List Byte := []
  tag : CmdTag := .none_
  deriving DecidableEq, Repr, Inhabited

/-- A counted command sent and not yet answered (R98). -/
structure Outst where
  cmd : RingCmd := {}
  count : Nat := 0
  sends : Nat := 1
  /-- sent from the south end -/
  fromSouth : Bool := false
  /-- the exchange has moved to the other end -/
  other : Bool := false
  /-- COUNT_READ is awaited from the other end -/
  reading : Bool := false
  deriving DecidableEq, Repr, Inhabited

/-- A query sent and not yet answered. -/
structure Query where
  cmd : RingCmd := {}
  fromSouth : Bool := false
  sends : Nat := 1
  deriving DecidableEq, Repr, Inhabited

/-- A DZS-2 as last read (R258, R268). -/
structure DzsSeen where
  iA : Int := -2147483648
  iB : Int := -2147483648
  vBat : Nat := 0xFFFFFFFF
  vBus : Nat := 0xFFFFFFFF
  contactors : Nat := 0
  mode : Nat := 0
  leaseLeft : Nat := 0
  flags : Nat := 0
  seen : Bool := false
  deriving DecidableEq, Repr, Inhabited

/-- Restart handling of a worker (R117). -/
inductive Restart where
  | none_ | counting | setting | watching
  deriving DecidableEq, Repr, Inhabited

/-- What the module keeps for one worker. -/
structure WorkerSt where
  c : Nat := 0                            -- R97, R98; the counter C as last known; reset 0
  outst : Option Outst := none            -- R98; the outstanding counted command; reset none
  queue : List RingCmd := []              -- R98; counted commands waiting; reset empty
  queries : List Query := []              -- R99; queries outstanding; reset none
  probesN : List Nat := []                -- R108; round trips measured from the north end, ns; reset none
  probesS : List Nat := []                -- R108; from the south end; reset none
  delayN : Option Nat := none             -- R109; D from the north end, ns; reset none
  delayS : Option Nat := none             -- R109; D from the south end; reset none
  failsN : Nat := 0                       -- R109; checks failed in a row, from the north end; reset 0
  failsS : Nat := 0                       -- R109; from the south end; reset 0
  missing : Bool := false                 -- R111; gave no answer to the newest roll call of an end that reaches it; reset false
  answered : Bool := false                -- R108; answered the newest roll call; reset false
  boot : Option Nat := none               -- R117; BOOT_COUNT as last seen; reset none
  restart : Restart := .none_             -- R117; reset none
  accepted : Option Nat := none           -- R454; accepted serial, in Caldera; reset none
  mismatch : Bool := false                -- R32; answers with another type; reset false
  unreach : Bool := false                 -- R115; unreachable; reset false
  held : Held := {}                       -- R138; last used slot and age
  latched : Bool := false                 -- R118, R235; LATCHED of the newest used slot; reset false
  sense : SenseSt := {}                   -- R148 to R158
  age : Nat := 0                          -- R138; consecutive missing sweeps at the newest readout close; reset 0
  mismRun : Nat := 0                      -- R235; used slots in a row whose auxiliary contacts differ from the coils; reset 0
  transfers : List (Nat × Nat × Nat) := [] -- R160; transfers of the newest plan (channel, plan sweep, DURATION in s); reset none
  balSent : Option (List (Nat × Nat × Nat)) := none -- R160; transfers of the BAL_SET in flight; reset none
  settled : List (Nat × Nat) := []        -- R163; (channel, sweep) at which a transfer last ended; reset none
  edges : List (Nat × Nat) := []          -- R203; (channel, sweep) of the starts and ends of transfers in the last 130 s; reset none
  qBase : Option (List Int) := none       -- R162; newest Q_CELL counters; reset none
  rebase : Bool := false                  -- R162; it has restarted since its newest reading; reset false
  balPlan : List (Option (Nat × Bool × Nat)) := [] -- R161; the newest plan by converter; reset none
  balMedian : Option Int := none          -- R161; b of the newest plan, mAh; reset none
  snap : List Nat := []                   -- R121; counters last read; reset none
  snapNear : Bool := false                -- R121, R394; COUNTERS_SNAP was sent from the south end; reset false
  dzs : DzsSeen := {}                     -- R258; a DZS-2 as last read
  stepTime : Nat := 0                     -- R143; newest STEP_TIME read; reset 0
  frozen : Bool := false                  -- R147; FROZEN of the newest slot; reset false
  wakeRead : Bool := false                -- R168; WAKE_CAUSE read since wake; reset false
  wakeCause : Nat := 0                    -- R167; CAUSE read; reset 0
  deriving DecidableEq, Repr, Inhabited

/-- A ring port of this module (R119, R121). -/
structure PortSt where
  enabled : Bool := false                 -- R21; reset false
  up : Bool := false                      -- R108; reset false
  tone : Tone := .dead                    -- R119; reset DEAD
  lastWin : Option Tone := none           -- R119; class of the newest classified window; reset none
  counters : List Nat := List.replicate 12 0 -- R121; Table 04-17 in its order, 16 bits each; reset 0
  deriving DecidableEq, Repr, Inhabited

/-- A rejoin in progress (R116). -/
structure Rejoin where
  segment : Nat := 0
  /-- 0 clearing turns, 1 roll call and probes, 2 watched for 10 s -/
  phase : Nat := 0
  /-- requested by a host session (session, sequence) -/
  host : Option (Nat × Nat) := none
  deriving DecidableEq, Repr, Inhabited

/-- Error bookkeeping of a segment (R122): local times in ms. -/
structure SegSt where
  errs : List Nat := []                   -- R122; attributed errors of the last 600 s; reset none
  downs : List Nat := []                  -- R122; transitions to DOWN of the last 60 s; reset none
  fails : List Nat := []                  -- R116; failed rejoins of the last hour; reset none
  quarantined : Bool := false             -- R122; reset false
  eligible : Bool := false                -- R122; the 600 s have passed; reset false
  wantQuar : Bool := false                -- R122; FORCE_TURN due at the next boundary; reset false
  unstable : Bool := false                -- R116; RING_SEGMENT_UNSTABLE; reset false
  deriving DecidableEq, Repr, Inhabited

/-- A ring as the module serves it. -/
structure RingSt where
  trained : Bool := false                 -- R108; reset false
  part : Partition := {}                  -- R115, R141; service partition in force; reset none served
  turnN : List Nat := []                  -- R115; north hops whose south side is turned; reset none
  turnS : List Nat := []                  -- R115; north hops whose north side is turned; reset none
  segs : List (Nat × SegSt) := []         -- R122; by segment; reset none
  rejoin : Option Rejoin := none          -- R116; reset none
  rollN : List (Nat × RollBody) := []     -- R111; newest roll call of the north end by north hop; reset none
  rollS : List (Nat × RollBody) := []     -- R111; of the south end; reset none
  rollSlots : List ((Bool × Nat) × SlotRx) := [] -- R102, R107, R394; slots of the newest roll call by end (south) and north hop; reset none
  rollAgain : Bool := false               -- R111; repeated once; reset false
  freezeId : Nat := 0                     -- R144; newest FREEZE_ID; reset 0
  frameTime : Nat := 0                    -- R385; line time of the newest SWEEP frame, us; reset 0
  rereadSlots : Nat := 0                  -- R385; slots reread for the newest sweep; reset 0
  outN : Nat := 0                         -- R147; collecting frames of this period sent from the north end and not back; reset 0
  outS : Nat := 0                         -- R147; from the south end; reset 0
  readN : Bool := false                   -- R147; the north end's collecting frames of this period are back, its readout open; reset false
  readS : Bool := false                   -- R147; the south end's; reset false
  deriving DecidableEq, Repr, Inhabited

/-! ## Sweeps and step bursts (chapter 05) -/

/-- The Geyser schedule and the sweep pipeline. -/
structure SweepSt where
  running : Bool := false                 -- R165; the GEYSER schedule is enabled; reset false
  j : Nat := 0                            -- R123; newest sweep index; reset 0
  mirror : Nat := 0                       -- R123; index mirrored in Caldera; reset 0
  tj : Nat := 0                           -- R123; sample instant of sweep j, ns local; reset 0
  period : Nat := 100                     -- R124; P in ms; default 100
  oldP : Option (Nat × Nat) := none       -- R123, R124; the last sweep under the period before, and that period in ms; reset none
  accepted : List (Nat × List (Wk × SlotRx)) := [] -- R105, R69; accepted slots of the last 8 sweeps; reset none
  dropped : List Nat := []                -- R71; sweeps dropped; reset none
  balIn : List BalReading := []           -- R162; readings waiting for a manifest; reset none
  burstsIn : List (Nat × Nat) := []       -- R147; (string, FREEZE_ID) completed, waiting for a manifest; reset none
  vOutIn : List Nat := []                 -- R278; V_OUT latched for the sweep in readout; reset none
  vOutNow : List Nat := []                 -- R278; V_OUT latched at the newest sample instant; reset none
  dormIn : Option Nat := none             -- R198; dormant interval to be placed in a manifest; reset none
  manifests : List Manifest := []         -- R127; manifests held, newest first; reset none
  prov : Option Manifest := none          -- R346; provisional manifest; reset none
  estimated : Option Nat := none          -- R125; newest sweep whose estimate is complete; reset none
  verdicts : Option Nat := none           -- R125; newest sweep whose verdict stage has ended; reset none
  missedRun : Nat := 0                    -- R138; whole sweeps missed in a row; reset 0
  owed : List (Nat × Bool) := []          -- R355; sweeps a failover still owes a manifest, and whether their reread is due; reset none
  deriving DecidableEq, Repr, Inhabited

/-! ## Dormancy (chapter 06) -/

/-- Phases of dormancy (R165 to R170). -/
inductive DormPhase where
  | awake | entering | dormant | waking
  deriving DecidableEq, Repr, Inhabited

/-- Dormancy of the module. -/
structure DormSt where
  phase : DormPhase := .awake             -- R165; reset awake
  wakeTag : Nat := 0                      -- R382; WAKE_TAG of the entry; reset 0
  survey : Bool := false                  -- R169; a survey runs; reset false
  surveySweeps : Nat := 0                 -- R169; sweeps run in the survey; reset 0
  entryAt : Nat := 0                      -- R198; local time of the entry, ns; reset 0
  wakeAt : Nat := 0                       -- R168; local time of the newest wake, ns; reset 0
  bootEntry : Option Nat := none          -- R460; plant time of a DORMANT entry found open at boot, for the first manifest; reset none
  ringsEntered : List Nat := []           -- R170; rings already sent DORMANT_ENTER; reset none
  deriving DecidableEq, Repr, Inhabited

/-! ## Estimation, verdicts and Scarab (chapters 07 to 10) -/

/-- A cell word of the charge mirror (Table 07-10) as fields. -/
structure MirCell where
  soc : Int := 0
  sigma : Nat := 0
  flags : Nat := 0
  seq : Nat := 0
  deriving DecidableEq, Repr, Inhabited

/-- A string word of the charge mirror (Table 07-10) as fields. -/
structure MirStr where
  r : Int := 0
  dirChg : Bool := false
  failClosed : Bool := false
  leaseLeft : Nat := 0
  qRev : Nat := 0
  seq : Nat := 0
  deriving DecidableEq, Repr, Inhabited

/-- The charge mirror in Caldera (R193). -/
structure ChargeMirror where
  setId : Nat := 0                      -- R193; header; reset 0
  seq : Nat := 0                        -- R193; round SEQ; reset 0
  plant : Nat := 0                      -- R193; plant time of the round; reset 0
  cells : List (Nat × Nat) := []        -- R193; cell words by channel table entry, Table 07-10; reset blank
  strs : List (Nat × Nat) := []         -- R193; string words; reset blank
  bays : List (Nat × Nat) := []         -- R193; words of bays 0 to 3 and of the domain (4); reset blank
  due : Bool := false                   -- R193; a minute sweep asks for a round; reset false
  round : Option Nat := none            -- R193; words of the running round written so far; reset none
  stopped : Bool := false               -- R193; the write stop has interrupted the round; reset false
  deriving DecidableEq, Repr, Inhabited

/-- A capacity record (Table 08-9) as fields; `ok` is whether its CRC is right. -/
structure CapRec where
  cap : Nat := 0
  version : Nat := 0
  sigma : Nat := 0
  updates : Nat := 0
  channel : Nat := 0
  serial : Nat := 0
  base : Option Nat := none
  ok : Bool := true
  deriving DecidableEq, Repr, Inhabited

/-- A word of the impedance mirror (Table 08-10) as fields. -/
structure MirImp where
  rohm : Option Nat := none
  rpol : Option Nat := none
  tau : Option Nat := none
  fitN : Nat := 0
  seq : Nat := 0
  deriving DecidableEq, Repr, Inhabited

/-- Caldera words of the estimation and of Scarab (R193, R215, R216, R220, R272). -/
structure Caldera where
  charge : ChargeMirror := {}           -- R193
  capA : List (Nat × List Byte) := []   -- R216; copy A by entry, 32 bytes of Table 08-9; reset blank
  capB : List (Nat × List Byte) := []   -- R216; copy B; reset blank
  capWait : List Nat := []              -- R217; entries with WRITE_PENDING, channel order; reset none
  capHour : List (Nat × Nat) := []      -- R218; local time (ms) of an entry's newest learning write; reset none
  capExempt : List Nat := []            -- R218; waiting entries exempt from the hour; reset none
  impSet : Nat := 0                     -- R220; header; reset 0
  impSeq : Nat := 0                     -- R220; round SEQ; reset 0
  imp : List (Nat × Nat) := []          -- R220; words of Table 08-10; reset blank
  impDue : Bool := false                -- R220; a round is due; reset false
  impRound : Option Nat := none         -- R220; words of the running round written so far; reset none
  impStopped : Bool := false            -- R220; the write stop has interrupted the round; reset false
  scarabS : List (Nat × Nat) := []      -- R272; mirror words of strings, Table 10-13; reset blank
  scarabB : List (Nat × Nat) := []      -- R272; of bays; reset blank
  deriving DecidableEq, Repr, Inhabited

/-- The estimate of the domain. -/
structure EstSt where
  cells : List (Nat × CellSt) := []     -- R171; by channel table entry; reset none
  strs : List (Nat × StrEst) := []      -- R171 to R192; by string; reset none
  bays : List BayEst := List.replicate 5 {} -- R188, R231; bays 0 to 3 and the domain; reset empty
  period : Nat := 100                   -- R124; P of the sweep in estimation, ms; default 100
  due : Bool := false                   -- R194, R219; the rebuild from Caldera waits for the first sweep after boot; reset false
  ready : Bool := false                 -- R194; the cell state has been built since boot; reset false
  gapPending : Option Nat := none       -- R194; plant time of the mirror the cell state was rebuilt from, until the first manifest; reset none
  deriving DecidableEq, Repr, Inhabited

/-- The verdict engine (R234 to R248). -/
structure VerdictSt where
  recs : List (VKey × VRec) := []       -- R238; persistence, latch and acknowledgement records; reset none
  fast : List (VKey × VRec) := []       -- R245; fast-row records of the leader, runs in ms; reset none
  overflow : List Nat := []             -- R243; rows in overflow; reset none
  outTrips : List (VKey × Rule × Curve × Curve × VRec) := [] -- R465; outgoing TRIP rows still driving, with their threshold curves; reset none
  notes : List RowNote := []            -- R244, R247; row records of the evaluation under way, written at its end; reset none
  tripReq : Bool := false               -- R242; TRIP_REQ driven high; reset false
  held : Nat := 0                       -- R72, R232; sweeps since the ESI last delivered limits; reset 0
  zeroed : Bool := false                -- R438, R446; every limit published as 0 with DRAIN set; reset false
  opens : List (Nat × Bool) := []       -- R241; open requests of this stage (string, TRIP severity); reset none
  drains : List Nat := []               -- R241; bays whose drain is requested in this stage; reset none
  deriving DecidableEq, Repr, Inhabited

/-- Scarab (R252 to R272). -/
structure ScarabSt where
  strs : List (Nat × Inst) := []        -- R252; string instances; reset none (none present)
  bays : List (Nat × Inst) := []        -- R253; bay instances; reset none (none populated)
  bootReads : List Nat := []            -- R260; strings whose DZS-2 is read after training; reset none
  bootBays : List Nat := []             -- R260; bays not yet treated after the boot reads of their strings; reset none
  events : List (InstKey × Nat) := []   -- R255; events raised within a step of Scarab, before their delivery; reset none
  quota : List (Nat × Nat) := []        -- R264; insertion slots left to each bay in the present verdict stage; reset none
  deriving DecidableEq, Repr, Inhabited

/-! ## Precharge channels (chapter 11) -/

/-- A phase of a precharge channel (R276, R279, R280, R288). -/
structure Leg where
  want : Option (Bool × Bool) := none -- R276; outputs H and L that follow the dead time which runs; reset none
  off : Bool := false               -- R288; off until its next turn-on instant; reset false
  inCycle : Bool := false           -- R279; its valley has not come since its turn-on; reset false
  late : Bool := false              -- R279; a turn-on instant has passed before the valley; reset false
  ended : Bool := false             -- R280; a cycle has ended that is not counted for lock yet; reset false
  hit : Bool := false               -- R280; that cycle's valley fell within the window; reset false
  deriving DecidableEq, Repr, Inhabited

/-- The sinc3 filter of one modulator (R278): integrators, differences, and the constant run of Table 11-4. -/
structure Sdm where
  i1 : Nat := 0                     -- R278; first integrator, 25 bits; reset 0 (log 20)
  i2 : Nat := 0                     -- R278; second integrator; reset 0 (log 20)
  i3 : Nat := 0                     -- R278; third integrator; reset 0 (log 20)
  c1 : Nat := 0                     -- R278; first difference's delay; reset 0 (log 20)
  c2 : Nat := 0                     -- R278; second; reset 0 (log 20)
  c3 : Nat := 0                     -- R278; third; reset 0 (log 20)
  last : Bool := false              -- Table 11-4; newest bit; reset false (log 20)
  run : Nat := 0                    -- Table 11-4; clocks it has stood, at most 64; reset 0
  deriving DecidableEq, Repr, Inhabited

/-- A precharge channel (R275 to R293). -/
structure PreCh where
  state : Nat := 0                  -- R282; Table 11-3; reset OFF
  vTarget : Nat := 0                -- R283; mV; reset 0
  iSet : Int := 0                   -- R284, R285; mA; reset 0
  sdmOut : Sdm := {}                -- R278; filter of SDM_c_VOUT
  sdmSrc : Sdm := {}                -- R278; filter of SDM_c_VSRC
  volts : Bool := false             -- R12; a decimated voltage exists; reset false
  vOut : Int := 0                   -- R278; newest decimated output voltage, mV; reset 0
  vSrc : Int := 0                   -- R278; newest source voltage, mV; reset 0
  vLatch : Nat := 0xFFFFFFFF        -- R278; V_OUT latched at the newest sample instant, mV; reset not available (R12)
  validRun : Nat := 0               -- R283; consecutive samples that pass SENSE (12.8 us each); reset 0
  done : Bool := false              -- R285; reset false
  fault : Nat := 0                  -- R290; newest fault of Table 11-4; reset 0
  shortCount : Nat := 0             -- R286; reset 0
  lastShort : Option Nat := none    -- R286; local time of the last SHORT, ns; reset none
  lastShortPlant : Nat := 0         -- R286; its plant time; reset 0
  stored : Nat × Bool × Nat := (0, false, 0) -- R286; Caldera word: SHORT_COUNT, LOCKOUT, plant time of the last SHORT; reset blank
  stands : Bool := false            -- R286; the START still stands; reset false
  probeAt : Nat := 0                -- R284; local time at which PROBE began, ns; reset 0
  recent : List Int := []           -- R290; V_OUT of the last 1 ms, newest first; reset none
  full : List Int := []             -- R285; V_OUT, newest first, while I_SET stayed at I_RUN, at most 7,814 samples; reset none
  preEn : Bool := false             -- R283; PRE_EN_c driven high; reset false
  pwm : List (Bool × Bool) := List.replicate 4 (false, false) -- R276; PWM H and L per phase; reset low
  legs : List Leg := List.replicate 4 {} -- R276, R279; per phase
  answer : Option Bool := none      -- R257, R283; the PWI's answer on its way to Scarab; reset none
  before : Option (Nat × Nat × Option Nat × Nat) := none -- R290; state, SHORT_COUNT and last SHORT before the newest SHORT; reset none
  active : List Nat := []           -- R287; phases switching; reset none
  disabled : List Nat := []         -- R289; phases disabled by OVERLOAD; reset none
  acc : List Rat := [0, 0, 0, 0]    -- R289; slow-limit accumulators, A^2 ms; reset 0
  current : List Int := [0, 0, 0, 0] -- R278; phase currents, mA; reset 0
  band : List Int := [0, 0, 0, 0]   -- R280; hysteresis band per phase, mA; reset 0
  lockRun : Nat := 0                -- R280; consecutive cycles in lock; reset 0
  missRun : Nat := 0                -- R280; consecutive cycles that miss; reset 0
  syncLocked : Bool := false        -- R280; SYNC_LOCKED; reset false
  period : Option Nat := none       -- R280; last measured SYNC period, ns; reset none
  syncLost : Bool := false          -- R280; SYNC_LOST; reset false
  rot : Nat := 0                    -- R281; rotation r; reset 0
  maxReq : Nat := 0                 -- R287; greatest n_req of the running rotation; reset 0
  shed : Option Nat := none         -- R287; phase being shed; reset none
  shedCycle : Nat := 0              -- R287; its cycles since the rotation boundary; reset 0
  fastCount : Nat := 0              -- R288; 16 bits; reset 0
  fastWin : List Nat := []          -- R288; local times of crossings within 1 ms, ns; reset none
  enabledSync : Bool := false       -- R280; a SYNC edge has been seen since the channel was enabled; reset false
  record_ : RunRecord := {}         -- R292; newest run record received from the leader
  deriving DecidableEq, Repr, Inhabited

/-! ## Switch island (chapter 12) -/

/-- A switch channel (R296 to R318). -/
structure SwCh where
  state : Nat := 0                  -- R317; Table 12-7; reset OFF
  commanded : Bool := false         -- R307, R308; commanded state, non-volatile; reset false
  cause : Nat := 0                  -- R317; Table 12-8, non-volatile; reset NONE
  failActive : Bool := false        -- R310; in its stored fail-safe state; reset false
  began : Nat := 0                  -- R297; local time at which the present attempt began, ms; reset 0
  attempts : Nat := 0               -- R303; counted attempts of the newest turn-on; reset 0
  shortNow : Nat := 0               -- R298; short attempts of the present turn-on or ON; reset 0
  shorts : Nat := 0                 -- R318; short attempts since SWITCH.RESET, 8 bits; reset 0
  blankOver : Bool := false         -- R299; the attempt's blanking has ended; reset false
  inLimit : Bool := false           -- R299; in current limit; reset false
  driveDone : Bool := false         -- R297; the type's own drive phase has ended; reset false
  prior : Option Nat := none        -- R301, R312; state before PAUSED; reset none
  dipWasOn : Bool := false          -- R312; was in steady ON when its feed dipped; reset false
  dipPause : Bool := false          -- R312; PAUSED by a dip of the feed; reset false
  afterShort : Bool := false        -- R298; waits SHORT_GAP for its second attempt; reset false
  afterThermal : Bool := false      -- R300; waits for its junction; reset false
  thermalOn : Bool := false         -- R300; the junction shut down in steady ON; reset false
  ready : Bool := false             -- R301; the awaited restart came while PAUSED; reset false
  openOn : Bool := false            -- R305; OPEN_LOAD_ON; reset false
  openOff : Bool := false           -- R306; OPEN_LOAD_OFF; reset false
  shortSup : Bool := false          -- R306; SHORT_TO_SUPPLY; reset false
  offLast : Nat := 0                -- R306; newest agreeing finding, 0 none, 1 LOAD, 2 OPEN, 3 SHORT; reset 0
  offRun : Nat := 0                 -- R306; consecutive tests that agree; reset 0
  current : Int := 0                -- R318; I_OUT of this module, mA; reset 0
  vOut : Nat := 0                   -- R318; V_OUT, mV; reset 0
  partnerOn : Bool := false         -- R314; the partner's channel is in steady ON; reset false
  deriving DecidableEq, Repr, Inhabited

/-- The switch island. -/
structure Switches where
  powered : Bool := false                             -- R49; either feed above its threshold; reset false
  noFeed : Bool := false                              -- R49; both feeds have fallen below 7.0 V and none has come back above 8.0 V; reset false (log 20)
  chans : List SwCh := List.replicate 24 {}           -- R296
  failsafe : List SwFailsafe := List.replicate 24 .off -- R310; stored FAILSAFE, non-volatile; reset OFF (log 20)
  dip : List Bool := [false, false]                   -- R49; VSW1, VSW2 between 7.0 V and 9 V or below; reset false
  expired : Bool := false                             -- R310; watchdog expired; reset false
  suspended : Bool := false                           -- R312; watchdog suspended for DORMANT; reset false
  groupT : List Int := List.replicate 6 (-32768)      -- R318; die temperatures, 0.01 degC; reset not available (R12)
  groupHot : List Bool := List.replicate 6 false      -- R301; die above its limit; reset false
  image : List Bool := List.replicate 24 false        -- R309; the commanded image the VSI owns; reset OFF
  partnerCur : List Int := List.replicate 24 0        -- R314; the follower's channel currents, mA; reset 0
  deriving DecidableEq, Repr, Inhabited

/-! ## Pair operation (chapter 14) -/

/-- A resynchronisation as the follower sees it (R349). -/
structure Resync where
  requested : Bool := false         -- R349; RESYNC sent, chunks awaited; reset false
  next : Nat := 0                   -- R349; block number that comes next; reset 0
  lost : List Nat := []             -- R349; earlier blocks still missing; reset none
  steps : List (Nat × InstKey × Inst) := [] -- R259, R349; step images received since the request, with their sweep, newest first; reset none
  buffered : List Manifest := []    -- R349; manifests buffered from s0 + 1 on; reset none
  aborts : List Nat := []           -- R349; local times of abandoned ones within 10 min, ms; reset none
  installed : Bool := false         -- R342, R349; the state installed still stands for the leader's; reset false
  failed : Bool := false            -- R349; PAIR_SYNC_FAILED, requested again every 60 s; reset false
  done : Bool := false              -- R356; one has completed since boot; reset false
  deriving DecidableEq, Repr, Inhabited

/-- The pair logic of the module. -/
structure PairSt where
  role : Role := .none_             -- R339; reset NONE
  partnerRole : Option Role := none -- R361; from the newest keepalive; reset none
  keep : Keepalive := {}            -- R343; newest keepalive of the partner
  tokenLow : Bool := false          -- R340; LEAD_TOKEN reads low; reset high
  driving : Bool := false           -- R341; this slot A module holds the wire low; reset false
  holdRun : Bool := false           -- R341; the token hold timer runs; reset false
  lanes : List Bool := [false, false] -- R344; lane up; reset down
  laneCrc : Nat := 0                -- R343; LANE_CRC_ERR, 16 bits; reset 0
  silent : Bool := true             -- R344; the link is silent; reset silent
  lastValid : Nat := 0              -- R361; local time of the newest valid frame, ns; reset 0
  digests : List (Nat × Nat) := []  -- R347; own digests (sweep, digest), newest first; reset none
  partnerDigest : Option (Nat × Nat) := none -- R348; newest digest of the partner, until compared; reset none
  lastDigest : Option Nat := none   -- R355; sweep of the newest DIGEST received; reset none
  equalRun : Nat := 0               -- R342; consecutive equal digests; reset 0
  mismatches : Nat := 0             -- R361; DIGEST_MISMATCHES, 16 bits; reset 0
  resync : Resync := {}             -- R349
  serve : Bool := false             -- R349; the leader streams its image to the follower; reset false
  snap : Option StateImage := none  -- R349; snapshot for the follower; reset none
  wantHandover : Bool := false      -- R351; a handover is wanted; reset false
  offered : Option Nat := none      -- R353; sweep h of the standing offer; reset none
  accepted : Option Nat := none     -- R353; sweep h accepted; reset none
  offerFails : Nat := 0             -- R353; offers failed in a row; reset 0
  depart : Option Nat := none       -- R354; CAUSE of a DEPART received; reset none
  breaks : List Nat := []           -- R354; rings whose BREAK names the leader-side end segment; reset none
  splitDone : Bool := false         -- R354; the 1 s of a split ring has passed; reset false
  noGeyser : Bool := false          -- R354; no leader's GEYSER arrives; reset false
  partnerParking : Bool := false    -- R358; PARK_NOTICE received; reset false
  handovers : Nat := 0              -- R361; 16 bits; reset 0
  failovers : Nat := 0              -- R361; 16 bits; reset 0
  tRole : Nat := 0                  -- R361; plant time of the last role change; reset 0
  gen : Nat := 0                    -- R440; estimation generation in force; reset 0
  partnerGen : Option Nat := none   -- R440; GEN_OWN the follower stated; reset none
  stopped : Bool := false           -- R340; the wire names the other slot: no leader action; reset false
  vsiDepart : Bool := false         -- R342; this module's VSI reset has sent DEPART; reset false
  bootWait : Bool := false          -- R342; 10 s without a valid frame after the lanes were enabled; reset false
  setWanted : Bool := false         -- R350; a SET request is outstanding; reset false
  setBuf : List (Nat × List Byte) := [] -- R350; chunks received of the leader's ACTIVE set, newest first; reset none
  partnerTime : Int := 0            -- R82; newest offset to the leader, ns; reset 0
  gapped : Bool := false            -- R72; a leader's estimate has a gap that the partner's has not; reset false
  takeAt : Nat := 0                 -- R355; local time of D, ns; reset 0
  takeover : Bool := false          -- R352, R355; a failover has driven the wire and its takeover point is still to come; reset false
  then_ : Nat := 0                  -- R383, R438; what follows a completed handover: 0 nothing, 1 restart, 2 install; reset 0
  deriving DecidableEq, Repr, Inhabited

/-! ## Dravziper Command Protocol (chapter 15) -/

/-- An enrolled host key (R371). -/
structure HostKey where
  key : Nat := 0
  keyId : Nat := 0
  privilege : Nat := 0
  deriving DecidableEq, Repr, Inhabited

/-- An open session (R368 to R372). -/
structure Session where
  id : Nat := 0
  keyId : Nat := 0
  privilege : Nat := 0
  port : NetPort := .eth1
  src : Nat := 0
  confirmed : Bool := false
  /-- highest accepted sequence -/
  hi : Nat := 0
  /-- accepted numbers with their stored status, newest first, the last 64 -/
  statuses : List (Nat × Nat) := []
  streamSeq : Nat := 0
  /-- the session it replaces at its first valid request (R370) -/
  replaces : Option Nat := none
  deriving DecidableEq, Repr, Inhabited

/-- A group 0x04 event command awaiting delivery (R391): request opcode, payload as sent in order. -/
structure PendCmd where
  session : Nat := 0
  seq : Nat := 0
  opcode : Nat := 0
  ident : Nat := 0
  /-- epoch of its producer, the MGI (R70) -/
  epoch : Nat := 0
  deriving DecidableEq, Repr, Inhabited

/-- A subscription (R387). -/
structure Subscr where
  id : Nat := 0
  session : Nat := 0
  kind : Nat := 0
  decimate : Nat := 1
  sevMin : Nat := 0
  first : Nat := 0
  count : Nat := 0
  destPort : Nat := 0
  rate : Nat := 0
  dropped : Bool := false
  /-- where its packets go: the request's source address, with DEST_PORT (R362) -/
  dst : Nat := 0
  /-- kind 7: the newest records of the domain and of the local series that it has passed (R388) -/
  sentDom : Option Nat := none
  sentLoc : Option Nat := none
  deriving DecidableEq, Repr, Inhabited

/-- A diagnostic request awaiting ring replies (R394). -/
structure DiagWait where
  session : Nat := 0
  seq : Nat := 0
  opcode : Nat := 0
  /-- the worker, ring × 512 + north hop, or 0 -/
  ident : Nat := 0
  left : Nat := 0
  mask : Nat := 0
  failed : Bool := false
  deriving DecidableEq, Repr, Inhabited

/-- The command protocol (R362 to R396). -/
structure DcpSt where
  keys : List HostKey := []             -- R371; in Caldera; reset none
  sessions : List Session := []         -- R372; reset none
  pend : List PendCmd := []             -- R391; in order of receipt; reset none
  subs : List Subscr := []              -- R387; reset none
  nextSub : Nat := 1                    -- R387; next STREAM_ID; reset 1 (log 20)
  waits : List DiagWait := []           -- R394; reset none
  short_ : Nat := 0                     -- R394; DCP_SHORT, 16 bits; reset 0
  lengthErr : Nat := 0                  -- R394; DCP_LENGTH_ERROR; reset 0
  headerErr : Nat := 0                  -- R394; DCP_HEADER_ERROR; reset 0
  noSession : Nat := 0                  -- R394; DCP_NO_SESSION; reset 0
  authFail : Nat := 0                   -- R394; DCP_AUTH_FAIL; reset 0
  replay : Nat := 0                     -- R394; DCP_REPLAY; reset 0
  rateDrop : Nat := 0                   -- R394; DCP_RATE_DROP; reset 0
  queueFull : Nat := 0                  -- R394; DCP_QUEUE_FULL; reset 0
  streamDrop : Nat := 0                 -- R394; STREAM_DROP; reset 0
  refused : Nat := 0                    -- R394; SESSION_REFUSED; reset 0
  rateSec : Nat := 0                    -- R374; the local second that rateN counts in; reset 0
  rateN : Nat := 0                      -- R374; request datagrams accepted in it; reset 0
  fails : List Nat := []                -- R367; local times (ms) of trailer failures within 1 s; reset none
  lenReplies : List Nat := []           -- R367; local times (ms) of LENGTH_ERROR replies within 1 s; reset none
  service : Bool := false               -- R375; SERVICE entered and not left; reset false
  restart : Bool := false               -- R383; DOMAIN.RESTART accepted, its delay runs; reset false
  bootAt : Nat := 0                     -- R383; local time of the last boot, ns, for BOOT_TIME; reset 0
  loaded : Bool := false                -- R375; the ACTIVE set has been loaded or found absent; reset false
  deriving DecidableEq, Repr, Inhabited

/-! ## CAN controllers (chapter 16) -/

/-- Error states of Table 16-7; `off` and `listen` of R399 are the mode. -/
inductive CanErr where
  | active | passive | busOff | busOffHeld
  deriving DecidableEq, Repr, Inhabited

/-- What a receive object holds (R401, R402). -/
structure CanRxSt where
  frame : Option CanFrame := none
  stamp : Nat := 0                      -- R405; the counter at the frame's SOF
  lost : Bool := false
  taken : Bool := true
  timedOut : Bool := false
  deriving DecidableEq, Repr, Inhabited

/-- A pending frame of a transmit object (R404); `mirrored` frames are objects of the other controller. -/
structure CanPend where
  obj : Nat := 0
  mirrored : Bool := false
  ident : Nat := 0
  ide : Bool := false
  fdf : Bool := false
  brs : Bool := false
  data : List Byte := []
  retries : Nat := 0
  begun : Bool := false                 -- R404; the transmission of these data has begun
  deriving DecidableEq, Repr, Inhabited

/-- A CAN controller (R397 to R412). -/
structure CanCtl where
  ok : Bool := false                    -- R410; the controller entry is valid and not OFF; reset false
  err : CanErr := .active               -- R406; reset ERROR_ACTIVE
  tec : Nat := 0                        -- R406; reset 0
  rec_ : Nat := 0                       -- R406; reset 0
  mirroring : Bool := false             -- R407; it mirrors the other PCS channel; reset false
  clean : List (Nat × Nat) := []        -- R407; clean periods in a row per limit object after a bus-off; reset none
  recoveries : List Nat := []           -- R406; local times (ms) of automatic recoveries within 60 s; reset none
  pend : List CanPend := []             -- R404; pending frames; reset none
  cur : Option CanPend := none          -- R404; the frame whose transmission has begun; reset none
  stamp : Nat := 0                      -- R405; the counter captured at the SOF of the last frame it sent or took; reset 0
  abandoned : List Nat := []            -- R404; objects with TX_ABANDONED; reset none
  rx : List (Nat × CanRxSt) := []       -- R401; receive objects; reset empty
  badRx : List Nat := []                -- R410; invalid receive entries; reset none
  badTx : List Nat := []                -- R410; invalid transmit entries; reset none
  nRxOk : Nat := 0                      -- R412; RX_OK, 16 bits; reset 0
  nRxUn : Nat := 0                      -- R412; RX_UNMATCHED; reset 0
  nTxOk : Nat := 0                      -- R412; TX_OK; reset 0
  nTxFail : Nat := 0                    -- R412; TX_FAIL; reset 0
  nBusOff : Nat := 0                    -- R412; BUS_OFF; reset 0
  nPex : Nat := 0                       -- R412; PEX; reset 0
  deriving DecidableEq, Repr, Inhabited

/-- The field bus island's PCS link. -/
structure CanSt where
  ctl : List CanCtl := List.replicate 3 {} -- R397; CAN-A, CAN-B, CAN-C
  lastLimit : Nat := 0                  -- R408; local time (ns) from which PCS_LINK_AGE runs; reset 0
  deriving DecidableEq, Repr, Inhabited

/-! ## Firmware and configuration sets (chapter 18) -/

/-- A set slot (R389, R443). STATE codes of the slot descriptor. -/
structure SetSlot where
  state : Nat := 0                      -- R389; reset EMPTY
  format : Nat := 0                     -- R389; reset 0
  size : Nat := 0                       -- R389; reset 0
  blocks : List (Nat × List Byte) := [] -- R389; blocks held (offset, data); reset none
  received : Nat := 0                   -- R389; bytes held; reset 0
  setId : Nat := 0                      -- R389; reset 0
  actSweep : Nat := 0                   -- R389; reset 0
  content : Option ConfigSet := none    -- R441; decoded content; reset none
  deriving DecidableEq, Repr, Inhabited

/-- CHECK_RESULT (R389). -/
structure CheckResult where
  result : Nat := 0
  table : Nat := 0
  row : Nat := 0
  loc : Nat := 0xFFFFFFFF
  name : String := ""
  deriving DecidableEq, Repr, Inhabited

/-- The three set slots and what surrounds them. -/
structure SetsSt where
  active : SetSlot := {}                -- R443; ACTIVE
  pending : SetSlot := {}               -- R443; PENDING
  previous : SetSlot := {}              -- R443; PREVIOUS
  check : CheckResult := {}             -- R389; CHECK_RESULT
  holder : Option Nat := none           -- R389; the session that holds PENDING; reset none
  revertAt : Option Nat := none         -- R443; a revert waits for this sweep; reset none
  safeHold : Bool := false              -- R446; SAFE_HOLD; reset false
  safeLate : Bool := false              -- R446; the 300 s have passed; reset false
  safeGrant : Bool := false             -- R446; the leases of the entry are still to be granted; reset false
  incompatible : Bool := false          -- R447; SETTINGS_INCOMPATIBLE; reset false
  deriving DecidableEq, Repr, Inhabited

/-- An image on trial (R434, R435). -/
structure Trial where
  boots : Nat := 0                      -- R434; boot attempts counted
  leftMs : Nat := 600000                -- R435; running time left, ms
  deriving DecidableEq, Repr, Inhabited

/-- The update path (R428 to R440, R449). -/
structure UpdSt where
  state : Nat := 0                      -- R430; Table 18-2; reset IDLE
  size : Nat := 0                       -- R430; reset 0
  version : Nat := 0                    -- R430; reset 0
  blocks : List (Nat × List Byte) := [] -- R430; blocks held in STAGING (offset, data), newest first; reset none
  received : Nat := 0                   -- R430; distinct bytes held; reset 0
  holder : Option Nat := none           -- R430; the session that holds the transfer; reset none
  svc : Bool := false                   -- R449; the transfer arrives on SVC; reset false
  result : Nat := 0                     -- R393; RESULT; reset OK
  actTime : Nat := 0                    -- R438; plant time; reset 0
  atOnce : Bool := false                -- R438; ACT_TIME taken as 2 s after receipt; reset false
  prepared : Bool := false              -- R438; limits are 0 with DRAIN set until the restart; reset false
  running : ImageFacts := {}            -- R428; the image in RUNNING
  retreat : ImageFacts := {}            -- R428; the image in RETREAT
  staging : Option ImageFacts := none   -- R428; the verified image in STAGING; reset none
  phase : Nat := 0                      -- R433; install phase in Caldera: 0 none, 1 COPY_RETREAT, 2 WRITE_RUNNING, 3 BOOT_NEW; reset 0
  trial : Option Trial := none          -- R434; reset none
  floor : Nat := 0                      -- R431; rollback floor, in Caldera; reset 0
  caraFloor : Nat := 0                  -- R449; rollback floor of the CPI; reset 0
  caraVersion : Nat := 0                -- R370, R449; version of the CPI's running firmware; reset 0 (log 50)
  ownerKey : Option Nat := none         -- R432; in Caldera; reset none
  carapace : Bool := false              -- R449; a CARAPACE image has been handed to the CPI loader; reset false
  bootFail : Bool := false              -- R436; neither image passes its BODY_HASH; reset false
  deriving DecidableEq, Repr, Inhabited

/-! ## What the module sends -/

/-- Something the module has sent or driven, as the outside meets it (log 7). -/
inductive Out where
  /-- a frame leaves a ring port; its bytes are `Module.wireBytes` -/
  | ring (port : Nat) (f : EndFrame)
  /-- a pair frame: PTYPE of Table 14-4 and its content; its bytes are `Module.pairBytes` -/
  | pairKeepalive (k : Keepalive)
  | pairRing (port : Nat) (f : RingFrame)
  | pairManifest (m : Manifest)
  | pairTime (offset : Int)
  | pairDigest (sweep digest : Nat)
  | pairScarab (inst : InstKey) (img : Inst)
  | pairRun (chan : Nat) (r : RunRecord)
  | pairImage (image : Option (List Bool)) (currents : List Int)
  /-- the leader's report that a channel is in steady ON (R314) -/
  | pairSteady (chan : Nat)
  /-- a frame that the partner's end is to send, with its departure time -/
  | pairEnd (port : Nat) (f : EndFrame) (departure : Nat)
  | pairJournal (r : JRec)
  | pairHandover (kind sweep : Nat)
  | pairDepart (cause : Nat)
  | pairState (img : StateImage)
  | pairSet (slot offset : Nat) (data : List Byte)
  | pairCtrl (request slot gen : Nat) (blocks : List Nat)
  | pairPark
  /-- a CAN frame starts -/
  | can (ctl obj : Nat) (mirrored : Bool) (data : List Byte)
  /-- a DCP reply: port, destination, session, sequence, opcode, status, FLAGS, payload; its bytes are `dcpBytes` -/
  | dcp (port : NetPort) (dst session seq opcode status flags : Nat) (payload : List Byte)
  /-- a stream packet: destination, session, subscription, opcode, stream sequence, FLAGS, payload -/
  | stream (dst session sub opcode seq flags : Nat) (payload : List Byte)
  /-- a refresh from the VSI (image) or the MGI (none) to the SWI -/
  | refresh (image : Option (List Bool))
  /-- a START or STOP of a precharge channel enters the PWI (R257) -/
  | preCmd (chan : Nat) (start : Bool) (vTarget : Nat)
  /-- a PTP message sent by a master on a port, with its domain number (R76) -/
  | ptp (eth domain : Nat) (msg : PtpOut)
  deriving DecidableEq, Repr, Inhabited

/-! ## The module and the machine -/

/-- Everything of the module but the Carapace (R337). -/
structure Module where
  sup : Supply := {}
  isl : List IslandSt := List.replicate 9 {}         -- R69; in the order of Island
  time : TimeUnit := {}
  rep : CaraReport := {}                             -- R336; newest report of the Carapace; reset all zero (log 20)
  ports : List PortSt := List.replicate 32 {}        -- R121
  rings : List (Nat × RingSt) := []                  -- R115; by ring; reset none
  workers : List (Wk × WorkerSt) := []               -- by worker position; reset none
  sweep : SweepSt := {}
  bursts : List (Nat × BurstSt) := []                -- R143; by string; reset none
  dorm : DormSt := {}
  cal : Caldera := {}
  est : EstSt := {}
  ver : VerdictSt := {}
  scarab : ScarabSt := {}
  pre : List PreCh := List.replicate 4 {}            -- R275
  sw : Switches := {}
  pair : PairSt := {}
  dcp : DcpSt := {}
  can : CanSt := {}
  jou : Journal := {}
  al : Alerts := {}
  sets : SetsSt := {}
  upd : UpdSt := {}
  free : Nat := 0                                    -- the model's own; free values drawn (log 1); reset 0
  outbox : List Out := []                            -- the model's own; what the module has sent, newest first (log 7); reset empty
  deriving DecidableEq, Repr, Inhabited

/-- The machine: commands that wait, first in first out; the Carapace; the rest of the module. -/
structure State where
  pending : List Instr := []                         -- the queue of waiting commands; reset empty
  cara : Carapace := {}
  m : Module := {}
  deriving DecidableEq, Repr, Inhabited

/-- The machine right after reset: without supply, nothing read, nothing placed. -/
def State.reset : State := {}

end Sys2Proof.Machine
end

