-- ==== Sys2Proof/Machine/Ops.lean ====
section
/-! DEFINITION. The named operations every meaning is written over: the configuration in force, time, islands,
what the module sends, journal records (R413 to R419) and conditions with their alert bits (R416, R424, R463). -/

namespace Sys2Proof

open Machine

/-! ## The configuration set as tables (chapter 01) -/

/-- Bay of a ring (R3). -/
def bayOfRing (pair : Bool) (r : Nat) : Nat := r * 4 / (if pair then 32 else 16)

/-- W of a ring: workers in the map (R21). -/
def ConfigSet.ringW (c : ConfigSet) (r : Nat) : Nat := (c.workers.filter (fun w => w.1.1 = r)).length

/-- Populated rings in order (R21). -/
def ConfigSet.rings (c : ConfigSet) : List Nat := (List.range 32).filter (fun r => 0 < c.ringW r)

/-- Workers of a ring, by north hop. -/
def ConfigSet.workersOf (c : ConfigSet) (r : Nat) : List (Wk × WorkerEntry) := c.workers.filter (fun w => w.1.1 = r)

/-- Workers of a string. -/
def ConfigSet.workersOfString (c : ConfigSet) (s : Nat) : List (Wk × WorkerEntry) :=
  c.workers.filter (fun w => w.2.string = s)

/-- Present strings of a bay, in string order (R29). -/
def ConfigSet.stringsOf (c : ConfigSet) (b : Nat) : List Nat := (c.strings.filter (fun s => s.2.bay = b)).map (·.1)

/-- Populated bays (R19). -/
def ConfigSet.bays (c : ConfigSet) : List Nat := (List.range 4).filter (fun b => (c.stringsOf b).length ≠ 0)

/-- A string's entry. -/
def ConfigSet.str (c : ConfigSet) (s : Nat) : StringEntry := look {} c.strings s

/-- The worker position of a string's DZS-2. -/
def ConfigSet.dzsOf (c : ConfigSet) (s : Nat) : Wk := ((c.str s).ring, (c.str s).dzsHop)

/-- Index of a channel table entry (R30). -/
def chanIx (w : Wk) (ch : Nat) : Nat := (w.1 * 256 + (w.2 - 1)) * 24 + ch

/-- Worker position of a channel table entry. -/
def wkOfIx (e : Nat) : Wk := (e / 24 / 256, e / 24 % 256 + 1)

/-- Channel number of a channel table entry. -/
def chOfIx (e : Nat) : Nat := e % 24

/-- Used cells of a string by position (R25). -/
def ConfigSet.cellsOf (c : ConfigSet) (s : Nat) : List (Nat × ChannelEntry) :=
  sortBy (fun p => (p.2.position : Int)) (c.channels.filter (fun p => p.2.string = s))

/-- Used cells of a worker by channel. -/
def ConfigSet.cellsAt (c : ConfigSet) (w : Wk) : List (Nat × ChannelEntry) :=
  c.channels.filter (fun p => wkOfIx p.1 = w)

/-- Lowest NAMEPLATE_CAPACITY of a string, mAh: 1 C in mA (R142, R230). -/
def ConfigSet.cRef (c : ConfigSet) (s : Nat) : Nat := (leastN ((c.cellsOf s).map (·.2.nameplate))).getD 0

/-- A curve set by index. -/
def ConfigSet.curveSet (c : ConfigSet) (i : Nat) : CurveSet := c.curveSets.getD i {}

end Sys2Proof

namespace Sys2Proof.Machine

/-! ## Codes of enumerations -/

/-- SOURCE code of an island (Table 17-1). -/
def islandCode : Island → Nat
  | .mgi => 0 | .rgi => 1 | .esi => 2 | .vsi => 3 | .pwi => 4 | .swi => 5 | .cpi => 6 | .fbi => 7 | .pri => 8

/-- Role code (Table 14-1). -/
def roleCode : Role → Nat
  | .none_ => 0 | .leader => 1 | .syncing => 2 | .ready => 3 | .parked => 4

/-- Slot code of replies and records: 0 A, 1 B, 2 SINGLE, 3 invalid. -/
def slotNo : SlotCode → Nat
  | .a => 0 | .b => 1 | .single => 2 | .invalid => 3

/-- Time state code (Table 15-11). -/
def timeCode : TimeState → Nat
  | .unset => 0 | .locked => 1 | .holdover => 2 | .freerun => 3

/-- Tone code of RING records (Table 15-15). -/
def toneCode : Tone → Nat
  | .tone => 0 | .silent => 1 | .dead => 2

/-! ## Configuration in force (R441, R443) -/

/-- The content of the ACTIVE set while it is in force, or what a SAFE_HOLD runs on (R446); nothing is populated
without one. -/
def Module.conf? (m : Module) : Option ConfigSet :=
  if m.sets.active.state = 6 then m.sets.active.content
  else if m.sets.safeHold then m.sets.active.content.map ConfigSet.safe
  else none

/-- The content of the ACTIVE set, or an empty set. -/
def Module.cfg (m : Module) : ConfigSet := m.conf?.getD {}

/-- A pair domain (R15). -/
def Module.isPair (m : Module) : Bool := m.sup.slot = .a ∨ m.sup.slot = .b

/-- Rings of the domain configuration (R2). -/
def Module.ringCount (m : Module) : Nat := if m.isPair then 32 else 16

/-! ## Islands, leadership, time -/

/-- An island runs. -/
def Module.up (m : Module) (i : Island) : Bool := (m.isl.getD (islandCode i) {}).up

/-- One island rewritten. -/
def Module.modIsl (m : Module) (i : Island) (f : IslandSt → IslandSt) : Module :=
  { m with isl := modAt m.isl (islandCode i) f }

/-- The module performs leader work (R340), or is the single module. -/
def Module.leads (m : Module) : Bool := m.pair.role = .leader

/-- The module follows (R345). -/
def Module.follows (m : Module) : Bool := m.pair.role = .syncing ∨ m.pair.role = .ready

/-- The module is powered and out of RECOVERY. -/
def Module.runs (m : Module) : Bool := m.sup.phase = .on ∧ m.sup.recovery = false

/-- The port of this module at an end of a ring, if the end is its own; the south end is `true`. -/
def Module.ownPort (m : Module) (r : Nat) (south : Bool) : Option Nat :=
  if m.sup.slot = .a then (if south then none else some r)
  else if m.sup.slot = .b then (if south then some r else none)
  else some (2 * r + (if south then 1 else 0))

/-- The ring and the end at a port of this module; ports from 32 on are the partner's (log 40). -/
def Module.endOfPort (m : Module) (p : Nat) : Nat × Bool :=
  if m.isPair then (p % 32, (m.sup.slot = .b) != decide (32 ≤ p)) else (p / 2, decide (p % 2 = 1))

/-- Local timescale in ms. -/
def Module.ms (m : Module) : Nat := m.time.now / 1000000

/-- Plant time, 0 while UNSET (R13, R83). -/
def Module.plant (m : Module) : Nat :=
  if m.time.state = .unset then 0 else ((m.time.now : Int) + m.time.offset).toNat

/-- Plant time, or the local timescale while UNSET (R404, R405). -/
def Module.plantOrLocal (m : Module) : Nat := if m.time.state = .unset then m.time.now else m.plant

/-- A local time as plant time; in UNSET the sweeps run on the local timescale (R83). -/
def Module.toPlant (m : Module) (t : Nat) : Nat :=
  if m.time.state = .unset then t else ((t : Int) + m.time.offset).toNat

/-! ## Sweep instants (R123) -/

/-- The period P under which a sweep was sampled, ms: a set that changes P leaves the sweeps before it their own (R124). -/
def Module.periodOf (m : Module) (k : Nat) : Nat :=
  match m.sweep.oldP with
  | some (j0, p) => if sweepAfter k j0 then m.sweep.period else p
  | none => m.sweep.period

/-- Local time of the sample instant of a sweep at or before the newest one, ns: each period lies between a sweep and the one
after it, and the first after a change of P is already the new one (R124). -/
def Module.instantOf (m : Module) (k : Nat) : Nat :=
  let n := sweepDiff m.sweep.j k
  let old : Nat × Nat := match m.sweep.oldP with
    | some (j0, p) => if sweepAfter j0 k then (sweepDiff j0 k, p) else (0, 0)
    | none => (0, 0)
  m.sweep.tj - ((n - old.1) * m.sweep.period + old.1 * old.2) * 1000000


/-- A new Caldera write may start (Table 02-8). -/
def Module.calOk (m : Module) : Bool := m.sup.writeStop = false

/-- A SEQ of the domain series (R417). -/
def domSeq (seq : Nat) : Bool := decide (seq < 9223372036854775808)

/-- Something sent (log 7). -/
def Module.emit (m : Module) (o : Out) : Module := { m with outbox := o :: m.outbox }

/-- Several things sent, in order. -/
def Module.emits (m : Module) (os : List Out) : Module := os.foldl Module.emit m

/-- The role changes, and T_ROLE with it (R361). -/
def Module.setRole (m : Module) (r : Role) : Module :=
  if m.pair.role = r then m else { m with pair := { m.pair with role := r, tRole := m.plant } }

/-- A worker's record. -/
def Module.wk (m : Module) (w : Wk) : WorkerSt := look {} m.workers w

/-- A worker's record rewritten. -/
def Module.modWk (m : Module) (w : Wk) (f : WorkerSt → WorkerSt) : Module :=
  { m with workers := put m.workers w (f (m.wk w)) }

/-- A ring's record. -/
def Module.ring (m : Module) (r : Nat) : RingSt := look {} m.rings r

/-- A ring's record rewritten. -/
def Module.modRing (m : Module) (r : Nat) (f : RingSt → RingSt) : Module :=
  { m with rings := put m.rings r (f (m.ring r)) }

/-- A port's record. -/
def Module.port (m : Module) (p : Nat) : PortSt := m.ports.getD p {}

/-- A port's record rewritten. -/
def Module.modPort (m : Module) (p : Nat) (f : PortSt → PortSt) : Module := { m with ports := modAt m.ports p f }

/-- A string instance of Scarab. -/
def Module.sInst (m : Module) (s : Nat) : Inst := look {} m.scarab.strs s

/-- A bay instance of Scarab. -/
def Module.bInst (m : Module) (b : Nat) : Inst := look {} m.scarab.bays b

/-- An instance of Scarab. -/
def Module.inst (m : Module) : InstKey → Inst
  | .str s => m.sInst s
  | .bay b => m.bInst b

/-- An instance of Scarab replaced. -/
def Module.setInst (m : Module) (k : InstKey) (i : Inst) : Module :=
  match k with
  | .str s => { m with scarab := { m.scarab with strs := put m.scarab.strs s i } }
  | .bay b => { m with scarab := { m.scarab with bays := put m.scarab.bays b i } }

/-- An instance of Scarab rewritten. -/
def Module.modInst (m : Module) (k : InstKey) (f : Inst → Inst) : Module := m.setInst k (f (m.inst k))

/-- A string's estimate. -/
def Module.strE (m : Module) (s : Nat) : StrEst := look {} m.est.strs s

/-- A string's estimate rewritten. -/
def Module.modStrE (m : Module) (s : Nat) (f : StrEst → StrEst) : Module :=
  { m with est := { m.est with strs := put m.est.strs s (f (m.strE s)) } }

/-- A bay's (0 to 3) or the domain's (4) estimate. -/
def Module.bayE (m : Module) (b : Nat) : BayEst := m.est.bays.getD b {}

/-- A bay's estimate rewritten. -/
def Module.modBayE (m : Module) (b : Nat) (f : BayEst → BayEst) : Module :=
  { m with est := { m.est with bays := modAt m.est.bays b f } }

/-- A cell's state. -/
def Module.cell (m : Module) (e : Nat) : CellSt := look {} m.est.cells e

/-- A cell's state rewritten. -/
def Module.modCell (m : Module) (e : Nat) (f : CellSt → CellSt) : Module :=
  { m with est := { m.est with cells := put m.est.cells e (f (m.cell e)) } }

/-- The state of a string is CLOSED or LIMITED (R230). -/
def closedState (st : Nat) : Bool := st = 4 ∨ st = 5

/-- Included strings of a bay (R230). -/
def Module.included (m : Module) (b : Nat) : List Nat :=
  (m.cfg.stringsOf b).filter (fun s => closedState (m.sInst s).state)

/-- A string is STALE while any of its workers is (R138). -/
def Module.strStale (m : Module) (s : Nat) : Bool :=
  (m.cfg.workersOfString s).any (fun w => 3 ≤ (m.wk w.1).held.age)

/-- The Carapace trip is in force for a bay (R336). While CPX_LOST stands, the keepalive gives the partner's
lever, and an absent partner counts as out of LOCKED. -/
def Module.tripInForce (m : Module) (b : Nat) : Bool :=
  let partnerLocked :=
    if bitAt m.rep.flags 2 then m.sup.peerPresent && m.pair.keep.leverLocked else m.rep.partnerLocked
  bitAt m.rep.tripMask b || (bitAt m.rep.tripMask (4 + b) && partnerLocked)

/-- The Carapace permits discharge (0) or charge (1) of a bay (R336). -/
def Module.permits (m : Module) (b d : Nat) : Bool := bitAt m.rep.dirPermit (2 * b + d)

/-- The starts and ends of transfers that a fit may still need: those of the last 130 s before sweep `k` (R147, R203). -/
def keepEdges (k p : Nat) (l : List (Nat × Nat)) : List (Nat × Nat) :=
  l.filter (fun e => decide (sweepDiff k e.2 * p < 130000) || sweepAfter e.2 k)

/-! ## Journal records (R413 to R419) -/

/-- INSTANCE as a record carries it: the slot in [31:30] for a module-local condition (R463). -/
def Module.instOf (m : Module) (code inst : Nat) : Nat :=
  if code ∈ localCodes then min (slotNo m.sup.slot) 2 * 1073741824 + inst else inst

/-- The newest queued record of the lowest severity present is dropped (R419). -/
def dropLowest (q : List (Bool × JRec)) : List (Bool × JRec) :=
  match leastN ((q.filter (fun r => r.2.severity ≠ sevTrip)).map (fun r => r.2.severity)) with
  | none => q
  | some s => (dropOnce s q.reverse).reverse
where
  dropOnce (s : Nat) : List (Bool × JRec) → List (Bool × JRec)
    | [] => []
    | r :: t => if r.2.severity = s then t else r :: dropOnce s t

/-- A record of this module (Table 17-1) with its fields taken from the state. -/
def Module.record (m : Module) (src : Island) (code sev scope inst : Nat) (value : Int) (payload : List Byte)
    (fall : Bool) (row alert : Nat) : JRec :=
  { plant := m.plant, local_ := m.time.now, sweep := m.sweep.verdicts.getD 0, code := code, severity := sev
    degraded := (m.isl.getD (islandCode src) {}).degraded, fall := fall, source := islandCode src
    origin := min (slotNo m.sup.slot) 2, role := roleCode m.pair.role, scope := scope, inst := inst
    row := row, alert := alert, value := value
    setId := if m.sets.active.state = 6 then m.sets.active.setId else 0, payload := payload }

/-- A record enters the queue of the MGI, or the holding queue of the VSI while the MGI resets (R72, R419). A full queue drops a
record and raises JOURNAL_QUEUE_FULL, whose own record enters it the same way; a follower's goes to its leader too (R463). -/
def Module.enqueue (m : Module) (keepsSeq : Bool) (r : JRec) : Module :=
  if m.up .mgi then
    if r.severity ≠ sevTrip ∧ 65536 ≤ m.jou.queue.length then
      let full : Cond := { code := cJournalQueueFull, scope := scModule, inst := m.instOf cJournalQueueFull 0 }
      let note := m.record .mgi full.code sevWarning scModule full.inst naCurrent [] false 0xFFFF full.code
      let risen := decide (full ∉ m.al.conds)
      let queue := dropLowest (m.jou.queue ++ [(keepsSeq, r)])
      let dropped := bump16 m.jou.dropped
      { m with
        jou := { m.jou with
          queue := if risen then dropLowest (queue ++ [(false, note)]) else queue
          dropped := if risen then bump16 dropped else dropped }
        al := { m.al with conds := addTo m.al.conds full, sticky := addTo m.al.sticky cJournalQueueFull }
        outbox := if risen && m.follows then .pairJournal note :: m.outbox else m.outbox }
    else { m with jou := { m.jou with queue := m.jou.queue ++ [(keepsSeq, r)] } }
  else if m.jou.holding.length < 4096 then
    { m with jou := { m.jou with holding := m.jou.holding ++ [(keepsSeq, { r with held := true })] } }
  else { m with jou := { m.jou with heldLost := m.jou.heldLost + 1 } }

/-- A record-only event or a rule-row record is journalled. -/
def Module.jot (m : Module) (src : Island) (code sev scope inst : Nat) (value : Int := naCurrent)
    (payload : List Byte := []) (row : Nat := 0xFFFF) (alert : Nat := 0xFFFF) : Module :=
  m.enqueue false (m.record src code sev scope inst value payload false row alert)

/-- A record of what both modules of a pair compute alike: the leader or the single module writes it, and a
follower issues none of its own (R246, log 31). -/
def Module.jotDom (m : Module) (src : Island) (code sev scope inst : Nat) (value : Int := naCurrent)
    (payload : List Byte := []) (row : Nat := 0xFFFF) (alert : Nat := 0xFFFF) : Module :=
  if m.follows then m else m.jot src code sev scope inst value payload row alert

/-- A condition's record: a follower's record of a module-local condition also goes to the leader (R463); of any
other condition a follower writes only what is of TRIP severity (R417, log 31). -/
def Module.jotCond (m : Module) (src : Island) (code sev scope inst : Nat) (value : Int) (payload : List Byte)
    (fall : Bool) : Module :=
  let r := m.record src code sev scope inst value payload fall 0xFFFF code
  if m.follows then
    if code ∈ localCodes then (m.enqueue false r).emit (.pairJournal r)
    else if sev = sevTrip then m.enqueue false r
    else m
  else m.enqueue false r

/-! ## Conditions and alerts (R416, R424) -/

/-- An instance of a condition holds. -/
def Module.holds (m : Module) (code scope inst : Nat) : Bool :=
  m.al.conds.any (fun c => c.code = code && c.scope = scope && c.inst = m.instOf code inst)

/-- A condition is raised: it holds, its sticky bit is set and its record is written. Nothing happens while
it already holds. -/
def Module.raise (m : Module) (src : Island) (code : Nat) (sev : Nat := sevWarning) (scope : Nat := scModule)
    (inst : Nat := 0) (value : Int := naCurrent) (payload : List Byte := []) : Module :=
  if m.holds code scope inst then m
  else
    let i := m.instOf code inst
    let m := { m with al := { m.al with
      conds := m.al.conds ++ [Cond.mk code scope i], sticky := addTo m.al.sticky code } }
    m.jotCond src code sev scope i value payload false

/-- A condition ends: its FALL record is written at TRACE (R414). -/
def Module.clear (m : Module) (src : Island) (code : Nat) (scope : Nat := scModule) (inst : Nat := 0) : Module :=
  if m.holds code scope inst then
    let i := m.instOf code inst
    let m := { m with al := { m.al with conds := dropFrom m.al.conds (Cond.mk code scope i) } }
    m.jotCond src code sevTrace scope i naCurrent [] true
  else m

/-- A condition raised or ended as a flag says. -/
def Module.setCond (m : Module) (on : Bool) (src : Island) (code : Nat) (sev : Nat := sevWarning)
    (scope : Nat := scModule) (inst : Nat := 0) (value : Int := naCurrent) : Module :=
  if on then m.raise src code sev scope inst value else m.clear src code scope inst

/-- Every instance of a condition ends. -/
def Module.clearAll (m : Module) (src : Island) (code : Nat) : Module :=
  let gone := m.al.conds.filter (fun c => c.code = code)
  let m := { m with al := { m.al with conds := m.al.conds.filter (fun c => c.code ≠ code) } }
  gone.foldl (fun m c => m.jotCond src code sevTrace c.scope c.inst naCurrent [] true) m

/-- Sources whose live bit is set (R424). -/
def Module.live (m : Module) : List Nat :=
  addAll (addAll (addAll (addAll [] (m.al.conds.map (·.code))) (m.al.partner.map (·.code))) m.al.rows)
    (m.al.canObjs.map (·.2.2))

/-- Sticky bits follow the live bits that have risen (R424). -/
def Module.stick (m : Module) : Module := { m with al := { m.al with sticky := addAll m.al.sticky m.live } }

/-- ALERT_N is driven low (R426). -/
def Module.alertNLow (m : Module) : Bool :=
  m.sup.phase ≠ .off &&
    (m.al.loading || (m.live ++ m.al.sticky).any (fun s => decide (s ∉ m.al.mask)))

/-- ALERTS_LIVE: unmasked sources with live set (R425). -/
def Module.alertsLive (m : Module) : Nat := (m.live.filter (fun s => s ∉ m.al.mask)).length

/-! ## Saturating counters (R427) -/

/-- Some 16-bit diagnostic counter of the module stands at 0xFFFF. -/
def Module.anySaturated (m : Module) : Bool :=
  m.ports.any (fun p => p.counters.any (fun c => c = 0xFFFF)) ||
  [m.dcp.short_, m.dcp.lengthErr, m.dcp.headerErr, m.dcp.noSession, m.dcp.authFail, m.dcp.replay, m.dcp.rateDrop,
   m.dcp.queueFull, m.dcp.streamDrop, m.dcp.refused, m.jou.dropped, m.jou.tripOver].any (fun c => c = 0xFFFF) ||
  m.can.ctl.any (fun c => [c.nRxOk, c.nRxUn, c.nTxOk, c.nTxFail, c.nBusOff, c.nPex].any (fun n => n = 0xFFFF))

/-- COUNTER_SATURATED holds, with one INFO record naming the counter (R427). -/
def Module.saturated (m : Module) (name : Nat) : Module :=
  if m.holds cCounterSaturated scModule 0 then
    m.jotCond .mgi cCounterSaturated sevInfo scModule (m.instOf cCounterSaturated 0) (name : Int) [] false
  else m.raise .mgi cCounterSaturated sevInfo scModule 0 (name : Int)

/-- A counter that has just reached 0xFFFF (R427). -/
def Module.satCheck (m : Module) (before after name : Nat) : Module :=
  if before ≠ 0xFFFF ∧ after = 0xFFFF then m.saturated name else m

/-- COUNTER_SATURATED ends once every saturated counter has been read. -/
def Module.satClear (m : Module) : Module := if m.anySaturated then m else m.clear .mgi cCounterSaturated

/-- Port counter `i` of Table 04-17 advanced. -/
def Module.countPort (m : Module) (p i : Nat) : Module :=
  let before := (m.port p).counters.getD i 0
  let m := m.modPort p (fun q => { q with counters := modAt q.counters i bump16 })
  m.satCheck before (bump16 before) (p * 12 + i)

/-- A tone change is counted and journalled (R119); the manual gives its record no code (log 53). -/
def Module.toneChange (m : Module) (p : Nat) (t : Tone) : Module :=
  if (m.port p).tone = t then m
  else
    let m := (m.modPort p (fun q => { q with tone := t })).countPort p 11
    let code := Config.freeValue m.free
    ({ m with free := m.free + 1 }).jot .rgi code sevTrace scPort p (toneCode t : Int)

/-- A port that is not UP is DEAD, and its windows count anew (R119). -/
def Module.portDead (m : Module) (p : Nat) : Module :=
  (m.modPort p (fun q => { q with up := false, lastWin := none })).toneChange p .dead

/-- Every port that a predicate names stops being UP. -/
def Module.portsDead (m : Module) (f : Nat → Bool) : Module :=
  (List.range 32).foldl (fun m p => if f p then m.portDead p else m) m

/-! ## Domain state (R375) -/

/-- The domain state of Table 15-5: the first row whose condition holds. -/
def Module.domainState (m : Module) : Nat :=
  if m.sup.recovery then 8
  else if m.dcp.loaded = false then 0
  else if m.conf?.isNone ∧ m.sets.safeHold = false ∨ m.sup.slot = .invalid then 1
  else if m.sets.safeHold then 5
  else if m.dorm.phase = .dormant then 6
  else if m.dcp.service then 7
  else
    let st := m.cfg.bays.map (fun b => (m.bInst b).state)
    let outside := st.any (fun s => s ≠ 0 ∧ s ≠ 6)
    let domDer := m.ver.recs.any (fun p => p.2.active &&
      (let r := look { enabled := false } m.cfg.rules p.1.row; r.scope = 4 && r.action = 1))
    let fastDer := m.ver.fast.any (fun p => p.2.active &&
      (let r := look { enabled := false } m.cfg.rules p.1.row; r.scope = 4 && r.action = 1))
    if outside ∧ (st.any (fun s => s = 3 ∨ s = 5) || domDer || fastDer) then 4
    else if st.any (fun s => s = 1 ∨ s = 2 ∨ s = 3 ∨ s = 4 ∨ s = 5) then 3
    else 2

/-! ## The whole machine -/

/-- A command that changes only what lies outside the Carapace (R337). -/
def onModule (s : State) (f : Module → Module) : Host.Outcome State Fault Refusal := .next { s with m := f s.m }

/-- A command that acts on the Carapace and on the rest. -/
def onBoth (s : State) (c : Carapace) (m : Module) : Host.Outcome State Fault Refusal :=
  .next { s with cara := c, m := m }

/-- The KEEPALIVE payload (Table 14-5). -/
def Module.keepaliveNow (m : Module) : Keepalive :=
  { leverLocked := decide (m.sup.lever = .locked), portsEnabled := m.ports.any (fun p => p.enabled)
    ejectPending := m.sup.ejectLow, resyncActive := m.pair.resync.requested || m.pair.serve
    lane0Up := m.pair.lanes.getD 0 false, lane1Up := m.pair.lanes.getD 1 false
    fwVersion := m.upd.running.version, setId := if m.sets.active.state = 6 then m.sets.active.setId else 0
    digestSweep := (m.pair.digests.headD (0, 0)).1 }

/-- A KEEPALIVE leaves on both lanes. -/
def Module.sendKeepalive (m : Module) : Module :=
  if m.isPair && decide (m.sup.phase = .on) then m.emit (.pairKeepalive m.keepaliveNow) else m

end Sys2Proof.Machine
end

