-- ==== Sys2Proof/Machine/Roots.lean ====
section
/-! DEFINITION. e^x, 2^x and square roots in single precision (R174, R184, R204 to R207, R224). The manual defines the functions
and leaves their rounding open: a result that single precision holds is exact, and any other is one of the two single-precision
numbers beside the true value; which one is a free value (log 2). -/

namespace Sys2Proof.Machine

/-- One of the two neighbours `n` and `n + 1`, in steps of `u`, of a value that lies between them. -/
def neighbour (fn : Nat) (x : Rat) (n : Nat) (u : Rat) : Rat :=
  if Config.roundUp fn x then ((n + 1 : Nat) : Rat) * u else (n : Rat) * u

/-- The bits of an integer square root, from bit `k` down, above the root found so far. -/
def isqrtFrom (n : Nat) : Nat → Nat → Nat
  | 0, r => if (r + 1) * (r + 1) ≤ n then r + 1 else r
  | k + 1, r =>
    let t := r + 2 ^ (k + 1)
    isqrtFrom n k (if t * t ≤ n then t else r)

/-- The integer square root. -/
def isqrt (n : Nat) : Nat := isqrtFrom n (Nat.log2 n / 2 + 1) 0

/-- The square root of a number; of a negative one the manual states none (log 5). -/
def sqrtF (q : Rat) : Rat :=
  if q = 0 then 0
  else if q < 0 then Config.divZero q
  else
    let u := pow2 (expo q / 2 - 23)
    let n := isqrt (q / (u * u)).floor.toNat
    if (n : Rat) * u * ((n : Rat) * u) = q then (n : Rat) * u else neighbour 0 q n u

/-- One in the fixed point of `exp2Frac`. -/
def fix96 : Nat := 2 ^ 96

/-- The product of the roots 2^(1/2), 2^(1/4), ... that the bits of a fraction of `k` bits select, in fixed point. -/
def exp2Frac (f : Nat) : Nat → Nat → Nat → Nat
  | 0, _, acc => acc
  | k + 1, c, acc =>
    let c := isqrt (c * fix96)
    exp2Frac f k c (if f / 2 ^ k % 2 = 1 then acc * c / fix96 else acc)

/-- 2^y for the argument `x` of a function; `y` is exact for 2^x, and for e^x known to 2^-90. -/
def exp2Near (fn : Nat) (x y : Rat) : Rat :=
  let n := y.floor
  let f := ((y - n) * (2 ^ 80 : Nat)).floor.toNat
  neighbour fn x (exp2Frac f 80 (2 * fix96) fix96 / 2 ^ 73) (pow2 (n - 23))

/-- 2^x (R174, R205, R207). -/
def exp2F (x : Rat) : Rat := if x.den = 1 then pow2 x.num else exp2Near 1 x x

/-- The binary logarithm of e, to 100 bits. -/
def log2e : Rat := 1828833234529184422442202814989 / ((2 ^ 100 : Nat) : Rat)

/-- e^x (R205, R224). -/
def expF (x : Rat) : Rat := if x = 0 then 1 else exp2Near 2 x (x * log2e)

/-! ## Bits of the number formats -/

/-- The bits of a binary32 number. -/
def bits32 (q : Rat) : Nat :=
  let x := f32 q
  if x = 0 then 0
  else
    let a := absQ x
    let e := expo a
    let s := if x < 0 then 2147483648 else 0
    if 127 < e then s + 2139095040
    else if e < -126 then s + (a / pow2 (-149)).floor.toNat
    else s + (e + 127).toNat * 8388608 + ((a / pow2 (e - 23)).floor.toNat - 8388608)

/-- A float32 field. -/
def float32 (q : Rat) : List Byte := le 4 (bits32 q)

end Sys2Proof.Machine
end

