-- ==== Sys2Proof/Machine/Ocv.lean ====
section
/-! DEFINITION. Curves: OCV curve sets and their lookups (R176 to R179), the slope an anchor's uncertainty uses
(R183), and the stored curves of R227. A curve is a list of points, ascending in its first coordinate; an OCV curve
has SOC as a fraction of 1 and OCV in 0.1 mV. -/

namespace Sys2Proof.Machine

/-- Linear interpolation; the end value outside the points. -/
def lin : List (Rat × Rat) → Rat → Rat
  | [], _ => 0
  | [p], _ => p.2
  | p :: q :: t, x =>
    if x ≤ p.1 then p.2
    else if x ≤ q.1 then p.2 + (x - p.1) * (q.2 - p.2) / (q.1 - p.1)
    else lin (q :: t) x

/-- Two ascending lists merged, without repeats. -/
def mergeXs (a b : List Rat) : List Rat := b.foldl (fun acc x => ins x acc) a
where
  ins (x : Rat) : List Rat → List Rat
    | [] => [x]
    | y :: t => if x < y then x :: y :: t else if x = y then y :: t else y :: ins x t

/-- Two curves blended: `(1 - f) a + f b`, on the points of both. -/
def blend (f : Rat) (a b : List (Rat × Rat)) : List (Rat × Rat) :=
  if f = 0 then a
  else if f = 1 then b
  else (mergeXs (a.map (·.1)) (b.map (·.1))).map (fun x => (x, (1 - f) * lin a x + f * lin b x))

/-- The two neighbouring temperatures and the weight of the upper one; the nearer end outside (R178). -/
def bracket (temps : List Int) (t : Int) : Nat × Nat × Rat := go 0 temps
where
  go (i : Nat) : List Int → Nat × Nat × Rat
    | [] => (i, i, 0)
    | [_] => (i, i, 0)
    | a :: b :: r =>
      if t ≤ a then (i, i, 0)
      else if t < b then (i, i + 1, ((t - a : Int) : Rat) / ((b - a : Int) : Rat))
      else go (i + 1) (b :: r)

/-- The points of branch `b` at temperature index `k`. -/
def branchPts (c : CurveSet) (b k : Nat) : List (Rat × Rat) :=
  ((c.pts.getD b []).getD k []).map (fun (p : Nat × Nat) => ((p.1 : Rat) / 10000, (p.2 : Rat)))

/-- A branch at a temperature (R178); branch 0 alone without HYSTERESIS (R179). -/
def branchAt (c : CurveSet) (b : Nat) (t : Int) : List (Rat × Rat) :=
  let b := if c.hysteresis then b else 0
  let k := bracket (c.temps.take c.tempCount) t
  blend k.2.2 (branchPts c b k.1) (branchPts c b k.2.1)

/-- The weighted OCV of a cell (R179): direction, weight and temperature. -/
def cellCurve (c : CurveSet) (dirChg : Bool) (w : Rat) (t : Int) : List (Rat × Rat) :=
  if c.hysteresis then
    if dirChg then blend w (branchAt c 1 t) (branchAt c 0 t) else blend w (branchAt c 0 t) (branchAt c 1 t)
  else branchAt c 0 t

/-- OCV at SOC `s`; a free value where the points do not reach (log 28). -/
def ocvAt (pts : List (Rat × Rat)) (s : Rat) : Rat := if s < 0 ∨ 1 < s then Config.ocvBeyond pts s else lin pts s

/-- The lowest SOC with OCV `v`, 0 below the curve and 1 above it (R178). -/
def ocvInv : List (Rat × Rat) → Rat → Rat
  | [], _ => 0
  | [p], v => if v ≤ p.2 then p.1 else 1
  | p :: q :: t, v =>
    if v ≤ p.2 then p.1
    else if v ≤ q.2 then p.1 + (v - p.2) * (q.1 - p.1) / (q.2 - p.2)
    else ocvInv (q :: t) v

/-- The slope, in 0.1 mV per unit SOC, of the segment that holds the inverse of `v`. -/
def slopeAt : List (Rat × Rat) → Rat → Rat
  | p :: q :: t, v =>
    if v ≤ q.2 then (q.2 - p.2) / (q.1 - p.1)
    else match t with
      | [] => (q.2 - p.2) / (q.1 - p.1)
      | _ => slopeAt (q :: t) v
  | _, _ => 0

/-- The greatest value of a curve that never decreases. -/
def topOf : List (Rat × Rat) → Rat
  | [] => 0
  | [p] => p.2
  | _ :: t => topOf t

/-- s_lo (R186): the lowest SOC whose OCV reaches `v`, 1 when none does. -/
def lowestReaching (pts : List (Rat × Rat)) (v : Rat) : Rat := if topOf pts < v then 1 else ocvInv pts v

/-- s_hi (R186): the highest SOC whose OCV stays at or below `v`, 0 when none does. -/
def highestWithin (pts : List (Rat × Rat)) (v : Rat) : Rat := go 0 pts
where
  go (best : Rat) : List (Rat × Rat) → Rat
    | [] => best
    | [p] => if p.2 ≤ v then p.1 else best
    | p :: q :: t =>
      if v < p.2 then best
      else if v < q.2 then p.1 + (v - p.2) * (q.1 - p.1) / (q.2 - p.2)
      else go q.1 (q :: t)

/-- The uncertainty of a voltage read off a curve: V_ERR over the slope (R183); a free value on a flat
segment (log 5). -/
def sigmaAt (c : CurveSet) (pts : List (Rat × Rat)) (v : Rat) : Rat :=
  let sl := slopeAt pts v
  if sl = 0 then Config.divZero c.vErr else f32 ((c.vErr : Rat) / sl)

/-- A SOC lies within a zone of the curve set (R183). -/
def inZone (c : CurveSet) (s : Rat) : Bool :=
  (c.zones.take c.zoneCount).any (fun (z : Nat × Nat) => (z.1 : Rat) ≤ s * 10000 && s * 10000 ≤ (z.2 : Rat))

/-- A stored curve's value in double precision (R227). -/
def curveValue (c : Curve) (x : Rat) : Rat :=
  f64 (lin (c.pts.map (fun (p : Int × Int) => ((p.1 : Rat), (p.2 : Rat)))) x)

/-- The lowest Y of a stored curve, for an argument that is not available (R227). -/
def curveLowest (c : Curve) : Rat := minQ 0 (c.pts.map (fun (p : Int × Int) => (p.2 : Rat)))

end Sys2Proof.Machine
end

