-- ==== Sys2Proof/Machine/Cell.lean ====
section
/-! DEFINITION. What the estimate reads of one cell: its place in the map, its temperature (R27), its charge and
SOC (R171), its branch weight (R179), its resistance model (R208), and its voltage as the pull, pair and end-cell rules
present it (R148 to R155). -/

namespace Sys2Proof.Machine

/-- A quotient; a free value where the divisor is zero (log 5). -/
def divQ (a b : Rat) : Rat := if b = 0 then Config.divZero a else a / b

/-! ## Place in the map -/

/-- The channel table entry of a cell. -/
def Module.chEntry (m : Module) (e : Nat) : ChannelEntry := look {} m.cfg.channels e

/-- The string of a cell. -/
def Module.strOf (m : Module) (e : Nat) : Nat := (m.chEntry e).string

/-- The curve set of a string. -/
def Module.setOf (m : Module) (s : Nat) : CurveSet := m.cfg.curveSet (m.cfg.str s).curveSet

/-- A share of a string's lowest NAMEPLATE_CAPACITY, in mA: `n` parts of `per` to 1 C. -/
def Module.shareC (m : Module) (s n per : Nat) : Rat := (n : Rat) * (m.cfg.cRef s : Rat) / (per : Rat)

/-- REST_I of a string, mA (R201); the parameter is held in 0.001 C. -/
def Module.restI (m : Module) (s : Nat) : Rat := m.shareC s m.cfg.soc.restI 1000

/-- A sweep is a minute sweep (R172). -/
def minuteSweep (period j : Nat) : Bool := j % (60000 / period) = 0

/-- The body of the last used slot of a DZC-24 (R138). -/
def Module.dzc? (m : Module) (w : Wk) : Option DzcBody :=
  let h := (m.wk w).held
  if h.valid then (match h.slot.body with | .dzc b => some b | _ => none) else none

/-- The body of the last used slot of a DZS-2. -/
def Module.dzs? (m : Module) (w : Wk) : Option DzsBody :=
  let h := (m.wk w).held
  if h.valid then (match h.slot.body with | .dzs b => some b | _ => none) else none

/-! ## Temperature (R27) -/

/-- The governing temperature of a cell: its own input, else the highest valid reading of the worker, else not
available. -/
def Module.govT (m : Module) (e : Nat) : Option Int :=
  match m.dzc? (wkOfIx e) with
  | none => none
  | some b =>
    let own := b.temp.getD (m.chEntry e).tempInput naTemp
    if own ≠ naTemp then some own
    else (b.temp.filter (fun t => t ≠ naTemp)).foldl
      (fun (a : Option Int) t => match a with | none => some t | some x => some (max x t)) none

/-- The temperature lookups use while none is available: the last one held, or 25 degC (0.01 degC). -/
def cellT (c : CellSt) : Int := c.lastT.getD 2500

/-! ## Charge (R171) -/

/-- Capacity in mC. -/
def capMc (c : CellSt) : Rat := (c.cap : Rat) * 3600

/-- Charge above the empty point, mC. -/
def chgMc (q : Int) (c : CellSt) : Rat := (c.qBase : Rat) + ((q - c.qStrBase : Int) : Rat) + c.qCorr

/-- Internal SOC. -/
def socOf (q : Int) (c : CellSt) : Rat := divQ (chgMc q c) (capMc c)

/-- A base: the new charge, the present count, no corrections; the gap flags end (R171, Table 07-2). -/
def setBase (q : Int) (newMc : Rat) (c : CellSt) : CellSt :=
  { c with
    qBase := int64 (roundInt newMc), qStrBase := q, qCorr := 0, countGap := false, balGap := false
    cutDisSinceBase := false, cutChgSinceBase := false }

/-- Charge of a cell of the machine, mC. -/
def Module.chg (m : Module) (e : Nat) : Rat := chgMc (m.strE (m.strOf e)).qStr (m.cell e)

/-- Internal SOC of a cell of the machine. -/
def Module.soc (m : Module) (e : Nat) : Rat := socOf (m.strE (m.strOf e)).qStr (m.cell e)

/-- Internal SOC in 0.01 %, clamped to 0 to 10,000 (R200). -/
def Module.socClamped (m : Module) (e : Nat) : Nat := (clampI 0 10000 (roundInt (m.soc e * 10000))).toNat

/-- The branch weight w (R179); 1 where HYST_FULL gives no charge to wait for. -/
def branchW (cs : CurveSet) (qRev : Int) (c : CellSt) : Rat :=
  let full := (cs.hystFull : Rat) / 10000 * capMc c
  if full = 0 then 1
  else
    let w := absQ (qRev : Rat) / full
    if w < 1 then w else 1

/-- The OCV of a cell at its present weight and temperature (R179). -/
def Module.ocvOf (m : Module) (e : Nat) : List (Rat × Rat) :=
  let s := m.strOf e
  let st := m.strE s
  let c := m.cell e
  cellCurve (m.setOf s) st.dirChg (branchW (m.setOf s) st.qRev c) (cellT c)

/-! ## Resistance (R208) -/

/-- The temperature factor f of R207 and R208 at a temperature in 0.01 degC. -/
def tempFactor (l : LearnCfg) (t : Int) : Rat := exp2F ((25 - (t : Rat) / 100) / (l.rDoubling : Rat))

/-- R_OHM as presented, uOhm. -/
def rOhmOf (l : LearnCfg) (cs : CurveSet) (c : CellSt) : Rat :=
  match c.rohm25 with
  | some r => f32 ((r : Rat) * tempFactor l (cellT c))
  | none => (cs.rNom : Rat) * (l.rOhmShare : Rat) / 100

/-- R_POL as presented, uOhm. -/
def rPolOf (l : LearnCfg) (cs : CurveSet) (c : CellSt) : Rat :=
  match c.rpol25, c.tauPol with
  | some r, some _ => f32 ((r : Rat) * tempFactor l (cellT c))
  | _, _ => (cs.rNom : Rat) * (100 - (l.rOhmShare : Rat)) / 100

/-- TAU_POL as presented, 0.1 ms. -/
def tauOf (l : LearnCfg) (c : CellSt) : Nat :=
  match c.rpol25, c.tauPol with
  | some _, some t => t
  | _, _ => l.tauPolNom

/-- R0 + R1 of a cell for the usable charge: R_NOM until a fit exists (R186), uOhm. -/
def rSumOf (l : LearnCfg) (cs : CurveSet) (c : CellSt) : Rat := rOhmOf l cs c + rPolOf l cs c

/-- R_OHM of a cell of the machine. -/
def Module.rOhm (m : Module) (e : Nat) : Rat := rOhmOf m.cfg.learn (m.setOf (m.strOf e)) (m.cell e)

/-- R_POL of a cell of the machine. -/
def Module.rPol (m : Module) (e : Nat) : Rat := rPolOf m.cfg.learn (m.setOf (m.strOf e)) (m.cell e)

/-- TAU_POL of a cell of the machine. -/
def Module.tau (m : Module) (e : Nat) : Nat := tauOf m.cfg.learn (m.cell e)

/-! ## Pins, pulls and presentation (R148 to R155) -/

/-- Cells a DZC-24 serves (R24). -/
def Module.cellsN (m : Module) (w : Wk) : Nat := (m.cfg.cellsAt w).length

/-- The pin a worker pulls in a sweep: a forced one, else j mod 25; pins above n are never tested (R148, R149). -/
def Module.pullAt (m : Module) (w : Wk) (j : Nat) : Option Nat :=
  let p := look (j % 25) (m.wk w).sense.forced j
  if p ≤ m.cellsN w then some p else none

/-- The pins whose pull bears on a sweep: the sweep's own and the one before's. -/
def Module.pullsNear (m : Module) (w : Wk) (j : Nat) : List Nat :=
  (m.pullAt w j).toList ++ (m.pullAt w ((j + 4294967295) % 4294967296)).toList

/-- STACK_DELTA where it reads a value: neither 0x8000 nor saturated, in 0.1 mV. -/
def stackDelta? (b : DzcBody) : Option Int :=
  if b.stackDelta = naTemp ∨ b.stackDelta = 32767 ∨ b.stackDelta = -32767 then none else some b.stackDelta

/-- Cell voltages as reported, 0.1 mV; none for the code of Table 00-6. -/
def reportedV (b : DzcBody) : List (Option Rat) := b.cellV.map (fun v => if v = naU16 then none else some (v : Rat))

/-- A reading moved by STACK_DELTA; none where either reads no value. -/
def addDelta (b : DzcBody) (v : Option Rat) : Option Rat :=
  match v, stackDelta? b with
  | some x, some d => some (x + (d : Rat))
  | _, _ => none

/-- The newest used sweep that gives the ratio of R150 for inner pin `p`: one in which both channels read a value (log 167). -/
def Module.ratioSweep (m : Module) (w : Wk) (p : Nat) : Option SenseHist :=
  (m.wk w).sense.hist.find? (fun h =>
    (m.pullsNear w h.sweep).all (fun q => q + 1 ≠ p ∧ q ≠ p ∧ q ≠ p + 1) &&
    decide (h.cellV.getD (p - 1) naU16 ≠ naU16 ∧ h.cellV.getD p naU16 ≠ naU16))

/-- The readings with the pull on one pin taken out (R150); a free share where no sweep gives the ratio (log 27). Where one of the
two channels reads not available there is no sum to split, and neither has a value (log 167). -/
def Module.unpull (m : Module) (w : Wk) (b : DzcBody) (v : List (Option Rat)) (p : Nat) : List (Option Rat) :=
  let n := m.cellsN w
  if p = 0 then modAt v 0 (addDelta b)
  else if p = n then modAt v (n - 1) (addDelta b)
  else
    match v.getD (p - 1) none, v.getD p none with
    | some x, some y =>
      let sh : Rat := match m.ratioSweep w p with
        | some h =>
          let rx := h.cellV.getD (p - 1) 0
          let ry := h.cellV.getD p 0
          if rx + ry = 0 then Config.pullSplit rx ry else (rx : Rat) / ((rx + ry : Nat) : Rat)
        | none => Config.pullSplit 0 0
      modAt (modAt v (p - 1) (fun _ => some ((x + y) * sh))) p (fun _ => some ((x + y) - (x + y) * sh))
    | _, _ => modAt (modAt v (p - 1) (fun _ => none)) p (fun _ => none)

/-- The readings of a worker's last used slot under R150: its own sweep's pull first, then the pull of the sweep
before. -/
def Module.sweepV (m : Module) (w : Wk) : List (Option Rat) :=
  match m.dzc? w with
  | none => []
  | some b => (m.pullsNear w (m.wk w).held.sweep).foldl (m.unpull w b) (reportedV b)

/-- A pin is protected from suspicion until its fault clears (R154, R155). -/
def badPin (s : SenseSt) (p : Nat) : Bool :=
  let x := look {} s.pins p
  x.suspect || x.opened

/-- The inner pin whose protected pair holds channel `c`, the lower one first. R148 and R154 name the pair by the pin's two
channels, R25 speaks of neighbours in the order of positions; where the two orders differ the model takes the channels
(log 170). -/
def Module.pairPin (m : Module) (w : Wk) (c : Nat) : Option Nat :=
  let s := (m.wk w).sense
  let n := m.cellsN w
  [c, c + 1].find? (fun p => p ≠ 0 ∧ p < n ∧ badPin s p)

/-- Channel `c` is the cell of an open or suspect end pin. -/
def Module.endCell (m : Module) (w : Wk) (c : Nat) : Bool :=
  let s := (m.wk w).sense
  let n := m.cellsN w
  (c = 0 && badPin s 0) || (c + 1 = n && badPin s n)

/-- A cell is presented under R154 or R155. -/
def Module.presented (m : Module) (e : Nat) : Bool :=
  (m.pairPin (wkOfIx e) (chOfIx e)).isSome || m.endCell (wkOfIx e) (chOfIx e)

/-- The sweep voltage of a cell with `half` the margin that R154 or R155 adds, 0.1 mV: `+1` for conditions above
and charge limits, `-1` for conditions below and discharge limits, 0 otherwise. -/
def Module.cellV (m : Module) (e : Nat) (side : Int) : Option Rat :=
  let w := wkOfIx e
  let c := chOfIx e
  if m.endCell w c then
    match m.dzc? w with
    | none => none
    | some b => (addDelta b ((reportedV b).getD c none)).map
        (fun x => x + (side : Rat) * (m.cfg.sense.stackMargin : Rat) / 2)
  else
    let v := m.sweepV w
    match m.pairPin w c with
    | none => v.getD c none
    | some p =>
      match v.getD (p - 1) none, v.getD p none with
      | some x, some y => some ((x + y) / 2 + (side : Rat) * (m.cfg.sense.pairMargin : Rat) / 2)
      | _, _ => none

/-- The voltage of a cell that its own state and model predict, 0.1 mV, at the counted current of its string
(DEDUCED: the weighted OCV and the whole presented resistance, log 30). -/
def Module.predicted (m : Module) (e : Nat) : Rat :=
  ocvAt (m.ocvOf e) (m.soc e) + ((m.strE (m.strOf e)).iCount : Rat) / 1000 * (m.rOhm e + m.rPol e) / 100

/-- The residual of a cell: its measured voltage minus the predicted one, 0.1 mV. -/
def Module.residual (m : Module) (e : Nat) : Option Rat :=
  ((m.sweepV (wkOfIx e)).getD (chOfIx e) none).map (fun v => v - m.predicted e)

end Sys2Proof.Machine
end

