-- ==== Sys2Proof/Machine/Sense.lean ====
section
/-! DEFINITION. Sense faults: the pull test (R151), the stack-sum check (R152), the signatures and findings of R153,
what ends them (R158) and the second fault of a worker (R157). -/

namespace Sys2Proof.Machine

/-- The ordinary median of rationals: the mean of the two middle ones for an even count. -/
def medianQ (l : List Rat) : Rat :=
  let s := l.foldr ins []
  let n := s.length
  if n % 2 = 1 then s.getD (n / 2) 0 else (s.getD (n / 2 - 1) 0 + s.getD (n / 2) 0) / 2
where
  ins (x : Rat) : List Rat → List Rat
    | [] => [x]
    | y :: t => if x ≤ y then x :: y :: t else y :: ins x t

/-! ## The pull test (R151) -/

/-- The newest used sweep that serves as reference for a test of pin `p` in sweep `j`: 3 to 8 sweeps before it, with
neither the pin's channels nor STACK_DELTA pulled or just pulled. -/
def Module.refSweep (m : Module) (w : Wk) (j p : Nat) : Option SenseHist :=
  let n := m.cellsN w
  (m.wk w).sense.hist.find? (fun h =>
    3 ≤ sweepDiff j h.sweep && sweepDiff j h.sweep ≤ 8 &&
    (m.pullsNear w h.sweep).all (fun q => q + 1 ≠ p ∧ q ≠ p ∧ q ≠ p + 1 ∧ q ≠ 0 ∧ q ≠ n))

/-- The change of a channel's reading against a reference, 0.1 mV. -/
def dV (b : DzcBody) (h : SenseHist) (c : Nat) : Option Int :=
  let x := b.cellV.getD c naU16
  let y := h.cellV.getD c naU16
  if x = naU16 ∨ y = naU16 then none else some ((x : Int) - (y : Int))

/-- The pin shift m of R151, in 0.1 mV. The rule does not say what a channel that reads not available shows: the test is taken
as INCONCLUSIVE, like an end pin without STACK_DELTA (log 168). -/
def pinShift (n p : Nat) (b : DzcBody) (h : SenseHist) : Option Int :=
  if p = 0 ∨ p = n then
    if b.stackDelta = naTemp ∨ h.delta = naTemp then none else some (b.stackDelta - h.delta)
  else
    match dV b h (p - 1), dV b h p with
    | some x, some y => some (Int.tdiv (x - y) 2)
    | _, _ => none

/-- A test's classification: 1 PASS, 2 HIGH_R, 3 OPEN, 4 INCONCLUSIVE (Table 06-5). -/
def classify (sc : SenseCfg) : Option Int → Nat
  | none => 4
  | some x => if sc.owOpenMin ≤ x.natAbs then 3 else if sc.owHighR ≤ x.natAbs then 2 else 1

/-- A pin's bookkeeping after a test (R153, R158). An INCONCLUSIVE test leaves the runs as they stand (DEDUCED,
log 32). -/
def pinTested (k : Nat) (p : PinSt) : PinSt :=
  if k = 3 then
    let p : PinSt := { p with last := 3, openRun := p.openRun + 1, passRun := 0, highRun := 0, suspect := true }
    if 2 ≤ p.openRun then { p with opened := true } else p
  else if k = 2 then
    let p : PinSt := { p with last := 2, openRun := 0, passRun := 0, highRun := p.highRun + 1 }
    if 3 ≤ p.highRun then { p with highR := true } else p
  else if k = 1 then
    let p : PinSt := { p with last := 1, openRun := 0, passRun := p.passRun + 1, highRun := 0 }
    let p : PinSt := if 3 ≤ p.passRun then { p with opened := false, highR := false, suspect := false } else p
    if 2 ≤ p.passRun ∧ p.opened = false then { p with suspect := false } else p
  else { p with last := 4 }

/-- SCOPE instance of a worker (Table 17-1). -/
def wkInst (w : Wk) : Nat := w.1 * 256 + w.2 - 1

/-- The cells a pin lies next to, as channel table entries. -/
def Module.pinCells (m : Module) (w : Wk) (p : Nat) : List Nat :=
  let n := m.cellsN w
  ((if p = 0 then [] else [p - 1]) ++ (if p < n then [p] else [])).map (chanIx w)

/-- SENSE_RESTORED of a worker or a cell (R158). -/
def Module.restored (m : Module) (scope inst : Nat) : Module := m.jotDom .esi eSenseRestored sevInfo scope inst

/-- What a finding on a pin names: ring, north hop, pin and the cell positions (R156). -/
def Module.pinNames (m : Module) (w : Wk) (p : Nat) : List Byte :=
  int32s ([(w.1 : Int), (w.2 : Int), (p : Int)] ++ (m.pinCells w p).map (fun e => ((m.chEntry e).position : Int)))

/-- What a pin's bookkeeping shows to the alerts (R153, R156, R158). -/
def Module.pinAlerts (m : Module) (w : Wk) (p : Nat) (old new : PinSt) : Module :=
  (m.pinCells w p).foldl (fun m e =>
    let near (f : PinSt → Bool) : Bool :=
      let c := chOfIx e
      [c, c + 1].any (fun q => f (look {} (m.wk w).sense.pins q))
    let m := m.setCond (near (·.suspect)) .esi cSenseSuspect sevWarning scCell e
    let m := if near (·.opened) then m.raise .esi cSenseOpen sevWarning scCell e (p : Int) (m.pinNames w p)
      else m.clear .esi cSenseOpen scCell e
    let m := m.setCond (near (·.highR)) .esi cSenseHighR sevWarning scCell e (p : Int)
    if (old.opened && !new.opened) || (old.highR && !new.highR) then m.restored scCell e else m) m

/-- The sense bookkeeping of a worker rewritten. -/
def Module.modSense (m : Module) (w : Wk) (f : SenseSt → SenseSt) : Module :=
  m.modWk w (fun x => { x with sense := f x.sense })

/-- A pin's bookkeeping replaced, with its alerts. -/
def Module.putPin (m : Module) (w : Wk) (p : Nat) (new : PinSt) : Module :=
  let old := look {} (m.wk w).sense.pins p
  if new = old then m
  else (m.modSense w (fun s => { s with pins := put s.pins p new })).pinAlerts w p old new

/-- The test of the pulled pin of sweep `j` (R151); `used` is whether the worker's slot is used. -/
def Module.pullTest (m : Module) (w : Wk) (j : Nat) (used : Bool) : Module :=
  match m.pullAt w j with
  | none => m
  | some p =>
    let n := m.cellsN w
    let k :=
      if used then
        match m.dzc? w, m.refSweep w j p with
        | some b, some h => classify m.cfg.sense (pinShift n p b h)
        | _, _ => 4
      else 4
    let m := m.putPin w p (pinTested k (look {} (m.wk w).sense.pins p))
    if (j, p) ∈ (m.wk w).sense.forced ∧ k = 1 then
      m.modSense w (fun s => { s with chans := s.chans.map (fun (x : Nat × ChanFault) =>
        if x.2.run = 0 then x
        else if x.1 = p then (x.1, { x.2 with passLo := true })
        else if x.1 + 1 = p then (x.1, { x.2 with passHi := true })
        else x) })
    else m

/-! ## Stack-sum check and passive signatures (R152, R153) -/

/-- The residuals of a worker's channels, 0.1 mV. -/
def Module.residuals (m : Module) (w : Wk) : List (Nat × Option Rat) :=
  (m.cfg.cellsAt w).map (fun (p : Nat × ChannelEntry) => (chOfIx p.1, m.residual p.1))

/-- A stack mismatch in the sweep: none where the check does not run (R152). -/
def Module.stackMismatch (m : Module) (w : Wk) (j : Nat) (b : DzcBody) : Option Bool :=
  let n := m.cellsN w
  if (m.pullsNear w j).any (fun q => q = 0 ∨ q = n) ∨ b.stackDelta = naTemp then none
  else some ((m.cfg.sense.stackMax : Int) < (b.stackDelta.natAbs : Int))

/-- The stack-sum check is off on a worker: an end cell is reconstructed, or the stack input is at fault (R155,
R156). -/
def Module.stackOff (m : Module) (w : Wk) : Bool :=
  let s := (m.wk w).sense
  badPin s 0 || badPin s (m.cellsN w) || s.stackFault

/-- A pin becomes suspect by a passive signature, and a forced test of it is wanted (R153). -/
def Module.suspectPin (m : Module) (w : Wk) (p : Nat) : Module :=
  let old := look {} (m.wk w).sense.pins p
  if old.suspect then m else m.putPin w p { old with suspect := true, passRun := 0 }

/-- The passive signature of an open inner pin: opposite residuals beyond CELL_DEV whose sum stays small. -/
def innerSignature (sc : SenseCfg) (a b : Option Rat) : Bool :=
  match a, b with
  | some x, some y =>
    let dev : Rat := sc.cellDev
    decide (dev < absQ x ∧ dev < absQ y ∧ (0 < x ∧ y < 0 ∨ x < 0 ∧ 0 < y) ∧ absQ (x + y) ≤ dev / 5)
  | _, _ => false

/-- The passive signatures of a worker (Table 06-2). -/
def Module.passive (m : Module) (w : Wk) (b : DzcBody) (mis : Bool) : Module :=
  let sc := m.cfg.sense
  let n := m.cellsN w
  let res := m.residuals w
  let r (c : Nat) : Option Rat := look none res c
  let m := (List.range n).foldl (fun m k =>
    if k ≠ 0 ∧ innerSignature sc (r (k - 1)) (r k) then m.suspectPin w k else m) m
  if mis then
    let close (c : Nat) : Bool := match r c with
      | some x => decide (absQ (x + (b.stackDelta : Rat)) ≤ (sc.stackMax : Rat))
      | none => false
    let m := if close 0 then m.suspectPin w 0 else m
    if close (n - 1) then m.suspectPin w n else m
  else m

/-- STACK_SENSE_FAULT: ten mismatches in a row with sound channels and end pins; ended by 100 sweeps without (R153, R158). A
channel without a residual counts as sound (log 169). -/
def Module.stackFault (m : Module) (w : Wk) (mis : Bool) : Module :=
  let sc := m.cfg.sense
  let s := (m.wk w).sense
  let n := m.cellsN w
  let sound := (m.residuals w).all (fun (x : Nat × Option Rat) => match x.2 with
    | some r => decide (absQ r ≤ (sc.stackMax : Rat))
    | none => true)
  let ends := [0, n].all (fun p => (look {} s.pins p).last = 1)
  let run := if mis ∧ sound ∧ ends then s.stackRun + 1 else 0
  let ok := if mis then 0 else s.stackOkRun + 1
  let fault := if s.stackFault then ok < 100 else 10 ≤ run
  let m := m.modSense w (fun s => { s with stackRun := run, stackOkRun := ok, stackFault := fault })
  let m := if s.stackFault ∧ fault = false then m.restored scWorker (wkInst w) else m
  m.setCond fault .esi cStackSenseFault sevWarning scWorker (wkInst w)

/-! ## Cell faults and temperature inputs (R153, R158) -/

/-- A channel's cell-fault bookkeeping in one sweep. -/
def chanStep (sc : SenseCfg) (sig within : Bool) (c : ChanFault) : ChanFault :=
  if c.fault then
    let k := if within then c.clearRun + 1 else 0
    if 100 ≤ k then {} else { c with clearRun := k }
  else if sig then
    let c : ChanFault := { c with run := c.run + 1 }
    if sc.cellFaultPersist ≤ c.run ∧ c.passLo ∧ c.passHi then { c with fault := true, clearRun := 0 } else c
  else {}

/-- The cell-fault signatures of a worker. A neighbour without a residual counts as quiet (log 169). -/
def Module.cellFaults (m : Module) (w : Wk) (mis : Bool) : Module :=
  let sc := m.cfg.sense
  let res := m.residuals w
  let med := medianQ (res.filterMap (·.2))
  let dev (c : Nat) : Option Rat := (look none res c).map (fun r => absQ (r - med))
  let quiet (c : Nat) : Bool := match dev c with | some d => decide (d ≤ (sc.cellDev : Rat) / 2) | none => true
  (m.cfg.cellsAt w).foldl (fun m (x : Nat × ChannelEntry) =>
    let c := chOfIx x.1
    match dev c with
    | none => m
    | some d =>
      let sig := !mis && decide ((sc.cellDev : Rat) < d) && (c = 0 || quiet (c - 1)) && quiet (c + 1)
      let old := look {} (m.wk w).sense.chans c
      let new := chanStep sc sig (decide (d ≤ (sc.cellDev : Rat))) old
      let m := m.modSense w (fun s => { s with chans := put s.chans c new })
      let m := if old.fault ∧ new.fault = false then m.restored scCell x.1 else m
      m.setCond new.fault .esi cCellFault sevWarning scCell x.1) m

/-- A temperature input in one used slot. -/
def tempStep (na : Bool) (t : TempSt) : TempSt :=
  let t : TempSt := if na then { t with naRun := t.naRun + 1, okRun := 0 } else { t with naRun := 0, okRun := t.okRun + 1 }
  if 3 ≤ t.naRun then { t with fault := true } else if 3 ≤ t.okRun then { t with fault := false } else t

/-- The temperature inputs the used channels of a worker name. -/
def Module.tempFaults (m : Module) (w : Wk) (b : DzcBody) : Module :=
  let ins := addAll [] ((m.cfg.cellsAt w).map (fun (x : Nat × ChannelEntry) => x.2.tempInput))
  let old := (m.wk w).sense.temps
  let new := ins.map (fun i => (i, tempStep (b.temp.getD i naTemp = naTemp) (look {} old i)))
  let m := m.modSense w (fun s => { s with temps := new })
  let had := old.any (fun (x : Nat × TempSt) => x.2.fault)
  let has := new.any (fun (x : Nat × TempSt) => x.2.fault)
  let m := if had ∧ has = false then m.restored scWorker (wkInst w) else m
  m.setCond has .esi cTempSenseFault sevWarning scWorker (wkInst w)

/-! ## The second fault (R155, R157) -/

/-- Confirmed findings a worker holds: open pins, a lost end cell, a stack fault; under a stack fault an end-pin
finding counts too (R155, R156, R157). -/
def Module.findings (m : Module) (w : Wk) : Nat :=
  let s := (m.wk w).sense
  (s.pins.filter (fun (x : Nat × PinSt) => x.2.opened)).length + (if s.lostEnd then 1 else 0) + (if s.stackFault then 1 else 0)

/-- A used slot says whether an end cell is lost: an end pin is bad and STACK_DELTA reads not available (R155). -/
def Module.noteEnd (m : Module) (w : Wk) (b : Option DzcBody) : Module :=
  match b with
  | none => m
  | some x =>
    let lost := (stackDelta? x).isNone
    let last := m.cellsN w
    m.modSense w (fun s => { s with lostEnd := lost && (badPin s 0 || badPin s last) })

/-- SENSE_DOUBLE (R157), in a sweep with the worker's slot used (`b`) or missing. -/
def Module.senseDouble (m : Module) (w : Wk) (b : Option DzcBody) : Module :=
  let m := m.noteEnd w b
  let two := decide (2 ≤ m.findings w)
  let since := if two then some ((m.wk w).sense.secondAt.getD m.ms) else none
  let str := (look {} m.cfg.workers w).string
  let low := decide (absQ ((m.strE str).iCount : Rat) < ((m.cfg.str str).iRated : Rat) * 5 / 100)
  let late := match since with | some t => decide (t + m.cfg.sense.secondFaultGrace * 1000 ≤ m.ms) | none => false
  let dbl := two && ((m.wk w).sense.double_ || low || late)
  let m := m.modSense w (fun s => { s with secondAt := since, double_ := dbl })
  m.setCond dbl .esi cSenseDouble sevWarning scWorker (wkInst w)

/-! ## One sweep of one worker -/

/-- The pins whose forced tests are wanted: every pin that has just become suspect, then, when none waits, one of a cell-fault
channel that no forced test has passed (R153). A worker holds one OW_FORCE at a time, so each sweep takes one. -/
def wantedForce (j : Nat) (old new : SenseSt) : List Nat :=
  let fresh := (new.pins.filter (fun (x : Nat × PinSt) => x.2.suspect && !(look {} old.pins x.1).suspect)).map (·.1)
  let want := addAll new.wantForce fresh
  let standing := new.forced.any (fun (f : Nat × Nat) => sweepAfter f.1 j)
  if want ≠ [] ∨ standing then want
  else
    match new.chans.find? (fun (x : Nat × ChanFault) => 0 < x.2.run && !x.2.fault && (!x.2.passLo || !x.2.passHi)) with
    | some x => [if x.2.passLo then x.1 + 1 else x.1]
    | none => []

/-- The sense evaluation of a worker in sweep `j` (R151 to R158). -/
def Module.senseSweep (m : Module) (j : Nat) (w : Wk) (used : Bool) : Module :=
  let old := (m.wk w).sense
  let m := m.pullTest w j used
  let m :=
    if used then
      match m.dzc? w with
      | none => m
      | some b =>
        let mis := m.stackMismatch w j b
        let off := m.stackOff w
        let seen := match mis with | some x => x && !off | none => false
        let m := m.passive w b seen
        let m := match mis with | some x => if off && !(m.wk w).sense.stackFault then m else m.stackFault w x | none => m
        let m := m.cellFaults w seen
        let m := m.tempFaults w b
        m.modSense w (fun s => { s with hist := ({ sweep := j, pin := m.pullAt w j, cellV := b.cellV, delta := b.stackDelta } :: s.hist).take 30 })
    else m
  let m := m.senseDouble w (if used then m.dzc? w else none)
  m.modSense w (fun s => { s with
    wantForce := wantedForce j old s
    forced := s.forced.filter (fun (f : Nat × Nat) => sweepDiff j f.1 * m.est.period < 130000 ∨ sweepAfter f.1 j) })

/-- The balancing bar of a channel (R161). -/
def Module.balBarred (m : Module) (w : Wk) (e : Nat) : Bool :=
  let s := (m.wk w).sense
  let c := chOfIx e
  badPin s c || badPin s (c + 1) || (look {} s.chans c).fault || 3 ≤ (m.wk w).held.age ||
    (let st := (m.sInst (m.strOf e)).state; st = 8 ∨ st = 9) || m.dorm.phase = .dormant

/-- SENSE_DERATE_PCT acts on a string (R156): a confirmed open pin in one of its workers. -/
def Module.senseDerated (m : Module) (s : Nat) : Bool :=
  (m.cfg.workersOfString s).any (fun w => (m.wk w.1).sense.pins.any (fun (x : Nat × PinSt) => x.2.opened))

end Sys2Proof.Machine
end

