-- ==== Sys2Proof/Machine/Charge.lean ====
section
/-! DEFINITION. Charge state (chapter 07): counting (R139, R173), balancing corrections (R162), self-discharge
(R174), uncertainty (R175), minute means and rest (R181, R182), cut-off (R191), usable quantities (R186 to R188),
reported values (R189) and first estimates (R196). Anchors stand in Capacity.lean, with the learning they feed. -/

namespace Sys2Proof.Machine

/-! ## Counting (R139, R173, R179, R181) -/

/-- The mean a DZS-2 slot counts with: channel A, or B while A is at fault; none when both are, or the code of
Table 00-6 stands. -/
def countedMean (b : DzsBody) (x y : Int) : Option Int :=
  let v := if bitAt b.flags 0 then (if bitAt b.flags 1 then naCurrent else y) else x
  if v = naCurrent then none else some v

/-- A charge in uC (mA times ms) added to Q_STR, which holds whole mC; the rest of an mC is carried to the next sweep, so that no
charge is lost (log 29). -/
def countIn (d : Int) (st : StrEst) : StrEst :=
  let t := (st.qFrac : Int) + d
  { st with qStr := int64 (st.qStr + t / 1000), qFrac := (t % 1000).toNat, dq := t / 1000 }

/-- What counting one sweep does to the string, and the number of sweeps counted with a gap (R139, log 32). `ps n` is the
period of the sweep `n` before this one, so each mean covers SPAN nominal periods (R85). -/
def countStep (ps : Nat → Nat) (st : StrEst) (slot : Option DzsBody) : StrEst × Nat :=
  let p := ps 0
  let last := st.lastMean * (p : Int)
  match slot with
  | none => (countIn last { st with pend := last :: st.pend, iCount := st.lastMean }, 0)
  | some b =>
    match countedMean b b.meanA b.meanB with
    | none => (countIn last { st with pend := [], iCount := st.lastMean }, st.pend.length + 1)
    | some mean =>
      if b.span = 0 then (countIn last { st with pend := [], iCount := st.lastMean }, st.pend.length + 1)
      else
        let cover := min (b.span - 1) st.pend.length
        let back := sumI (st.pend.take cover)
        let rest := st.pend.drop cover
        let d0 := mean * sumI ((List.range b.span).map (fun n => (ps n : Int))) - back
        let one : Int × List Int :=
          match rest, countedMean b b.prevA b.prevB with
          | q :: t, some prev => if b.span = 1 then (prev * (ps 1 : Int) - q, t) else (0, rest)
          | _, _ => (0, rest)
        let d := d0 + one.1
        (countIn d { st with pend := [], iCount := mean, lastMean := mean }, one.2.length)

/-- Direction, Q_REV and the rest timer after counting (R179, R181). -/
def countAfter (restI : Rat) (p : Nat) (gaps : Nat) (st : StrEst) : StrEst :=
  let i : Rat := st.iCount
  let dir := if restI ≤ i then true else if i ≤ -restI then false else st.dirChg
  let rev := if dir = st.dirChg then st.qRev else 0
  { st with
    dirChg := dir, qRev := rev + st.dq, gap := gaps ≠ 0
    restMs := if gaps ≠ 0 ∨ restI ≤ absQ i then 0 else st.restMs + p }

/-- A gap of some ms on a cell: COUNT_GAP, the growth of SIGMA, and the gap event of R210. -/
def gapCell (iRated : Nat) (ms : Rat) (c : CellSt) : CellSt :=
  { c with
    countGap := true, gapEvent := true
    sigma := f32 (c.sigma + f32 (divQ ((iRated : Rat) * ms / 1000) (capMc c))) }

/-- Every used cell of a string rewritten. -/
def Module.eachCell (m : Module) (s : Nat) (f : CellSt → CellSt) : Module :=
  (m.cfg.cellsOf s).foldl (fun m (x : Nat × ChannelEntry) => m.modCell x.1 f) m

/-- Step 1 of R172 for one string in sweep `k`; `used` says whether the DZS-2 slot of the sweep is used. The first sweep after
dormancy counts itself alone (R198). -/
def Module.countString (m : Module) (k s : Nat) (used dormant : Bool) : Module :=
  let p := m.periodOf k
  let ps (n : Nat) : Nat := m.periodOf ((k + 4294967296 - n) % 4294967296)
  let slot := if used then m.dzs? (m.cfg.dzsOf s) else none
  let r :=
    if dormant then countStep ps { m.strE s with pend := [] } (slot.map (fun b => { b with span := min b.span 1 }))
    else countStep ps (m.strE s) slot
  let m := m.modStrE s (fun _ => countAfter (m.restI s) p r.2 r.1)
  let m := if r.2 = 0 then m else m.eachCell s (gapCell (m.cfg.str s).iRated ((p * r.2 : Nat) : Rat))
  if (m.strE s).restMs = 0 then m.eachCell s (fun c => { c with anchoredRest := false }) else m

/-! ## First estimates (R196) -/

/-- A cell waits for its first used sweep. -/
def waiting (c : CellSt) : Bool := c.firstEst = .waitSweep

/-- The first estimate of a cell (R196 steps 1 and 2), from the SOC its string or its own voltage gives. -/
def firstBase (sigmaProv : Nat) (q : Int) (s : Rat) (c : CellSt) : CellSt :=
  let c := setBase q (s * capMc c) c
  { c with sigma := f32 ((sigmaProv : Rat) / 10000), provisional := true, firstEst := .relaxing 0 naU16 true }

/-- Provisional bases for the cells of a string whose first used sweep this is (R196). -/
def Module.firstBases (m : Module) (s : Nat) (used : Wk → Bool) : Module :=
  let cells := m.cfg.cellsOf s
  let q := (m.strE s).qStr
  let known := cells.filterMap (fun (x : Nat × ChannelEntry) =>
    let c := m.cell x.1
    if c.firstEst = .none_ ∧ c.provisional = false then some (socOf q c) else none)
  cells.foldl (fun m (x : Nat × ChannelEntry) =>
    if waiting (m.cell x.1) && used (wkOfIx x.1) then
      match m.cellV x.1 0 with
      | none => m
      | some v =>
        let s0 := if known.isEmpty then ocvInv (m.ocvOf x.1) v else medianQ known
        m.modCell x.1 (firstBase m.cfg.soc.sigmaProv q s0)
    else m) m

/-- The relaxation check of a cell at a minute sweep (R196 steps 3 and 4): the partial first minute is passed over,
then ten complete minutes. -/
def relaxStep (sc : SocCfg) (cs : CurveSet) (curve : List (Rat × Rat)) (q : Int) (c : CellSt) : CellSt :=
  match c.firstEst with
  | .relaxing n first quiet =>
    let mean := c.means.getD c.minuteHead naU16
    if n = 0 then { c with firstEst := .relaxing 1 first quiet }
    else if n = 1 then { c with firstEst := .relaxing 2 mean quiet }
    else if n < 10 then { c with firstEst := .relaxing (n + 1) first quiet }
    else
      let d := ((mean : Int) - (first : Int)).natAbs
      if quiet ∧ mean ≠ naU16 ∧ first ≠ naU16 ∧ d * 100 ≤ sc.restDvdt * 9 then
        let c := setBase q (ocvInv curve mean * capMc c) c
        { c with sigma := sigmaAt cs curve mean, provisional := false, firstEst := .none_ }
      else { c with firstEst := .none_ }
  | _ => c

/-- The check fails once the counted current reaches REST_I (R196 step 3). -/
def relaxQuiet (loud : Bool) (c : CellSt) : CellSt :=
  match c.firstEst with
  | .relaxing _ _ _ => if loud then { c with firstEst := .none_ } else c
  | _ => c

/-! ## Balancing corrections (R162) -/

/-- A difference of two wrapping 32-bit counters as a signed value. -/
def wrapDiff (a b : Int) : Int :=
  let d := (a - b) % 4294967296
  if d < 2147483648 then d else d - 4294967296

/-- An addition to Q_CORR, kept for R210 too. -/
def addCorr (x : Rat) (c : CellSt) : CellSt :=
  { c with qCorr := f32 (c.qCorr + x), corrAdded := f32 (c.corrAdded + x) }

/-- A balancing reading of one worker (R162): the first one is a base, and after a restart of the worker leaves a gap. -/
def Module.balReading (m : Module) (r : BalReading) : Module :=
  let cells := m.cfg.cellsAt r.wk
  let m1 := m.modWk r.wk (fun x => { x with qBase := some r.q, rebase := false })
  match (m.wk r.wk).qBase with
  | none =>
    if (m.wk r.wk).rebase then cells.foldl (fun m (x : Nat × ChannelEntry) =>
      m.modCell x.1 (fun c => { c with balGap := true, gapEvent := true })) m1
    else m1
  | some old =>
    let eff : Rat := (m.cfg.bal.efficiency : Rat) / 100
    let dq (e : Nat) : Rat := (wrapDiff (r.q.getD (chOfIx e) 0) (old.getD (chOfIx e) 0) : Int)
    let known := cells.filterMap (fun (x : Nat × ChannelEntry) => (m.cellV x.1 0).map (fun v => (x.1, v)))
    let eOut := known.foldl (fun a (x : Nat × Rat) => if dq x.1 < 0 then f32 (a - f32 (dq x.1 * x.2)) else a) 0
    let eIn := known.foldl (fun a (x : Nat × Rat) => if dq x.1 < 0 then a else f32 (a + f32 (dq x.1 * x.2))) 0
    let sv := known.foldl (fun a (x : Nat × Rat) => f32 (a + x.2)) 0
    let sq := f32 (divQ (f32 (f32 (eff * eOut) - f32 (divQ eIn eff))) sv)
    cells.foldl (fun m (x : Nat × ChannelEntry) => m.modCell x.1 (addCorr (f32 (dq x.1 + sq)))) m1

/-! ## Self-discharge and uncertainty (R174, R175, R198) -/

/-- Self-discharge of a cell over `minutes` at a temperature in 0.01 degC (R174), mC. -/
def selfDischarge (cs : CurveSet) (minutes : Rat) (t : Int) (c : CellSt) : CellSt :=
  let k := (cs.sdPpmDay : Rat) / 1000000 / 1440 * exp2F (((t : Rat) / 100 - 25) / (cs.sdDoubling : Rat))
  addCorr (-(f32 (k * capMc c * minutes))) c

/-- Growth of SIGMA in one sweep (R175). -/
def growSigma (sc : SocCfg) (p : Nat) (dq : Int) (c : CellSt) : CellSt :=
  let g := (sc.countErrPpm : Rat) / 1000000 * absQ (dq : Rat) + (sc.iOffsetErr : Rat) * (p : Rat) / 1000
  { c with sigma := f32 (c.sigma + f32 (divQ g (capMc c))) }

/-! ## Minute means (R182) -/

/-- A used reading enters the running minute. -/
def minuteAdd (v : Option Rat) (c : CellSt) : CellSt :=
  match v with
  | none => c
  | some v => { c with minuteSum := c.minuteSum + (roundInt v).toNat, minuteN := c.minuteN + 1, hasV := true }

/-- The minute closes: a mean, or 0xFFFF when too few readings came or the worker was STALE in it. -/
def minuteClose (p : Nat) (c : CellSt) : CellSt :=
  let ok := 60000 / p ≤ 2 * c.minuteN ∧ c.minuteN ≠ 0 ∧ c.minuteStale = false
  let mean := if ok then (roundInt ((c.minuteSum : Rat) / (c.minuteN : Rat))).toNat else naU16
  let h := (c.minuteHead + 1) % 11
  { c with
    minuteHead := h, means := modAt c.means h (fun _ => mean), minuteSum := 0, minuteN := 0, minuteStale := false }

/-- The newest minute mean. -/
def newestMean (c : CellSt) : Nat := c.means.getD c.minuteHead naU16

/-- The voltage is settled (R182): the newest mean and the one ten minutes older agree. -/
def settledV (sc : SocCfg) (c : CellSt) : Bool :=
  let a := newestMean c
  let b := c.means.getD ((c.minuteHead + 1) % 11) naU16
  a ≠ naU16 && b ≠ naU16 && decide (((a : Int) - (b : Int)).natAbs * 100 ≤ sc.restDvdt * 10)

/-! ## Cut-off (R191, R225) -/

/-- Which cut-off a used sweep reaches for a cell: 0 none, 1 discharge, 2 charge; with the voltage that decides. -/
def Module.cutoffOf (m : Module) (s e : Nat) : Nat × Rat :=
  let cs := m.setOf s
  let i : Rat := (m.strE s).iCount
  if i ≤ -(m.restI s) then
    match m.cellV e (-1) with
    | some v => if v ≤ (cs.vDisCutoff : Rat) then (1, v) else (0, 0)
    | none => (0, 0)
  else if m.restI s ≤ i then
    match m.cellV e 1 with
    | some v => if (cs.vChgCutoff : Rat) ≤ v then (2, v) else (0, 0)
    | none => (0, 0)
  else (0, 0)

/-- Saturation of a record's VALUE. -/
def i32 (v : Int) : Int := clampI (-2147483647) 2147483647 v

/-- A cell at cut-off (SOC_RECONCILE, R191): a base from the voltage, RECONCILED, and the hold of R225. A presented
cell keeps its count. -/
def Module.reconcile (m : Module) (s e : Nat) : Module :=
  let k := m.cutoffOf s e
  if k.1 = 0 then m
  else
    let cs := m.setOf s
    let c := m.cell e
    let q := (m.strE s).qStr
    let hold (c : CellSt) : CellSt :=
      if k.1 = 1 then { c with cutDisHold := true, cutDisSinceBase := true }
      else { c with cutChgHold := true, cutChgSinceBase := true }
    let m := m.modStrE s (fun st => { st with cut := k.1 })
    if m.presented e then m.modCell e hold
    else
      let drop := absQ ((m.strE s).iCount : Rat) / 1000 * (m.rOhm e + m.rPol e) / 100
      let x := if k.1 = 1 then k.2 + drop else k.2 - drop
      let curve := branchAt cs (if k.1 = 1 then 1 else 0) (cellT c)
      let newMc := ocvInv curve x * capMc c
      let shift := roundInt (newMc - chgMc q c)
      let upd (c : CellSt) : CellSt :=
        let c := hold (setBase q newMc c)
        { c with sigma := sigmaAt cs curve x, reconciled := true }
      (m.modCell e upd).jotDom .esi eSocReconciled sevInfo scCell e (i32 shift) (int32s [(e : Int), i32 shift])

/-- The holds of R225 end at a current of the opposite sense. -/
def releaseHold (restI : Rat) (i : Int) (c : CellSt) : CellSt :=
  { c with
    cutDisHold := c.cutDisHold && decide ((i : Rat) < restI)
    cutChgHold := c.cutChgHold && decide (-restI < (i : Rat)) }

/-! ## Usable charge (R186, R187) -/

/-- s_lo and s_hi of a cell (R186). -/
def Module.loaded (m : Module) (s e : Nat) : Rat × Rat :=
  let cs := m.setOf s
  let t := cellT (m.cell e)
  let r := m.rOhm e + m.rPol e
  let dis := m.shareC s m.cfg.soc.iRefDis 100 / 1000 * r / 100
  let chg := m.shareC s m.cfg.soc.iRefChg 100 / 1000 * r / 100
  (lowestReaching (branchAt cs 1 t) ((cs.vDisCutoff : Rat) + dis), highestWithin (branchAt cs 0 t) ((cs.vChgCutoff : Rat) - chg))

/-- The least of a list of valued positions, ties to the first. -/
def leastAt : List (Nat × Rat) → Option (Nat × Rat)
  | [] => none
  | x :: t => match leastAt t with
    | none => some x
    | some y => if y.2 < x.2 then some y else some x

/-- U of D and C (R187). -/
def uOf (d c : Rat) : Rat := if d ≤ 0 then 0 else if c ≤ 0 then 10000 else 10000 * d / (d + c)

/-- D, C and the limiting positions of a string (R187); a cell without a base takes no part. -/
def Module.usable (m : Module) (s : Nat) : Option ((Nat × Rat) × (Nat × Rat)) :=
  let sc := m.cfg.soc
  let cells := (m.cfg.cellsOf s).filter (fun (x : Nat × ChannelEntry) => !waiting (m.cell x.1))
  let q := (m.strE s).qStr
  let ds := cells.map (fun (x : Nat × ChannelEntry) =>
    let c := m.cell x.1
    (x.2.position, chgMc q c - (m.loaded s x.1).1 * capMc c - (sc.bottomReserve : Rat) / 10000 * capMc c))
  let cs := cells.map (fun (x : Nat × ChannelEntry) =>
    let c := m.cell x.1
    (x.2.position, (m.loaded s x.1).2 * capMc c - (sc.topReserve : Rat) / 10000 * capMc c - chgMc q c))
  match leastAt ds, leastAt cs with
  | some d, some c => some (d, c)
  | _, _ => none

/-- CAPACITY_LOW of a cell (R192). -/
def Module.capacityLow (m : Module) (s e : Nat) : Module :=
  let c := m.cell e
  if waiting c ∨ c.capacityLow then m
  else
    let chg := chgMc (m.strE s).qStr c
    let b := m.loaded s e
    if (chg < b.1 * capMc c ∧ c.cutDisSinceBase = false) ∨ (b.2 * capMc c < chg ∧ c.cutChgSinceBase = false) then
      (m.modCell e (fun c => { c with capacityLow := true })).raise .esi cCapacityLow sevWarning scCell e
    else m

/-! ## The reported value (R189) -/

/-- One sweep of R189 over exact values (log 173): previous u, d, c, r and off; the sweep's u, d, c, current, counted charge
in mC, REST_I and the slew of the sweep. Answers r and off. -/
def report (uP dP cP rP off u d c i dq restI lim : Rat) : Rat × Rat :=
  let flow := divQ (10000 * dq) (dP + cP)
  let off := off - ((u - uP) - flow)
  let dec := let a := absQ off; if a < lim then a else lim
  let off := if 0 < off ∧ i < restI then off - dec else if off < 0 ∧ -restI < i then off + dec else off
  let r := u + off
  let fix : Rat × Rat :=
    if i ≤ -restI ∧ rP < r then (rP, off - (r - rP))
    else if restI ≤ i ∧ r < rP then (rP, off + (rP - r))
    else (r, off)
  let fix : Rat × Rat :=
    if d ≤ 0 then (0, -u) else if c ≤ 0 then (10000, 10000 - u) else fix
  (clampQ 0 10000 fix.1, fix.2)

/-- The slew of one sweep, 0.01 % (R189). -/
def Module.slew (m : Module) : Rat := (m.cfg.soc.socSlew : Rat) * (m.est.period : Rat) / 60000

/-- The usable quantities and the reported value of a string (R187, R189, R191 step 3); `resume` after a rebuild
from the charge mirror (R194). -/
def Module.reportString (m : Module) (s : Nat) (resume : Bool) : Module :=
  match m.usable s with
  | none => m.modStrE s (fun st => { st with usable := false })
  | some (d, c) =>
    let st := m.strE s
    let u := uOf d.2 c.2
    let ro : Rat × Rat :=
      if st.cut = 1 then (0, -u)
      else if st.cut = 2 then (10000, 10000 - u)
      else if resume && st.begun then (st.r, st.r - u)
      else if st.begun = false then (u, 0)
      else report st.u st.d st.c st.r st.off u d.2 c.2 st.iCount (st.dq : Rat) (m.restI s) m.slew
    m.modStrE s (fun st => { st with
      r := ro.1, off := ro.2, u := u, d := d.2, c := c.2, posDis := d.1, posChg := c.1, usable := true, begun := true })

/-- The strings a bay's SOC includes, and whether it is BAY_OFFLINE (R188). -/
def Module.socStrings (m : Module) (b : Nat) : List Nat × Bool :=
  let closed := m.included b
  if closed.isEmpty then
    ((m.cfg.stringsOf b).filter (fun s => let st := (m.sInst s).state; st ≠ 7 ∧ st ≠ 8 ∧ st ≠ 9), true)
  else (closed, false)

/-- The class of a cell (R199). -/
def confOf (c : CellSt) : Nat :=
  if c.provisional then 3 else if c.sigma ≤ 15 / 1000 then 0 else if c.sigma ≤ 4 / 100 then 1 else 2

/-- The cell of a string at a position. -/
def Module.cellAt (m : Module) (s pos : Nat) : Nat :=
  ((m.cfg.cellsOf s).find? (fun (x : Nat × ChannelEntry) => x.2.position = pos)).elim 0 (·.1)

/-- The class of a string: the worse of its two limiting cells (R199). -/
def Module.strConf (m : Module) (s : Nat) : Nat :=
  let st := m.strE s
  max (confOf (m.cell (m.cellAt s st.posDis))) (confOf (m.cell (m.cellAt s st.posChg)))

/-- The usable quantities and the reported value of a bay or the domain over the strings it includes. While it includes none it
has no usable quantities, and what R189 keeps stays as it stood (R188). -/
def Module.reportOver (m : Module) (b : Nat) (strs : List Nat) (offline resume : Bool) : Module :=
  let strs := strs.filter (fun s => (m.strE s).usable)
  if strs.isEmpty then
    m.modBayE b (fun x => { x with usable := false, strings := 0, offline := offline, conf := 0xFF })
  else
    let pos (x : Rat) : Rat := if x < 0 then 0 else x
    let d := sumQ (strs.map (fun s => pos (m.strE s).d))
    let c := sumQ (strs.map (fun s => pos (m.strE s).c))
    let u := if d + c = 0 then 0 else uOf d c
    let i := sumQ (strs.map (fun s => ((m.strE s).iCount : Rat)))
    let dq := sumQ (strs.map (fun s => ((m.strE s).dq : Rat)))
    let ri := sumQ (strs.map m.restI)
    let x := m.bayE b
    let ro : Rat × Rat :=
      if resume && x.begun then (x.r, x.r - u)
      else if x.begun = false then (u, 0)
      else report x.u x.d x.c x.r x.off u d c i dq ri m.slew
    m.modBayE b (fun x => { x with
      r := ro.1, off := ro.2, u := u, d := d, c := c, strings := strs.length, usable := true, begun := true
      offline := offline, conf := (greatestN (strs.map m.strConf)).getD 0xFF })

/-- Bays and the domain (R188). -/
def Module.reportBays (m : Module) (resume : Bool) : Module :=
  let m := m.cfg.bays.foldl (fun m b => let p := m.socStrings b; m.reportOver b p.1 p.2 resume) m
  m.reportOver 4 ((m.cfg.bays.map (fun b => (m.socStrings b).1)).flatten) false resume

/-! ## The string word of the charge mirror (R193) -/

/-- FAILSAFE_CLOSED: the set stores HOLD in the string's DZS-2 (DEDUCED, log 58). -/
def Module.failClosed (m : Module) (s : Nat) : Bool := decide (s ∈ m.cfg.seq.holdStrings)

/-- The charge word of a string (Table 07-10). -/
def Module.mirStr (m : Module) (seq s : Nat) : MirStr :=
  let x := m.strE s
  { r := roundInt x.r, dirChg := x.dirChg, failClosed := m.failClosed s
    leaseLeft := min 16383 (m.wk (m.cfg.dzsOf s)).dzs.leaseLeft
    qRev := min 65535 (x.qRev.natAbs / 360000), seq := seq % 65536 }

end Sys2Proof.Machine
end

