-- ==== Sys2Proof/Machine/Impedance.lean ====
section
/-! DEFINITION. Step-burst fits (BURST_FIT, R203 to R206), their filter (R207) and what follows from it (R209). Every
sum runs in single precision in sample order (R205). -/

namespace Sys2Proof.Machine

/-- A burst sample: current in A, voltage in V, masked. -/
abbrev Smp := Rat × Rat × Bool

/-! ## The window (R145, R203) -/

/-- Plant time of the sample instant of a sweep, ns, at the present offset. -/
def Module.tOfSweep (m : Module) (j : Nat) : Int :=
  (m.instantOf j : Int) + m.time.offset

/-- The first sample instant of a burst window, ns: the first multiple of 500 us at or after T_STEP - 64 ms. -/
def windowStart (tStep : Nat) : Int :=
  let x := (tStep : Int) - 64000000
  (x + 499999) / 500000 * 500000

/-- READY of a ring's sweep corner, ns (Table 05-13). -/
def readyNs : Nat → Int
  | 0 => 24000000 | 1 => 6000000 | 2 => 1500000 | _ => 400000

/-- The intervals, in ns, in which a channel is masked: from the start of a pull beside it to 5 ms after its end. -/
def Module.maskSpans (m : Module) (w : Wk) (c k : Nat) (t0 : Int) : List (Int × Int) :=
  let p := m.est.period
  let ready := readyNs (look 1 m.cfg.sweep.sweepCorner w.1)
  let first := (m.tOfSweep k - t0) / ((p : Int) * 1000000) + 3
  (List.range (300 / p + 7)).filterMap (fun n =>
    let j := (((k : Int) - first + (n : Int)) % 4294967296).toNat
    match m.pullAt w j with
    | some q => if q = c ∨ q = c + 1 then
        some (m.tOfSweep j - ready - 500000, m.tOfSweep j + ready + 5500000) else none
    | none => none)

/-- A transfer of the channel starts or ends too near the window (R203). -/
def Module.balEdge (m : Module) (w : Wk) (c : Nat) (t0 : Int) : Bool :=
  let lo := t0 - 10000000
  let hi := t0 + 511 * 500000 + 10000000
  let hits (a b : Int) : Bool := decide (a ≤ hi ∧ lo ≤ b)
  (m.wk w).transfers.any (fun (t : Nat × Nat × Nat) => t.1 = c &&
    (let e := m.tOfSweep ((t.2.1 + 2) % 4294967296) + (t.2.2 : Int) * 1000000000
     hits e (e + 40000000))) ||
  (m.wk w).edges.any (fun (t : Nat × Nat) => t.1 = c && hits (m.tOfSweep t.2) (m.tOfSweep t.2 + 40000000))

/-! ## Sums in single precision -/

/-- Mean of values in order. -/
def meanF (l : List Rat) : Rat := f32 (divQ (l.foldl (fun a x => f32 (a + x)) 0) (l.length : Rat))

/-- Standard deviation about a mean, over the count (DEDUCED, log 35). -/
def stdevF (mean : Rat) (l : List Rat) : Rat :=
  sqrtF (f32 (divQ (l.foldl (fun a x => f32 (a + f32 (f32 (x - mean) * f32 (x - mean)))) 0) (l.length : Rat)))

/-- Unmasked samples of an index range. -/
def unmasked (s : List Smp) (a n : Nat) : List Smp := ((s.drop a).take n).filter (fun x => !x.2.2)

/-- Index of the first sample from `n` on that satisfies `f`. -/
def firstIx (f : Smp → Bool) : Nat → List Smp → Option Nat
  | _, [] => none
  | n, x :: t => if f x then some n else firstIx f (n + 1) t

/-- Index of the last sample that satisfies `f`. -/
def lastIx (f : Smp → Bool) (s : List Smp) : Option Nat :=
  (s.foldl (fun (a : Nat × Option Nat) x => (a.1 + 1, if f x then some a.1 else a.2)) (0, none)).2

/-! ## The polarisation fit (R205) -/

/-- tau of a grid point, in ms. -/
def tauGrid (g : Nat) : Rat := f32 (5 * exp2F (5 * (g : Rat) / 31))

/-- The driven response x over samples in order, and each sample with its x. -/
def drive (alpha iPre : Rat) : Rat → List Smp → List (Rat × Smp)
  | _, [] => []
  | x, s :: t =>
    let x := f32 (x + f32 (alpha * f32 (f32 (s.1 - iPre) - x)))
    (x, s) :: drive alpha iPre x t

/-- One least-squares fit at a tau (ms): polarisation in uOhm, sum of squares, sum of x squared, and x by sample. -/
def polFit (tau ohm iPre vPre : Rat) (s : List Smp) : Rat × Rat × Rat × List Rat :=
  let alpha := f32 (1 - expF (-(1 / 2) / tau))
  let xs := drive alpha iPre 0 s
  let used := xs.filter (fun (p : Rat × Smp) => !p.2.2.2)
  let y (p : Rat × Smp) : Rat := f32 (f32 (p.2.2.1 - vPre) - f32 (f32 (ohm * f32 (p.2.1 - iPre)) / 1000000))
  let sxy := used.foldl (fun a p => f32 (a + f32 (p.1 * y p))) 0
  let sxx := used.foldl (fun a p => f32 (a + f32 (p.1 * p.1))) 0
  let pol := f32 (1000000 * f32 (divQ sxy sxx))
  let sse := used.foldl (fun a p =>
    let e := f32 (y p - f32 (f32 (pol / 1000000) * p.1))
    f32 (a + f32 (e * e))) 0
  (pol, sse, sxx, xs.map (·.1))

/-- The grid point with the lowest sum of squares, the lower one on a tie. -/
def bestGrid (l : List Rat) : Nat :=
  (l.foldl (fun (a : Nat × Nat × Option Rat) x => match a.2.2 with
    | none => (a.1 + 1, a.1, some x)
    | some y => if x < y then (a.1 + 1, a.1, some x) else (a.1 + 1, a.2.1, some y)) (0, 0, none)).2.1

/-- A fit over the grid with the parabola in log tau (R205): whether the best point is at an end, tau in ms, and the
fit there. The vertex lies (s0 - s2) / (2 (s0 - 2 s1 + s2)) grid steps from the best point. -/
def gridFit (ohm iPre vPre : Rat) (s : List Smp) : Bool × Rat × Rat × Rat × Rat × List Rat :=
  let sses := (List.range 32).map (fun g => (polFit (tauGrid g) ohm iPre vPre s).2.1)
  let g := bestGrid sses
  if g = 0 ∨ g = 31 then
    let f := polFit (tauGrid g) ohm iPre vPre s
    (true, tauGrid g, f.1, f.2.1, f.2.2.1, f.2.2.2)
  else
    let s0 := sses.getD (g - 1) 0
    let s1 := sses.getD g 0
    let s2 := sses.getD (g + 1) 0
    let d := divQ (s0 - s2) (2 * (s0 - 2 * s1 + s2))
    let tau := f32 (tauGrid g * exp2F (5 * d / 31))
    let f := polFit tau ohm iPre vPre s
    (false, tau, f.1, f.2.1, f.2.2.1, f.2.2.2)

/-! ## A cell's fit (R204, R206) -/

/-- What a fit yields: its code, and the samples accepted with their variances (uOhm and uOhm squared, tau in
0.1 ms). -/
structure FitResult where
  code : Nat := 0
  ohm : Option (Rat × Rat) := none
  pol : Option (Rat × Rat) := none
  tau : Option Rat := none
  deriving DecidableEq, Repr

/-- A sample lies within 0.25 to 4 times the presented value. -/
def plausible (z pres : Rat) : Bool := decide (pres / 4 ≤ z ∧ z ≤ 4 * pres)

/-- The fit of a cell over its samples (R204 to R206); `pre` is the code of a bar that stands before the waveform
is looked at, 0 for none. `h` is the first sample at or after T_STEP; `pres` the presented R_OHM, R_POL and TAU_POL. -/
def fitCell (stepSize : Rat) (residMax : Nat) (bar h : Nat) (pres : Rat × Rat × Rat) (s : List Smp) : FitResult :=
  let pre := unmasked s 0 96
  let iPre := meanF (pre.map (·.1))
  let vPre := meanF (pre.map (·.2.1))
  let sv := let x := stdevF vPre (pre.map (·.2.1)); if x < 1 / 10000 then f32 (1 / 10000) else x
  let di := f32 (meanF ((unmasked s (h + 36) 8).map (·.1)) - iPre)
  let near (x : Smp) : Bool := decide (absQ (x.1 - iPre) ≤ absQ di / 10)
  let far (x : Smp) : Bool := decide (absQ di * 9 / 10 ≤ absQ (x.1 - iPre))
  if absQ di < stepSize then { code := 1 }
  else if pre.any (fun x => decide (absQ di / 20 < absQ (x.1 - iPre))) then { code := 2 }
  else
    match lastIx near (s.take h) with
    | none => { code := 2 }
    | some a =>
      match firstIx far (a + 1) (s.drop (a + 1)) with
      | none => { code := 3 }
      | some b =>
        let sa := s.getD a (0, 0, true)
        let sb := s.getD b (0, 0, true)
        let top := min (a + 380) 511
        let win := (s.drop (a + 1)).take (top - a)
        let n := (win.filter (fun x => !x.2.2)).length
        let fast := decide (b - a ≤ 2)
        let short := decide (n < 300)
        if sa.2.2 ∨ sb.2.2 ∨ pre.length < 48 then { code := 5 }
        else if bar ≠ 0 then { code := bar }
        else
          let dI := f32 (sb.1 - sa.1)
          let ohmE := f32 (1000000 * f32 (divQ (f32 (sb.2.1 - sa.2.1)) dI))
          let f1 := gridFit ohmE iPre vPre win
          let xb := f1.2.2.2.2.2.getD (b - a - 1) 0
          let ohm :=
            if fast then (if short then ohmE else f32 (ohmE - f32 (divQ (f32 (f1.2.2.1 * xb)) dI))) else pres.1
          let f2 := gridFit ohm iPre vPre win
          let resid := sqrtF (f32 (divQ f2.2.2.2.1 (n : Rat)))
          let bad := decide ((residMax : Rat) / 10 * sv < resid)
          let ohmOk := fast && plausible ohm pres.1
          let polOk := !short && !bad && !f2.1 && plausible f2.2.2.1 pres.2.1
          let tauOk := !short && !bad && !f2.1 && plausible (f2.2.1 * 10) pres.2.2
          { code :=
              if !fast then 3 else if short then 4 else if bad then 10
              else if ohmOk && polOk && tauOk then 0 else 11
            ohm := if ohmOk then some (ohm, f32 (2 * divQ (sv * sv) (dI * dI) * 1000000000000)) else none
            pol := if polOk then some (f2.2.2.1, f32 (divQ (sv * sv) f2.2.2.2.2.1 * 1000000000000)) else none
            tau := if tauOk then some (f2.2.1 * 10) else none }

/-! ## The filter (R207, R209) -/

/-- An ohmic sample at 25 degC merged (R207); also whether three outliers in a row have moved the value. -/
def mergeOhm (z q : Rat) (c : CellSt) : CellSt × Bool :=
  match c.rohm25 with
  | none => ({ c with rohm25 := some (roundInt z).toNat, rohmVar := f32 q }, false)
  | some r =>
    let r : Rat := r
    if 5 * sqrtF (f32 (c.rohmVar + q)) < absQ (z - r) then
      let above := decide (r < z)
      let fresh := c.outN = 0 ∨ above ≠ c.outAbove
      let n := (if fresh then 0 else c.outN) + 1
      let sum := f32 ((if fresh then 0 else c.outSum) + z)
      if n = 3 then
        ({ c with
          rohm25 := some (roundInt (sum / 3)).toNat, rohmVar := f32 (3 * q), outN := 0, outSum := sum, outAbove := above },
          true)
      else ({ c with outN := n, outSum := sum, outAbove := above }, false)
    else
      let k := divQ c.rohmVar (c.rohmVar + q)
      ({ c with
        rohm25 := some (roundInt (r + k * (z - r))).toNat, rohmVar := f32 (c.rohmVar * (1 - k)), outN := 0 }, false)

/-- A polarisation sample at 25 degC merged. -/
def mergePol (z q : Rat) (c : CellSt) : CellSt :=
  match c.rpol25 with
  | none => { c with rpol25 := some (roundInt z).toNat, rpolVar := f32 q }
  | some r =>
    let r : Rat := r
    let k := divQ c.rpolVar (c.rpolVar + q)
    { c with rpol25 := some (roundInt (r + k * (z - r))).toNat, rpolVar := f32 (c.rpolVar * (1 - k)) }

/-- A TAU_POL sample merged: 0.2 of the difference. -/
def mergeTau (z : Rat) (c : CellSt) : CellSt :=
  match c.tauPol with
  | none => { c with tauPol := some (roundInt z).toNat }
  | some t => { c with tauPol := some (roundInt ((t : Rat) + (z - (t : Rat)) / 5)).toNat }

/-- Growth of the variances on a minute sweep (R207). -/
def growVar (l : LearnCfg) (c : CellSt) : CellSt :=
  let g (v : Option Nat) : Rat := match v with
    | some v => let x : Rat := (l.impDrift : Rat) / 10000 * (v : Rat); f32 (x * x / 1440)
    | none => 0
  { c with rohmVar := f32 (c.rohmVar + g c.rohm25), rpolVar := f32 (c.rpolVar + g c.rpol25) }

/-- A baseline is due (R209): FIT_N at 20 or more with a narrow variance, none set, none barred by R220. -/
def baselineDue (c : CellSt) : Bool :=
  match c.rohm25 with
  | some r => c.rohmBase.isNone && !c.restored20 && decide (20 ≤ c.fitN) &&
      decide (sqrtF c.rohmVar ≤ 3 / 100 * (r : Rat))
  | none => false

/-- The bars of Table 08-4 that do not look at the waveform, in its order: 6 BAL_EDGE, 7 SENSE, 8 SOC_BAND,
9 TEMP_BAND; 0 for none. -/
def Module.fitBar (m : Module) (e : Nat) (t0 : Int) (temp : Option Int) : Nat :=
  let l := m.cfg.learn
  let w := wkOfIx e
  let s := m.soc e * 10000
  if m.balEdge w (chOfIx e) t0 then 6
  else if m.presented e || (look {} (m.wk w).sense.chans (chOfIx e)).fault then 7
  else if s < (l.impSocLo : Rat) ∨ (l.impSocHi : Rat) < s then 8
  else match temp with
    | none => 9
    | some t => if t < l.impTMin ∨ l.impTMax < t then 9 else 0

/-- Shunt channel A of a string's DZS-2 is faulted in its newest used slot. -/
def Module.shuntA (m : Module) (s : Nat) : Bool :=
  match m.dzs? (m.cfg.dzsOf s) with | some d => bitAt d.flags 0 | none => false

/-- The strings whose step has been sampled by sweep `k` keep what the fit reads of that time: the shunt channel (R203) and the
governing temperatures (R207). -/
def Module.noteSteps (m : Module) (k : Nat) : Module :=
  m.cfg.strings.foldl (fun m (x : Nat × StringEntry) =>
    let b : BurstSt := look {} m.bursts x.1
    match b.active with
    | some y =>
      if y.atStep.isNone ∧ (y.tStep : Int) ≤ m.tOfSweep k then
        let at_ := (m.shuntA x.1, (m.cfg.cellsOf x.1).map (fun (c : Nat × ChannelEntry) => (c.1, m.govT c.1)))
        { m with bursts := put m.bursts x.1 { b with active := some { y with atStep := some at_ } } }
      else m
    | none => m) m

/-- The governing temperature of a cell at the step of a burst (R207); the present one where no sweep of the step was estimated. -/
def Module.stepT (m : Module) (e : Nat) (b : Burst) : Option Int :=
  match b.atStep with
  | some x => look none x.2 e
  | none => m.govT e

/-- The samples of a cell in a burst, when its block and both blocks of the current channel are complete (R203). -/
def Module.burstSamples (m : Module) (s e k : Nat) (b : Burst) (t0 : Int) : Option (List Smp) :=
  let w := wkOfIx e
  let dz := m.cfg.dzsOf s
  let chB := match b.atStep with | some x => x.1 | none => m.shuntA s
  let i0 := find b.blocks (dz.2, if chB then 2 else 0)
  let i1 := find b.blocks (dz.2, if chB then 3 else 1)
  match i0, i1, find b.blocks (w.2, chOfIx e) with
  | some x, some y, some v =>
    if x.length = 256 ∧ y.length = 256 ∧ v.length = 512 then
      let spans := m.maskSpans w (chOfIx e) k t0
      some (((x ++ y).zip v).zipIdx.map (fun (p : (Int × Int) × Nat) =>
        let t := t0 + (p.2 : Int) * 500000
        (f32 ((p.1.1 : Rat) / 1000), f32 ((p.1.2 : Rat) / 10000), spans.any (fun sp => decide (sp.1 ≤ t ∧ t ≤ sp.2)))))
    else none
  | _, _, _ => none

/-- One cell's fit of a burst, its filter and its journal record (R203 to R207). -/
def Module.fitOne (m : Module) (s e k : Nat) (b : Burst) : Module :=
  let t0 := windowStart b.tStep
  match m.burstSamples s e k b t0 with
  | none => m
  | some smp =>
    let l := m.cfg.learn
    let h := (((b.tStep : Int) - t0 + 499999) / 500000).toNat
    let temp := m.stepT e b
    let r := fitCell (m.shareC s m.cfg.sweep.stepSize 100 / 1000) l.fitResidMax (m.fitBar e t0 temp) h
      (m.rOhm e, m.rPol e, (m.tau e : Rat)) smp
    let f := tempFactor l (temp.getD (cellT (m.cell e)))
    let old := (m.cell e).rohm25
    let m := m.modStrE s (fun st => { st with rejects := modAt st.rejects r.code (· + 1) })
    let m := m.modCell e (fun c => { c with lastReject := r.code })
    let m := match r.ohm with
      | none => m
      | some (z, q) =>
        let x := mergeOhm (f32 (divQ z f)) (f32 (divQ q (f * f))) (m.cell e)
        let m := m.modCell e (fun _ => { x.1 with fitN := bump16 x.1.fitN, tFit := b.tStep })
        if x.2 then
          m.jotDom .esi eImpJump sevWarning scCell e (i32 ((x.1.rohm25.getD 0 : Nat) : Int))
            (int32s [(e : Int), ((old.getD 0 : Nat) : Int), ((x.1.rohm25.getD 0 : Nat) : Int)])
        else m
    let m := match r.pol with
      | none => m
      | some (z, q) => m.modCell e (fun c => { mergePol (f32 (divQ z f)) (f32 (divQ q (f * f))) c with tFit := b.tStep })
    match r.tau with
    | none => m
    | some z => m.modCell e (fun c => { mergeTau z c with tFit := b.tStep })

/-- The bursts a manifest names, in order of T_STEP (R203). -/
def Module.namedBursts (m : Module) (man : Manifest) : List (Nat × Burst) :=
  sortBy (fun (x : Nat × Burst) => (x.2.tStep : Int)) (man.bursts.filterMap (fun (p : Nat × Nat) =>
    ((look {} m.bursts p.1).archive.find? (fun b => b.freezeId = p.2)).map (fun b => (p.1, b))))

/-- A burst has entered estimation with a sweep (R386). -/
def Module.enterBurst (m : Module) (s k : Nat) (b : Burst) : Module :=
  let x := look {} m.bursts s
  { m with bursts := put m.bursts s { x with
      archive := x.archive.map (fun y => if y.freezeId = b.freezeId ∧ y.tStep = b.tStep then { y with entered := some k } else y) } }

/-- Every fit of a sweep (R203). -/
def Module.fitAll (m : Module) (k : Nat) (man : Manifest) : Module :=
  (m.namedBursts man).foldl (fun m (x : Nat × Burst) =>
    ((m.cfg.cellsOf x.1).foldl (fun m (c : Nat × ChannelEntry) => m.fitOne x.1 c.1 k x.2) m).enterBurst x.1 k x.2) m

/-- IMP_RISE and IMP_OUTLIER of a string's cells (R209). -/
def Module.impSignals (m : Module) (s : Nat) : Module :=
  let l := m.cfg.learn
  let cells := m.cfg.cellsOf s
  let med := medianQ (cells.filterMap (fun (x : Nat × ChannelEntry) => (m.cell x.1).rohm25.map (fun r => (r : Rat))))
  cells.foldl (fun m (x : Nat × ChannelEntry) =>
    let c := m.cell x.1
    let rise := match c.rohm25, c.rohmBase with
      | some r, some b => decide ((b : Rat) * (100 + (l.impRisePct : Rat)) / 100 ≤ (r : Rat))
      | _, _ => false
    let out := match c.rohm25 with
      | some r => decide (med * (l.impOutlierPct : Rat) / 100 < (r : Rat) - med) &&
          decide (3 * sqrtF c.rohmVar < (r : Rat) - med)
      | none => false
    let m := m.modCell x.1 (fun c => { c with impRise := rise, impOutlier := out })
    let m := m.setCond rise .esi cImpRise sevWarning scCell x.1
    m.setCond out .esi cImpOutlier sevWarning scCell x.1) m

end Sys2Proof.Machine
end

