-- ==== Sys2Proof/Machine/Capacity.lean ====
section
/-! DEFINITION. Anchors (R183, R184) and capacity learning (R210 to R214), with what it hands to Caldera (R217,
R218). -/

namespace Sys2Proof.Machine

/-! ## Records for Caldera (R217, R218) -/

/-- A sorted set of entries with one more. -/
def addEntry (e : Nat) (l : List Nat) : List Nat := if e ∈ l then l else insertBy (fun x => (x : Int)) e l

/-- The ESI hands a capacity record to the MGI (R217 step 1): the intent is journalled and WRITE_PENDING set. A
newer record replaces one that still waits. `exempt` frees the write from the hour of R218. -/
def Module.handRecord (m : Module) (e oldCap : Nat) (exempt : Bool) : Module :=
  let waits := e ∈ m.cal.capWait
  let ver := if waits then (m.cell e).capVer else ((m.cell e).capVer + 1) % 4294967296
  let m := m.modCell e (fun c => { c with capVer := ver, writePending := true })
  let m := { m with cal := { m.cal with
    capWait := addEntry e m.cal.capWait
    capExempt := if exempt then addEntry e m.cal.capExempt else m.cal.capExempt } }
  m.jot .mgi eCapacityIntent sevInfo scCell e (i32 ((m.cell e).cap : Int))
    (le 4 oldCap ++ le 4 (m.cell e).cap ++ le 4 ver)

/-- The fields a first estimate gives (R214). -/
def firstCapacity (l : LearnCfg) (nameplate : Nat) (c : CellSt) : CellSt :=
  { c with
    cap := nameplate, capVar := f32 (((l.capSigmaInit : Rat) / 10000) * ((l.capSigmaInit : Rat) / 10000))
    nameplateOnly := true, learnDue := true, startLo := {}, startHi := {}
    rohm25 := none, rpol25 := none, tauPol := none, fitN := 0, rohmVar := 0, rpolVar := 0, rohmBase := none
    outSum := 0, outN := 0, outAbove := false, impOutlier := false, impRise := false, restored := false
    restored20 := false, lastReject := 0, tFit := 0 }

/-- A first estimate of a cell (R196 step 1, R214) with its record (R217). -/
def Module.firstEstimate (m : Module) (e : Nat) : Module :=
  let old := (m.cell e).cap
  let m := m.modCell e (fun c => { firstCapacity m.cfg.learn (m.chEntry e).nameplate c with
    firstEst := .waitSweep, provisional := true, hasV := false })
  m.handRecord e old true

/-! ## Window starts (R210) -/

/-- What one sweep does to a window start. -/
def startStep (active peak restEnded mainBad midRest gapEv : Bool) (dq : Int) (corr : Rat) (st : StartSlot) : StartSlot :=
  if st.valid = false then st
  else
    let st : StartSlot := { st with qLearn := f32 (st.qLearn + corr) }
    let st : StartSlot :=
      if active then
        { st with
          activeN := st.activeN + 1, absQ := st.absQ + (dq.natAbs : Int)
          peakN := if peak then st.peakN + 1 else st.peakN }
      else st
    let st : StartSlot := if restEnded then { st with restEnded := true } else st
    let st : StartSlot := if mainBad ∨ (st.restEnded ∧ midRest) then { st with mainOk := false } else st
    if gapEv then { st with mainOk := false, fbOk := false } else st

/-- R210 for every used cell of a string. -/
def Module.startsString (m : Module) (s : Nat) : Module :=
  let l := m.cfg.learn
  let st := m.strE s
  let i := absQ (st.iCount : Rat)
  let active := decide (m.restI s ≤ i)
  let peak := decide (m.shareC s l.ratePeak 100 < i)
  let cells := m.cfg.cellsOf s
  let temps := cells.filterMap (fun (x : Nat × ChannelEntry) => m.govT x.1)
  let hi := temps.foldl max (temps.headD 0)
  let lo := temps.foldl min (temps.headD 0)
  let wide := decide ((l.tSpread : Int) < hi - lo)
  let mid := decide (l.midRestMaxMin * 60000 ≤ st.restMs)
  cells.foldl (fun m (x : Nat × ChannelEntry) =>
    let bad := wide || (match m.govT x.1 with | none => true | some t => decide (t < l.tLo) || decide (l.tHi < t))
    m.modCell x.1 (fun c =>
      let f := startStep active peak (decide (st.restMs = 0)) bad mid c.gapEvent st.dq c.corrAdded
      { c with startLo := f c.startLo, startHi := f c.startHi, corrAdded := 0, gapEvent := false })) m

/-! ## Windows (R211 to R213) -/

/-- Duration of a window in ms. -/
def windowMs (p j : Nat) (st : StartSlot) : Nat := sweepDiff j st.sweep * p

/-- Swing of a window, in 0.01 %. -/
def swingOf (sa : Rat) (st : StartSlot) : Rat := absQ (sa * 10000 - (st.socA : Rat))

/-- The path a start qualifies for: 0 none, 1 main, 2 fallback (R211). `rateAvg` in mA. -/
def pathOf (l : LearnCfg) (rateAvg sa : Rat) (p j : Nat) (st : StartSlot) : Nat :=
  let tw := windowMs p j st
  if st.valid = false then 0
  else if st.mainOk ∧ (l.swingMain : Rat) ≤ swingOf sa st ∧ tw ≤ l.winMainH * 3600000 ∧
      divQ ((st.absQ : Rat) * 1000) ((st.activeN * p : Nat) : Rat) ≤ rateAvg ∧ st.peakN * 100 ≤ l.peakShare * st.activeN then 1
  else if st.fbOk ∧ (l.swingFb : Rat) ≤ swingOf sa st ∧ tw ≤ l.winFbH * 3600000 then 2
  else 0

/-- The chosen start: the main path first, then the larger swing, then START_LO. -/
def chooseStart (l : LearnCfg) (rateAvg sa : Rat) (p j : Nat) (lo hi : StartSlot) : Nat × StartSlot :=
  let a := pathOf l rateAvg sa p j lo
  let b := pathOf l rateAvg sa p j hi
  if b = 0 then (a, lo)
  else if a = 0 then (b, hi)
  else if a < b then (a, lo)
  else if b < a then (b, hi)
  else if swingOf sa lo < swingOf sa hi then (b, hi)
  else (a, lo)

/-- CAPACITY_UPDATE (R212): the cell after the update from a start, or none when the result is implausible.
Charges in mC, capacities in mC and mAh. -/
def capUpdate (l : LearnCfg) (sc : SocCfg) (nameplate : Nat) (main : Bool) (sa sigA : Rat) (q : Int) (p j : Nat)
    (st : StartSlot) (c : CellSt) : Option CellSt :=
  let dq := ((q - st.qStr : Int) : Rat) + st.qLearn
  let ds := sa - (st.socA : Rat) / 10000
  let capM := divQ dq ds / 3600
  if capM < (nameplate : Rat) / 2 ∨ (nameplate : Rat) * 12 / 10 < capM then none
  else
    let sst := (st.sigmaA : Rat) / 10000
    let off := divQ ((sc.iOffsetErr : Rat) * (windowMs p j st : Rat) / 1000) dq
    let ce := (sc.countErrPpm : Rat) / 1000000
    let varM := (sigA * sigA + sst * sst) / (ds * ds) + ce * ce + off * off
    let w : Rat := if main then 1 else (l.fallbackWeight : Rat) / 100
    let k := w * c.capVar / (c.capVar + varM)
    let cap : Rat := c.cap
    let lim := (l.capStepMax : Rat) / 10000 * cap
    let want := k * (capM - cap)
    let step := clampQ (-lim) lim want
    some { c with
      cap := (roundInt (cap + step)).toNat, capVar := f32 ((1 - k) * c.capVar), clamped := step ≠ want
      capacityLow := false, nameplateOnly := false, capLost := false
      learnDue := c.learnDue && !main, lastUpdate := j, capUpdates := bump16 c.capUpdates }

/-- A start that begins at an anchor (R213). -/
def startAt (j : Nat) (sa sigA : Rat) (q : Int) : StartSlot :=
  { valid := true, mainOk := true, fbOk := true, sweep := j
    socA := (roundInt (sa * 10000)).toNat, sigmaA := (roundInt (sigA * 10000)).toNat, qStr := q }

/-- A start is kept after an anchor that made no update (R213). -/
def startKept (l : LearnCfg) (p j : Nat) (st : StartSlot) : Bool :=
  st.valid && st.mainOk && st.fbOk && decide (windowMs p j st ≤ l.winFbH * 3600000)

/-- What an anchor does to capacity learning (R211 to R213), before its base is set. -/
def Module.learnAt (m : Module) (s e j : Nat) (sa sigA : Rat) : Module :=
  let l := m.cfg.learn
  let p := m.est.period
  let c := m.cell e
  let q := (m.strE s).qStr
  let pick := chooseStart l (m.shareC s l.rateAvg 100) sa p j c.startLo c.startHi
  let soon := decide (c.capUpdates ≠ 0) && decide (sweepDiff j c.lastUpdate < 3600000 / p)
  let fresh := startAt j sa sigA q
  let swings := [c.startLo, c.startHi].any (fun st => st.valid &&
    (decide ((l.swingMain : Rat) ≤ swingOf sa st) || decide ((l.swingFb : Rat) ≤ swingOf sa st)))
  let upd := if pick.1 = 0 ∨ soon then none
    else capUpdate l m.cfg.soc (m.chEntry e).nameplate (pick.1 = 1) sa sigA q p j pick.2 c
  match upd with
  | some c' =>
    let m := m.modCell e (fun _ => { c' with
      lastResult := pick.1, tUpdate := m.plant, startLo := fresh, startHi := fresh })
    let m := m.clear .esi cCapacityLow scCell e
    m.handRecord e c.cap false
  | none =>
    let code := if pick.1 = 0 then (if swings then 4 else 3) else if soon then 6 else 5
    let below (st : StartSlot) : Bool := decide ((st.socA : Rat) < sa * 10000)
    let above (st : StartSlot) : Bool := decide (sa * 10000 < (st.socA : Rat))
    m.modCell e (fun c => { c with
      lastResult := code
      startLo := if startKept l p j c.startLo && below c.startLo then c.startLo else fresh
      startHi := if startKept l p j c.startHi && above c.startHi then c.startHi else fresh })

/-! ## Anchors (R183, R184) -/

/-- A bar of Table 07-6 applies. -/
def Module.anchorBarred (m : Module) (s e k : Nat) : Bool :=
  let w := wkOfIx e
  let c := chOfIx e
  let x := m.wk w
  let p := m.est.period
  let settle := m.cfg.bal.settleMin * 60000
  let st := (m.sInst s).state
  m.presented e ||
    x.transfers.any (fun (t : Nat × Nat × Nat) => t.1 = c) ||
    x.settled.any (fun (t : Nat × Nat) => t.1 = c && decide (sweepDiff k t.2 * p < settle)) ||
    (look {} x.sense.chans c).fault || (look {} x.sense.pins c).highR || (look {} x.sense.pins (c + 1)).highR ||
    st = 8 || st = 9 || (m.govT e).isNone

/-- The anchor of a cell on a minute sweep (R183, R184). -/
def Module.anchor (m : Module) (s e k : Nat) : Module :=
  let sc := m.cfg.soc
  let cs := m.setOf s
  let c := m.cell e
  let st := m.strE s
  let w := branchW cs st.qRev c
  if st.restMs < sc.restTimeMin * 60000 ∨ settledV sc c = false ∨ c.anchoredRest ∨
      (cs.hysteresis ∧ w ≠ 0 ∧ w ≠ 1) ∨ m.anchorBarred s e k ∨ waiting c then m
  else
    let curve := m.ocvOf e
    let v : Rat := newestMean c
    let sa := ocvInv curve v
    let sigA := sigmaAt cs curve v
    if (cs.plateau ∧ inZone cs sa = false) ∨ (sc.anchorSigmaMax : Rat) / 10000 < sigA then m
    else
      let m := m.learnAt s e k sa sigA
      let t := m.plant
      m.modCell e (fun c =>
        let s0 := socOf st.qStr c
        let v0 := f32 (c.sigma * c.sigma)
        let va := f32 (sigA * sigA)
        let merged : Rat × Rat :=
          if c.provisional then (sa, sigA)
          else
            let kk := f32 (divQ v0 (f32 (v0 + va)))
            (s0 + kk * (sa - s0), sqrtF (f32 (divQ (f32 (v0 * va)) (f32 (v0 + va)))))
        let c := setBase st.qStr (merged.1 * capMc c) c
        { c with
          sigma := f32 merged.2, provisional := false, reconciled := false, anchoredRest := true, firstEst := .none_
          anchorSweep := k, socAnchor := (roundInt (sa * 10000)).toNat
          sigmaAnchor := (roundInt (sigA * 10000)).toNat, tAnchor := t })

/-! ## Signals of learning (R209, R212, R214) -/

/-- LEARN_DUE, CAP_FADE and the baseline of a string's cells, with the growth of CAP_VAR on a minute sweep. -/
def Module.learnSignals (m : Module) (s k : Nat) (minute : Bool) : Module :=
  let l := m.cfg.learn
  let p := m.est.period
  let m := (m.cfg.cellsOf s).foldl (fun m (x : Nat × ChannelEntry) =>
    let old := decide (l.maxAgeDays * 86400000 < sweepDiff k (m.cell x.1).lastUpdate * p)
    let drift : Rat := (l.capDrift : Rat) / 10000
    let m := m.modCell x.1 (fun c => { c with
      capVar := if minute then f32 (c.capVar + drift * drift / 1440) else c.capVar
      learnDue := c.learnDue || (decide (c.capUpdates ≠ 0) && old)
      capFade := decide (c.cap * 100 < l.capFadePct * x.2.nameplate) })
    let m := if baselineDue (m.cell x.1) then
        (m.modCell x.1 (fun c => { c with rohmBase := c.rohm25 })).handRecord x.1 (m.cell x.1).cap false
      else m
    m.setCond (m.cell x.1).capFade .esi cCapFade sevWarning scCell x.1) m
  m.setCond ((m.cfg.cellsOf s).any (fun (x : Nat × ChannelEntry) => (m.cell x.1).learnDue))
    .esi cLearnDue sevWarning scString s

end Sys2Proof.Machine
end

