-- ==== Sys2Proof/Machine/Limits.lean ====
section
/-! DEFINITION. Current limits: the voltage-limited current of a cell (R224, R225), string limits (R228, R229), shares
(R230) and bay limits (R231). Currents of cells are in A, of strings and bays in mA, all as magnitudes. -/

namespace Sys2Proof.Machine

/-- The horizons of R224, in s. -/
def horizons : List Rat := [2, 10, 30]

/-! ## Cell limits (R224, R225) -/

/-- The bisection of R224: `n` halvings of `lo` to `hi`. -/
def bisect (ok : Rat → Bool) : Nat → Rat → Rat → Rat
  | 0, lo, _ => lo
  | n + 1, lo, hi =>
    let a := f32 (f32 (lo + hi) / 2)
    if ok a then bisect ok n a hi else bisect ok n lo a

/-- ILIM of one horizon and direction (R224), in single precision: branch curve in 0.1 mV, SOC, polarisation
voltage, R_OHM and R_POL in Ohm, TAU_POL in s, capacity in A s, cut-off in V, I_RATED in A. -/
def ilimAt (dis : Bool) (branch : List (Rat × Rat)) (s vPol0 rOhm rPol tau capAs cut iCap h : Rat) : Rat :=
  let e := expF (divQ (-h) tau)
  let rh := f32 (rOhm + f32 (rPol * f32 (1 - e)))
  let sg : Rat := if dis then -1 else 1
  let pred (a : Rat) : Rat :=
    let sa := f32 (s + f32 (divQ (f32 (f32 (sg * a) * h)) capAs))
    f32 (f32 (f32 (ocvAt branch sa / 10000) + f32 (f32 (sg * a) * rh)) + f32 (vPol0 * e))
  let ok (a : Rat) : Bool := if dis then decide (cut ≤ pred a) else decide (pred a ≤ cut)
  if ok iCap then iCap else if !ok 0 then 0 else bisect ok 16 0 iCap

/-- V_POL0 of a cell at a voltage in 0.1 mV (R224). -/
def Module.vPol0 (m : Module) (e : Nat) (v : Rat) : Rat :=
  let i := f32 (((m.strE (m.strOf e)).iCount : Rat) / 1000)
  f32 (f32 (f32 (v / 10000) - f32 (ocvAt (m.ocvOf e) (m.soc e) / 10000)) - f32 (i * f32 (m.rOhm e / 1000000)))

/-- The three ILIM values of a cell in one direction. -/
def Module.ilim (m : Module) (s e : Nat) (dis : Bool) : List Rat :=
  let cs := m.setOf s
  let c := m.cell e
  let iCap := f32 (((m.cfg.str s).iRated : Rat) / 1000)
  if c.hasV = false ∨ (if dis then c.cutDisHold else c.cutChgHold) then [0, 0, 0]
  else
    match m.cellV e (if dis then -1 else 1) with
    | none => horizons.map (fun _ => Config.limNoVoltage iCap)
    | some v =>
      let branch := branchAt cs (if dis then 1 else 0) (cellT c)
      let cut := f32 (((if dis then cs.vDisCutoff else cs.vChgCutoff : Nat) : Rat) / 10000)
      horizons.map (ilimAt dis branch (f32 (m.soc e)) (m.vPol0 e v) (f32 (m.rOhm e / 1000000))
        (f32 (m.rPol e / 1000000)) (f32 ((m.tau e : Rat) / 10000)) (f32 (capMc c / 1000)) cut iCap)

/-- The limits of every used cell of a string (R224, R225). -/
def Module.cellLimits (m : Module) (s : Nat) : Module :=
  (m.cfg.cellsOf s).foldl (fun m (x : Nat × ChannelEntry) =>
    let d := m.ilim s x.1 true
    let c := m.ilim s x.1 false
    let vp := match m.cellV x.1 0 with | some v => m.vPol0 x.1 v | none => (m.cell x.1).vPol0
    m.modCell x.1 (fun y => { y with ilimDis := d, ilimChg := c, vPol0 := vp })) m

/-! ## String limits (R228, R229) -/

/-- A stored curve of a string's set for a direction, when one is named. -/
def Module.derCurve (m : Module) (l : List Nat) (s : Nat) : Option Curve :=
  let i := l.getD (m.cfg.str s).curveSet 255
  if i = 255 then none else some (look {} m.cfg.curves i)

/-- The terms of a string's computed limit at horizon index `h`, in the order of Table 09-4: the code, the limiting
position and the value in mA. -/
def Module.limitTerms (m : Module) (s : Nat) (dis : Bool) (h : Nat) : List (Nat × Option Nat × Rat) :=
  let lc := m.cfg.limit
  let cells := m.cfg.cellsOf s
  let least (l : List (Nat × Rat)) (code : Nat) : List (Nat × Option Nat × Rat) :=
    match leastAt l with | some x => [(code, some x.1, x.2)] | none => []
  let volt := least (cells.map (fun (x : Nat × ChannelEntry) =>
    let c := m.cell x.1
    (x.2.position, (if dis then c.ilimDis else c.ilimChg).getD h 0 * 1000))) 0
  let derT := match m.derCurve (if dis then lc.derTDis else lc.derTChg) s with
    | none => []
    | some cv => least (cells.map (fun (x : Nat × ChannelEntry) =>
        let y := match m.govT x.1 with | some t => curveValue cv t | none => curveLowest cv
        (x.2.position, y * (m.cfg.cRef s : Rat) / 100))) 1
  let derS := match m.derCurve (if dis then lc.derSocDis else lc.derSocChg) s with
    | none => []
    | some cv => least (cells.map (fun (x : Nat × ChannelEntry) =>
        let y := if waiting (m.cell x.1) then curveLowest cv else curveValue cv (m.soc x.1 * 10000)
        (x.2.position, y * (m.cfg.cRef s : Rat) / 100))) 2
  volt ++ derT ++ derS ++ [(3, none, ((m.cfg.str s).iRated : Rat))]

/-- The lowest term, the first in Table 09-4 on a tie. -/
def lowestTerm : List (Nat × Option Nat × Rat) → Nat × Option Nat × Rat
  | [] => (7, none, 0)
  | [x] => x
  | x :: t => let y := lowestTerm t; if y.2.2 < x.2.2 then y else x

/-- No horizon above the one before it. -/
def chainDown : List Rat → List Rat
  | a :: b :: c :: _ => let b := if a < b then a else b; [a, b, if b < c then b else c]
  | l => l

/-- The computed limit of a string in a direction (R228). -/
def Module.computeLimit (m : Module) (s : Nat) (dis : Bool) : DirLimit :=
  let t0 := lowestTerm (m.limitTerms s dis 0)
  let vals := chainDown ([0, 1, 2].map (fun h => (lowestTerm (m.limitTerms s dis h)).2.2))
  { vals := vals, cause := t0.1, limiter := t0.2.1 }

/-- The computed limits of a string, with the marks on its limiting cells. -/
def Module.computeLimits (m : Module) (s : Nat) : Module :=
  let d := m.computeLimit s true
  let c := m.computeLimit s false
  let m := m.modStrE s (fun st => { st with compDis := d, compChg := c })
  (m.cfg.cellsOf s).foldl (fun m (x : Nat × ChannelEntry) => m.modCell x.1 (fun y => { y with
    limitingDis := d.limiter = some x.2.position, limitingChg := c.limiter = some x.2.position })) m

/-- A value that may rise by no more than `rise` over the last published one. -/
def riseTo (prev rise v : Rat) : Rat := if prev + rise < v then prev + rise else v

/-- LIMIT_RISE in mA per sweep for a sum of c_ref in mA (R229, R231). -/
def Module.limitRise (m : Module) (cRef : Rat) : Rat :=
  (m.cfg.limit.limitRise : Rat) / 100 * cRef * (m.est.period : Rat) / 1000

/-- The published limit of a string in one direction (R229): percentage, whether the state allows current, the
computed limit and the last published one; `rise` in mA per sweep. A percentage is the cause where it lowers the value
(Table 09-4). -/
def publishDir (pct : Nat) (stateOk : Bool) (rise : Rat) (comp prev : DirLimit) : DirLimit :=
  let want := comp.vals.map (fun v => if stateOk then v * (pct : Rat) / 100 else 0)
  let vals := (want.zip prev.vals).map (fun (p : Rat × Rat) => riseTo p.2 rise p.1)
  { vals := vals, pct := pct
    cause := if !stateOk then 7 else if pct < 100 ∧ 0 < comp.vals.getD 0 0 then 9 else comp.cause
    limiter := comp.limiter }

/-! ## Shares (R230) -/

/-- Resistance of a string at a horizon, uOhm (R230). -/
def Module.strR (m : Module) (s : Nat) (h : Rat) : Rat :=
  sumQ ((m.cfg.cellsOf s).map (fun (x : Nat × ChannelEntry) =>
    m.rOhm x.1 + m.rPol x.1 * (1 - expF (divQ (-h) ((m.tau x.1 : Rat) / 10000))))) + (m.cfg.limit.stringRExt : Rat)

/-- The shares of a bay's included strings in one direction, per horizon. -/
def Module.shares (m : Module) (b : Nat) (dis : Bool) : List (Nat × List Rat) :=
  let strs := m.included b
  let iBay := sumQ (strs.map (fun s => ((m.strE s).iCount : Rat)))
  let sumC := sumQ (strs.map (fun s => (m.cfg.cRef s : Rat)))
  let flows := (if dis then decide (iBay < 0) else decide (0 < iBay)) &&
    decide ((m.cfg.limit.shareMinI : Rat) / 100 * sumC ≤ absQ iBay)
  strs.map (fun k => (k, horizons.map (fun h =>
    let g (s : Nat) : Rat := divQ 1 (m.strR s h)
    let sp := divQ (g k) (sumQ (strs.map g))
    if flows then
      let x := divQ ((m.strE k).iCount : Rat) iBay
      if sp < x then x else sp
    else sp)))

/-- The shares of every populated bay. -/
def Module.computeShares (m : Module) : Module :=
  m.cfg.bays.foldl (fun m b =>
    let d := m.shares b true
    let c := m.shares b false
    m.modBayE b (fun x => { x with shareDis := d, shareChg := c })) m

/-! ## Bay limits (R231) -/

/-- The lowest of the included strings' published limits over their shares, with the string. -/
def Module.shareTerm (m : Module) (b : Nat) (dis : Bool) (h : Nat) : Option (Nat × Rat) :=
  let x := m.bayE b
  leastAt (((if dis then x.shareDis else x.shareChg).filter (fun (p : Nat × List Rat) => p.1 ∈ m.included b)).map
    (fun (p : Nat × List Rat) =>
      let st := m.strE p.1
      (p.1, divQ ((if dis then st.pubDis else st.pubChg).vals.getD h 0) (p.2.getD h 0))))

/-- The published limit of a bay in one direction (R231): derate percentage, whether a drain stands. -/
def Module.publishBay (m : Module) (b : Nat) (dis : Bool) (pct : Nat) (drain : Bool) : DirLimit :=
  let x := m.bayE b
  let prev := if dis then x.pubDis else x.pubChg
  let st := (m.bInst b).state
  let strs := m.included b
  let sumC := sumQ (strs.map (fun s => (m.cfg.cRef s : Rat)))
  let permit := m.permits b (if dis then 0 else 1)
  let stop := strs.isEmpty || !(st = 2 || st = 3) || drain
  let lc := m.cfg.limit
  let imax : Rat := ((if dis then lc.bayIMaxDis else lc.bayIMaxChg).getD b 0 : Nat)
  let cara : Rat := (absQ ((if dis then m.rep.limDis else m.rep.limChg).getD b 0 : Int)) * (lc.carapaceMarginPct : Rat) / 100
  let termsOf (h : Nat) : List (Nat × Option Nat × Rat) :=
    (match m.shareTerm b dis h with | some t => [(4, some t.1, t.2)] | none => []) ++ [(5, none, imax), (6, none, cara)]
  let want (h : Nat) : Rat :=
    if stop ∨ permit = false then 0 else (lowestTerm (termsOf h)).2.2 * (pct : Rat) / 100
  let t0 := lowestTerm (termsOf 0)
  let rise := m.limitRise sumC
  { vals := [0, 1, 2].map (fun h => riseTo (prev.vals.getD h 0) rise (want h)), pct := pct
    cause := if stop then 7 else if permit = false then 8 else if pct < 100 ∧ 0 < t0.2.2 then 9 else t0.1
    limiter := if !stop && permit && t0.1 = 4 then t0.2.1 else none }

end Sys2Proof.Machine
end

