-- ==== Sys2Proof/Machine/Estimate.lean ====
section
/-! DEFINITION. The balancing plan (R161, R164) and the estimate of a sweep (R125, R172): the order of its parts. -/

namespace Sys2Proof.Machine

/-! ## The balancing plan (R161) -/

/-- Charge and capacity offset x of a channel (R161), mAh, in the integer arithmetic of pseudocode (chapter 00). -/
def Module.balX (m : Module) (mode : BalMode) (qw : Nat) (e : Nat) : Int :=
  let surplus : Int := ((m.cell e).cap : Int) - (qw : Int)
  let off : Int := match mode with
    | .top => surplus
    | .mid => Int.tdiv surplus 2
    | _ => 0
  truncInt (m.chg e / 3600) - off

/-- The plan of one converter: channel, CHARGE, DURATION in s; none when idle. -/
def Module.planConv (m : Module) (w : Wk) (g : Nat) (xs : List (Nat × Int)) (b : Int) : Option (Nat × Bool × Nat) :=
  let mine := xs.filter (fun (x : Nat × Int) => chOfIx x.1 / 6 = g && !m.balBarred w x.1)
  let best := mine.foldl (fun (a : Option (Nat × Int)) x => match a with
    | none => some x
    | some y => if (y.2 - b).natAbs < (x.2 - b).natAbs then some x else some y) none
  match best with
  | none => none
  | some x =>
    let d := (x.2 - b).natAbs
    if d ≤ m.cfg.bal.deadband then none
    else some (chOfIx x.1, decide (x.2 < b), min 75 (d * 3600 / 2000))

/-- The plan of one worker (BALANCE_PLAN): its median b and its four converters; idle in mode OFF. -/
def Module.planWorker (m : Module) (s : Nat) (w : Wk) : Int × List (Option (Nat × Bool × Nat)) :=
  let mode := look .top m.cfg.bal.modes s
  let qw := (leastN ((m.cfg.cellsOf s).map (fun (x : Nat × ChannelEntry) => (m.cell x.1).cap))).getD 0
  let xs := (sortBy (fun (x : Nat × Int) => (x.1 : Int))
    ((m.cfg.cellsAt w).map (fun (x : Nat × ChannelEntry) => (x.1, m.balX mode qw x.1))))
  let b := lowerMedian (xs.map (·.2))
  (b, (List.range 4).map (fun g => if mode = .off then none else m.planConv w g xs b))

/-- The plans of every worker of a string, and BAL_STACK_SPREAD (R164). -/
def Module.planString (m : Module) (s : Nat) : Module :=
  let ws := ((m.cfg.workersOfString s).filter (fun (w : Wk × WorkerEntry) => w.2.typ = .dzc24)).map (·.1)
  let plans := ws.map (fun w => (w, m.planWorker s w))
  let m := plans.foldl (fun m (p : Wk × Int × List (Option (Nat × Bool × Nat))) =>
    m.modWk p.1 (fun x => { x with balPlan := p.2.2, balMedian := some p.2.1 })) m
  let bs := sortBy id (plans.map (fun (p : Wk × Int × List (Option (Nat × Bool × Nat))) => p.2.1))
  m.setCond (decide ((m.cfg.bal.spreadMax : Int) < bs.getLastD 0 - bs.headD 0)) .esi cBalStackSpread sevWarning scString s

/-- A transfer whose DURATION has passed by sweep `k` has ended (R160, R163). -/
def Module.agedTransfers (m : Module) (w : Wk) (k : Nat) : Module :=
  let p := m.est.period
  let ended (t : Nat × Nat × Nat) : Bool :=
    sweepAfter k ((t.2.1 + 2) % 4294967296) && decide (t.2.2 * 1000 + 40 < sweepDiff k ((t.2.1 + 2) % 4294967296) * p)
  let x := m.wk w
  let gone := (x.transfers.filter ended).map (fun (t : Nat × Nat × Nat) =>
    (t.1, (t.2.1 + 2 + (t.2.2 * 1000 + 40 + p - 1) / p) % 4294967296))
  if gone = [] then m
  else
    m.modWk w (fun x => { x with
      transfers := x.transfers.filter (fun t => !ended t)
      edges := keepEdges k p (x.edges ++ gone)
      settled := gone.foldl (fun l (t : Nat × Nat) => put l t.1 t.2) x.settled })

/-! ## The estimate of a sweep (R172) -/

/-- The oldest manifest not yet estimated. -/
def Module.nextManifest (m : Module) : Option Manifest :=
  (m.sweep.manifests.filter (fun x => match m.sweep.estimated with
    | none => true
    | some k => sweepAfter x.sweep k)).getLast?

/-- The slots the manifest names become the held values of their workers; the rest grow older (R137, R138). -/
def Module.holdSlots (m : Module) (man : Manifest) : Module :=
  let got := if man.dropped then [] else look [] m.sweep.accepted man.sweep
  m.cfg.workers.foldl (fun m (w : Wk × WorkerEntry) =>
    let slot := if w.1 ∈ man.used then find got w.1 else none
    m.modWk w.1 (fun x => match slot with
      | some sl => { x with held := { age := 0, sweep := man.sweep, slot := sl, valid := true } }
      | none => { x with held := { x.held with age := bump8 x.held.age } })) m

/-- A worker's slot of the sweep is used. -/
def Module.usedNow (m : Module) (w : Wk) : Bool := (m.wk w).held.valid && (m.wk w).held.age = 0

/-- Present strings in order. -/
def Module.strNos (m : Module) : List Nat := m.cfg.strings.map (·.1)

/-- Every used cell rewritten, by string and position; cells still without a base are left alone. -/
def Module.eachBased (m : Module) (f : Nat → Nat → Module → Module) : Module :=
  m.strNos.foldl (fun m s => (m.cfg.cellsOf s).foldl (fun m (x : Nat × ChannelEntry) =>
    if waiting (m.cell x.1) then m else f s x.1 m) m) m

/-- The gap of a rebuild from the charge mirror (R194): SIGMA grows by I_RATED over t_g (ns), and it is a gap event. -/
def Module.bootGap (m : Module) (tg : List (Nat × Nat)) : Module :=
  m.eachBased (fun s e m => match find tg s with
    | some t => m.modCell e (gapCell (m.cfg.str s).iRated ((t : Rat) / 1000000))
    | none => m)

/-- The governing temperatures of the sweep are remembered (R27), and STALE minutes marked (R182). -/
def Module.holdTemps (m : Module) : Module :=
  m.cfg.channels.foldl (fun m (x : Nat × ChannelEntry) =>
    let t := m.govT x.1
    let stale := decide (3 ≤ (m.wk (wkOfIx x.1)).held.age)
    m.modCell x.1 (fun c => { c with
      lastT := match t with | some t => some t | none => c.lastT
      minuteStale := c.minuteStale || stale })) m

/-- Steps 1 and 2 of R172, with first estimates and fits. -/
def Module.estimateCharge (m : Module) (man : Manifest) : Module :=
  let m := m.strNos.foldl (fun m s => m.countString man.sweep s (m.usedNow (m.cfg.dzsOf s)) man.dormant.isSome) m
  let m := m.strNos.foldl (fun m s =>
    m.eachCell s (relaxQuiet (decide (m.restI s ≤ absQ ((m.strE s).iCount : Rat))))) m
  let m := m.strNos.foldl (fun m s => m.firstBases s m.usedNow) m
  let m := man.bal.foldl Module.balReading m
  m.fitAll man.sweep man

/-- Steps 3 and 4 of R172, the dormant interval of R198 at the temperatures `old` held before this sweep, and the window starts of
R210. -/
def Module.estimateDrift (m : Module) (man : Manifest) (minute : Bool) (old : Nat → Int) : Module :=
  let m := if minute then
      m.eachBased (fun s e m => m.modCell e (fun c => selfDischarge (m.setOf s) 1 (cellT c) c)) else m
  let m := match man.dormant with
    | none => m
    | some t =>
      let m := m.eachBased (fun s e m => m.modCell e (selfDischarge (m.setOf s) ((t : Rat) / 60) (old e)))
      m.strNos.foldl (fun m s => m.modStrE s (fun st => { st with restMs := t * 1000 })) m
  let m := m.eachBased (fun s e m => m.modCell e (growSigma m.cfg.soc m.est.period (m.strE s).dq))
  m.strNos.foldl Module.startsString m

/-- The sense evaluation of every DZC-24, and the readings of the minute (R153, R182). -/
def Module.estimateSense (m : Module) (k : Nat) : Module :=
  let m := m.cfg.workers.foldl (fun m (w : Wk × WorkerEntry) =>
    if w.2.typ = .dzc24 then (m.senseSweep k w.1 (m.usedNow w.1)).agedTransfers w.1 k else m) m
  m.cfg.channels.foldl (fun m (x : Nat × ChannelEntry) =>
    if m.usedNow (wkOfIx x.1) then m.modCell x.1 (minuteAdd (m.cellV x.1 0)) else m) m

/-- Step 5 of R172 on a minute sweep. -/
def Module.estimateMinute (m : Module) (k : Nat) : Module :=
  m.strNos.foldl (fun m s => (m.cfg.cellsOf s).foldl (fun m (x : Nat × ChannelEntry) =>
    let m := m.modCell x.1 (fun c => growVar m.cfg.learn (minuteClose m.est.period c))
    let m := m.modCell x.1 (relaxStep m.cfg.soc (m.setOf s) (m.ocvOf x.1) (m.strE s).qStr)
    m.anchor s x.1 k) m) m

/-- Step 6 of R172, and the holds of R225. -/
def Module.estimateCutoff (m : Module) : Module :=
  m.strNos.foldl (fun m s =>
    let m := m.modStrE s (fun st => { st with cut := 0 })
    let m := m.eachCell s (releaseHold (m.restI s) (m.strE s).iCount)
    (m.cfg.cellsOf s).foldl (fun m (x : Nat × ChannelEntry) =>
      if m.usedNow (wkOfIx x.1) && !waiting (m.cell x.1) then m.reconcile s x.1 else m) m) m

/-- Step 7 of R172, CAPACITY_LOW, and the signals of learning. -/
def Module.estimateReport (m : Module) (k : Nat) (minute resume : Bool) : Module :=
  let m := m.strNos.foldl (fun m s => m.reportString s resume) m
  let m := m.reportBays resume
  let m := m.eachBased (fun s e m => m.capacityLow s e)
  m.strNos.foldl (fun m s => (m.impSignals s).learnSignals s k minute) m

/-- ΔV_insert of a string (R262), mV. -/
def Module.dvInsert (m : Module) (s : Nat) : Rat :=
  let r := sumQ ((m.cfg.cellsOf s).map (fun (x : Nat × ChannelEntry) => m.rOhm x.1)) + (m.cfg.limit.stringRExt : Rat)
  (m.cfg.seq.insertI : Rat) / 100 * (m.cfg.cRef s : Rat) * r / 1000000 - (m.cfg.seq.insertVErr : Rat)

/-- Limits of cells and strings, shares and ΔV_insert. -/
def Module.estimateLimits (m : Module) : Module :=
  let m := m.strNos.foldl (fun m s =>
    let m := (m.cellLimits s).computeLimits s
    m.modStrE s (fun st => { st with dvIns := m.dvInsert s })) m
  m.computeShares

/-- The findings a DZS-2 slot shows: contactors against coils, shunts and voltage inputs (Table 09-7). -/
def Module.dzsFindings (m : Module) (s : Nat) : Module :=
  let w := m.cfg.dzsOf s
  match m.dzs? w with
  | none => m
  | some b =>
    if m.usedNow w then
      let differ := decide (b.contactors % 8 ≠ b.contactors / 8 % 8)
      let m := m.modWk w (fun x => { x with mismRun := if differ then x.mismRun + 1 else 0 })
      let m := m.setCond (decide (2 ≤ (m.wk w).mismRun)) .esi cContactorMismatch sevWarning scString s
      let m := m.setCond (bitAt b.flags 0 || bitAt b.flags 1) .esi cShuntFault sevWarning scString s
      m.setCond (bitAt b.flags 2 || bitAt b.flags 3) .esi cVsenseFault sevWarning scString s
    else m

/-- Conditions that end when no cell holds their flag (R219; SOC_MIRROR_INVALID: DEDUCED, log 37). -/
def Module.estimateEnds (m : Module) : Module :=
  let es := m.cfg.channels.map (fun (x : Nat × ChannelEntry) => m.cell x.1)
  let m := if es.any (fun c => c.capLost) then m else m.clear .esi cCapacityLost scDomain 0
  if es.any (fun c => c.provisional) then m else m.clear .esi cSocMirrorInvalid scDomain 0

/-- The estimate of one sweep from its manifest (R172); a minute sweep asks for a mirror round (R193), every 60th for
an impedance round (R220). -/
def Module.estimateSweep (m : Module) (man : Manifest) : Module :=
  let k := man.sweep
  let m : Module := { m with est := { m.est with period := m.periodOf k } }
  let minute := minuteSweep m.est.period k
  let m := (m.holdSlots man).bootGap man.tGap
  let old (e : Nat) : Int := cellT (m.cell e)
  let m := ((m.holdTemps.noteSteps k).estimateCharge man).estimateDrift man minute old
  let m := m.estimateSense k
  let m := if minute then m.estimateMinute k else m
  let m := m.estimateCutoff.estimateReport k minute (!man.tGap.isEmpty)
  let m := m.estimateLimits
  let m := if minute then m.strNos.foldl Module.planString m else m
  let m := (m.strNos.foldl Module.dzsFindings m).estimateEnds
  { m with
    sweep := { m.sweep with estimated := some k }, est := { m.est with ready := true }
    cal := { m.cal with
      charge := { m.cal.charge with due := m.cal.charge.due || minute }
      impDue := m.cal.impDue || minute && (decide (k / (60000 / m.est.period) % 60 = 0) || m.cal.impRound.isSome) } }

/-- The module's state is the domain's: it leads, stands ready, or holds an installed image (R345, R349). -/
def Module.shadows (m : Module) : Bool :=
  m.leads || decide (m.pair.role = .ready) || (decide (m.pair.role = .syncing) && m.pair.resync.installed)

/-- The ESI serves the estimate: it runs, a set is in force, and the module leads, is the single module or stands
ready (R345). -/
def Module.estimates (m : Module) : Bool :=
  m.runs && m.up .esi && m.conf?.isSome && m.shadows

/-- ESTIMATE_COMPLETE (R125): the oldest sweep whose manifest waits is estimated. -/
def Module.estimateComplete (m : Module) : Module :=
  if m.estimates then
    match m.nextManifest with
    | some man => m.estimateSweep man
    | none => m
  else m

/-- ESTIMATE_COMPLETE. -/
def execEstimateComplete (s : State) : Host.Outcome State Fault Refusal := onModule s Module.estimateComplete

end Sys2Proof.Machine
end

