-- ==== Sys2Proof/Machine/Signals.lean ====
section
/-! DEFINITION. The signals of Table 09-7 and their sources' ages (R235, R236). -/

namespace Sys2Proof.Machine

/-- Scope of a signal: 0 cell, 1 worker, 2 string, 3 bay, 4 domain; none for a reserved code (Table 09-7). -/
def signalScope (c : Nat) : Option Nat :=
  if (1 ≤ c ∧ c ≤ 6) ∨ (0x80 ≤ c ∧ c ≤ 0x88) then some 0
  else if (0x10 ≤ c ∧ c ≤ 0x13) ∨ (0x90 ≤ c ∧ c ≤ 0x94) then some 1
  else if (0x20 ≤ c ∧ c ≤ 0x28) ∨ (0xA0 ≤ c ∧ c ≤ 0xA4) then some 2
  else if 0x30 ≤ c ∧ c ≤ 0x33 then some 3
  else if 0x40 ≤ c ∧ c ≤ 0x43 then some 4
  else none

/-- A flag signal (R235). -/
def isFlag (c : Nat) : Bool := 0x80 ≤ c && c ≤ 0xFF

/-- A signal marked fast in Table 09-7. -/
def isFast (c : Nat) : Bool := c = 0x42

/-- A worker position from its instance number (Table 17-1). -/
def wkOfInst (i : Nat) : Wk := (i / 256, i % 256 + 1)

/-- String of an instance of a row's scope, for cells, workers and strings. -/
def Module.stringOfInst (m : Module) (scope i : Nat) : Nat :=
  if scope = 0 then m.strOf i else if scope = 1 then (look {} m.cfg.workers (wkOfInst i)).string else i

/-- Bay of an instance; none at domain scope. -/
def Module.bayOfInst (m : Module) (scope i : Nat) : Option Nat :=
  if scope = 0 then some (m.chEntry i).bay
  else if scope = 1 then some (bayOfRing m.isPair (wkOfInst i).1)
  else if scope = 2 then some (m.cfg.str i).bay
  else if scope = 3 then some i
  else none

/-- The instances of a scope in the order of R244: cells by string and position, workers by ring and hop, strings,
bays, the domain. -/
def Module.instances (m : Module) (scope : Nat) : List Nat :=
  if scope = 0 then (m.strNos.map (fun s => (m.cfg.cellsOf s).map (·.1))).flatten
  else if scope = 1 then m.cfg.workers.map (fun (w : Wk × WorkerEntry) => wkInst w.1)
  else if scope = 2 then m.strNos
  else if scope = 3 then m.cfg.bays
  else [0]

/-- The instances of an inner scope that an instance of a wider scope contains (R235). -/
def Module.containedIn (m : Module) (inner scope i : Nat) : List Nat :=
  if inner = scope then [i]
  else (m.instances inner).filter (fun x =>
    if scope = 1 then wkInst (wkOfIx x) = i
    else if scope = 2 then m.stringOfInst inner x = i
    else if scope = 3 then m.bayOfInst inner x = some i
    else true)

/-- The instance of a wider scope that contains an instance (R234, ARG_SIGNAL). -/
def Module.outerInst (m : Module) (scope i outer : Nat) : Nat :=
  if outer = scope then i
  else if outer = 1 then wkInst (wkOfIx i)
  else if outer = 2 then m.stringOfInst scope i
  else if outer = 3 then (m.bayOfInst scope i).getD 0
  else 0

/-- A worker's age (R138). -/
def Module.workerAge (m : Module) (w : Wk) : Nat := (m.wk w).held.age

/-- STRING_AGE: the highest age of the string's workers. -/
def Module.stringAge (m : Module) (s : Nat) : Nat :=
  (greatestN ((m.cfg.workersOfString s).map (fun (w : Wk × WorkerEntry) => m.workerAge w.1))).getD 0

/-- The source age a STALE condition compares (R236): the instance's worker, or the string. -/
def Module.sourceAge (m : Module) (scope i : Nat) : Option Nat :=
  if scope = 0 then some (m.workerAge (wkOfIx i))
  else if scope = 1 then some (m.workerAge (wkOfInst i))
  else if scope = 2 then some (m.stringAge i)
  else none

/-! ## Values -/

/-- The readings some list of options gives, if any, reduced by `f`. -/
def reduceQ (f : Rat → Rat → Rat) (l : List (Option Rat)) : Option Rat :=
  l.foldl (fun (a : Option Rat) x => match a, x with
    | none, x => x
    | a, none => a
    | some a, some x => some (f a x)) none

/-- Highest minus lowest of the values that are available. -/
def spreadQ (l : List (Option Rat)) : Option Rat :=
  match reduceQ max l, reduceQ min l with
  | some a, some b => some (a - b)
  | _, _ => none

/-- A 2 kHz extreme of a cell; CELL_V where the format lacks the item (Table 09-7). -/
def Module.extreme (m : Module) (e : Nat) (side : Int) (high : Bool) : Option Rat :=
  match m.dzc? (wkOfIx e) with
  | none => none
  | some b =>
    let l := if high then b.vMax else b.vMin
    if l.isEmpty then m.cellV e side
    else let v := l.getD (chOfIx e) naU16; if v = naU16 then none else some (v : Rat)

/-- STRING_I_LOAD (Table 09-7). -/
def Module.iLoad (m : Module) (s : Nat) : Rat :=
  let st := m.strE s
  let i : Rat := st.iCount
  let lim := (if i < 0 then st.pubDis else st.pubChg).vals.getD 0 0
  if lim = 0 then (if m.restI s ≤ absQ i then 1000000 else 0)
  else let x := absQ i * 10000 / lim; if 1000000 < x then 1000000 else x

/-- BAY_V: the median V_BUS of the bay's DZS-2s that read one. -/
def Module.bayV (m : Module) (b : Nat) : Option Rat :=
  let l := (m.cfg.stringsOf b).filterMap (fun s => match m.dzs? (m.cfg.dzsOf s) with
    | some d => if d.vBus = naU32 then none else some (d.vBus : Rat)
    | none => none)
  if l.isEmpty then none else some (medianQ l)

/-- PCS_LINK_AGE, ms (R408). -/
def Module.pcsLinkAge (m : Module) : Nat := (m.time.now - m.can.lastLimit) / 1000000

/-- A reported value, rounded as published (R189). -/
def published (usable : Bool) (r : Rat) : Option Rat := if usable then some ((roundInt r : Int) : Rat) else none

/-- A reading that the code of Table 00-6 may stand for. -/
def availN (na v : Nat) : Option Rat := if v = na then none else some (v : Rat)

/-- A flag signal of one instance of its own scope. -/
def Module.flag (m : Module) (c i : Nat) : Bool :=
  let w := wkOfIx i
  let ch := chOfIx i
  let pin (f : PinSt → Bool) : Bool := [ch, ch + 1].any (fun p => f (look {} (m.wk w).sense.pins p))
  let s := (m.wk (wkOfInst i)).sense
  if c = 0x80 then pin (·.suspect)
  else if c = 0x81 then pin (·.opened)
  else if c = 0x82 then pin (·.highR)
  else if c = 0x83 then (look {} (m.wk w).sense.chans ch).fault
  else if c = 0x84 then (m.cell i).impOutlier
  else if c = 0x85 then (m.cell i).impRise
  else if c = 0x86 then (m.cell i).capFade
  else if c = 0x87 then (m.cell i).capLost
  else if c = 0x88 then (m.cell i).capacityLow
  else if c = 0x90 then s.stackFault
  else if c = 0x91 then s.double_
  else if c = 0x92 then s.temps.any (fun (x : Nat × TempSt) => x.2.fault)
  else if c = 0x93 then (m.wk (wkOfInst i)).held.slot.latched
  else if c = 0x94 then (match m.dzc? (wkOfInst i) with | some b => bitAt b.flags 4 | none => false)
  else if c = 0xA0 then m.holds cLearnDue scString i
  else if c = 0xA1 then m.holds cShuntFault scString i
  else if c = 0xA2 then m.holds cVsenseFault scString i
  else if c = 0xA3 then m.holds cContactorMismatch scString i
  else if c = 0xA4 then m.holds cBalStackSpread scString i
  else false

/-- The value of a signal for an instance of its own scope; none while not available. `side` is the presentation of
R154 and R155. -/
def Module.signal (m : Module) (c i : Nat) (side : Int) : Option Rat :=
  let own := m.dzs? (m.cfg.dzsOf i)
  let wb := m.dzc? (wkOfInst i)
  let cells := m.cfg.cellsOf i
  if isFlag c then some (if m.flag c i then 1 else 0)
  else if c = 1 then m.cellV i side
  else if c = 2 then m.extreme i side true
  else if c = 3 then m.extreme i side false
  else if c = 4 then (m.govT i).map (fun t => (t : Rat))
  else if c = 5 then (if waiting (m.cell i) then none else some (m.socClamped i : Rat))
  else if c = 6 then some (m.rOhm i)
  else if c = 0x10 then wb.bind (fun b => reduceQ max (b.temp.map (fun t => if t = naTemp then none else some (t : Rat))))
  else if c = 0x11 then wb.bind (fun b => b.dieTemp.bind (fun t => if t = naTemp then none else some (t : Rat)))
  else if c = 0x12 then wb.bind (fun b => if b.stackDelta = naTemp then none else some ((b.stackDelta.natAbs : Nat) : Rat))
  else if c = 0x13 then some (m.workerAge (wkOfInst i) : Rat)
  else if c = 0x20 then some ((m.strE i).iCount : Rat)
  else if c = 0x21 then own.bind (fun b => if b.iA = naCurrent ∨ b.iB = naCurrent then none else some (((b.iA - b.iB).natAbs : Nat) : Rat))
  else if c = 0x22 then own.bind (fun b => availN naU32 b.vBat)
  else if c = 0x23 then own.bind (fun b => availN naU32 b.vBus)
  else if c = 0x24 then published (m.strE i).usable (m.strE i).r
  else if c = 0x25 then spreadQ (cells.map (fun (x : Nat × ChannelEntry) => m.cellV x.1 0))
  else if c = 0x26 then spreadQ (cells.map (fun (x : Nat × ChannelEntry) => (m.govT x.1).map (fun t => (t : Rat))))
  else if c = 0x27 then some (m.stringAge i : Rat)
  else if c = 0x28 then some (m.iLoad i)
  else if c = 0x30 then some (sumQ ((m.included i).map (fun s => ((m.strE s).iCount : Rat))))
  else if c = 0x31 then m.bayV i
  else if c = 0x32 then published (m.bayE i).usable (m.bayE i).r
  else if c = 0x40 then published (m.bayE 4).usable (m.bayE 4).r
  else if c = 0x42 then some (m.pcsLinkAge : Rat)
  else if c = 0x43 then some (m.sup.boardT : Rat)
  else none

/-- A signal as a row of some scope reads it: its own instance, or any contained one for a flag (R235). -/
def Module.rowSignal (m : Module) (scope c i : Nat) (side : Int) : Option Rat :=
  match signalScope c with
  | none => none
  | some sc =>
    if sc = scope then m.signal c i side
    else if isFlag c then some (if (m.containedIn sc scope i).any (fun x => m.flag c x) then 1 else 0)
    else m.signal c (m.outerInst scope i sc) side

/-- The enabled ports a tone signal covers: those of the bay's rings (R3, R4), or all. -/
def Module.tonePorts (m : Module) (c i : Nat) : List PortSt :=
  (m.ports.zipIdx.filter (fun (p : PortSt × Nat) =>
    p.1.enabled && (c = 0x41 || bayOfRing m.isPair (m.endOfPort p.2).1 = i))).map (·.1)

/-- The signal that gives the X of a row's curves: of the row's own instance, or of the wider instance that contains it
(ARG_SIGNAL of Table 09-6). -/
def Module.argSignal (m : Module) (scope c i : Nat) : Option Rat :=
  match signalScope c with
  | none => none
  | some sc => m.signal c (m.outerInst scope i sc) 0

/-- The value of a tone signal for the journal: the highest state among its ports, 0 TONE, 1 SILENT, 2 DEAD
(DESIGN CHOICE, log 177). -/
def Module.toneValue (m : Module) (c i : Nat) : Option Rat :=
  (greatestN ((m.tonePorts c i).map (fun p => match p.tone with
    | .tone => 0
    | .silent => 1
    | .dead => 2))).map (fun v => (v : Rat))

/-- A TONE condition (Table 09-8): 1 SILENT, 2 DEAD, 3 either. -/
def Module.toneCond (m : Module) (c i : Nat) (thr : Int) : Bool :=
  (m.tonePorts c i).any (fun p => match p.tone with
    | .tone => false
    | .silent => thr = 1 || thr = 3
    | .dead => thr = 2 || thr = 3)

end Sys2Proof.Machine
end

