-- ==== Sys2Proof/Machine/Verdict.lean ====
section
/-! DEFINITION. The rule table: conditions (R236, R237), persistence and latches (R238, R239), overflow (R243), what an
active row asks for (R240 to R242, R247), and the limits the VSI publishes (R229 to R232). -/

namespace Sys2Proof.Machine

/-! ## Conditions (R236, R237) -/

/-- The presentation side of a row: above, below, or plain (R154). -/
def condSide (r : Rule) : Int := if r.cond = 0 then 1 else if r.cond = 1 then -1 else 0

/-- The thresholds of a row for an instance: constants, or its curves at ARG_SIGNAL (R234, R227). -/
def Module.thresholds (m : Module) (r : Rule) (ca cb : Curve) (i : Nat) : Option (Rat × Rat) :=
  if r.thrCurve then
    (m.argSignal r.scope r.argSignal i).map (fun x => (curveValue ca x, curveValue cb x))
  else some ((r.thrA : Rat), (r.thrB : Rat))

/-- Enter and hold of ABOVE, BELOW and WINDOW (Table 09-8). -/
def levelCond (r : Rule) (v a b : Rat) : Bool × Bool :=
  let h : Rat := r.hyst
  if r.cond = 0 then (decide (a < v), decide (a - h < v))
  else if r.cond = 1 then (decide (v < a), decide (v < a + h))
  else if r.outside then (decide (v < a ∨ b < v), decide (v < a + h ∨ b - h < v))
  else (decide (a ≤ v ∧ v ≤ b), decide (a - h ≤ v ∧ v ≤ b + h))

/-- Enter and hold of a rate against a threshold (Table 09-8); neither while the threshold's argument reads not
available (R227). -/
def rateBeyond (r : Rule) (rate : Rat) (a : Option Rat) : Bool × Bool :=
  match a with
  | none => (false, false)
  | some a =>
    let h : Rat := r.hyst
    let e := if 0 ≤ a then decide (a < rate) else decide (rate < a)
    (e, e || (if 0 ≤ a then decide (a - h < rate) else decide (rate < a + h)))

/-- Enter and hold of RATE (R237): the rate is formed once the span has passed, and the last result stands until
then. `v` is the value, `a` the threshold; where either reads not available the condition is false, and the reference
moves on all the same. -/
def rateCond (r : Rule) (p k : Nat) (v a : Option Rat) (x : VRec) : Bool × Bool × VRec :=
  let kept := a.isSome
  match v with
  | none => (false, false, if (match x.kref with | some k0 => decide (sweepDiff k k0 < r.rateSpan) | none => false)
      then x else { x with ref := none, kref := some k, lastEnter := false, lastHold := false })
  | some v =>
    match x.ref, x.kref with
    | some ref, some k0 =>
      if sweepDiff k k0 < r.rateSpan then (x.lastEnter && kept, x.lastHold && kept, x)
      else
        let c := rateBeyond r (f64 (divQ ((v - ref) * 60000) ((sweepDiff k k0 * p : Nat) : Rat))) a
        (c.1, c.2, { x with ref := some v, kref := some k, lastEnter := c.1, lastHold := c.2 })
    | _, _ => (x.lastEnter && kept, x.lastHold && kept, { x with ref := some v, kref := some k })

/-- What an evaluation finds of one instance: enter, hold, the record with its RATE reference, the value and the
threshold for the journal. -/
structure Found where
  enter : Bool := false
  hold : Bool := false
  x : VRec := {}
  value : Option Rat := none
  thr : Rat := 0
  deriving DecidableEq, Repr

/-- The condition of a row for one instance at sweep `k` (R235 to R237), with the signal's value for the journal. -/
def Module.evalCond (m : Module) (r : Rule) (ca cb : Curve) (k i : Nat) (x : VRec) : Found :=
  let v := m.rowSignal r.scope r.signal i (condSide r)
  if r.cond = 4 then
    match m.sourceAge r.scope i with
    | none => { x := x }
    | some age =>
      { enter := decide (r.thrA ≤ (age : Int)), hold := decide (r.thrA ≤ (age : Int)) || decide (0 < age), x := x
        value := v, thr := r.thrA }
  else if r.cond = 5 then
    let t := m.toneCond r.signal i r.thrA
    { enter := t, hold := t, x := x, value := m.toneValue r.signal i, thr := r.thrA }
  else
    let th := m.thresholds r ca cb i
    if r.cond = 3 then
      let a := th.map (fun t => t.1)
      let y := rateCond r m.est.period k v a x
      { enter := y.1, hold := y.2.1, x := y.2.2, value := v, thr := a.getD 0 }
    else
      match th with
      | none => { x := x, value := v }
      | some (a, b) =>
        match v with
        | none => { x := x, thr := a }
        | some v =>
          let c := levelCond r v a b
          { enter := c.1, hold := c.1 || c.2, x := x, value := some v, thr := a }

/-! ## Persistence (R238, R239) -/

/-- A row stays active until acknowledged (R239). -/
def latched (r : Rule) : Bool := r.latch || r.severity = sevTrip

/-- The persistence is met: in evaluations, or in time since the first of them (`t` and `p` in sweeps and ms, or
in ms and 1 for a fast row). -/
def persistMet (r : Rule) (p run k0 t : Nat) : Bool :=
  if r.punit = 0 then r.persist ≤ run
  else
    let need := r.persist * (if r.punit = 1 then 10 else 1000)
    need ≤ sweepDiff t k0 * p

/-- RUN of a row's journal records, in PERSIST_UNIT (Table 17-3). -/
def runOf (r : Rule) (p t : Nat) (x : VRec) : Nat :=
  if r.punit = 0 then x.run else sweepDiff t x.k0 * p / (if r.punit = 1 then 10 else 1000)

/-- One evaluation of a record: 1 when it becomes active, 2 when it releases, else 0. -/
def stepRec (r : Rule) (p t : Nat) (enter hold : Bool) (x : VRec) : VRec × Nat :=
  if x.active = false then
    if enter then
      let k0 := if x.run = 0 then t else x.k0
      let run := x.run + 1
      let x : VRec := { x with k0 := k0, run := run }
      if persistMet r p run k0 t then ({ x with active := true, at_ := t }, 1) else (x, 0)
    else ({ x with run := 0 }, 0)
  else if !hold && !(latched r && !x.acked) then ({ x with active := false, run := 0, acked := false }, 2)
  else (x, 0)

/-- A record counts against the 65,536 of R243. -/
def counts (x : VRec) : Bool := x.run ≠ 0 || x.active

/-- A record put back: nothing is kept of one that holds nothing. -/
def putRec (l : List (VKey × VRec)) (k : VKey) (x : VRec) : List (VKey × VRec) :=
  if counts x = false ∧ x.kref = none ∧ x.acked = false then del l k else put l k x

/-! ## What an active row asks for (R240, R241) -/

/-- SCOPE code of a row's records (Table 17-1). -/
def rowScope (scope : Nat) : Nat :=
  if scope = 0 then scCell else if scope = 1 then scWorker else if scope = 2 then scString
  else if scope = 3 then scBay else scDomain

/-- The strings an OPEN_STRING or TRIP row acts on. -/
def Module.targetStrings (m : Module) (scope : Nat) (trip overflow : Bool) (i : Nat) : List Nat :=
  if trip then m.strNos
  else if overflow then [i]
  else if scope ≤ 2 then [m.stringOfInst scope i]
  else if scope = 3 then m.cfg.stringsOf i
  else m.strNos

/-- The bays a DRAIN_BAY row acts on. -/
def Module.targetBays (m : Module) (scope : Nat) (overflow : Bool) (i : Nat) : List Nat :=
  if overflow then [(m.cfg.str i).bay]
  else match m.bayOfInst scope i with
    | some b => [b]
    | none => m.cfg.bays

/-- An open request is taken up: the highest severity stands (R241). -/
def addOpen (l : List (Nat × Bool)) (s : Nat) (trip : Bool) : List (Nat × Bool) :=
  match find l s with
  | some t => put l s (t || trip)
  | none => l ++ [(s, trip)]

/-- The requests of a row that has just become active; only the leader or the single module issues them (R246). -/
def Module.request (m : Module) (r : Rule) (overflow : Bool) (i : Nat) : Module :=
  if m.leads = false then m
  else if r.action = 2 ∨ r.action = 4 then
    { m with ver := { m.ver with
      opens := (m.targetStrings r.scope (decide (r.action = 4)) overflow i).foldl
        (fun l s => addOpen l s (decide (r.severity = sevTrip))) m.ver.opens } }
  else if r.action = 3 then
    { m with ver := { m.ver with drains := addAll m.ver.drains (m.targetBays r.scope overflow i) } }
  else m

/-- The note of a row that becomes active or releases, for its journal record at the end of the evaluation (R244). -/
def Module.rowNote (m : Module) (row : Nat) (r : Rule) (overflow : Bool) (i run : Nat) (f : Found) (active : Bool) :
    Module :=
  let n : RowNote := {
    active := active, severity := if active then r.severity else sevTrace
    scope := if overflow then scString else rowScope r.scope, inst := i
    value := match f.value with | some v => i32 (roundInt v) | none => naCurrent
    payload := le 2 r.signal ++ le 1 r.cond ++ le 1 r.action ++ leI 4 (roundInt f.thr) ++ le 2 (sat16 run) ++ zeros 2
    row := row, alert := r.alert }
  { m with ver := { m.ver with notes := m.ver.notes ++ [n] } }

/-- The journal records of an evaluation's rows (R247), the last thing it issues (R244 step 6). A follower writes those
of TRIP severity in its local series alone (R417). -/
def Module.writeNotes (m : Module) : Module :=
  m.ver.notes.foldl (fun m n =>
    let code := if n.active then eRowActive else eRowRelease
    if m.follows && n.severity = sevTrip then
      m.jot .vsi code n.severity n.scope n.inst n.value n.payload n.row n.alert
    else m.jotDom .vsi code n.severity n.scope n.inst n.value n.payload n.row n.alert)
    { m with ver := { m.ver with notes := [] } }

/-- One record evaluated: ROW_ACTIVATE and ROW_RELEASE. `fast` says where the record is kept. -/
def Module.evalRec (m : Module) (fast : Bool) (row : Nat) (r : Rule) (overflow : Bool) (p t i : Nat) (f : Found) :
    Module :=
  let key : VKey := { row := row, overflow := overflow, inst := i }
  let s := stepRec r p t f.enter f.hold f.x
  let m :=
    if fast then { m with ver := { m.ver with fast := putRec m.ver.fast key s.1 } }
    else { m with ver := { m.ver with recs := putRec m.ver.recs key s.1 } }
  if s.2 = 1 then (m.rowNote row r overflow i (runOf r p t s.1) f true).request r overflow i
  else if s.2 = 2 then m.rowNote row r overflow i (runOf r p t f.x) f false
  else m

/-! ## Evaluation (R243, R244) -/

/-- The two threshold curves of a row. -/
def Module.rowCurves (m : Module) (r : Rule) : Curve × Curve :=
  if r.thrCurve then
    (look {} m.cfg.curves (r.thrA % 256).toNat, look {} m.cfg.curves (r.thrB % 256).toNat)
  else ({}, {})

/-- The instances a row applies to: those of the bays its mask names; all at domain scope (R234). -/
def Module.rowInstances (m : Module) (r : Rule) : List Nat :=
  (m.instances r.scope).filter (fun i => match m.bayOfInst r.scope i with
    | some b => bitAt r.bayMask b
    | none => true)

/-- Records of cell and worker scope (R243). -/
def Module.smallRecs (m : Module) : Nat :=
  (m.ver.recs.filter (fun (p : VKey × VRec) => counts p.2 && !p.1.overflow &&
    decide ((look {} m.cfg.rules p.1.row).scope ≤ 1))).length

/-- A row leaves overflow, and its string records are freed, when no instance counted under them holds and none of
them is active (R243). -/
def Module.leaveOverflow (m : Module) (row : Nat) (counted : List (Nat × Bool × Bool)) : Module :=
  let busy := counted.any (fun (c : Nat × Bool × Bool) => c.2.2) ||
    m.ver.recs.any (fun (p : VKey × VRec) => p.1.row = row && p.1.overflow && p.2.active)
  if busy ∨ row ∉ m.ver.overflow then m
  else { m with ver := { m.ver with
    overflow := dropFrom m.ver.overflow row
    recs := m.ver.recs.filter (fun (p : VKey × VRec) => !(p.1.row = row && p.1.overflow)) } }

/-- One row evaluated over its instances at sweep `k` (R244). Instances of cell and worker rows that find the
records full are counted under their string (R243). -/
def Module.evalRow (m : Module) (row : Nat) (r : Rule) (k : Nat) : Module :=
  let p := m.est.period
  let cs := m.rowCurves r
  let go (a : Module × List (Nat × Bool × Bool)) (i : Nat) : Module × List (Nat × Bool × Bool) :=
    let m := a.1
    let key : VKey := { row := row, inst := i }
    let x := look {} m.ver.recs key
    let f := m.evalCond r cs.1 cs.2 k i x
    let full := decide (r.scope ≤ 1) && !counts x && (decide (row ∈ m.ver.overflow) || decide (65536 ≤ m.smallRecs))
    if full then
      if f.enter ∨ row ∈ m.ver.overflow then
        let m : Module := { m with ver := { m.ver with
          overflow := addTo m.ver.overflow row, recs := putRec m.ver.recs key f.x } }
        (m, a.2 ++ [(m.stringOfInst r.scope i, f.enter, f.hold)])
      else ({ m with ver := { m.ver with recs := putRec m.ver.recs key f.x } }, a.2)
    else (m.evalRec false row r false p k i f, a.2)
  let a := (m.rowInstances r).foldl go (m, [])
  let m := a.1
  if row ∈ m.ver.overflow then
    let strs := addAll [] (a.2.map (fun (c : Nat × Bool × Bool) => c.1))
    let m := strs.foldl (fun m s =>
      let mine := a.2.filter (fun (c : Nat × Bool × Bool) => c.1 = s)
      let x := look {} m.ver.recs { row := row, overflow := true, inst := s }
      m.evalRec false row r true p k s
        { enter := mine.any (·.2.1), hold := mine.any (·.2.2), x := x }) m
    m.leaveOverflow row a.2
  else m

/-- The outgoing TRIP rows of R465, the fast ones alone or all of them: each drives TRIP_REQ until its hold is false and
it is acknowledged. -/
def Module.evalOutTrips (m : Module) (fastOnly : Bool) (k : Nat) : Module :=
  { m with ver := { m.ver with
    outTrips := m.ver.outTrips.filterMap (fun (o : VKey × Rule × Curve × Curve × VRec) =>
      if fastOnly && !isFast o.2.1.signal then some o
      else
        let f := m.evalCond o.2.1 o.2.2.1 o.2.2.2.1 k o.1.inst o.2.2.2.2
        let s := stepRec o.2.1 m.est.period k f.enter f.hold f.x
        if s.1.active then some (o.1, o.2.1, o.2.2.1, o.2.2.2.1, s.1) else none) } }

/-- Active rows, with their content: those of the sweeps, the fast ones, and the outgoing TRIP rows. -/
def Module.activeRows (m : Module) : List (VKey × Rule) :=
  (m.ver.recs ++ m.ver.fast).filterMap (fun (p : VKey × VRec) =>
    if p.2.active then some (p.1, look {} m.cfg.rules p.1.row) else none) ++
  m.ver.outTrips.map (fun (o : VKey × Rule × Curve × Curve × VRec) => (o.1, o.2.1))

/-- An active row has the TRIP action (R242). -/
def Module.tripActive (m : Module) : Bool := m.activeRows.any (fun (a : VKey × Rule) => a.2.action = 4)

/-- TRIP_REQ follows the active rows (R242); a follower drives nothing (R246). -/
def Module.driveTrip (m : Module) : Module :=
  { m with ver := { m.ver with tripReq := m.tripActive && m.leads } }

/-- The alert bits follow the active rows (R240). -/
def Module.driveAlerts (m : Module) : Module :=
  let m := { m with al := { m.al with rows := addAll [] (m.activeRows.map (fun (a : VKey × Rule) => a.2.alert)) } }
  let m := m.setCond m.tripActive .vsi cTripReqDriven sevTrip scDomain 0
  (m.setCond (decide (m.ver.overflow ≠ [])) .vsi cVerdictOverflow sevWarning scDomain 0).stick

/-- TRIP_REQ and the alert bits together, where no stage runs. -/
def Module.drive (m : Module) : Module := m.driveTrip.driveAlerts

/-- One fast row, with persistence in ms of the local timescale (R245); a RATE among them counts its span in sweeps, as
every RATE row (R237), from the sweep of the newest stage. -/
def Module.evalFastRow (m : Module) (row : Nat) (r : Rule) (k : Nat) : Module :=
  let cs := m.rowCurves r
  let f := m.evalCond r cs.1 cs.2 k 0 (look {} m.ver.fast { row := row, inst := 0 })
  m.evalRec true row r false 1 m.ms 0 f

/-- Every row in row order at sweep `k` (R244 step 2), the fast ones among them on the leader or the single module
(R245, R246). -/
def Module.evalRows (m : Module) (k : Nat) : Module :=
  let m := m.cfg.rules.foldl (fun m (x : Nat × Rule) =>
    if !x.2.enabled then m
    else if isFast x.2.signal then (if m.leads then m.evalFastRow x.1 x.2 k else m)
    else m.evalRow x.1 x.2 k) m
  m.evalOutTrips false k

/-- Every fast row between the stages (R245). Only the leader or the single module evaluates them (R246). -/
def Module.evalFast (m : Module) : Module :=
  if m.leads = false then m
  else
    let k := m.sweep.verdicts.getD 0
    let m := m.cfg.rules.foldl (fun m (x : Nat × Rule) =>
      if x.2.enabled && isFast x.2.signal then m.evalFastRow x.1 x.2 k else m) m
    m.evalOutTrips true k

/-! ## Derates, holds and drains (R229, R231, R240, R248) -/

/-- An active row derates a direction. -/
def deratesDir (r : Rule) (dis : Bool) : Bool := r.action = 1 && (r.dir = 0 || (if dis then r.dir = 2 else r.dir = 1))

/-- A row's target string is `s`. -/
def Module.onString (m : Module) (a : VKey × Rule) (s : Nat) : Bool :=
  if a.1.overflow then a.1.inst = s else a.2.scope ≤ 2 && m.stringOfInst a.2.scope a.1.inst = s

/-- The percentage of R229 on a string: verdict derates, the sense derate, the reserve of R190, and 100. -/
def Module.pctString (m : Module) (s : Nat) (dis : Bool) : Nat :=
  let rows := (m.activeRows.filter (fun (a : VKey × Rule) => deratesDir a.2 dis && m.onString a s)).map (fun (a : VKey × Rule) => a.2.deratePct)
  let st := m.strE s
  let low := st.usable && (if dis then decide (st.d ≤ 0) else decide (st.c ≤ 0))
  let more := (if m.senseDerated s then [m.cfg.sense.senseDeratePct] else []) ++
    (if low then [m.cfg.soc.reserveDeratePct] else [])
  (leastN (100 :: rows ++ more)).getD 100

/-- The percentage of R231 on a bay: bay-scope and domain-scope derates. -/
def Module.pctBay (m : Module) (b : Nat) (dis : Bool) : Nat :=
  (leastN (100 :: (m.activeRows.filter (fun (a : VKey × Rule) => deratesDir a.2 dis &&
    (a.2.scope = 4 || (a.2.scope = 3 && a.1.inst = b)))).map (fun (a : VKey × Rule) => a.2.deratePct))).getD 100

/-- An active row requests a string's open (R248). -/
def Module.openHeld (m : Module) (s : Nat) : Bool :=
  m.activeRows.any (fun (a : VKey × Rule) =>
    (a.2.action = 2 || a.2.action = 4) && decide (s ∈ m.targetStrings a.2.scope (decide (a.2.action = 4)) a.1.overflow a.1.inst))

/-- An active row requests a bay's drain (R248). -/
def Module.drainHeld (m : Module) (b : Nat) : Bool :=
  m.activeRows.any (fun (a : VKey × Rule) => a.2.action = 3 && decide (b ∈ m.targetBays a.2.scope a.1.overflow a.1.inst))

/-- A drain request stands for a bay (R231, R264, R438, R446): an active row's, a zero hold of one of its strings, or
the module's own before an activation or in SAFE_HOLD. -/
def Module.drainStands (m : Module) (b : Nat) : Bool :=
  m.drainHeld b || (m.cfg.stringsOf b).any (fun s => (m.sInst s).zeroHold) || m.ver.zeroed

/-! ## Publication (R229, R231, R232) -/

/-- The limits of a string published; without `rise`, no value rises (R229, R232). -/
def Module.publishString (m : Module) (rise : Bool) (s : Nat) : Module :=
  let st := m.strE s
  let ok := closedState (m.sInst s).state && !m.ver.zeroed
  let step := if rise then m.limitRise (m.cfg.cRef s) else 0
  let d := publishDir (m.pctString s true) ok step st.compDis st.pubDis
  let c := publishDir (m.pctString s false) ok step st.compChg st.pubChg
  m.modStrE s (fun st => { st with pubDis := d, pubChg := c })

/-- The limits of a bay published; without `rise`, no value rises (R231, R232). -/
def Module.publishBayBoth (m : Module) (rise : Bool) (b : Nat) : Module :=
  let drain := m.drainStands b
  let hold (prev new : DirLimit) : DirLimit :=
    if rise then new
    else { new with vals := (new.vals.zip prev.vals).map (fun (p : Rat × Rat) => if p.2 < p.1 then p.2 else p.1) }
  let x := m.bayE b
  let d := hold x.pubDis (m.publishBay b true (m.pctBay b true) drain)
  let c := hold x.pubChg (m.publishBay b false (m.pctBay b false) drain)
  m.modBayE b (fun x => { x with pubDis := d, pubChg := c })

/-- The SOC_USABLE and CONF of a bay that belong to the sweep whose limits are published (R409). -/
def Module.stampSoc (m : Module) (b : Nat) : Module :=
  m.modBayE b (fun x => { x with
    pubSoc := if x.usable then some ((clampI 0 65535 (roundInt x.r)).toNat, x.conf) else none })

/-- The limits of every string and bay published; without `rise`, no value rises (R232). -/
def Module.publish (m : Module) (rise : Bool) : Module :=
  let m := m.strNos.foldl (fun m s => m.publishString rise s) m
  m.cfg.bays.foldl (fun m b => m.publishBayBoth rise b) m

/-- The fast rows that are active, and the outgoing TRIP rows: what a fast evaluation can change. -/
def Module.fastActive (m : Module) : List VKey :=
  (m.ver.fast.filter (fun (p : VKey × VRec) => p.2.active)).map (fun (p : VKey × VRec) => p.1) ++
  m.ver.outTrips.map (fun (o : VKey × Rule × Curve × Curve × VRec) => o.1)

/-- A fast evaluation changed what its rows ask for: `opened` are the strings it opens. Their limits and those of the
bays, which fast rows of domain scope derate or drain, are republished at once, and none rises (R245, R232). -/
def Module.republish (m : Module) (opened : List Nat) : Module :=
  let m := opened.foldl (fun m s => m.publishString false s) m
  m.cfg.bays.foldl (fun m b => m.publishBayBoth false b) m

/-- A held limit scaled to HOLD_LIMIT_PCT (R72). -/
def scaleLimit (pct : Nat) (l : DirLimit) : DirLimit := { l with vals := l.vals.map (fun v => v * (pct : Rat) / 100) }

/-- A sweep without limits from the ESI: held for two sweeps, then scaled to HOLD_LIMIT_PCT once (R72, R232). -/
def Module.holdLimits (m : Module) : Module :=
  let m := { m with ver := { m.ver with held := m.ver.held + 1 } }
  if m.ver.held = 3 then
    let pct := m.cfg.limit.holdLimitPct
    let m := m.strNos.foldl (fun m s => m.modStrE s (fun st => { st with
      pubDis := scaleLimit pct st.pubDis, pubChg := scaleLimit pct st.pubChg })) m
    m.cfg.bays.foldl (fun m b => m.modBayE b (fun x => { x with
      pubDis := scaleLimit pct x.pubDis, pubChg := scaleLimit pct x.pubChg })) m
  else m

end Sys2Proof.Machine
end

