-- ==== Sys2Proof/Machine/Wire.lean ====
section
/-! DEFINITION. The bytes of the ring frames that an end sends (R91 to R94, R101, R102), little-endian as R9 says. -/

namespace Sys2Proof.Machine

/-- FTYPE of Table 04-3 with BCAST, FROM_SOUTH and QUERY: byte 0 of a frame as an end sends it, TURNED 0 (Table 04-2). -/
def headByte (ftype : Nat) (bcast fromSouth query : Bool) : Byte :=
  ftype + (if bcast then 16 else 0) + (if fromSouth then 64 else 0) + (if query then 128 else 0)

/-- The common head (Table 04-2): an end sends HOP_CNT 0 and its complement (R93). -/
def headBytes (b0 b1 length : Nat) : List Byte := [b0, b1, 0, 255] ++ le 2 length

/-- CRC-16 of a frame over bytes 0, 1 and from 4 on (R92, R94). -/
def frameCheck (frame : List Byte) : Nat := crc16 (frame.take 2 ++ frame.drop 4)

/-- A command frame but for its CRC (Table 04-4). -/
def commandHead (south : Bool) (opcode hop : Nat) (query : Bool) (count : Nat) (payload : List Byte) : List Byte :=
  headBytes (headByte 1 (decide (hop = 0)) south query) ((hop - 1) % 256) (10 + payload.length) ++ [opcode, count] ++ payload

/-- The CRC-16 of a command frame. -/
def commandCrc (south : Bool) (opcode hop : Nat) (query : Bool) (count : Nat) (payload : List Byte) : Nat :=
  frameCheck (commandHead south opcode hop query count payload)

/-- A slot as an end writes it: SLOT_STATE 0, a zero body and a valid slot CRC (R102). -/
def emptySlot (len : Nat) : List Byte :=
  let s := [len, 0, 0] ++ zeros (len - 5)
  s ++ le 2 (crc16 s)

/-- KIND code of a collecting frame (Table 04-9). -/
def collectCode : CollectKind → Nat
  | .sweep => 0 | .reread => 1 | .rollCall => 2

/-- The header of a collecting frame with its HDR_CRC (Table 04-9). -/
def collectHead (ring : Nat) (south : Bool) (kind : CollectKind) (sweep : Nat) (lens : List Nat) : List Byte :=
  let h := headBytes (headByte 3 true south false) ring (24 + lens.sum) ++ [lens.length - 1, collectCode kind] ++ le 4 sweep ++
    zeros 2
  h ++ le 2 (frameCheck h)

/-- The bytes of a frame as an end of a ring sends it. -/
def endBytes (ring : Nat) (south : Bool) : EndFrame → List Byte
  | .command opcode hop query count payload =>
    commandHead south opcode hop query count payload ++ le 2 (commandCrc south opcode hop query count payload)
  | .collect kind sweep lens =>
    let b := collectHead ring south kind sweep lens ++ (lens.map emptySlot).flatten ++ zeros 4
    b ++ le 4 (crc32c b)

end Sys2Proof.Machine
end

