-- ==== Sys2Proof/Machine/Ring.lean ====
section
/-! DEFINITION. The Kwetric rings as the module serves them: ends and partitions (R115, R141), counted commands and
queries with their recovery (R97 to R99), training (R108, R109), restarts (R117), turns, rejoin and quarantine (R116,
R122). -/

namespace Sys2Proof.Machine

/-! ## Ends and ports (R7, R8, R115) -/

/-- A leader action may be started (R340). -/
def Module.acts (m : Module) : Bool := m.leads && !m.pair.stopped

/-- An end of a ring can send: its own port is up, or the partner serves it (R115). -/
def Module.endAlive (m : Module) (r : Nat) (south : Bool) : Bool :=
  match m.ownPort r south with
  | some p => (m.port p).enabled && (m.port p).up
  | none => !m.pair.silent && m.pair.keep.portsEnabled && m.pair.partnerRole != some .parked && !m.pair.partnerParking

/-- The south side of these hops passes nothing on: latched turns, and the silent south port. -/
def Module.stopsN (m : Module) (r : Nat) : List Nat :=
  (m.ring r).turnN ++ (if m.endAlive r true then [] else [m.cfg.ringW r])

/-- The north side of these hops passes nothing on: latched turns, and the silent north port. -/
def Module.stopsS (m : Module) (r : Nat) : List Nat :=
  (m.ring r).turnS ++ (if m.endAlive r false then [] else [1])

/-- The leader's end is the south end. -/
def Module.leaderSouth (m : Module) : Bool := m.isPair && ((m.sup.slot = .b) != m.follows)

/-- The service partition the turn points give (R115). -/
def Module.partitionOf (m : Module) (r : Nat) : Partition :=
  let n := m.stopsN r
  let s := m.stopsS r
  match leastN (n ++ s.map (· - 1)), greatestN (s ++ n.map (· + 1)) with
  | some a, some b => { north := a, south := b }
  | _, _ => if m.leaderSouth then { north := 0, south := 1 }
            else { north := m.cfg.ringW r, south := m.cfg.ringW r + 1 }

/-- The end that serves a north hop under a partition, and the hop counted from it (R8). -/
def servedBy (part : Partition) (w h : Nat) : Option (Bool × Nat) :=
  if h ≤ part.north then some (false, h) else if part.south ≤ h then some (true, w + 1 - h) else none

/-- The end that serves a worker, and its hop from there. -/
def Module.endOf (m : Module) (w : Wk) : Option (Bool × Nat) := servedBy (m.ring w.1).part (m.cfg.ringW w.1) w.2

/-- A worker's hop from an end. -/
def Module.hopFrom (m : Module) (w : Wk) (south : Bool) : Nat := if south then m.cfg.ringW w.1 + 1 - w.2 else w.2

/-- An end reaches a worker: no turn lies between. -/
def Module.reaches (m : Module) (w : Wk) (south : Bool) : Bool :=
  m.endAlive w.1 south &&
  (if south then (m.ring w.1).turnS.all (fun t => t ≤ w.2) && (m.ring w.1).turnN.all (fun t => t < w.2)
   else (m.ring w.1).turnN.all (fun t => w.2 ≤ t) && (m.ring w.1).turnS.all (fun t => w.2 < t))

/-- Serving ends of a ring with the number of hops each serves. -/
def Module.servingEnds (m : Module) (r : Nat) : List (Bool × Nat) :=
  let p := (m.ring r).part
  let w := m.cfg.ringW r
  (if p.north = 0 then [] else [(false, min p.north w)]) ++ (if p.south ≤ w then [(true, w + 1 - p.south)] else [])

/-- INSTANCE of a ring segment (Table 17-1). -/
def segInst (r s : Nat) : Nat := r * 512 + s

/-! ## Frames out -/

/-- The departure time of a frame that the partner's end sends, on plant time: a GEYSER leaves 1 ms before its sample instant
(R124), another frame at once. -/
def Module.departure (m : Module) : EndFrame → Nat
  | .command 0x01 _ _ _ _ => m.toPlant (m.sweep.tj - 1000000)
  | _ => m.plantOrLocal

/-- A frame leaves an end: from the own port, or by request from the partner's (R106, Table 14-4). -/
def Module.sendEnd (m : Module) (r : Nat) (south : Bool) (f : EndFrame) : Module :=
  match m.ownPort r south with
  | some p => m.emit (.ring p f)
  | none => m.emit (.pairEnd r f (m.departure f))

/-- A command frame leaves an end. -/
def Module.sendRing (m : Module) (r : Nat) (south : Bool) (opcode hop : Nat) (query : Bool) (count : Nat)
    (payload : List Byte) : Module := m.sendEnd r south (.command opcode hop query count payload)

/-- SLOT_LEN of a worker's slot, from the format table (R102). -/
def Module.slotLenOf (m : Module) (w : Wk) : Nat := (look {} m.cfg.formats (look {} m.cfg.workers w).format).slotLen

/-- A SWEEP or REREAD frame with `n` slots leaves an end (R102). -/
def Module.sendCollect (m : Module) (r : Nat) (south : Bool) (kind : CollectKind) (sweep n : Nat) : Module :=
  let w := m.cfg.ringW r
  let lens := (List.range n).map (fun i => m.slotLenOf (r, if south then w - i else i + 1))
  (m.modRing r (fun x => if south then { x with outS := x.outS + 1 } else { x with outN := x.outN + 1 })).sendEnd
    r south (.collect kind sweep lens)

/-- The bytes of a frame on a port (R91, R94, R101). -/
def Module.wireBytes (m : Module) (port : Nat) (f : EndFrame) : List Byte :=
  endBytes (m.endOfPort port).1 (m.endOfPort port).2 f

/-- A broadcast from every serving end of a ring. -/
def Module.bcast (m : Module) (r opcode : Nat) (payload : List Byte) : Module :=
  if m.acts then (m.servingEnds r).foldl (fun m (e : Bool × Nat) => m.sendRing r e.1 opcode 0 false 0 payload) m else m

/-- A roll call frame of 256 slots of 24 bytes from an end (R107). -/
def Module.sendRoll (m : Module) (r : Nat) (south : Bool) : Module :=
  if m.acts then m.sendEnd r south (.collect .rollCall 0 (List.replicate 256 24)) else m

/-- Roll calls from every live end of a ring. -/
def Module.rollCall (m : Module) (r : Nat) : Module :=
  [false, true].foldl (fun m s => if m.endAlive r s then m.sendRoll r s else m) m

/-- The CRC-16 of a counted command frame as it was sent (Table 04-4). -/
def frameCrc (south : Bool) (hop count : Nat) (cmd : RingCmd) : Nat :=
  commandCrc south cmd.opcode hop false count cmd.payload

/-! ## Completion -/

/-- A diagnostic request's wait, advanced by one reply (R394). -/
def Module.diagDone (m : Module) (session seq : Nat) (ok : Bool) (mask : Nat) : Module :=
  { m with dcp := { m.dcp with waits := m.dcp.waits.map (fun d =>
      if d.session = session ∧ d.seq = seq then
        { d with left := d.left - 1, mask := d.mask ||| mask, failed := d.failed || !ok }
      else d) } }

/-- A worker without its commands: they are awaited no more, and a restart they were handling is found again at the next slot
with RESET_SEEN (R117). -/
def WorkerSt.dropped (x : WorkerSt) : WorkerSt :=
  { x with
    outst := none, queue := [], queries := []
    restart := if x.restart = .watching then .watching else .none_ }

/-- A command of Scarab or of a lease: it is sent again once the ring is trained after a reset of the RGI (log 176). -/
def keptTag : CmdTag → Bool
  | .scarab _ | .boot _ | .lease _ => true
  | _ => false

/-- A worker after a reset of the RGI: the counted commands of Scarab wait to be sent again. -/
def WorkerSt.rgiReset (x : WorkerSt) : WorkerSt :=
  let cmds := (match x.outst with | some o => [o.cmd] | none => []) ++ x.queue
  { x.dropped with queue := cmds.filter (fun c => keptTag c.tag) }

/-- A ring command of a Scarab step has ended. A step of several commands ends when all have, and fails when one has
(R257, log 41). -/
def endStep (ok : Bool) (i : Inst) : Inst :=
  let bad := i.stepFailed || !ok
  { i with
    waiting := i.waiting - 1, stepFailed := bad
    result := if i.waiting ≤ 1 then (if bad then 2 else 1) else 0 }

/-- The coils commanded by an accepted CONTACTOR_SET (R255). -/
def coilsSet (ms new : Nat) (i : Inst) : Inst :=
  { i with
    coils := new
    coilAt := (List.range 3).map (fun c => if bitAt i.coils c && bitAt new c then i.coilAt.getD c 0 else ms) }

/-- The coils that a CONTACTOR_SET no longer drives are commanded no more as it is sent (R255). -/
def coilsKept (new : Nat) (i : Inst) : Inst :=
  { i with coils := bitsOf ((List.range 3).map (fun c => bitAt i.coils c && bitAt new c)) }

/-- What an accepted command of a DZS-2 changes in the string: CONTACTOR_SET its coils, whatever has become of the step that
sent it; DZS_CLEAR its MODE, which returns to RUN with the heartbeats the module sends (R260, R268). -/
def Module.dzsAccepted (m : Module) (w : Wk) (cmd : RingCmd) : Module :=
  let s := (look {} m.cfg.workers w).string
  if cmd.opcode = 0x20 then m.modInst (.str s) (coilsSet m.ms (cmd.payload.headD 0 % 8))
  else if cmd.opcode = 0x24 then m.modWk w (fun x => { x with mismRun := 0, dzs := { x.dzs with mode := 1 } })
  else m

/-- LATCH_MASK of a reply. -/
def maskOf : ReplyData → Nat
  | .latchMask k => k
  | _ => 0

/-- A query leaves an end for its worker; it is never refused for its count. -/
def Module.pushQuery (m : Module) (w : Wk) (cmd : RingCmd) (south : Bool) (hop : Nat) : Module :=
  (m.modWk w (fun x => { x with queries := x.queries ++ [{ cmd := cmd, fromSouth := south }] })).sendRing
    w.1 south cmd.opcode hop true 0 cmd.payload

/-- A BAL_SET has been accepted: its transfers replace every transfer of the worker at once (R160). -/
def Module.balAccepted (m : Module) (w : Wk) : Module :=
  match (m.wk w).balSent with
  | none => m
  | some new =>
    let x := m.wk w
    let at_ := (new.head?.map (fun t => t.2.1)).getD ((x.transfers.head?.map (fun t => t.2.1)).getD 0)
    let gone := x.transfers.filter (fun t => new.all (fun n => n.1 ≠ t.1))
    let turned := (new ++ x.transfers).map (fun (t : Nat × Nat × Nat) => (t.1, (at_ + 2) % 4294967296))
    m.modWk w (fun x => { x with
      transfers := new, balSent := none, edges := keepEdges at_ m.sweep.period (x.edges ++ turned)
      settled := gone.foldl (fun l (t : Nat × Nat × Nat) => put l t.1 at_) x.settled })

/-- A counted command has completed or failed: whoever waits for it is told. -/
def Module.complete (m : Module) (w : Wk) (cmd : RingCmd) (ok : Bool) (data : ReplyData) : Module :=
  let m := if ok && decide (cmd.opcode = 0x30) then m.balAccepted w else if ok then m.dzsAccepted w cmd else m
  match cmd.tag with
  | .scarab k => m.modInst k (endStep ok)
  | .boot s => m.modInst (.str s) (fun i => { i with result := if ok then 1 else 2 })
  | .lease s =>
    if ok then m.modInst (.str s) (fun i => { i with leaseGranted := unle (cmd.payload.take 2) }) else m
  | .force p j =>
    if ok then m
    else m.modWk w (fun x => { x with sense := { x.sense with forced := x.sense.forced.filter (fun f => f ≠ (j, p)) } })
  | .restart =>
    -- a command that fails leaves the worker as restarted: the next slot with RESET_SEEN begins anew (R117)
    if ok then (if cmd.opcode = 0x15 then m.modWk w (fun x => { x with restart := .watching }) else m)
    else m.modWk w (fun x => { x with restart := .none_, queue := x.queue.filter (fun c => c.tag ≠ .restart) })
  | .rejoin s =>
    if ok then m
    else m.modRing w.1 (fun r => match r.rejoin with
      | some j => if j.segment = s then { r with rejoin := some { j with phase := 3 } } else r
      | none => r)
  | .diag a b _ =>
    if cmd.opcode = 0x17 ∧ ok then
      match m.endOf w with
      | some (south, hop) => m.pushQuery w { opcode := 0x18, tag := cmd.tag } south hop
      | none => m.diagDone a b false 0
    else
      let m := if !ok && decide (cmd.opcode = 0x40) then
          m.modWk w (fun x => { x with sense := { x.sense with
            forced := x.sense.forced.filter (fun f => f ≠ (unle (cmd.payload.drop 4), cmd.payload.headD 0)) } })
        else m
      m.diagDone a b ok (maskOf data)
  | .train | .wake | .vmatch _ _ | .none_ => m

/-! ## Counted commands and queries (R97 to R99) -/

/-- WORKER_NO_REPLY of a worker. -/
def Module.noReply (m : Module) (w : Wk) : Module := m.raise .rgi cWorkerNoReply sevWarning scWorker (wkInst w)

/-- A counted command leaves for its worker; without an end that serves the worker it fails. -/
def Module.startCounted (m : Module) (w : Wk) (cmd : RingCmd) : Module :=
  match m.endOf w with
  | none => m.complete w cmd false .none_
  | some (south, hop) =>
    let n := ((m.wk w).c + 1) % 256
    (m.modWk w (fun x => { x with outst := some { cmd := cmd, count := n, fromSouth := south } })).sendRing
      w.1 south cmd.opcode hop false n cmd.payload

/-- A counted command is sent, or waits for the one outstanding to its worker (R98). -/
def Module.sendCounted (m : Module) (w : Wk) (cmd : RingCmd) : Module :=
  if m.acts = false then m
  else if (m.wk w).outst.isSome then m.modWk w (fun x => { x with queue := x.queue ++ [cmd] })
  else m.startCounted w cmd

/-- The next waiting command of a worker leaves; a worker that no end serves fails them all. -/
def Module.nextCounted (m : Module) (w : Wk) : Module :=
  match (m.wk w).queue with
  | [] => m
  | cmd :: t =>
    if (m.endOf w).isSome then (m.modWk w (fun x => { x with queue := t })).startCounted w cmd
    else (cmd :: t).foldl (fun m c => m.complete w c false .none_) (m.modWk w (fun x => { x with queue := [] }))

/-- The outstanding command of a worker ends, its counter stands at `c`, and the next one leaves. -/
def Module.endCounted (m : Module) (w : Wk) (c : Nat) (ok : Bool) (data : ReplyData) : Module :=
  match (m.wk w).outst with
  | none => m
  | some o =>
    let m := m.modWk w (fun x => { x with
      c := c, outst := none, snapNear := if o.cmd.opcode = 0x17 then o.fromSouth else x.snapNear })
    (m.complete w o.cmd ok data).nextCounted w

/-- A query is sent from the end that serves its worker. Without such an end nothing is sent. -/
def Module.sendQuery (m : Module) (w : Wk) (cmd : RingCmd) : Module :=
  if m.acts = false then m
  else match m.endOf w with
    | none => m.complete w cmd false .none_
    | some (south, hop) => m.pushQuery w cmd south hop

/-- The first query of an opcode taken out of a list. -/
def takeQuery (op : Nat) : List Query → Option Query × List Query
  | [] => (none, [])
  | q :: t => if q.cmd.opcode = op then (some q, t) else let r := takeQuery op t; (r.1, q :: r.2)

/-- A payload whose near and far sides follow the sending end, for the other end (log 42). -/
def flipPayload (cmd : RingCmd) : RingCmd :=
  if cmd.opcode = 0x11 then { cmd with payload := cmd.payload.drop 4 ++ cmd.payload.take 4 }
  else if cmd.opcode = 0x13 ∨ cmd.opcode = 0x14 then { cmd with payload := cmd.payload.map (fun s => 1 - s) }
  else cmd

/-- The fourth send of a counted command went unanswered (R98): COUNT_READ from the other end where that end reaches
the worker; otherwise the command fails. -/
def Module.recover (m : Module) (w : Wk) (o : Outst) : Module :=
  let m := m.noReply w
  if o.other = false ∧ m.reaches w (!o.fromSouth) then
    (m.modWk w (fun x => { x with outst := some { o with reading := true } })).sendRing
      w.1 (!o.fromSouth) 0x12 (m.hopFrom w (!o.fromSouth)) true 0 []
  else m.endCounted w (m.wk w).c false .none_

/-- A counted command's reply timeout (R98). -/
def Module.countedTimeout (m : Module) (w : Wk) (o : Outst) : Module :=
  let p := m.ownPort w.1 (if o.reading then !o.fromSouth else o.fromSouth)
  let tick (m : Module) (i : Nat) : Module := match p with | some p => m.countPort p i | none => m
  let m := tick m 3
  if o.reading then m.endCounted w (m.wk w).c false .none_
  else if o.sends < 4 then
    (tick (m.modWk w (fun x => { x with outst := some { o with sends := o.sends + 1 } })) 4).sendRing
      w.1 o.fromSouth o.cmd.opcode (m.hopFrom w o.fromSouth) false o.count o.cmd.payload
  else m.recover w o

/-- The reply to the COUNT_READ of R98: the command was executed, or it is sent again from the other end. -/
def Module.countRead (m : Module) (w : Wk) (o : Outst) (c lastCrc : Nat) : Module :=
  if c = o.count ∧ lastCrc = frameCrc o.fromSouth (m.hopFrom w o.fromSouth) o.count o.cmd then
    m.endCounted w c true .none_
  else
    let n := (c + 1) % 256
    let south := !o.fromSouth
    let cmd := flipPayload o.cmd
    (m.modWk w (fun x => { x with c := c, outst := some { cmd := cmd, count := n, fromSouth := south, other := true } })).sendRing
      w.1 south cmd.opcode (m.hopFrom w south) false n cmd.payload

/-- A counted command to a worker, by opcode and payload. -/
def Module.order (m : Module) (w : Wk) (opcode : Nat) (payload : List Byte) (tag : CmdTag := .none_) : Module :=
  m.sendCounted w { opcode := opcode, payload := payload, tag := tag }

/-- A query to a worker. -/
def Module.ask (m : Module) (w : Wk) (opcode : Nat) (payload : List Byte) (tag : CmdTag := .none_) : Module :=
  m.sendQuery w { opcode := opcode, payload := payload, tag := tag }

/-! ## Setting up a worker (R108, R109, R117, R134, R136) -/

/-- Payload of SET_DELAY from the end that serves a worker: 0xFFFFFFFF for a delay not measured (R109). -/
def Module.delayPayload (m : Module) (w : Wk) : List Byte :=
  let x := m.wk w
  let near := if (m.endOf w).map (·.1) = some true then x.delayS else x.delayN
  let far := if (m.endOf w).map (·.1) = some true then x.delayN else x.delayS
  le 4 (near.getD naU32) ++ le 4 (far.getD naU32)

/-- Payload of SET_FORMAT (Table 05-11). -/
def Module.formatPayload (m : Module) (w : Wk) : List Byte :=
  let i := (look {} m.cfg.workers w).format
  let f := look {} m.cfg.formats i
  [i % 16, f.slotLen, f.items.length, 0] ++ (f.items.map (fun (p : Nat × Nat) => [p.1, p.2])).flatten

/-- Payload of SET_FILTER (Table 05-14, R142). STEP_SIZE is rounded to the nearest mA, ties upwards (log 11). -/
def Module.filterPayload (m : Module) (w : Wk) : List Byte :=
  let sc := m.cfg.sweep
  let e := look {} m.cfg.workers w
  let dzs := decide (e.typ = .dzs2)
  [look 1 sc.sweepCorner w.1, look 4 sc.burstCorner w.1, if dzs then sc.stepWindow else 0, 0] ++
    le 4 (if dzs then (sc.stepSize * m.cfg.cRef e.string + 50) / 100 else 0)

/-- SET_DELAY, ACK_RESET, then format and filter (R108 step 4). -/
def Module.trainWorker (m : Module) (w : Wk) : Module :=
  (((m.order w 0x11 (m.delayPayload w) .train).order w 0x15 [] .train).order w 0x04 (m.formatPayload w) .train).order
    w 0x03 (m.filterPayload w) .train

/-- SET_DELAY, format, filter, then ACK_RESET (R117 step 2). -/
def Module.resumeWorker (m : Module) (w : Wk) : Module :=
  (((m.order w 0x11 (m.delayPayload w) .restart).order w 0x04 (m.formatPayload w) .restart).order
    w 0x03 (m.filterPayload w) .restart).order w 0x15 [] .restart

/-- A restart is found (R117): the worker's slots are no longer used and C is read. A command outstanding to it waits
until the worker is set up again (log 43). -/
def Module.beginRestart (m : Module) (w : Wk) : Module :=
  if (m.wk w).restart = .counting ∨ (m.wk w).restart = .setting then m
  else
    let m := m.modWk w (fun x => { x with
      restart := .counting, qBase := none, rebase := true, outst := none
      queue := (match x.outst with | some o => [o.cmd] | none => []) ++ x.queue })
    m.ask w 0x12 [] .restart

/-- The COUNT_READ of R117 has answered. -/
def Module.restartCounted (m : Module) (w : Wk) (c boot : Nat) : Module :=
  let old := (m.wk w).queue
  let m := m.modWk w (fun x => { x with c := c, boot := some boot, restart := .setting, queue := [] })
  let m := m.resumeWorker w
  m.modWk w (fun x => { x with queue := x.queue ++ old })

/-- Training commands of a worker are still under way. -/
def trainingOpen (x : WorkerSt) : Bool :=
  (match x.outst with | some o => o.cmd.tag = .train | none => false) || x.queue.any (fun c => c.tag = .train)

/-- A ring is trained once every worker that answered has been set up. -/
def Module.trainCheck (m : Module) (r : Nat) : Module :=
  let ws := ((m.cfg.workersOf r).map (·.1)).filter (fun w => (m.wk w).answered)
  if (m.ring r).trained = false ∧ ws ≠ [] ∧
      ws.all (fun w => ((m.wk w).delayN.isSome || (m.wk w).delayS.isSome) && !trainingOpen (m.wk w)) then
    let m := m.modRing r (fun x => { x with trained := true })
    if m.dorm.phase = .waking then ws.foldl (fun m w => m.ask w 0x52 [] .wake) m else m
  else m

/-- Delays of a ring are measured afresh. -/
def Module.remeasure (m : Module) (r : Nat) : Module :=
  (m.cfg.workersOf r).foldl (fun m (w : Wk × WorkerEntry) => m.modWk w.1 (fun x => { x with
    probesN := [], probesS := [], delayN := none, delayS := none, failsN := 0, failsS := 0 })) m

/-- Training of a ring starts with a roll call from every live end (R108). The partition follows the turns known at once while
no sweep runs, and otherwise at the next boundary (R115). -/
def Module.beginTraining (m : Module) (r : Nat) : Module :=
  let m := m.modRing r (fun x => { x with trained := false, rollAgain := false, rollN := [], rollS := [] })
  let p := m.partitionOf r
  let m := if m.sweep.running then m else m.modRing r (fun x => { x with part := p })
  let m := (m.cfg.workersOf r).foldl (fun m (w : Wk × WorkerEntry) => m.modWk w.1 (fun x => { x with answered := false })) m
  (m.remeasure r).rollCall r

/-- Sixteen probes to a worker from an end (R108). -/
def Module.probe (m : Module) (w : Wk) (south : Bool) : Module :=
  if m.acts then
    (List.range 16).foldl (fun m _ => m.sendRing w.1 south 0x10 (m.hopFrom w south) true 0 []) m
  else m

/-- The newest roll call body of a worker, from an end or, where that end's roll call has not reached it, from the other:
TURN_DELAY is the worker's own (Table 04-13). -/
def Module.rollOf (m : Module) (w : Wk) (south : Bool) : Option RollBody :=
  let n := find (m.ring w.1).rollN w.2
  let s := find (m.ring w.1).rollS w.2
  if south then s.or n else n.or s

/-- D of R108 from sixteen round trips and TURN_DELAY, in ns, rounded to the nearest with ties upwards (log 11). -/
def delayOf (trips : List Nat) (turn : Nat) : Int := (sumI (trips.map (fun t => (t : Int))) - 16 * turn + 16) / 32

/-- D of a worker from an end. -/
def Module.delayFrom (m : Module) (w : Wk) (south : Bool) : Option Nat := if south then (m.wk w).delayS else (m.wk w).delayN

/-- The neighbour of a worker on the way to an end; itself next to the port. -/
def Module.nearer (m : Module) (w : Wk) (south : Bool) : Wk := (w.1, if south then min (w.2 + 1) (m.cfg.ringW w.1) else w.2 - 1)

/-- The check of R109 on a worker's delay against its neighbour's from the same end; a neighbour that answers no roll call
leaves nothing to compare. -/
def Module.delayOk (m : Module) (w : Wk) (south : Bool) (d : Int) : Bool :=
  if m.hopFrom w south = 1 then decide (0 ≤ d ∧ d ≤ 1000)
  else match m.delayFrom (m.nearer w south) south with
    | some p => decide (640 ≤ d - (p : Int) ∧ d - (p : Int) ≤ 1000)
    | none => true

/-- The neighbour's delay, which the check of R109 needs, is known or will not come. -/
def Module.stepKnown (m : Module) (w : Wk) (south : Bool) : Bool :=
  let v := m.nearer w south
  decide (m.hopFrom w south = 1) || (m.delayFrom v south).isSome || (m.rollOf v south).isNone || !m.reaches v south

/-- The delay of a worker from one end is settled: it passes R109, or has failed three times from that end. -/
def Module.settleDelay (m : Module) (w : Wk) (south : Bool) : Module :=
  let x := m.wk w
  let trips := if south then x.probesS else x.probesN
  match m.rollOf w south with
  | none => m
  | some body =>
    if trips.length < 16 ∨ m.stepKnown w south = false ∨ (m.delayFrom w south).isSome then m
    else
      let d := delayOf trips body.turnDelay
      let ok := m.delayOk w south d
      let fails := if ok then 0 else (if south then x.failsS else x.failsN) + 1
      let setD (m : Module) : Module := m.modWk w (fun x =>
        if south then { x with delayS := some d.toNat, failsS := 0 } else { x with delayN := some d.toNat, failsN := 0 })
      if ok then (setD m).clear .rgi cHopDelayRange scWorker (wkInst w)
      else if 3 ≤ fails then (setD m).raise .rgi cHopDelayRange sevWarning scWorker (wkInst w) d (leI 4 d)
      else
        (m.modWk w (fun x => if south then { x with probesS := [], failsS := fails }
          else { x with probesN := [], failsN := fails })).probe w south

/-- Every live end that reaches a worker has measured it. -/
def Module.measured (m : Module) (w : Wk) : Bool :=
  let x := m.wk w
  (!m.reaches w false || x.delayN.isSome) && (!m.reaches w true || x.delayS.isSome) && (x.delayN.isSome || x.delayS.isSome)

/-- Delays settle outwards from a worker: each one known lets the next be checked, and a worker is set up once measured
(R108, R109). `n` bounds the hops. -/
def Module.settleOn (m : Module) : Nat → Wk → Bool → Module
  | 0, _, _ => m
  | n + 1, w, south =>
    if (m.delayFrom w south).isSome then m
    else
      let m := m.settleDelay w south
      if (m.delayFrom w south).isSome then
        let m := if m.measured w then m.trainWorker w else m
        m.settleOn n (w.1, if south then w.2 - 1 else w.2 + 1) south
      else m

/-- A probe has returned (R108): from the sixteenth on the delay is settled. -/
def Module.probeBack (m : Module) (w : Wk) (south : Bool) (trip : Nat) : Module :=
  if (m.delayFrom w south).isSome ∨ (m.rollOf w south).isNone then m
  else
    let m := m.modWk w (fun x =>
      if south then { x with probesS := (x.probesS ++ [trip]).take 16 } else { x with probesN := (x.probesN ++ [trip]).take 16 })
    m.settleOn (m.cfg.ringW w.1) w south

/-! ## Turns and segments (R115, R116, R122) -/

/-- A segment's record rewritten. -/
def Module.modSeg (m : Module) (r s : Nat) (f : SegSt → SegSt) : Module :=
  m.modRing r (fun x => { x with segs := put x.segs s (f (look {} x.segs s)) })

/-- A segment's record. -/
def Module.seg (m : Module) (r s : Nat) : SegSt := look {} (m.ring r).segs s

/-- A segment is known to be broken from a worker's side. -/
def Module.segDown (m : Module) (r s : Nat) : Bool := decide (s ∈ (m.ring r).turnN) || decide (s + 1 ∈ (m.ring r).turnS)

/-- Unreachable workers and RING_ISOLATED follow the turn points (R115); a hop that a roll call misses is unreachable too
(Table 04-15a). -/
def Module.reviewRing (m : Module) (r : Nat) : Module :=
  let part := m.partitionOf r
  let w := m.cfg.ringW r
  (m.cfg.workersOf r).foldl (fun m (x : Wk × WorkerEntry) =>
    let u := (servedBy part w x.1.2).isNone || (m.wk x.1).missing
    (m.modWk x.1 (fun y => { y with unreach := u })).setCond u .rgi cRingIsolated sevWarning scWorker (wkInst x.1)) m

/-- The partition follows the turn points at once while no sweep runs; otherwise at the boundary (R115, R141). -/
def Module.fixPartition (m : Module) (r : Nat) : Module :=
  let p := m.partitionOf r
  (m.modRing r (fun x => { x with part := p })).reviewRing r

/-- A segment that went DOWN too often, or collects too many errors, is to be quarantined (R122). -/
def Module.quarantineCheck (m : Module) (r s : Nat) : Module :=
  let x := m.seg r s
  let now := m.ms
  let recent (l : List Nat) (span : Nat) : Nat := (l.filter (fun t => now < t + span)).length
  let m := m.setCond (decide (100 < recent x.errs 600000)) .rgi cRingSegmentErrors sevWarning scSegment (segInst r s)
  if x.quarantined = false ∧ (1000 < recent x.errs 60000 ∨ 5 < recent x.downs 60000) then
    m.modSeg r s (fun x => { x with wantQuar := true })
  else m

/-- Errors attributed to a segment (R122). -/
def Module.segError (m : Module) (r s : Nat) (n : Nat) : Module :=
  if n = 0 then m
  else
    let now := m.ms
    (m.modSeg r s (fun x => { x with errs := List.replicate n now ++ x.errs.filter (fun t => now < t + 600000) })).quarantineCheck
      r s

/-- A segment has gone DOWN once more: counted for its quarantine (R122). -/
def Module.countDown (m : Module) (r s : Nat) : Module :=
  m.modSeg r s (fun x => { x with downs := m.ms :: x.downs.filter (fun t => m.ms < t + 60000) })

/-- A turn shown on a segment that is being rejoined: the segment has gone DOWN again, and the rejoin fails (R116 step 4).
While its CLEAR_TURN commands still run only a BREAK notice says so, since the slots still show the turns to be cleared. -/
def Module.rejoinBroken (m : Module) (r s : Nat) (notice : Bool) : Module :=
  match (m.ring r).rejoin with
  | some j =>
    if j.segment = s ∧ (notice ∨ j.phase = 1 ∨ j.phase = 2) ∧ j.phase ≠ 3 then
      let m := if j.phase = 2 then m else m.countDown r s
      m.modRing r (fun x => { x with rejoin := some { j with phase := 3 } })
    else m
  | none => m

/-- A turn point is learned (RING_BREAK, R115): `southSide` names the side of the hop, `notice` that a BREAK notice told it. -/
def Module.learnTurn (m : Module) (r h : Nat) (southSide : Bool) (notice : Bool := false) : Module :=
  if h = 0 ∨ m.cfg.ringW r < h then m
  else
    let s := if southSide then h else h - 1
    let m := m.rejoinBroken r s notice
    let known := if southSide then decide (h ∈ (m.ring r).turnN) else decide (h ∈ (m.ring r).turnS)
    if known then m
    else
      let m := if m.segDown r s then m else m.countDown r s
      let m := m.modRing r (fun x =>
        if southSide then { x with turnN := addTo x.turnN h } else { x with turnS := addTo x.turnS h })
      let m := (m.raise .rgi cRingBreak sevWarning scSegment (segInst r s) naCurrent (int32s [(r : Int), (s : Int)])).quarantineCheck r s
      if m.sweep.running then m.reviewRing r else m.fixPartition r

/-- Turns of a segment are forgotten. -/
def Module.forgetTurns (m : Module) (r s : Nat) : Module :=
  m.modRing r (fun x => { x with turnN := dropFrom x.turnN s, turnS := dropFrom x.turnS (s + 1) })

/-- CLEAR_TURN (0x13) or FORCE_TURN (0x14) to both workers next to a segment; SIDE as seen from the serving end. -/
def Module.turnCmd (m : Module) (r s opcode : Nat) (tag : CmdTag) : Module :=
  let one (m : Module) (h : Nat) (southSide : Bool) : Module :=
    if h = 0 ∨ m.cfg.ringW r < h then m
    else match m.endOf (r, h) with
      | none => m
      | some (south, _) => m.order (r, h) opcode [if south = southSide then 0 else 1] tag
  one (one m s true) (s + 1) false

/-- FORCE_TURN to both workers next to a segment, which is then broken for the partition (R122, R116). -/
def Module.forceTurn (m : Module) (r s : Nat) : Module :=
  let m := m.turnCmd r s 0x14 .none_
  let w := m.cfg.ringW r
  m.modRing r (fun x => { x with
    turnN := if 1 ≤ s then addTo x.turnN s else x.turnN
    turnS := if s < w then addTo x.turnS (s + 1) else x.turnS })

/-- A rejoin has failed (R116 step 4). -/
def Module.rejoinFail (m : Module) (r : Nat) (j : Rejoin) : Module :=
  let s := j.segment
  let m := (m.modRing r (fun x => { x with rejoin := none })).forceTurn r s
  let m := m.modSeg r s (fun x => { x with fails := m.ms :: x.fails.filter (fun t => m.ms < t + 3600000) })
  let m := match j.host with | some (a, b) => m.diagDone a b false 0 | none => m
  if 3 ≤ (m.seg r s).fails.length then
    (m.modSeg r s (fun x => { x with unstable := true })).raise .rgi cRingSegmentUnstable sevWarning scSegment (segInst r s)
  else m

/-- CLEAR_TURN commands of a rejoin are still under way. -/
def Module.clearing (m : Module) (r s : Nat) : Bool :=
  [s, s + 1].any (fun h =>
    let x := m.wk (r, h)
    let mine (t : CmdTag) : Bool := decide (t = .rejoin s)
    (match x.outst with | some o => mine o.cmd.tag | none => false) || x.queue.any (fun c => mine c.tag))

/-- A rejoin moves on: turns cleared, then the roll call; a failure found meanwhile ends it. -/
def Module.rejoinStep (m : Module) (r : Nat) : Module :=
  match (m.ring r).rejoin with
  | none => m
  | some j =>
    if j.phase = 3 then m.rejoinFail r j
    else if j.phase = 0 ∧ m.clearing r j.segment = false then
      (m.modRing r (fun x => { x with rejoin := some { j with phase := 1 } })).sendRoll r m.leaderSouth
    else m

/-- A rejoin begins (R116 step 1). -/
def Module.beginRejoin (m : Module) (r s : Nat) (host : Option (Nat × Nat)) : Module :=
  let m := m.modRing r (fun x => { x with rejoin := some { segment := s, host := host } })
  (m.turnCmd r s 0x13 (.rejoin s)).rejoinStep r

/-- A segment is back in service: its turns are forgotten, and its break, quarantine and instability end. The leader does this
when its rejoin finds no fault, the follower on the leader's RING_REJOINED. -/
def Module.segmentBack (m : Module) (r s : Nat) : Module :=
  let m := m.forgetTurns r s
  let m := m.modSeg r s (fun x => { x with quarantined := false, eligible := false, unstable := false, wantQuar := false })
  let m := m.clear .rgi cRingBreak scSegment (segInst r s)
  let m := m.clear .rgi cRingSegmentQuarantined scSegment (segInst r s)
  let m := m.clear .rgi cRingSegmentUnstable scSegment (segInst r s)
  m.reviewRing r

/-- The roll call of a rejoin found no fault (R116 step 3). -/
def Module.rejoined (m : Module) (r : Nat) (j : Rejoin) : Module :=
  let s := j.segment
  let m := (m.segmentBack r s).modRing r (fun x => { x with rejoin := some { j with phase := 2 } })
  let m := match j.host with | some (a, b) => m.diagDone a b true 0 | none => m
  m.jotDom .rgi eRingRejoined sevInfo scSegment (segInst r s)

/-- A local time as a plant-time field that the module sends: 0 in UNSET (R13, R83). -/
def Module.plantField (m : Module) (t : Nat) : Nat := if m.time.state = .unset then 0 else m.toPlant t

end Sys2Proof.Machine
end

