-- ==== Sys2Proof/Machine/Burst.lean ====
section
/-! DEFINITION. Step bursts: the freeze decision (R143, R144), readout and release (R145 to R147), and the archive
(R386). Both modules of a pair keep the same burst records; only the leader sends. -/

namespace Sys2Proof.Machine

/-- Burst bookkeeping of a string. -/
def Module.burst (m : Module) (s : Nat) : BurstSt := look {} m.bursts s

/-- Burst bookkeeping of a string rewritten. -/
def Module.modBurst (m : Module) (s : Nat) (f : BurstSt → BurstSt) : Module :=
  { m with bursts := put m.bursts s (f (m.burst s)) }

/-- Blocks of a string's burst in the order of R147: north hop, then block. -/
def Module.burstPlan (m : Module) (s : Nat) : List (Nat × Nat) :=
  ((sortBy (fun (w : Wk × WorkerEntry) => (w.1.2 : Int)) (m.cfg.workersOfString s)).map
    (fun (w : Wk × WorkerEntry) =>
      if w.2.typ = .dzs2 then (List.range 4).map (fun b => (w.1.2, b))
      else (sortBy (fun (c : Nat) => (c : Int)) ((m.cfg.cellsAt w.1).map (fun (x : Nat × ChannelEntry) => chOfIx x.1))).map
        (fun b => (w.1.2, b)))).flatten

/-- Blocks of a burst neither held nor skipped. -/
def Module.burstLeft (m : Module) (s : Nat) (b : Burst) : List (Nat × Nat) :=
  (m.burstPlan s).filter (fun k => (find b.blocks k).isNone && decide (k ∉ b.skipped))

/-- FREEZE (action 0) or RELEASE (1) to the serving ends of a range of north hops (Table 05-17). -/
def Module.freezeFrame (m : Module) (r tStep id action first last : Nat) : Module :=
  if m.acts then
    let w := m.cfg.ringW r
    let p := (m.ring r).part
    let go (m : Module) (south : Bool) (a b : Nat) : Module :=
      m.sendRing r south 0x02 0 false 0 (le 8 tStep ++ [id, action, a - 1, b - 1] ++ zeros 4)
    let m := if first ≤ min last p.north then go m false first (min last p.north) else m
    if max first p.south ≤ last then go m true (w + 1 - last) (w + 1 - max first p.south) else m
  else m

/-- Ranges of hops joined where they touch, in order. -/
def joinRanges : List (Nat × Nat) → List (Nat × Nat)
  | [] => []
  | a :: t => match joinRanges t with
    | b :: u => if b.1 ≤ a.2 + 1 then (a.1, max a.2 b.2) :: u else a :: b :: u
    | [] => [a]

/-- The range of a string's burst is released. -/
def Module.burstRelease (m : Module) (s : Nat) (b : Burst) : Module :=
  let e := m.cfg.str s
  m.freezeFrame e.ring b.tStep b.freezeId 1 e.firstHop e.lastHop

/-- A string's newer step is counted as skipped. -/
def Module.skipStep (m : Module) (s t : Nat) : Module :=
  let m := m.modWk (m.cfg.dzsOf s) (fun x => { x with stepTime := t })
  m.modBurst s (fun b => { b with skippedSteps := b.skippedSteps + 1 })

/-- A step of a string may be frozen (R143). -/
def Module.mayFreeze (m : Module) (s t : Nat) : Bool :=
  let b := m.burst s
  m.cfg.sweep.bursts && decide (m.sweep.period ≤ 100) && b.active.isNone &&
  (match b.lastFreeze with | some l => decide (l + 60000000000 ≤ t) | none => true)

/-- A freeze of the ring that these steps join: one still standing whose tag lies within 1 ms of them (R143). A ring read from
both ends shows its strings' steps in two frames. -/
def Module.openFreeze (m : Module) (r t : Nat) : Option (Nat × Nat) :=
  ((m.cfg.strings.filter (fun (x : Nat × StringEntry) => x.2.ring = r)).filterMap (fun (x : Nat × StringEntry) =>
    match (m.burst x.1).active with
    | some b => if t ≤ b.tStep + 1000000 ∧ b.tStep ≤ t + 1000000 then some (b.tStep, b.freezeId) else none
    | none => none)).head?

/-- One freeze of strings whose steps lie within 1 ms, tagged with the earliest STEP_TIME, or with the tag of the freeze they
join. The spec does not say how FREEZE_ID is chosen: it counts up per ring from 1 and wraps after 255 (log 165). The frames
cover the frozen strings alone, one frame for strings whose hops touch (log 166). -/
def Module.freeze (m : Module) (r : Nat) (group : List (Nat × Nat)) : Module :=
  let earliest := (leastN (group.map (·.2))).getD 0
  let joined := m.openFreeze r earliest
  let t := (joined.map (·.1)).getD earliest
  let id := (joined.map (·.2)).getD ((m.ring r).freezeId % 255 + 1)
  let ranges := joinRanges (sortBy (fun (x : Nat × Nat) => (x.1 : Int))
    (group.map (fun (g : Nat × Nat) => ((m.cfg.str g.1).firstHop, (m.cfg.str g.1).lastHop))))
  let m := m.modRing r (fun x => { x with freezeId := id })
  let m := group.foldl (fun m (g : Nat × Nat) =>
    (m.modWk (m.cfg.dzsOf g.1) (fun x => { x with stepTime := g.2 })).modBurst g.1 (fun b => { b with
      active := some { freezeId := id, tStep := t, frozenAt := m.time.now }, lastFreeze := some g.2 })) m
  ranges.foldl (fun m (x : Nat × Nat) => m.freezeFrame r t id 0 x.1 x.2) m

/-- FREEZE_DECIDE (R143): the newer steps read from one frame of a ring, in order of time; each freeze takes the
strings within 1 ms of its earliest. `n` bounds the freezes. -/
def Module.freezeDecide (m : Module) (r : Nat) : Nat → List (Nat × Nat) → Module
  | 0, _ => m
  | _ + 1, [] => m
  | n + 1, g :: t =>
    let near := (g :: t).filter (fun (x : Nat × Nat) => decide (x.2 ≤ g.2 + 1000000))
    let far := (g :: t).filter (fun (x : Nat × Nat) => decide (g.2 + 1000000 < x.2))
    let ok := near.filter (fun (x : Nat × Nat) => m.mayFreeze x.1 x.2)
    let no := near.filter (fun (x : Nat × Nat) => !m.mayFreeze x.1 x.2)
    let m1 := no.foldl (fun m (x : Nat × Nat) => m.skipStep x.1 x.2) m
    let m2 := if ok = [] then m1 else m1.freeze r ok
    m2.freezeDecide r n far

/-- Burst conditions end with the string's next complete burst (log 44). -/
def Module.burstHealthy (m : Module) (s : Nat) : Module :=
  ((m.clear .rgi cBurstMissed scString s).clear .rgi cBurstAbandoned scString s)

/-- Blocks the flash archive holds: 40 GiB of 1,024 bytes each (R386, Table 17-5). -/
def archiveBlocks : Nat := 41943040

/-- The newest bursts of a list, newest first, that fit into `left` blocks. -/
def newestThatFit (left : Nat) : List (Nat × Burst) → List (Nat × Burst)
  | [] => []
  | x :: t => if x.2.blocks.length ≤ left then x :: newestThatFit (left - x.2.blocks.length) t else []

/-- The archive overwrites its oldest bursts first (R386). -/
def Module.trimArchive (m : Module) : Module :=
  let all := (m.bursts.map (fun (p : Nat × BurstSt) => p.2.archive.map (fun b => (p.1, b)))).flatten
  if (all.map (fun (x : Nat × Burst) => x.2.blocks.length)).foldl (· + ·) 0 ≤ archiveBlocks then m
  else
    let kept := newestThatFit archiveBlocks (sortBy (fun (x : Nat × Burst) => -(x.2.tStep : Int)) all)
    { m with bursts := m.bursts.map (fun (p : Nat × BurstSt) => (p.1, { p.2 with
        archive := p.2.archive.filter (fun b => decide ((p.1, b) ∈ kept)) })) }

/-- A burst is complete: released, archived, and entered in the next manifest (R147). -/
def Module.burstDone (m : Module) (s : Nat) (b : Burst) : Module :=
  let b : Burst := { b with done := true }
  let m := m.burstRelease s b
  let m := m.modBurst s (fun x => { x with active := none, archive := b :: x.archive })
  let m := { m with sweep := { m.sweep with burstsIn := m.sweep.burstsIn ++ [(s, b.freezeId)] } }
  ((m.setCond (decide (b.skipped ≠ [])) .rgi cBurstIncomplete sevWarning scString s).burstHealthy s).trimArchive

/-- A burst's record replaced; with nothing left it is complete. -/
def Module.putBurst (m : Module) (s : Nat) (b : Burst) : Module :=
  if m.burstLeft s b = [] then m.burstDone s b else m.modBurst s (fun x => { x with active := some b })

/-- A block of a burst has arrived. -/
def Module.burstBlock (m : Module) (w : Wk) (block : Nat) (data : List Int) : Module :=
  let s := (look {} m.cfg.workers w).string
  match (m.burst s).active with
  | none => m
  | some b => m.putBurst s { b with blocks := put b.blocks (w.2, block) data }

/-- A block is skipped after three re-sends, and BURST_INCOMPLETE is counted (R147). -/
def Module.burstSkip (m : Module) (w : Wk) (block : Nat) : Module :=
  let s := (look {} m.cfg.workers w).string
  match (m.burst s).active with
  | none => m
  | some b =>
    (m.modBurst s (fun x => { x with incomplete := x.incomplete + 1 })).putBurst s
      { b with skipped := addTo b.skipped (w.2, block) }

/-- The next block of a worker that a follower expects: replies arrive in the order of the queries (log 45). -/
def Module.burstExpect (m : Module) (w : Wk) : Option Nat :=
  let s := (look {} m.cfg.workers w).string
  match (m.burst s).active with
  | none => none
  | some b => ((m.burstLeft s b).find? (fun k => k.1 = w.2)).map (·.2)

/-- BURST_READ queries outstanding at an end of a ring. -/
def Module.burstOut (m : Module) (r : Nat) (south : Bool) : List (Nat × Nat) :=
  ((m.cfg.workersOf r).map (fun (w : Wk × WorkerEntry) =>
    ((m.wk w.1).queries.filter (fun q => q.cmd.opcode = 0x05 ∧ q.fromSouth = south)).map
      (fun q => (w.1.2, q.cmd.payload.getD 1 0)))).flatten

/-- Strings of a ring with a burst in readout, in order of T_STEP. -/
def Module.burstStrings (m : Module) (r : Nat) : List (Nat × Burst) :=
  sortBy (fun (x : Nat × Burst) => (x.2.tStep : Int))
    ((m.cfg.strings.filter (fun (x : Nat × StringEntry) => x.2.ring = r)).filterMap (fun (x : Nat × StringEntry) =>
      (m.burst x.1).active.map (fun b => (x.1, b))))

/-- A string's windows stand ready: its 192 ms have passed, and some worker of it shows FROZEN (R145). -/
def Module.burstReady (m : Module) (s : Nat) (b : Burst) : Bool :=
  decide (b.tStep + 192000000 ≤ m.plantOrLocal) &&
  (m.cfg.workersOfString s).any (fun (w : Wk × WorkerEntry) => (m.wk w.1).frozen)

/-- An end may send BURST_READ: always where it serves an intact ring, and where its partition ends in a turn only between the
return of the period's collecting frames and the readout close (R147). -/
def Module.mayRead (m : Module) (r : Nat) (south : Bool) : Bool :=
  let whole := (m.ring r).part.north ≥ m.cfg.ringW r || (m.ring r).part.south ≤ 1
  whole || (if south then (m.ring r).readS else (m.ring r).readN)

/-- The burst engine of one end keeps four queries outstanding (R147). -/
def Module.pumpEnd (m : Module) (r : Nat) (south : Bool) : Module :=
  if m.mayRead r south then
    let out := m.burstOut r south
    let next := ((m.burstStrings r).map (fun (x : Nat × Burst) =>
      ((m.burstLeft x.1 x.2).filter (fun k => decide (k ∉ out) && m.burstReady x.1 x.2 &&
        decide ((m.endOf (r, k.1)).map (·.1) = some south))).map (fun k => (k, x.2.freezeId)))).flatten
    (next.take (4 - out.length)).foldl (fun m (k : (Nat × Nat) × Nat) =>
      m.ask (r, k.1.1) 0x05 [k.2, k.1.2]) m
  else m

/-- The burst engine of a ring. -/
def Module.pump (m : Module) (r : Nat) : Module :=
  if m.acts ∧ m.burstStrings r ≠ [] then (m.pumpEnd r false).pumpEnd r true else m

/-- A freeze that no worker took (R145): at the readout close of a sweep sampled after the window, the used slots of the whole
string show no freeze. -/
def Module.burstMissedCheck (m : Module) (s k : Nat) (seen : List Wk) : Module :=
  match (m.burst s).active with
  | none => m
  | some b =>
    let mine := seen.filter (fun w => (look {} m.cfg.workers w).string = s)
    if b.blocks = [] ∧ mine ≠ [] ∧ mine.all (fun w => !(m.wk w).frozen) ∧
        b.tStep + 192000000 < m.toPlant (m.instantOf k) then
      (m.modBurst s (fun x => { x with active := none, missed := x.missed + 1 })).raise .rgi cBurstMissed sevWarning
        scString s
    else m

/-- A burst not complete 120 s after its step is released (R147). -/
def Module.burstAbandon (m : Module) (s : Nat) : Module :=
  match (m.burst s).active with
  | none => m
  | some b =>
    let m := m.burstRelease s b
    (m.modBurst s (fun x => { x with active := none, abandonedN := x.abandonedN + 1 })).raise .rgi cBurstAbandoned
      sevWarning scString s

/-- BURST_ABANDON. -/
def execBurstAbandon (string : Nat) (s : State) : Host.Outcome State Fault Refusal :=
  onModule s (fun m => if m.runs && m.up .rgi then m.burstAbandon string else m)

/-- Slots of a ring show FROZEN although this module has frozen nothing on it since it booted: RELEASE with FREEZE_ID 0 goes to
every hop served (R147). -/
def Module.strayFreeze (m : Module) (r : Nat) : Module :=
  if (m.cfg.strings.filter (fun (x : Nat × StringEntry) => x.2.ring = r)).all (fun (x : Nat × StringEntry) =>
      (m.burst x.1).active.isNone && (m.burst x.1).lastFreeze.isNone) then
    m.freezeFrame r 0 0 1 1 (m.cfg.ringW r)
  else m

end Sys2Proof.Machine
end

