-- ==== Sys2Proof/Machine/Carapace.lean ====
section
/-! DEFINITION. The Carapace safety island (chapter 13; R52, R57 of chapter 02; R449). Only TRIP_REQ and the
time pulse reach it from the rest of the module (R337), and the loader of R449. -/

namespace Sys2Proof.Machine

/-! ## Values in force (R330 to R332) -/

/-- The eight codes of the switch bank: index 2b + d from switches 8b + 4d upwards (R330). -/
def bankCodes (bank : Nat) : List Nat := (List.range 8).map (fun i => bank / 16 ^ i % 16)

/-- The bank as S31 to S0. -/
def bankWord (codes : List Nat) : Nat := codes.foldr (fun c acc => c + 16 * acc) 0

/-- The limit of a code, mA (Table 13-3). -/
def codeLimit (code : Nat) : Int :=
  1000 * ([500, 1000, 2000, 3000, 4000, 5000, 6000, 8000, 10000, 12000, 15000, 20000, 25000, 30000, 35000,
    40000] : List Int).getD code 500

/-- The shorter enabled tone-loss time; disabled only when both are (R332). -/
def shorterTl (a b : Nat) : Nat := if a = 0 then b else if b = 0 then a else min a b

/-- Field by field the more restrictive of two sets of values (R332). -/
def restrict (a b : CaraVals) : CaraVals :=
  { codes := List.zipWith min a.codes b.codes, tl := shorterTl a.tl b.tl }

/-- The bank as values. -/
def Carapace.bankVals (c : Carapace) : CaraVals := { codes := c.bank, tl := c.bankTl }

/-- The combined values that the Carapace applies (R332). -/
def Carapace.vals (c : Carapace) : CaraVals :=
  let own := c.own.getD c.bankVals
  match c.partner with
  | none => own
  | some p => restrict own p

/-- The limit in force of a bay and direction, mA (R323). -/
def Carapace.limit (c : Carapace) (b d : Nat) : Int := codeLimit (c.vals.codes.getD (2 * b + d) 0)

/-- The two sets of values differ (R332). -/
def Carapace.sealMismatch (c : Carapace) : Bool :=
  match c.own, c.partner with
  | some a, some p => a ≠ p
  | _, _ => false

/-! ## Trips and outputs (R319, R333) -/

/-- The bank differs from the values in force (R331). -/
def Carapace.bankDiffers (c : Carapace) : Bool :=
  match c.own with
  | none => false
  | some v => v ≠ c.bankVals

/-- A bay. -/
def Carapace.bay (c : Carapace) (b : Nat) : CaraBay := c.bays.getD b {}

/-- A bay rewritten. -/
def Carapace.modBay (c : Carapace) (b : Nat) (f : CaraBay → CaraBay) : Carapace := { c with bays := modAt c.bays b f }

/-- BAY_TRIP: both trip outputs de-energise, the trip latches, its first cause is kept first (R333). -/
def Carapace.trip (c : Carapace) (b cause : Nat) : Carapace :=
  if c.state = .run then
    c.modBay b (fun x => { x with causes := addTo x.causes cause, out0 := false, out1 := false })
  else c

/-- A trip of every bay. -/
def Carapace.tripAll (c : Carapace) (cause : Nat) : Carapace :=
  (List.range 4).foldl (fun c b => c.trip b cause) c

/-- The outputs of every bay without a latched trip energise, all others do not (R319, R333). -/
def Carapace.settle (c : Carapace) : Carapace :=
  let on := c.state = .run ∧ c.slotInvalid = false
  { c with bays := c.bays.map (fun x =>
      { x with out0 := decide (on ∧ x.causes = []), out1 := decide (on ∧ x.causes = []) }) }

/-- The trip permit conducts: running after a passed self-test, lever at LOCKED, slot code valid (R44, R52). -/
def Carapace.permit (c : Carapace) : Bool := c.state = .run && c.locked && !c.slotInvalid

/-- The lock stop is withdrawn: running after a passed self-test with every trip output energised (R52). -/
def Carapace.lockStop (c : Carapace) : Bool := c.state = .run && c.bays.all (fun x => x.out0 && x.out1)

/-- The bays an input trips: the E-stop all, SI_k bay k (R325). -/
def inputBays (input : Nat) : List Nat := if input = 0 then List.range 4 else [input - 1]

/-- The cause an open input gives (Table 13-4). -/
def inputCause (input : Nat) : Nat := if input = 0 then 5 else 6

/-- An input counts as open: a channel open, or its discrepancy latched (R325, Table 13-6). -/
def SafeIn.isOpen (i : SafeIn) : Bool := i.open1 || i.open2 || i.disc

/-- A cross-short stands (R326). -/
def SafeIn.isCross (i : SafeIn) : Bool := i.cross1 || i.cross2

/-- The trips an input calls for. -/
def Carapace.applyInput (c : Carapace) (input : Nat) : Carapace :=
  let i := c.inputs.getD input {}
  let c := if i.isOpen then (inputBays input).foldl (fun c b => c.trip b (inputCause input)) c else c
  if i.isCross then (inputBays input).foldl (fun c b => c.trip b 11) c else c

/-- The trips every wired input calls for. -/
def Carapace.applyInputs (c : Carapace) : Carapace := (List.range 5).foldl Carapace.applyInput c

/-- What a reset of the CPI loses: samples and counts. The latches and the values in force stay (R331, R333). -/
def Carapace.forget (c : Carapace) : Carapace :=
  { c with bays := c.bays.map (fun x =>
      { x with out0 := false, out1 := false, dis := [], chg := [], nDis := 0, nChg := 0, okRun := 0, agreeRun := 0 }) }

/-! ## Bay current (R320 to R323) -/

/-- The current of a sample, mA, when it lies in its valid range (Table 13-2). In +-10 V mode the sample is in
microvolts, in 4 mA to 20 mA mode in nanoamperes (log 22). -/
def bcsCurrent (linked : Bool) (raw : Int) : Option Int :=
  if linked then
    if 3600000 ≤ raw ∧ raw ≤ 21000000 then some ((raw - 12000000) * 25 / 4) else none
  else if -11000000 ≤ raw ∧ raw ≤ 11000000 then some (raw * 5) else none

/-- A channel takes a sample. -/
def BcsChan.take (ch : BcsChan) (raw : Int) : BcsChan :=
  match bcsCurrent ch.linked raw with
  | some i => { ch with valid := !ch.faulted, cur := i }
  | none => { ch with valid := false }

/-- A bay takes a sample of both channels: I_DIS and I_CHG from the valid ones (R322). -/
def CaraBay.take (x : CaraBay) (rawA rawB : Int) : CaraBay :=
  let a := x.chA.take rawA
  let b := x.chB.take rawB
  let x := { x with chA := a, chB := b }
  if a.valid ∧ b.valid then
    let agree := if (a.cur - b.cur).natAbs ≤ 1000000 then x.agreeRun + 1 else 0
    { x with dis := (max (-a.cur) (-b.cur) :: x.dis).take 10, chg := (max a.cur b.cur :: x.chg).take 10
             okRun := x.okRun + 1, degraded := x.degraded && decide (x.okRun + 1 < 100000)
             agreeRun := agree, discrepancy := x.discrepancy && decide (agree < 100000) }
  else if a.valid ∨ b.valid then
    let i := if a.valid then a.cur else b.cur
    { x with dis := (-i :: x.dis).take 10, chg := (i :: x.chg).take 10, okRun := 0, agreeRun := 0, degraded := true }
  else { x with dis := [], chg := [], nDis := 0, nChg := 0, okRun := 0, agreeRun := 0 }

/-- The mean of the last ten samples exceeds a limit; without ten samples it does not (R323). -/
def meanAbove (l : List Int) (lim : Int) : Bool := l.length = 10 && decide (10 * lim < sumI l)

/-- One millisecond of R323 for a bay. -/
def Carapace.meanTick (c : Carapace) (b : Nat) : Carapace :=
  let x := c.bay b
  let nD := if meanAbove x.dis (c.limit b 0) then x.nDis + 1 else 0
  let nC := if meanAbove x.chg (c.limit b 1) then x.nChg + 1 else 0
  let c := c.modBay b (fun x => { x with nDis := nD, nChg := nC })
  let c := if 5 ≤ nD then c.trip b (if c.vals.codes.getD (2 * b) 0 = 0 then 3 else 1) else c
  if 5 ≤ nC then c.trip b (if c.vals.codes.getD (2 * b + 1) 0 = 0 then 3 else 2) else c

/-! ## Key reset (R331, R332, R334) -/

/-- A latched cause of a bay is still present at a key reset (R334). -/
def Carapace.present (c : Carapace) (wire : Bool) (b cause : Nat) : Bool :=
  let x := c.bay b
  let es := c.inputs.getD 0 {}
  let si := c.inputs.getD (b + 1) {}
  if cause = 1 then meanAbove x.dis (c.limit b 0)
  else if cause = 2 then meanAbove x.chg (c.limit b 1)
  else if cause = 3 then meanAbove x.dis (c.limit b 0) || meanAbove x.chg (c.limit b 1)
  else if cause = 4 then c.vals.tl ≠ 0 && (List.range 8).any (fun i => c.tones.getD (8 * b + i) .dead = .silent)
  else if cause = 5 then es.isOpen || es.isCross
  else if cause = 6 then si.isOpen || si.isCross
  else if cause = 11 then es.isCross || si.isCross || es.disc || si.disc
  else if cause = 7 then wire
  else if cause = 8 then
    if x.bcs24h then !(x.chA.valid && x.chB.valid) else !(x.chA.valid || x.chB.valid)
  else if cause = 10 then x.stuck0 || x.stuck1
  else false

/-- A bay's latched trips clear but for those whose cause is still present (R334). -/
def Carapace.unlatch (c : Carapace) (wire : Bool) (b : Nat) : Carapace :=
  let left := (c.bay b).causes.filter (fun k => c.present wire b k)
  c.modBay b (fun x => { x with
    causes := left, bcs24h := x.bcs24h && decide (8 ∈ left), dead0 := false, dead1 := false })

/-- After a key reset a bay trips at once when its current exceeds the adopted limit (R331). -/
def Carapace.recheck (c : Carapace) (b : Nat) : Carapace :=
  let x := c.bay b
  let c := if meanAbove x.dis (c.limit b 0) then c.trip b (if c.vals.codes.getD (2 * b) 0 = 0 then 3 else 1) else c
  if meanAbove x.chg (c.limit b 1) then c.trip b (if c.vals.codes.getD (2 * b + 1) 0 = 0 then 3 else 2) else c

/-! ## Report and CPX (R332, R336) -/

/-- STATE of Table 13-5. -/
def cpiCode : CpiState → Nat
  | .selfTest => 0 | .run => 1 | .safe => 2 | .off => 2

/-- The report of R336. TRIP_MASK shows the bays with a latched trip (log 23). A channel that is not valid shows as
faulted, and TRIP_REQ seen stands from the trip to the next key reset (DEDUCED, log 179). -/
def Carapace.report (c : Carapace) : CaraReport :=
  let v := c.vals
  { state := cpiCode c.state
    flags := bitsOf [c.sealChanged, c.sealMismatch, c.cpxLost, c.keyStuck, c.bays.any (·.degraded),
      c.bays.any (·.discrepancy), c.permit, c.tripReq]
    tripMask := bitsOf (c.bays.map (fun x => decide (x.causes ≠ [])) ++ c.partnerTrips)
    dirPermit := bitsOf (v.codes.map (fun k => decide (k ≠ 0)))
    toneLoss := v.tl + 4 * c.bankTl
    limDis := (List.range 4).map (fun b => -(c.limit b 0))
    limChg := (List.range 4).map (fun b => c.limit b 1)
    bank := bankWord c.bank
    causes := c.bays.map (fun x => x.causes.headD 0)
    inputs := bitsOf (c.bays.flatMap (fun x => [!x.chA.valid, !x.chB.valid]) ++
      c.inputs.flatMap (fun i => [i.open1, i.open2]) ++
      c.bays.flatMap (fun x => [x.stuck0 || x.dead0, x.stuck1 || x.dead1]))
    tReport := c.pulse
    degraded := c.bays.map (·.degraded), discrepancy := c.bays.map (·.discrepancy)
    partnerLocked := c.partnerLocked }

/-- The CPX frame of the millisecond (R332). -/
def Carapace.cpxFrame (c : Carapace) : CpxFrame :=
  { vals := c.own.getD c.bankVals, trips := c.bays.map (fun x => decide (x.causes ≠ [])), leverLocked := c.locked
    schedule := if c.slotB then 1000 else 0, seq := c.seq }

/-- The lock stop has been seen withdrawn (R52). -/
def Module.noteLock (m : Module) (c : Carapace) : Module :=
  if c.lockStop then { m with sup := { m.sup with lockSeen := true } } else m

/-- The Carapace moves on and the pawl follows (R52). -/
def caraNext (s : State) (c : Carapace) : Host.Outcome State Fault Refusal := onBoth s c (s.m.noteLock c)

/-! ## Meanings -/

/-- CARAPACE_SELF_TEST_PASS (R74, R319, R321, R333): modes are found, the values in force adopted or compared,
and every bay without a latched trip energises; an input that stands open trips it again. -/
def execCarapaceSelfTestPass (links : List Bool) (bank tl : Nat) (s : State) : Host.Outcome State Fault Refusal :=
  let c := s.cara
  if c.state = .selfTest then
    let c := { c with state := .run, bank := bankCodes bank, bankTl := tl % 4, bankFails := 0 }
    let c := { c with own := some (c.own.getD c.bankVals), sealChanged := c.sealChanged || c.bankDiffers }
    let mode (i : Nat) (ch : BcsChan) : BcsChan := { ch with linked := links.getD i false, faulted := false }
    let c := { c with bays := c.bays.zipIdx.map (fun (p : CaraBay × Nat) =>
      { p.1 with chA := mode (2 * p.2) p.1.chA, chB := mode (2 * p.2 + 1) p.1.chB }) }
    caraNext s (c.settle.applyInputs)
  else .next s

/-- CARAPACE_SAMPLE (R320, R322): one 10 kHz sample of every bay current input, index 2b + s. -/
def execCarapaceSample (raw : List Int) (s : State) : Host.Outcome State Fault Refusal :=
  let c := s.cara
  if c.state = .run then
    caraNext s { c with bays := c.bays.zipIdx.map (fun (p : CaraBay × Nat) =>
      p.1.take (raw.getD (2 * p.2) 0) (raw.getD (2 * p.2 + 1) 0)) }
  else .next s

/-- CARAPACE_MEAN_TICK (R323, R332): the means against the limits, and the CPX frame of the millisecond. -/
def execCarapaceMeanTick (s : State) : Host.Outcome State Fault Refusal :=
  let c := s.cara
  if c.state = .run then
    let c := (List.range 4).foldl Carapace.meanTick c
    let c := { c with seq := (c.seq + 1) % 65536 }
    caraNext s { c with sent := some c.cpxFrame }
  else .next s

/-- BCS_NO_VALID (R322): no channel of the bay has been valid for 10 ms. A trip for 24 h of degradation that is
latched already stays one (R334, log 188). -/
def execBcsNoValid (bay : Nat) (s : State) : Host.Outcome State Fault Refusal :=
  let x := s.cara.bay bay
  if x.chA.valid ∨ x.chB.valid then .next s
  else caraNext s (s.cara.trip bay 8)

/-- BCS_DEGRADED_EXPIRE (R322): 24 h of continuous degradation. -/
def execBcsDegradedExpire (bay : Nat) (s : State) : Host.Outcome State Fault Refusal :=
  if s.cara.state = .run ∧ (s.cara.bay bay).degraded then
    caraNext s ((s.cara.trip bay 8).modBay bay (fun x => { x with bcs24h := true }))
  else .next s

/-- BCS_DISCREPANCY (R322): both channels valid and more than 1,000 A apart for 10 s; reported, no trip. -/
def execBcsDiscrepancy (bay : Nat) (s : State) : Host.Outcome State Fault Refusal :=
  let x := s.cara.bay bay
  if x.chA.valid ∧ x.chB.valid ∧ 1000000 < (x.chA.cur - x.chB.cur).natAbs then
    caraNext s (s.cara.modBay bay (fun x => { x with discrepancy := true, agreeRun := 0 }))
  else .next s

/-- BCS_MODE_LINK_CHANGE (R321): the input is faulted until the next self-test. -/
def execBcsModeLinkChange (bay chan : Nat) (s : State) : Host.Outcome State Fault Refusal :=
  if s.cara.state = .run then
    let fault (ch : BcsChan) : BcsChan := { ch with faulted := true, valid := false }
    caraNext s (s.cara.modBay bay (fun x =>
      if chan = 0 then { x with chA := fault x.chA } else { x with chB := fault x.chB }))
  else .next s

/-- TONE_LOSS_TRIP (R324): a port of the bay has stayed SILENT for longer than T_TL. -/
def execToneLossTrip (port : Nat) (s : State) : Host.Outcome State Fault Refusal :=
  if s.cara.tones.getD port .dead = .silent ∧ s.cara.vals.tl ≠ 0 then caraNext s (s.cara.trip (port / 8) 4)
  else .next s

/-- SAFETY_CHANNEL_OPEN (R325): a channel has read OFF for more than 1 ms. -/
def execSafetyChannelOpen (input chan : Nat) (s : State) : Host.Outcome State Fault Refusal :=
  let c := { s.cara with inputs := modAt s.cara.inputs input (fun i =>
    let i := if chan = 0 then { i with open1 := true } else { i with open2 := true }
    { i with bothSeen := i.bothSeen || (i.open1 && i.open2) }) }
  caraNext s (c.applyInput input)

/-- SAFETY_CHANNEL_CLOSE (R325): a latched discrepancy clears when both channels, seen open together, are closed
together. -/
def execSafetyChannelClose (input chan : Nat) (s : State) : Host.Outcome State Fault Refusal :=
  caraNext s { s.cara with inputs := modAt s.cara.inputs input (fun i =>
    let i := if chan = 0 then { i with open1 := false } else { i with open2 := false }
    if i.open1 || i.open2 then i
    else if i.bothSeen then { i with disc := false, bothSeen := false } else i) }

/-- SAFETY_DISCREPANCY (R325): one channel open and the other closed for more than 500 ms. -/
def execSafetyDiscrepancy (input : Nat) (s : State) : Host.Outcome State Fault Refusal :=
  let i := s.cara.inputs.getD input {}
  if i.open1 = i.open2 then .next s
  else
    let c := { s.cara with inputs := modAt s.cara.inputs input (fun i => { i with disc := true, bothSeen := false }) }
    caraNext s (c.applyInput input)

/-- SAFETY_TEST_PULSE (R326): pulse of T output `out` (0 or 1); the other channel shows it, or the T output draws
less than 0.5 mA while its input is ON, which is an OSSD source whose pulse check is skipped. -/
def execSafetyTestPulse (input out : Nat) (seenOnOther drawsLow : Bool) (s : State) :
    Host.Outcome State Fault Refusal :=
  let c := { s.cara with inputs := modAt s.cara.inputs input (fun i =>
    if out = 0 then
      let ossd := drawsLow && !i.open1
      { i with ossd1 := ossd, cross1 := seenOnOther && !ossd }
    else
      let ossd := drawsLow && !i.open2
      { i with ossd2 := ossd, cross2 := seenOnOther && !ossd }) }
  caraNext s (c.applyInput input)

/-- TRIP_REQ_HIGH (R327): the TRIP_REQ wire from the VSI has been high for 1 ms; the wire is all that is read. -/
def execTripReqHigh (s : State) : Host.Outcome State Fault Refusal :=
  if s.m.ver.tripReq then caraNext s ({ s.cara with tripReq := true }.tripAll 7) else .next s

/-- TRIP_OUTPUT_TEST (R328): the test pulse of one energised output, which did or did not open, and does or does
not conduct. -/
def execTripOutputTest (bay out : Nat) (opens conducts : Bool) (s : State) : Host.Outcome State Fault Refusal :=
  let x := s.cara.bay bay
  if s.cara.state = .run ∧ (if out = 0 then x.out0 else x.out1) then
    let c := { s.cara with tested := (s.cara.tested + 1) % 8 }
    let c := c.modBay bay (fun x =>
      if out = 0 then { x with stuck0 := x.stuck0 || !opens, dead0 := x.dead0 || !conducts }
      else { x with stuck1 := x.stuck1 || !opens, dead1 := x.dead1 || !conducts })
    caraNext s (if opens && conducts then c else c.trip bay 10)
  else .next s

/-- BANK_CHANGE (R331): the values in force stay and SEAL_CHANGED latches when the bank differs. Moving a switch
needs the cover off (log 21). -/
def execBankChange (bank tl : Nat) (s : State) : Host.Outcome State Fault Refusal :=
  let c := { s.cara with bank := bankCodes bank, bankTl := tl % 4 }
  let c := if c.state = .run then { c with sealChanged := c.sealChanged || c.bankDiffers } else c
  onBoth s c { s.m with sup := { s.m.sup with coverOff := true } }

/-- KEY_RESET (R331, R332, R334, R335): the key is released after 0.5 s to 5 s. The bank is adopted, every latched
trip whose cause is gone clears, and a bay above an adopted limit trips at once. -/
def execKeyReset (bank tl : Nat) (s : State) : Host.Outcome State Fault Refusal :=
  let c := s.cara
  if c.state = .run ∧ c.keyStuck = false then
    let c := { c with bank := bankCodes bank, bankTl := tl % 4 }
    let c := { c with own := some c.bankVals, sealChanged := false, partner := if c.cpxLost then none else c.partner
                      tripReq := s.m.ver.tripReq }
    let c := (List.range 4).foldl (fun c b => c.unlatch s.m.ver.tripReq b) c
    let c := (List.range 4).foldl Carapace.recheck c.settle
    onBoth s c ({ s.m with sup := { s.m.sup with coverOff := false } }.noteLock c)
  else .next s

/-- KEY_STUCK (R334): the key is held longer than 5 s. -/
def execKeyStuck (s : State) : Host.Outcome State Fault Refusal :=
  if s.cara.state = .off then .next s else caraNext s { s.cara with keyStuck := true }

/-- KEY_RELEASE_STUCK (R334): KEYRST_I reads OFF; KEY_STUCK ends and nothing is reset. -/
def execKeyReleaseStuck (s : State) : Host.Outcome State Fault Refusal :=
  caraNext s { s.cara with keyStuck := false }

/-- The safe state, the reset and the self-test that follow an internal fault (R335). -/
def Carapace.internalFault (c : Carapace) : Carapace :=
  let c := c.forget
  { c with bays := c.bays.map (fun x => { x with causes := addTo x.causes 9 }), state := .selfTest
           epoch := (c.epoch + 1) % 256 }

/-- CPI_INTERNAL_FAULT (R335): CPI_FAULT latches for every bay; the CPI resets and runs its self-test. -/
def execCpiInternalFault (s : State) : Host.Outcome State Fault Refusal :=
  if s.cara.state = .off then .next s else caraNext s s.cara.internalFault

/-- CPX_FRAME_RX (R332): a valid frame of the partner's Carapace. -/
def execCpxFrameRx (f : CpxFrame) (s : State) : Host.Outcome State Fault Refusal :=
  if s.cara.state = .off then .next s
  else caraNext s { s.cara with partner := some f.vals, partnerTrips := f.trips, partnerLocked := f.leverLocked
                                partnerSeq := f.seq % 65536, partnerSched := f.schedule, cpxLost := false }

/-- CPX_LOST (R332): no valid frame for 100 ms; the combined values stay. -/
def execCpxLost (s : State) : Host.Outcome State Fault Refusal :=
  if s.cara.state = .off then .next s else caraNext s { s.cara with cpxLost := true }

/-- CARAPACE_SUPPLY_LOSS (R46): trip outputs and trip permit de-energise; what is non-volatile stays, and with it the
partner's values, since a combined value is relaxed in no other way than R332 names (DEDUCED, log 189). -/
def execCarapaceSupplyLoss (s : State) : Host.Outcome State Fault Refusal :=
  caraNext s { s.cara.forget with state := .off, keyStuck := false, cpxLost := false
                                  partnerTrips := List.replicate 4 false, tripReq := false }

/-- CARAPACE_BANK_START (R449): the CPI loader has written the idle bank and starts it: outputs and permit
de-energise and CPI_FAULT latches for every bay. Values in force and latched causes stay. A new bank that fails
its self-test three times is left for the old one. -/
def execCarapaceBankStart (selfTestOk : Bool) (s : State) : Host.Outcome State Fault Refusal :=
  if s.m.upd.carapace ∧ s.cara.state ≠ .off then
    let c := s.cara.internalFault
    let fails := if selfTestOk then 0 else c.bankFails + 1
    let swap := if c.bankFails = 0 then (c.cpiBank + 1) % 2 else c.cpiBank
    let m := s.m
    if selfTestOk then
      onBoth s { c with cpiBank := swap, bankFails := 0 }
        { m with upd := { m.upd with carapace := false
                                     caraFloor := max m.upd.caraFloor ((m.upd.staging.getD {}).rollback)
                                     caraVersion := (m.upd.staging.getD {}).version } }
    else if 3 ≤ fails then
      onBoth s { c with cpiBank := (swap + 1) % 2, bankFails := 0 } { m with upd := { m.upd with carapace := false } }
    else onBoth s { c with cpiBank := swap, bankFails := fails } m
  else .next s

end Sys2Proof.Machine
end

