-- ==== Sys2Proof/Machine/Frames.lean ====
section
/-! DEFINITION. What the module takes from ring frames, at its own port or forwarded by the partner (R106): slots of
sweeps (R105, R137), roll calls (R111), replies (R96 to R98) and notices (R114). -/

namespace Sys2Proof.Machine

/-! ## Where a frame comes from -/

/-- The north hop of slot `i` of a frame by its sending end. -/
def hopOfSlot (fromSouth : Bool) (w i : Nat) : Nat := if fromSouth then w - i else i + 1

/-- The worker `hop` places from an end, as a north hop. -/
def northHop (fromSouth : Bool) (w hop : Nat) : Nat := if fromSouth then w + 1 - hop else hop

/-- The clean point of R105, counted from the sending end; beyond every slot when none is used. -/
def cleanPoint (f : CollectFrame) : Nat :=
  if f.eofOk = false ∨ f.hdrCrcOk = false ∨ f.crcOk = false ∨ f.returnErr then 257
  else if f.errCount = 0 then 1 else f.errLast + 1

/-- A slot is used under R105. -/
def slotUsed (clean hop : Nat) (s : SlotRx) : Bool := s.crcOk && decide (s.fill = 1) && decide (clean ≤ hop)

/-- The ring of frames is one the ACTIVE set populates. -/
def Module.ringServed (m : Module) (r : Nat) : Bool := decide (0 < m.cfg.ringW r)

/-! ## Slots of a sweep -/

/-- A used slot as the record of a DZS-2 last read (R258). -/
def dzsOfSlot (b : DzsBody) : DzsSeen :=
  { iA := b.iA, iB := b.iB, vBat := b.vBat, vBus := b.vBus, contactors := b.contactors, mode := b.mode
    leaseLeft := b.leaseLeft, flags := b.flags, seen := true }

/-- The body fits the worker's type. -/
def bodyFits (t : WType) : SlotBody → Bool
  | .dzc _ => t = .dzc24
  | .dzs _ => t = .dzs2
  | _ => false

/-- FROZEN of a body. -/
def frozenOf : SlotBody → Bool
  | .dzc b => bitAt b.flags 5
  | .dzs b => bitAt b.flags 4
  | _ => false

/-- An accepted slot is kept for its sweep; the slots of the last eight sweeps are kept (R69), and up to 256
sweeps while a resynchronisation buffers (R349). -/
def Module.keepSlot (m : Module) (k : Nat) (w : Wk) (s : SlotRx) : Module :=
  let l := look [] m.sweep.accepted k
  if (find l w).isSome then m
  else
    let rest := del m.sweep.accepted k
    { m with sweep := { m.sweep with accepted := ((k, l ++ [(w, s)]) :: rest).take (if m.pair.role = .syncing then 256 else 8) } }

/-- The turn a slot shows (R115). -/
def Module.slotTurn (m : Module) (w : Wk) (fromSouth : Bool) (s : SlotRx) : Module :=
  if s.turnFar && !(m.wk w).mismatch then m.learnTurn w.1 w.2 (!fromSouth) else m

/-- SET_FORMAT for a slot that shows LEN_MISMATCH, unless one is under way (R134). -/
def Module.slotFormat (m : Module) (w : Wk) (s : SlotRx) : Module :=
  let x := m.wk w
  if s.lenMismatch && !x.mismatch && x.queue.all (fun c => c.opcode ≠ 0x04) &&
      (match x.outst with | some o => decide (o.cmd.opcode ≠ 0x04) | none => true) then
    m.order w 0x04 (m.formatPayload w)
  else m

/-- What the ring layer keeps of a slot used under R105 (R117, R137). -/
def Module.takeSlot (m : Module) (k : Nat) (w : Wk) (s : SlotRx) : Module :=
  let e := look {} m.cfg.workers w
  if (m.wk w).mismatch then m
  else
    let m := if s.resetSeen ∧ (m.ring w.1).trained then m.beginRestart w else m
    let good := s.timeOk && !s.resetSeen
    let m := if good ∧ (m.wk w).restart = .watching then m.modWk w (fun x => { x with restart := .none_ }) else m
    if good && !s.lenMismatch && decide ((m.wk w).restart = .none_) && bodyFits e.typ s.body then
      (m.modWk w (fun x => { x with
        latched := s.latched, frozen := frozenOf s.body
        dzs := match s.body with | .dzs b => dzsOfSlot b | _ => x.dzs })).keepSlot k w s
    else m

/-- Newer steps a frame's slots show, by string, in order of time (R143). -/
def Module.newSteps (m : Module) (slots : List (Wk × SlotRx)) : List (Nat × Nat) :=
  sortBy (fun (x : Nat × Nat) => (x.2 : Int)) (slots.filterMap (fun (p : Wk × SlotRx) => match p.2.body with
    | .dzs b => if (m.wk p.1).stepTime < b.stepTime ∧ (m.wk p.1).mismatch = false then
        some ((look {} m.cfg.workers p.1).string, b.stepTime) else none
    | _ => none))

/-- The readout of a sweep is still open: no manifest of it is held. -/
def Module.readoutOpen (m : Module) (k : Nat) : Bool := m.sweep.manifests.all (fun x => x.sweep ≠ k)

/-- A REREAD frame for the first `n` hops of an end leaves and is counted (R105, R385). -/
def Module.sendReread (m : Module) (r : Nat) (south : Bool) (k n : Nat) : Module :=
  if n = 0 then m
  else (m.sendCollect r south .reread k n).modRing r (fun x => { x with rereadSlots := x.rereadSlots + n })

/-- Hops that an end serves under the newest turn points (R141). -/
def Module.newestHops (m : Module) (r : Nat) (south : Bool) : Nat :=
  let part := m.partitionOf r
  if south then m.cfg.ringW r + 1 - part.south else min part.north (m.cfg.ringW r)

/-- REREAD frames under the newest turn points (R105, R141): the sending end again for the hops before its clean point, as far
as the frame had slots and the end still serves, and after a break the other end for the hops it now serves. -/
def Module.reread (m : Module) (r : Nat) (f : CollectFrame) : Module :=
  if m.acts = false ∨ m.readoutOpen f.sweep = false then m
  else
    let m := m.sendReread r f.fromSouth f.sweep
      (min (cleanPoint f - 1) (min (m.newestHops r f.fromSouth) (f.slotCount + 1)))
    if f.kind = .sweep ∧ m.partitionOf r ≠ (m.ring r).part then
      m.sendReread r (!f.fromSouth) f.sweep (m.newestHops r (!f.fromSouth))
    else m

/-- The segment on the way into a hop, from the sending end (R122). -/
def segInto (fromSouth : Bool) (w d : Nat) : Nat := if fromSouth then w + 1 - d else d - 1

/-- HOP_CNT of a frame agrees with its complement (R93). -/
def hopCntOk (cnt cntN : Nat) : Bool := decide (cntN = 255 - cnt)

/-- What a frame itself tells of the ring: errors by segment (R122) and the turn it met (R113, R115). The spec does not say how
the errors of ERR_COUNT spread over the segments; all are charged to the one that ERR_LAST names (log 161). A HOP_CNT that
disagrees with its complement tells no turn (log 162). -/
def Module.frameTurns (m : Module) (r : Nat) (f : CollectFrame) : Module :=
  let w := m.cfg.ringW r
  let ok := f.eofOk && f.hdrCrcOk && f.crcOk
  let m := if ok && decide (0 < f.errCount) && !f.returnErr then m.segError r (segInto f.fromSouth w (f.errLast + 1)) f.errCount else m
  if ok && f.turned && hopCntOk f.hopCnt f.hopCntN then
    m.learnTurn r (northHop f.fromSouth w (if f.hopCnt = 0 then 256 else f.hopCnt)) (!f.fromSouth)
  else m

/-- Slots of a frame by worker with their hop from the sending end, up to W. -/
def Module.slotsOf (m : Module) (r : Nat) (f : CollectFrame) : List (Nat × Wk × SlotRx) :=
  let w := m.cfg.ringW r
  ((List.range f.slots.length).zip f.slots).filterMap (fun (p : Nat × SlotRx) =>
    if p.1 < w then some (p.1 + 1, (r, hopOfSlot f.fromSouth w p.1), p.2) else none)

/-- A collecting frame of this period is back at its end (R147). -/
def Module.collectBack (m : Module) (r : Nat) (south : Bool) : Module :=
  m.modRing r (fun x =>
    if south then { x with outS := x.outS - 1, readS := decide (x.outS ≤ 1) }
    else { x with outN := x.outN - 1, readN := decide (x.outN ≤ 1) })

/-- A SWEEP or REREAD frame (R105), with FREEZE_DECIDE. What it makes the module send leaves in the order of Table 05-4:
FREEZE, REREAD, counted commands, queries, BURST_READ. -/
def Module.takeSweep (m : Module) (r : Nat) (f : CollectFrame) : Module :=
  let m := (m.frameTurns r f).collectBack r f.fromSouth
  let clean := cleanPoint f
  let used := ((m.slotsOf r f).filter (fun (p : Nat × Wk × SlotRx) => slotUsed clean p.1 p.2.2)).map
    (fun (p : Nat × Wk × SlotRx) => p.2)
  let m := used.foldl (fun m (p : Wk × SlotRx) => m.slotTurn p.1 f.fromSouth p.2) m
  let steps := m.newSteps used
  let m := m.freezeDecide r (steps.length + 1) steps
  let m := if used.any (fun (p : Wk × SlotRx) => frozenOf p.2.body) then m.strayFreeze r else m
  let m := if 1 < clean ∨ f.turned then m.reread r f else m
  let m := used.foldl (fun m (p : Wk × SlotRx) => m.slotFormat p.1 p.2) m
  let m := used.foldl (fun m (p : Wk × SlotRx) => m.takeSlot f.sweep p.1 p.2) m
  m.pump r

/-! ## Roll calls (R111) -/

/-- TYPE code of a worker (Table 01-1). -/
def typeCode : WType → Nat
  | .dzc24 => 1 | .dzs2 => 2

/-- The serial a hop is compared against: the accepted one, else the worker table's (R454). -/
def Module.wantSerial (m : Module) (w : Wk) : Nat := ((m.wk w).accepted).getD (look {} m.cfg.workers w).serial

/-- A string's workers answer wrongly: a closed string is opened in order (R32); a string that has no CLOSE row to
take from OPEN is held by ARM_OK. -/
def Module.mapFault (m : Module) (s : Nat) : Module :=
  if m.leads then { m with ver := { m.ver with opens := addOpen m.ver.opens s false } } else m

/-- A worker whose data is never used (R32). -/
def Module.mismatched (m : Module) (w : Wk) : Module :=
  let s := (look {} m.cfg.workers w).string
  ((m.modWk w (fun x => { x with mismatch := true })).raise .rgi cMapMismatch sevWarning scWorker (wkInst w)).mapFault s

/-- A worker that was replaced (R33, R454, R456). -/
def Module.replaced (m : Module) (w : Wk) (serial : Nat) : Module :=
  let e := look {} m.cfg.workers w
  let m := m.modWk w (fun x => { x with accepted := some serial })
  if e.typ = .dzc24 then (m.cfg.cellsAt w).foldl (fun m (x : Nat × ChannelEntry) => m.firstEstimate x.1) m
  else (m.cfg.cellsOf e.string).foldl (fun m (x : Nat × ChannelEntry) =>
    m.modCell x.1 (fun c => { c with countGap := true, gapEvent := true })) m

/-- Another hop of the ring that the worker table gives a serial. -/
def Module.serialElsewhere (m : Module) (w : Wk) (serial : Nat) : Option Wk :=
  ((m.cfg.workersOf w.1).find? (fun (x : Wk × WorkerEntry) =>
    decide (x.1 ≠ w) && x.2.serialCheck && decide (m.wantSerial x.1 = serial))).map (·.1)

/-- One answer of a roll call against the worker table; true when R111 finds a fault. -/
def Module.rollAnswer (m : Module) (w : Wk) (c : Nat) (b : RollBody) : Module × Bool :=
  let e := look {} m.cfg.workers w
  let changed := decide ((m.wk w).boot.isSome) && decide ((m.wk w).boot ≠ some b.bootCount)
  let m := m.modWk w (fun x => { x with
    answered := true, c := if x.outst.isNone then c else x.c, boot := if changed then x.boot else some b.bootCount })
  let m := if changed then
      (if (m.ring w.1).trained then m.beginRestart w
       else m.modWk w (fun x => { x with boot := some b.bootCount, qBase := none, rebase := true })) else m
  if b.typ ≠ typeCode e.typ then (m.mismatched w, true)
  else
    let m := (m.modWk w (fun x => { x with mismatch := false })).clear .rgi cMapMismatch scWorker (wkInst w)
    if e.serialCheck = false then
      (m.jotDom .rgi eSerialSeen sevInfo scWorker (wkInst w) naCurrent (le 8 b.serial), false)
    else if b.serial = m.wantSerial w then (m.clear .rgi cRollCallShift scWorker (wkInst w), false)
    else match m.serialElsewhere w b.serial with
      | none => (m.replaced w b.serial, false)
      | some v =>
        let m := m.raise .rgi cRollCallShift sevWarning scWorker (wkInst w)
        let m := m.modWk w (fun x => { x with mismatch := true })
        ((m.mapFault e.string).mapFault (look {} m.cfg.workers v).string, true)

/-- Hops at which the two ends of a ring report different serials. -/
def Module.rollDiffer (m : Module) (r : Nat) : List Wk :=
  ((m.ring r).rollN.filter (fun (p : Nat × RollBody) => match find (m.ring r).rollS p.1 with
    | some b => b.serial ≠ p.2.serial
    | none => false)).map (fun (p : Nat × RollBody) => (r, p.1))

/-- Both ends' roll calls have reached some worker. -/
def Module.rollCommon (m : Module) (r : Nat) : Bool :=
  (m.ring r).rollN.any (fun (p : Nat × RollBody) => (find (m.ring r).rollS p.1).isSome)

/-- The comparison of the two ends' roll calls; true when it finds a fault (R111). At the first difference the roll calls and
probes are repeated once; at the second the strings concerned are treated as under R32. -/
def Module.rollEnds (m : Module) (r : Nat) : Module × Bool :=
  match m.rollDiffer r with
  | [] =>
    if m.rollCommon r then
      ((m.modRing r (fun x => { x with rollAgain := false })).clear .rgi cRollCallInconsistent scPort r, false)
    else (m, false)
  | ws =>
    let m := m.raise .rgi cRollCallInconsistent sevWarning scPort r
    if (m.ring r).rollAgain = false then
      (((m.modRing r (fun x => { x with rollAgain := true, rollN := [], rollS := [], trained := false })).remeasure
        r).rollCall r, true)
    else (ws.foldl (fun m w => (m.modWk w (fun x => { x with mismatch := true })).mapFault
      (look {} m.cfg.workers w).string) m, true)

/-- Hops that an accepted roll call should have reached and that gave no answer are unreachable (Table 04-15a). -/
def Module.rollMissing (m : Module) (r clean : Nat) (fromSouth : Bool) (got : List Wk) : Module :=
  ((m.cfg.workersOf r).foldl (fun m (x : Wk × WorkerEntry) =>
    if clean ≤ m.hopFrom x.1 fromSouth ∧ m.reaches x.1 fromSouth then
      m.modWk x.1 (fun y => { y with missing := decide (x.1 ∉ got) })
    else m) m).reviewRing r


/-- A ROLL_CALL frame (R108, R111): the answers are compared, then probed when the ring trains or rejoins. -/
def Module.takeRoll (m : Module) (r : Nat) (f : CollectFrame) : Module :=
  let m := m.frameTurns r f
  let clean := cleanPoint f
  let got := (m.slotsOf r f).filterMap (fun (p : Nat × Wk × SlotRx) => match p.2.2.body with
    | .roll b => if slotUsed clean p.1 p.2.2 then some (p.2.1, p.2.2, b) else none
    | _ => none)
  let bodies := got.map (fun (p : Wk × SlotRx × RollBody) => (p.1.2, p.2.2))
  let m := m.modRing r (fun x => if f.fromSouth then { x with rollS := bodies } else { x with rollN := bodies })
  let m := m.modRing r (fun x => { x with
    rollSlots := x.rollSlots.filter (fun (p : (Bool × Nat) × SlotRx) => p.1.1 ≠ f.fromSouth) ++
      got.map (fun (p : Wk × SlotRx × RollBody) => ((f.fromSouth, p.1.2), p.2.1)) })
  let extra := (f.slots.drop (m.cfg.ringW r)).any (fun s => slotUsed clean 257 s)
  let m := if clean ≤ 256 then m.setCond extra .rgi cRollCallExtra sevWarning scPort r else m
  let m := got.foldl (fun m (p : Wk × SlotRx × RollBody) =>
    if p.2.1.turnFar || bitAt p.2.2.links 1 then m.learnTurn r p.1.2 (!f.fromSouth) else m) m
  let m := m.rollMissing r clean f.fromSouth (got.map (fun (p : Wk × SlotRx × RollBody) => p.1))
  let a := got.foldl (fun (a : Module × Bool) (p : Wk × SlotRx × RollBody) =>
    let x := a.1.rollAnswer p.1 p.2.1.cmdCount p.2.2
    (x.1, a.2 || x.2)) (m, extra)
  let m := a.1.jotDom .rgi eRollCall sevInfo scPort r (bodies.length : Int)
  let e := m.rollEnds r
  let m := e.1
  let bad := a.2 || e.2
  let probeAll (m : Module) (south : Bool) : Module := got.foldl (fun m (p : Wk × SlotRx × RollBody) =>
    if m.reaches p.1 south then m.probe p.1 south else m) m
  let repeated := e.2 && (m.ring r).rollN.isEmpty && (m.ring r).rollS.isEmpty
  match (m.ring r).rejoin with
  | some j =>
    if j.phase = 1 ∧ f.fromSouth = m.leaderSouth then
      -- a roll call that is not accepted whole shows nothing of R111: it is repeated (log 163)
      if clean ≠ 1 then m.sendRoll r f.fromSouth
      else if bad || (m.cfg.workersOf r).any (fun (x : Wk × WorkerEntry) => (m.wk x.1).missing) then m.rejoinFail r j
      else
        let m := (m.rejoined r j).remeasure r
        probeAll (probeAll m false) true
    else m
  | none => if (m.ring r).trained ∨ repeated then m else probeAll m f.fromSouth

/-- A collecting frame of a ring, from either module's port. -/
def Module.takeCollect (m : Module) (r : Nat) (f : CollectFrame) : Module :=
  if m.ringServed r = false then m
  else match f.kind with
    | .rollCall => m.takeRoll r f
    | _ => m.takeSweep r f

/-! ## Replies (R96 to R98) -/

/-- A worker's contactor and measurement state as a DZS_READ gives it. -/
def dzsOfReply (x : DzsSeen) : ReplyData → DzsSeen
  | .dzsRead iA iB vBat vBus k md l fl =>
    { iA := iA, iB := iB, vBat := vBat, vBus := vBus, contactors := k, mode := md, leaseLeft := l, flags := fl, seen := true }
  | .lease l => { x with leaseLeft := l }
  | _ => x

/-- The answer to a counted command (R97, R98). -/
def Module.countedReply (m : Module) (w : Wk) (o : Outst) (f : RingReply) : Module :=
  if f.status ≤ 1 then m.endCounted w o.count true f.data
  else m.endCounted w f.cmdCount false f.data

/-- WAKE_CAUSE of a worker (R167 to R169, R460): the cause is journalled, and a cause found ends a survey. -/
def Module.wakeAnswer (m : Module) (w : Wk) (cause channel : Nat) (value : Int) : Module :=
  let m := m.modWk w (fun x => { x with wakeRead := true, wakeCause := cause })
  if cause = 0 then m
  else
    let m := m.jotDom .rgi eDormant sevInfo scWorker (wkInst w) value (le 4 cause ++ le 4 channel ++ leI 4 value)
    if m.dorm.survey then m.raise .rgi cDormantWorkerFault sevWarning scWorker (wkInst w) else m

/-- A query's answer: what its data gives, whoever asked for it. -/
def Module.queryReply (m : Module) (w : Wk) (q : Option Query) (f : RingReply) : Module :=
  let tag := match q with | some q => q.cmd.tag | none => .none_
  let m := match tag with
    | .boot s => m.modInst (.str s) (fun i => { i with result := if f.status = 0 then 1 else 2 })
    | .scarab k => m.modInst k (endStep (decide (f.status = 0)))
    | .vmatch s k => m.modInst (.str s) (fun i => { i with fresh := decide (f.status = 0 ∧ i.vMatchSweep = some k) })
    | .diag a b 0x0701 => if f.status = 0 then m else m.diagDone a b false 0
    | _ => m
  if f.status ≠ 0 then
    -- a worker that answers BURST_READ otherwise holds no such block: it is passed over like one that stays silent (log 164)
    if f.opcode = 0x05 then
      match (match q with | some q => some (q.cmd.payload.getD 1 0) | none => m.burstExpect w) with
      | some b => m.burstSkip w b
      | none => m
    else if (m.wk w).restart = .counting ∧ f.opcode = 0x12 then m.modWk w (fun x => { x with restart := .none_ })
    else m
  else match f.data with
    | .countRead _ boot => if (m.wk w).restart = .counting then m.restartCounted w f.cmdCount boot else m
    | .burst data =>
      (match (match q with | some q => some (q.cmd.payload.getD 1 0) | none => m.burstExpect w) with
       | some b => m.burstBlock w b data
       | none => m)
    | .balRead q _ =>
      if m.leads then
        { m with sweep := { m.sweep with balIn := m.sweep.balIn ++ [BalReading.mk w q] } }
      else m
    | .wakeCause c ch v _ => m.wakeAnswer w c ch v
    | .counters c =>
      let near := if (m.wk w).snapNear then w.2 else w.2 - 1
      let far := if (m.wk w).snapNear then w.2 - 1 else w.2
      let m := (m.segError w.1 near (c.getD 0 0 + c.getD 2 0)).segError w.1 far (c.getD 1 0 + c.getD 3 0)
      let m := m.modWk w (fun x => { x with snap := c })
      (match tag with | .diag a b _ => m.diagDone a b true 0 | _ => m)
    | _ => m

/-- A reply of a worker, from either module's port (R96 to R98). -/
def Module.takeReply (m : Module) (w : Wk) (f : RingReply) : Module :=
  if m.ringServed w.1 = false then m
  else
    let m := m.clear .rgi cWorkerNoReply scWorker (wkInst w)
    let m := m.modWk w (fun x => { x with dzs := dzsOfReply x.dzs f.data })
    let m := if f.opcode = 0x15 ∧ f.status ≤ 1 ∧ (m.wk w).restart = .setting ∧ !m.acts then
      m.modWk w (fun x => { x with restart := .watching }) else m
    let m := if f.opcode = 0x30 ∧ f.status ≤ 1 ∧ !m.acts then m.balAccepted w else m
    let m := match (m.wk w).outst with
      | some o =>
        if o.reading ∧ f.opcode = 0x12 ∧ f.fromSouth ≠ o.fromSouth then
          (match f.data with | .countRead crc _ => m.countRead w o f.cmdCount crc | _ => m)
        else if !o.reading ∧ f.opcode = o.cmd.opcode ∧ f.fromSouth = o.fromSouth then m.countedReply w o f
        else
          let t := takeQuery f.opcode (m.wk w).queries
          (m.modWk w (fun x => { x with queries := t.2 })).queryReply w t.1 f
      | none =>
        let t := takeQuery f.opcode (m.wk w).queries
        (m.modWk w (fun x => { x with queries := t.2 })).queryReply w t.1 f
    ((m.trainCheck w.1).rejoinStep w.1).pump w.1

/-- A query's reply timeout: re-sent up to three times (R147, log 46), then given up. -/
def Module.queryTimeout (m : Module) (w : Wk) (q : Query) (rest : List Query) : Module :=
  let m := match m.ownPort w.1 q.fromSouth with | some p => m.countPort p 3 | none => m
  if q.sends < 4 then
    let m := match m.ownPort w.1 q.fromSouth with | some p => m.countPort p 4 | none => m
    (m.modWk w (fun x => { x with queries := rest ++ [{ q with sends := q.sends + 1 }] })).sendRing
      w.1 q.fromSouth q.cmd.opcode (m.hopFrom w q.fromSouth) true 0 q.cmd.payload
  else
    let m := m.modWk w (fun x => { x with queries := rest })
    let m := m.complete w q.cmd false .none_
    if q.cmd.opcode = 0x05 then (m.burstSkip w (q.cmd.payload.getD 1 0)).pump w.1 else m.noReply w

/-! ## Notices (R114) -/

/-- Roll call slots of MODE DORMANT, or a wake, send the workers out of dormancy and train the rings again (R168,
R460). -/
def Module.exitWorkers (m : Module) : Module :=
  let m := m.cfg.rings.foldl (fun m r => m.bcast r 0x51 []) m
  let m := m.cfg.workers.foldl (fun m (w : Wk × WorkerEntry) =>
    m.modWk w.1 (fun x => { x with wakeRead := false, wakeCause := 0 })) m
  m.cfg.rings.foldl (fun m r => m.beginTraining r) m

/-- A notice from a worker, at the north or the south port of a ring (R114, R115, R117). -/
def Module.takeNotice (m : Module) (r : Nat) (south : Bool) (f : NoticeFrame) : Module :=
  if m.ringServed r = false then m
  else
    let w := m.cfg.ringW r
    let h := northHop south w (f.hopCnt + 1)
    match f.kind with
    | .break_ =>
      let m := m.learnTurn r h (!south) true
      let s := if south then h - 1 else h
      let leaderEnd := if m.leaderSouth then w else 0
      if s = leaderEnd ∧ m.follows then { m with pair := { m.pair with breaks := addTo m.pair.breaks r } } else m
    | .latch => if h = 0 ∨ w < h then m else m.modWk (r, h) (fun x => { x with latched := true })
    | .wake => if h = 0 ∨ w < h then m else m.ask (r, h) 0x52 [] .wake
    | .restart => if h = 0 ∨ w < h ∨ (m.ring r).trained = false then m else m.beginRestart (r, h)

end Sys2Proof.Machine
end

