-- ==== Sys2Proof/Machine/Words.lean ====
section
/-! DEFINITION. The words of Caldera as bits: the charge mirror (Table 07-10), the capacity record (Table 08-9), the impedance
mirror (Table 08-10) and the Scarab mirror (Table 10-13), each written from the fields it holds and read back into them. -/

namespace Sys2Proof.Machine

/-- Bits `lo` to `lo + n - 1` of a word. -/
def fieldAt (w lo n : Nat) : Nat := w / 2 ^ lo % 2 ^ n

/-- A 16-bit field in two's complement. -/
def sint16 (w : Nat) : Int := if w < 32768 then (w : Int) else (w : Int) - 65536

/-- The word of a cell (Table 07-10). -/
def MirCell.word (x : MirCell) : Nat := unle (leI 2 x.soc ++ le 2 x.sigma ++ [x.flags % 256, 0] ++ le 2 x.seq)

/-- The fields of a cell's word. -/
def MirCell.ofWord (w : Nat) : MirCell :=
  { soc := sint16 (fieldAt w 0 16), sigma := fieldAt w 16 16, flags := fieldAt w 32 8, seq := fieldAt w 48 16 }

/-- The word of a string (Table 07-10). -/
def MirStr.word (x : MirStr) : Nat :=
  let flags := (if x.dirChg then 1 else 0) + 2 * (if x.failClosed then 1 else 0) + 4 * min 16383 x.leaseLeft
  unle (leI 2 x.r ++ le 2 flags ++ le 2 (min 65535 x.qRev) ++ le 2 x.seq)

/-- The fields of a string's word. -/
def MirStr.ofWord (w : Nat) : MirStr :=
  { r := sint16 (fieldAt w 0 16), dirChg := decide (fieldAt w 16 1 = 1), failClosed := decide (fieldAt w 17 1 = 1)
    leaseLeft := fieldAt w 18 14, qRev := fieldAt w 32 16, seq := fieldAt w 48 16 }

/-- The word of a bay or of the domain (Table 07-10). -/
def bayWord (r : Int) (seq : Nat) : Nat := unle (leI 2 r ++ zeros 4 ++ le 2 seq)

/-- A value of the impedance mirror: saturating, 0xFFFF for none. -/
def impCode (x : Option Nat) : Nat := match x with | some v => min v 0xFFFE | none => 0xFFFF

/-- A value of the impedance mirror read back. -/
def ofImpCode (v : Nat) : Option Nat := if v = 0xFFFF then none else some v

/-- An impedance word (Table 08-10). -/
def MirImp.word (x : MirImp) : Nat :=
  unle (le 2 (impCode x.rohm) ++ le 2 (impCode x.rpol) ++ le 2 (impCode x.tau) ++ [min 255 x.fitN, x.seq % 256])

/-- The fields of an impedance word. -/
def MirImp.ofWord (w : Nat) : MirImp :=
  { rohm := ofImpCode (fieldAt w 0 16), rpol := ofImpCode (fieldAt w 16 16), tau := ofImpCode (fieldAt w 32 16)
    fitN := fieldAt w 48 8, seq := fieldAt w 56 8 }

/-- Bytes 0 to 27 of a capacity record (Table 08-9). -/
def CapRec.body (r : CapRec) : List Byte :=
  le 4 r.cap ++ le 4 r.version ++ le 2 r.sigma ++ le 2 r.updates ++ le 4 r.channel ++ le 8 r.serial ++
    le 4 (r.base.getD naU32)

/-- A capacity record as Caldera holds it, with its CRC. -/
def CapRec.bytes (r : CapRec) : List Byte := r.body ++ le 4 (crc32c r.body)

/-- The fields of a stored copy, and whether its CRC is right. -/
def CapRec.ofBytes (l : List Byte) : CapRec :=
  let at_ (a n : Nat) : Nat := unle ((l.drop a).take n)
  { cap := at_ 0 4, version := at_ 4 4, sigma := at_ 8 2, updates := at_ 10 2, channel := at_ 12 4, serial := at_ 16 8
    base := if at_ 24 4 = naU32 then none else some (at_ 24 4), ok := decide (at_ 28 4 = crc32c (l.take 28)) }

/-- The Scarab mirror word of an instance (Table 10-13). -/
def instWord (i : Inst) : Nat :=
  let ev := match i.event with | some e => e % 16 | none => 15
  let flags := (i.step.getD 0) % 4096 + 4096 * (if i.zeroHold then 1 else 0)
  unle ([i.state % 16 + 16 * ev] ++ le 2 flags ++ [min 255 i.faults.length] ++ le 4 i.stepStart)

/-- The instance that a mirror word records; the word holds no fault times, so its faults count from sweep `j` (R272). -/
def instOfWord (w j : Nat) : Inst :=
  let ev := fieldAt w 4 4
  { state := fieldAt w 0 4, event := if ev = 15 then none else some ev, step := if ev = 15 then none else some (fieldAt w 8 12)
    zeroHold := decide (fieldAt w 20 1 = 1), faults := List.replicate (fieldAt w 24 8) j, stepStart := fieldAt w 32 32 }

end Sys2Proof.Machine
end

