-- ==== Sys2Proof/Machine/Scarab.lean ====
section
/-! DEFINITION. Scarab (chapter 10): states, events and their templates (R252 to R255, R261), steps and waits (R256 to
R259), insertion (R262 to R264), boot (R260), faults and lockout (R271). -/

namespace Sys2Proof.Machine

/-! ## Instances -/

/-- The SEQUENCE section an instance runs under: that of the running template over an activation (R465). -/
def Module.seqOf (m : Module) (k : InstKey) : SeqCfg := ((m.inst k).oldSeq).getD m.cfg.seq

/-- SCOPE and INSTANCE of an instance's records. -/
def instScope : InstKey → Nat × Nat
  | .str s => (scString, s)
  | .bay b => (scBay, b)

/-- Every instance: bays in bay order, then strings in string order (R259). -/
def Module.instKeys (m : Module) : List InstKey := m.cfg.bays.map InstKey.bay ++ m.strNos.map InstKey.str

/-- The bay an instance belongs to. -/
def Module.bayOfKey (m : Module) : InstKey → Nat
  | .str s => (m.cfg.str s).bay
  | .bay b => b

/-- Severity of a STATE_CHANGE (Table 17-6); `byModule` marks CLOSED to LIMITED, LIVE to DERATED and back. -/
def stateSev (k : InstKey) (new : Nat) (byModule : Bool) : Nat :=
  if byModule then sevTrace
  else match k with
    | .str _ => if new = 7 ∨ new = 8 then sevAlarm else sevInfo
    | .bay _ => if new = 4 ∨ new = 5 then sevAlarm else sevInfo

/-- An event waits for its delivery. -/
def Module.raiseEvent (m : Module) (k : InstKey) (ev : Nat) : Module :=
  { m with scarab := { m.scarab with events := m.scarab.events ++ [(k, ev)] } }

/-- A bay serves insertion: PRECHARGE, LIVE or DERATED. -/
def bayServes (st : Nat) : Bool := st = 1 ∨ st = 2 ∨ st = 3

/-- A state change (R254) with its record, its conditions and the events it raises (Table 10-5). -/
def Module.setState (m : Module) (k : InstKey) (new : Nat) (byModule : Bool) : Module :=
  let i := m.inst k
  if i.state = new then m
  else
    let sc := instScope k
    let step := i.step.getD 0xFFFF
    let m := m.modInst k (fun i => { i with state := new, stateSince := m.ms })
    let m := m.jotDom .vsi eStateChange (stateSev k new byModule) sc.1 sc.2 naCurrent
      ([i.state, new, i.event.getD 0xFF] ++ zeros 3 ++ le 2 step)
    match k with
    | .str s =>
      let m := if new = 7 ∧ i.dzsFailed ∧ i.event ≠ some 2 then
          m.modInst k (fun i => { i with faults := i.faults ++ [m.sweep.j] }) else m
      m.setCond (decide (new = 8)) .vsi cStringLockout sevWarning scString s
    | .bay b =>
      let m := m.setCond (decide (new = 5)) .vsi cBayTripped sevTrip scBay b
      let strs := m.cfg.stringsOf b
      let m := if bayServes i.state ∧ bayServes new = false then
          (strs.filter (fun s => (m.sInst s).state = 1 ∨ (m.sInst s).state = 2)).foldl (fun m s => m.raiseEvent (.str s) 3) m
        else m
      if new = 5 then strs.foldl (fun m s => m.raiseEvent (.str s) 2) m else m

/-! ## Templates (R256, R261, R264) -/

/-- A ring command's tag no longer concerns an instance. -/
def dropTag (k : InstKey) (c : RingCmd) : RingCmd := if c.tag = .scarab k then { c with tag := .none_ } else c

/-- Commands of an abandoned step act, but complete nothing (R261). -/
def Module.detach (m : Module) (k : InstKey) : Module :=
  { m with workers := m.workers.map (fun (p : Wk × WorkerSt) => (p.1, { p.2 with
      outst := p.2.outst.map (fun o => { o with cmd := dropTag k o.cmd })
      queue := p.2.queue.map (dropTag k)
      queries := p.2.queries.map (fun q => { q with cmd := dropTag k q.cmd }) })) }

/-- A step begins on entry `n`: nothing of the step before it stands. -/
def Module.enter (m : Module) (k : InstKey) (n : Nat) : Module :=
  let newest := if m.sweep.tj ≤ m.time.now then m.sweep.j else (m.sweep.j + 4294967295) % 4294967296
  m.modInst k (fun i => { i with
    step := some n, issued := false, stepStart := m.ms, stepSweep := newest, vMatchSweep := none, granted := false
    dzsTrue := false, result := 0, waiting := 0, stepFailed := false, polled := false, fresh := false })

/-- A template ends or is abandoned: its zero hold is released (R264). -/
def Module.endTemplate (m : Module) (k : InstKey) : Module :=
  (m.detach k).modInst k (fun i => { i with
    event := none, step := none, issued := false, zeroHold := false, result := 0, waiting := 0, stepFailed := false
    vMatchSweep := none, granted := false, dzsTrue := false, polled := false, fresh := false, dzsFailed := false, illegal := 0
    oldSeq := none })

/-- A template starts at the entry of an event; without an entry nothing does. -/
def Module.startTemplate (m : Module) (k : InstKey) (ev illegal : Nat) : Module × Bool :=
  let entry := match k with
    | .str _ => m.cfg.seq.strEntry.getD ev 0xFFFF
    | .bay _ => m.cfg.seq.bayEntry.getD ev 0xFFFF
  if entry = 0xFFFF then (m, false)
  else (((m.endTemplate k).modInst k (fun i => { i with event := some ev, illegal := illegal })).enter k entry, true)

/-- The step in flight ends with success or failure, and the next one begins. -/
def Module.advance (m : Module) (k : InstKey) (ok : Bool) : Module :=
  let i := m.inst k
  match i.step with
  | none => m
  | some n =>
    let st := look {} (m.seqOf k).steps n
    let m := m.detach k
    let m := if ok = false ∧ st.kind = 2 then m.modInst k (fun i => { i with dzsFailed := true }) else m
    m.enter k (if ok then st.success else st.failure)

/-! ## Legal changes (Tables 10-3 and 10-4) -/

/-- Changes a SET_STATE of a template may make. -/
def legalChange (k : InstKey) (a b : Nat) : Bool :=
  match k with
  | .str _ =>
    (a, b) ∈ [(0, 1), (1, 2), (1, 0), (2, 0), (2, 3), (3, 4), (3, 6), (4, 6), (5, 6), (6, 0), (3, 7), (6, 7), (7, 0),
      (0, 8), (6, 8), (7, 8), (8, 0), (0, 9), (7, 9), (8, 9), (9, 0)]
  | .bay _ => (a, b) ∈ [(0, 1), (1, 2), (1, 0), (2, 4), (3, 4), (4, 0), (5, 0), (0, 6), (6, 0)]

/-- The step number that stands for the wait of the built-in fallback of a string (R254). -/
def fallbackStep : Nat := 4096

/-- The built-in fallback (R254): a string releases every coil and waits; a bay stops, trips its strings and switches
slot 0 OFF. -/
def Module.fallback (m : Module) (k : InstKey) (slotOff : Module → Nat → Module) : Module :=
  match k with
  | .str s =>
    let m := (m.endTemplate k).enter k fallbackStep
    let m := m.modInst k (fun i => { coilsKept 0 i with illegal := 2, issued := true })
    m.order (m.cfg.dzsOf s) 0x20 (zeros 4)
  | .bay b =>
    let m := (m.endTemplate k).emit (.preCmd b false 0)
    let m := (m.cfg.stringsOf b).foldl (fun m s => m.raiseEvent (.str s) 2) m
    let m := slotOff m b
    if m.tripInForce b then m else m.setState k 0 false

/-! ## Conditions (R258) -/

/-- The auxiliary contacts agree with the coils. -/
def auxMatch (d : DzsSeen) : Bool := d.contactors % 8 = d.contactors / 8 % 8

/-- An auxiliary contact is closed with its coil undriven. -/
def auxStuck (d : DzsSeen) : Bool :=
  (List.range 3).any (fun i => bitAt d.contactors i && !bitAt d.contactors (3 + i))

/-- V_MATCH on two voltages (R263). -/
def Module.vMatch (m : Module) (s vBat vBus : Nat) : Bool :=
  let dv := (m.strE s).dvIns
  decide (0 < dv) && decide (vBat ≠ naU32) && decide (vBus ≠ naU32) && decide (absQ ((vBat : Rat) - (vBus : Rat)) ≤ dv)

/-- A hold of R248 on a string: the layer or row that holds it, as HOLD of Table 15-7 (1 latched, 2 fail-safe, 3
Carapace, 4 row). -/
def Module.holdOfString (m : Module) (s : Nat) : Nat :=
  if (m.cfg.workersOfString s).any (fun (w : Wk × WorkerEntry) => (m.wk w.1).latched) then 1
  else if (m.wk (m.cfg.dzsOf s)).dzs.mode = 3 ∨ (m.wk (m.cfg.dzsOf s)).dzs.mode = 4 then 2
  else if m.tripInForce (m.cfg.str s).bay then 3
  else if m.openHeld s || m.drainHeld (m.cfg.str s).bay then 4
  else 0

/-- ARM_OK (Table 10-8); `inBay` leaves out the bay's state for the median of R257. -/
def Module.armOk (m : Module) (s : Nat) : Bool :=
  let d := (m.wk (m.cfg.dzsOf s)).dzs
  m.holdOfString s = 0 &&
  (m.cfg.workersOfString s).all (fun (w : Wk × WorkerEntry) => !(m.wk w.1).mismatch) && !m.strStale s &&
  d.seen && d.mode = 1 && d.contactors % 64 = 0 && bayServes (m.bInst (m.cfg.str s).bay).state

/-- The string's current magnitude is below ZERO_I_PCT of I_RATED, channel B while channel A is faulted. -/
def Module.iBelow (m : Module) (s : Nat) (d : DzsSeen) : Bool :=
  let i := if bitAt d.flags 0 then d.iB else d.iA
  decide (i ≠ naCurrent) && decide (i.natAbs * 100 < (m.seqOf (.str s)).zeroIPct * (m.cfg.str s).iRated)

/-- The median V_BAT of the bay's insertable strings (R257), mV. -/
def Module.medianVBat (m : Module) (b : Nat) : Option Nat :=
  let strs := (m.cfg.stringsOf b).filter (fun s =>
    let st := (m.sInst s).state
    st = 1 || st = 2 || (st = 0 && decide (s ∉ m.cfg.seq.noAutoClose) && m.armOk s))
  let vs := strs.filterMap (fun s =>
    let v := (m.wk (m.cfg.dzsOf s)).dzs.vBat
    if v = naU32 then none else some (v : Rat))
  if vs = [] then none else some (medianQ vs).floor.toNat

/-- A WAIT condition that reads the present value. -/
def Module.presentTrue (m : Module) (k : InstKey) (st : Step) : Bool :=
  let b := m.bayOfKey k
  let strs := m.cfg.stringsOf b
  match st.operand with
  | 0x01 => (match k with | .str s => m.armOk s | .bay _ => false)
  | 0x03 => (m.inst k).granted
  | 0x06 => !m.tripInForce b && (m.permits b 0 || m.permits b 1)
  | 0x07 => (m.pre.getD b {}).done
  | 0x09 =>
    decide (max st.arg32 (m.seqOf k).bayMinStrings ≤ ((strs.filter (fun s => closedState (m.sInst s).state)).length : Int))
  | 0x0A => strs.all (fun s => (m.sInst s).state ∈ [0, 7, 8, 9])
  | 0x0B => m.sup.dcReady
  | _ => (m.inst k).dzsTrue

/-- A WAIT condition marked DZS in Table 10-8. -/
def dzsCond (c : Nat) : Bool := c = 0x02 ∨ c = 0x04 ∨ c = 0x05

/-- The instance stands on a WAIT for a condition. -/
def Module.waitsOn (m : Module) (k : InstKey) (c : Nat) : Bool :=
  match (m.inst k).step with
  | none => false
  | some n =>
    let st := look {} (m.seqOf k).steps n
    (m.inst k).illegal ≠ 2 && st.kind = 5 && st.operand = c && (m.inst k).issued

/-- The instance waits on a DZS condition, the fallback's AUX_MATCH among them. -/
def Module.waitsDzs (m : Module) (k : InstKey) : Bool :=
  (m.inst k).illegal = 2 || m.waitsOn k 0x02 || m.waitsOn k 0x04 || m.waitsOn k 0x05

/-! ## Steps (R257, R259) -/

/-- The mirror word is written, under the write stop, and the step sent to the follower (R259, R272). -/
def Module.mirrorStep (m : Module) (k : InstKey) : Module :=
  let i := m.inst k
  let m := if m.calOk then
      (match k with
       | .str s => { m with cal := { m.cal with scarabS := put m.cal.scarabS s (instWord i) } }
       | .bay b => { m with cal := { m.cal with scarabB := put m.cal.scarabB b (instWord i) } })
    else m
  if m.isPair && m.leads then m.emit (.pairScarab k i) else m

/-- A channel of the commanded switch image set, and the image sent to the SWI and the follower (R309, R313). -/
def Module.setImage (m : Module) (ch : Nat) (on : Bool) : Module :=
  let m := { m with sw := { m.sw with image := modAt m.sw.image ch (fun _ => on) } }
  let m := m.emit (.refresh (some m.sw.image))
  if m.isPair then m.emit (.pairImage (some m.sw.image) []) else m

/-- Slot `s` of a bay is switched OFF outside a step. -/
def Module.slotOff (m : Module) (b : Nat) : Module :=
  let ch := (m.cfg.baySwitch.getD b []).getD 0 255
  if ch < 24 then m.setImage ch false else m

/-- The payload of a DZS step (R257). -/
def Module.dzsPayload (m : Module) (s : Nat) (st : Step) : List Byte :=
  if st.operand = 0x23 ∧ st.arg = 0xFFFF then [if s ∈ (m.seqOf (.str s)).holdStrings then 1 else 0, 0, 0, 0]
  else if st.operand = 0x20 ∨ st.operand = 0x22 ∨ st.operand = 0x23 then le 2 st.arg ++ zeros 2
  else []

/-- The payload of a HEARTBEAT (Table 10-11): SWEEP_INDEX and LEASE_FLOOR. -/
def Module.heartbeatPayload (m : Module) : List Byte := le 4 m.sweep.j ++ le 2 m.cfg.seq.leaseFloor ++ zeros 2

/-- HEARTBEAT of a ring (R269). -/
def Module.heartbeat (m : Module) (r : Nat) : Module := m.bcast r 0x21 m.heartbeatPayload

/-- The string's word of the charge mirror is rewritten with a lease that is granted (R193, R270). -/
def Module.noteLease (m : Module) (s secs : Nat) : Module :=
  if m.calOk then
    let w : MirStr := { m.mirStr m.cal.charge.seq s with leaseLeft := secs }
    { m with cal := { m.cal with charge := { m.cal.charge with strs := put m.cal.charge.strs s w.word } } }
  else m

/-- A CONTACTOR_SET step would drive a coil that the string is not commanded to drive (R267). -/
def drivesCoil (i : Inst) (st : Step) : Bool :=
  st.operand = 0x20 && (List.range 3).any (fun c => bitAt st.arg c && !bitAt i.coils c)

/-- A DZS step of a string (R257). One that would close a contactor fails while a hold of R248 stands (R271; log 175). A
HEARTBEAT is a broadcast, which nothing answers: it completes as it leaves. -/
def Module.dzsStep (m : Module) (s : Nat) (st : Step) : Module × Option Bool :=
  let k : InstKey := .str s
  let w := m.cfg.dzsOf s
  let m := m.modInst k (fun i => { i with result := 0, waiting := 1, stepFailed := false })
  if drivesCoil (m.inst k) st && decide (m.holdOfString s ≠ 0) then (m, some false)
  else if st.operand = 0x21 then
    match m.endOf w with
    | some (south, _) => (m.sendRing w.1 south 0x21 0 false 0 (le 2 st.arg ++ zeros 6), some true)
    | none => (m, some false)
  else if st.operand = 0x25 then (m.ask w 0x25 [] (.scarab k), none)
  else
    let m := if st.operand = 0x20 then m.modInst k (coilsKept st.arg) else m
    let m := if st.operand = 0x22 then m.noteLease s st.arg else m
    (m.order w st.operand (m.dzsPayload s st) (.scarab k), none)

/-- Workers a LATCH_CLEAR step goes to. -/
def Module.latchWorkers (m : Module) : InstKey → List Wk
  | .str s => (m.cfg.workersOfString s).map (·.1)
  | .bay b => (m.cfg.workers.filter (fun (w : Wk × WorkerEntry) => bayOfRing m.isPair w.1.1 = b)).map (·.1)

/-- A step of `n` ring commands leaves; their completions come later. -/
def Module.await (m : Module) (k : InstKey) (n : Nat) : Module :=
  m.modInst k (fun i => { i with result := 0, waiting := n, stepFailed := false })

/-- The action of a step. It answers with success or failure when the step ends at once. -/
def Module.issueStep (m : Module) (k : InstKey) (st : Step) : Module × Option Bool :=
  let b := m.bayOfKey k
  let sc := instScope k
  match st.kind with
  | 0x0 => (m, some true)
  | 0x2 =>
    (match k with
     | .bay _ => (m, some false)
     | .str s => m.dzsStep s st)
  | 0x3 =>
    let ch := (m.cfg.baySwitch.getD b []).getD st.operand 255
    if ch < 24 then (m.setImage ch (decide (st.arg = 1)), none) else (m, some false)
  | 0x4 =>
    if st.arg = 0 then (m.emit (.preCmd b false 0), none)
    else if st.arg = 2 then (m.emit (.preCmd b true st.arg32.toNat), none)
    else (match m.medianVBat b with
      | some v => (m.emit (.preCmd b true v), none)
      | none => (m, some false))
  | 0x5 => (m, none)
  | 0x6 => (m, if st.arg = 0 then some true else none)
  | 0x7 => (m.modInst k (fun i => { i with zeroHold := decide (st.arg = 1) }), some true)
  | 0x8 =>
    ((m.cfg.stringsOf b).foldl (fun m s =>
      if st.arg = 0 ∨ s ∉ (m.seqOf k).noAutoClose then m.raiseEvent (.str s) st.operand else m) m, some true)
  | 0x9 =>
    let ws := m.latchWorkers k
    if ws = [] then (m, some true)
    else (ws.foldl (fun m w => m.order w 0x16 [] (.scarab k)) (m.await k ws.length), none)
  | 0xA =>
    let v := match k with | .str s => (m.strE s).iCount | .bay _ => naCurrent
    (m.jotDom .vsi st.arg st.operand sc.1 sc.2 (i32 v) (int32s [i32 v]), some true)
  | _ => (m, none)


/-- A step under way is looked at again: whether it has ended. -/
def Module.checkStep (m : Module) (k : InstKey) (st : Step) : Module × Option Bool :=
  let i := m.inst k
  if st.kind = 5 then (m, if m.presentTrue k st then some true else none)
  else if i.result = 0 then (m, none)
  else (m, some (decide (i.result = 1)))

/-- FAULT_COUNT has reached FAULT_LIMIT in FAULT_OPEN: the string enters LOCKOUT (R271, log 38). -/
def Module.limitReached (m : Module) (k : InstKey) : Module :=
  match k with
  | .bay _ => m
  | .str _ =>
    let i := m.inst k
    if i.state = 7 ∧ i.step = none ∧ m.cfg.seq.faultLimit ≤ i.faults.length then m.setState k 8 false else m

/-- An illegal SET_STATE (R254). -/
def Module.seqIllegal (m : Module) (k : InstKey) (n : Nat) : Module :=
  let sc := instScope k
  let second := decide ((m.inst k).illegal = 1)
  let m := m.jotDom .vsi eSeqIllegal sevAlarm sc.1 sc.2 (n : Int)
  if second then m.fallback k Module.slotOff
  else
    let ev := match k with | .str _ => 2 | .bay _ => 1
    (((m.endTemplate k).startTemplate k ev 1)).1

/-- One move of an instance; false once it waits or stands still. -/
def Module.stepOnce (m : Module) (k : InstKey) : Module × Bool :=
  let i := m.inst k
  match i.step with
  | none => (m, false)
  | some n =>
    if i.illegal = 2 then
      if i.dzsTrue then ((m.endTemplate k).setState k 7 false, false) else (m, false)
    else
      let st := look {} (m.seqOf k).steps n
      if i.issued = false then
        let m := (m.mirrorStep k).modInst k (fun i => { i with issued := true })
        if st.kind = 1 then
          if st.operand = i.state then (m.advance k true, true)
          else if legalChange k i.state st.operand then ((m.setState k st.operand false).advance k true, true)
          else (m.seqIllegal k n, true)
        else if st.kind = 0xF then ((m.endTemplate k).limitReached k, false)
        else
          let r := m.issueStep k st
          match r.2 with
          | some ok => (r.1.advance k ok, true)
          | none => (r.1, decide (st.kind ≤ 9))
      else
        let r := m.checkStep k st
        match r.2 with
        | some ok => (r.1.advance k ok, true)
        | none => (r.1, false)

/-- Consecutive steps of an instance until one waits (R259); the sequence table has 4,096 steps and no cycle without a
wait (SEQ_LOOP). -/
def Module.runInst (k : InstKey) : Nat → Module → Module
  | 0, m => m
  | n + 1, m =>
    let r := m.stepOnce k
    if r.2 then Module.runInst k n r.1 else r.1

/-- The steps one run of an instance may take. -/
def runFuel : Nat := 8200

/-! ## Events (R255, R261) -/

/-- FAULT of a string: the module sets FAULT_OPEN and counts it, then the FAULT entry starts. -/
def Module.takeFault (m : Module) (s : Nat) : Module × Bool :=
  let k : InstKey := .str s
  let m := (m.endTemplate k).modInst k (fun i => { i with event := some 4, faults := i.faults ++ [m.sweep.j] })
  let m := (m.setState k 7 false).modInst k (fun i => { i with event := none })
  let r := m.startTemplate k 4 0
  if r.2 then (r.1, true) else (r.1.limitReached k, true)

/-- An event is delivered to a string (Table 10-3); true when it has started its template. -/
def Module.strEvent (m : Module) (s ev : Nat) : Module × Bool :=
  let k : InstKey := .str s
  let i := m.inst k
  let st := i.state
  let ev := if (ev = 1 ∨ ev = 2) ∧ (st = 1 ∨ st = 2) then 3 else ev
  if ev = 4 then (if 1 ≤ st ∧ st ≤ 6 then m.takeFault s else (m, false))
  else
    let row : Bool :=
      match ev with
      | 0 => st = 0
      | 1 => st = 3 || st = 4 || st = 5
      | 2 => st = 3 || st = 4 || st = 5 || (st = 6 && decide (i.event = some 1 ∨ i.event = none))
      | 3 => st = 1 || st = 2
      | 5 => st = 7
      | 6 => st = 0 || st = 7 || st = 8
      | 7 => st = 9
      | 8 => st = 8
      | _ => false
    if row then m.startTemplate k ev 0 else (m, false)

/-- An event is delivered to a bay (Table 10-4); true when it has started its template. -/
def Module.bayEvent (m : Module) (b ev : Nat) : Module × Bool :=
  let k : InstKey := .bay b
  let i := m.inst k
  let st := i.state
  match ev with
  | 0 => if st = 0 then m.startTemplate k 0 0 else (m, false)
  | 1 =>
    if st = 2 ∨ st = 3 then m.startTemplate k 1 0
    else if st = 1 then (if i.step.isSome then (m.advance k false, true) else (m.setState k 0 false, true))
    else (m, false)
  | 2 =>
    if 1 ≤ st ∧ st ≤ 4 then
      let m := (m.endTemplate k).modInst k (fun i => { i with event := some 2 })
      let m := (m.setState k 5 false).modInst k (fun i => { i with event := none })
      ((m.startTemplate k 2 0).1, true)
    else (m, false)
  | 3 => if st = 5 then m.startTemplate k 3 0 else (m, false)
  | 4 => if st = 0 then m.startTemplate k 4 0 else (m, false)
  | 5 => if st = 6 then m.startTemplate k 5 0 else (m, false)
  | _ => (m, false)

/-- An event is delivered and its template's first steps run. -/
def Module.deliver (m : Module) (k : InstKey) (ev : Nat) : Module × Bool :=
  let r := match k with
    | .str s => m.strEvent s ev
    | .bay b => m.bayEvent b ev
  if r.2 then (Module.runInst k runFuel r.1, true) else r

/-- Events raised within Scarab are delivered in their order. -/
def Module.drainEvents : Nat → Module → Module
  | 0, m => m
  | n + 1, m =>
    match m.scarab.events with
    | [] => m
    | e :: t => Module.drainEvents n (({ m with scarab := { m.scarab with events := t } }).deliver e.1 e.2).1

/-- A bound on the events of one step: every instance receives at most a few. -/
def Module.eventFuel (m : Module) : Nat := 32 * (m.instKeys.length + 1)

/-- An event delivered with all it raises. -/
def Module.deliverAll (m : Module) (k : InstKey) (ev : Nat) : Module × Bool :=
  let r := m.deliver k ev
  (Module.drainEvents r.1.eventFuel r.1, r.2)

/-! ## Running (R259, R264) -/

/-- Scarab may run here: the leader or the single module, with its VSI up; after a failover only from the takeover point on
(R355). -/
def Module.scarabOn (m : Module) : Bool := m.runs && m.acts && m.up .vsi && m.conf?.isSome && !m.pair.takeover

/-- A bay may grant insertion slots (R264). -/
def Module.mayGrant (m : Module) (b : Nat) : Bool :=
  let st := (m.bInst b).state
  st = 2 || st = 3 || (st = 1 && (m.pre.getD b {}).done)

/-- Slots left in this verdict stage go to the strings that wait, in string order (R264, log 39). -/
def Module.grantBay (m : Module) (b : Nat) : Module :=
  let left := look 0 m.scarab.quota b
  if m.mayGrant b then
    let wait := (m.cfg.stringsOf b).filter (fun s => m.waitsOn (.str s) 0x03 && !(m.sInst s).granted)
    let got := wait.take left
    let m := got.foldl (fun m s => m.modInst (.str s) (fun i => { i with granted := true })) m
    { m with scarab := { m.scarab with quota := put m.scarab.quota b (left - got.length) } }
  else m

/-- SCARAB_STEP (R259): every instance runs until it waits, bays first. -/
def Module.scarabRun (m : Module) : Module :=
  if m.scarabOn then
    let m := Module.drainEvents m.eventFuel m
    let m := m.cfg.bays.foldl Module.grantBay m
    m.instKeys.foldl (fun m k =>
      let m := Module.runInst k runFuel m
      Module.drainEvents m.eventFuel m) m
  else m

/-! ## What a DZS-2 reports (R255, R258, R271) -/

/-- A coil commanded without interruption for 500 ms has its auxiliary contact open. -/
def Module.auxOpen (m : Module) (s : Nat) (d : DzsSeen) : Bool :=
  let i := m.sInst s
  (List.range 3).any (fun c => bitAt i.coils c && !bitAt d.contactors c && decide (i.coilAt.getD c 0 + 500 ≤ m.ms))

/-- FAULT and lockout as a newest report of a string's DZS-2 gives them (R255, R271); none while R260 reads it. -/
def Module.dzsReport (m : Module) (s : Nat) : Module :=
  let d := (m.wk (m.cfg.dzsOf s)).dzs
  let st := (m.sInst s).state
  if d.seen = false ∨ s ∈ m.scarab.bootReads ∨ m.scarabOn = false then m
  else if (st = 0 ∨ st = 6 ∨ st = 7) ∧ (d.mode = 6 ∨ (auxStuck d ∧ m.holds cContactorMismatch scString s)) then
    (m.endTemplate (.str s)).setState (.str s) 8 false
  else if 1 ≤ st ∧ st ≤ 6 ∧ (d.mode = 3 ∨ d.mode = 4 ∨ m.auxOpen s d) then (m.deliverAll (.str s) 4).1
  else m

/-- A used slot of a sweep sampled since the string took its state reports its DZS-2. -/
def Module.dzsSlotReport (m : Module) (s k : Nat) : Module :=
  if (m.sInst s).stateSince * 1000000 ≤ m.instantOf k then m.dzsReport s else m

/-- A DZS_READ has answered for a string: the waits marked DZS look at it (R258, R263). -/
def Module.dzsAnswer (m : Module) (s : Nat) : Module :=
  let k : InstKey := .str s
  let d := (m.wk (m.cfg.dzsOf s)).dzs
  if (m.inst k).illegal = 2 ∨ m.waitsOn k 0x04 then m.modInst k (fun i => { i with dzsTrue := auxMatch d })
  else if m.waitsOn k 0x05 then m.modInst k (fun i => { i with dzsTrue := m.iBelow s d })
  else if m.waitsOn k 0x02 ∧ (m.inst k).fresh then
    let ok := m.vMatch s d.vBat d.vBus
    m.modInst k (fun i => { i with dzsTrue := ok, vMatchSweep := if ok then i.vMatchSweep else none, fresh := false })
  else m

/-- A DZS_READ goes out for a string that waits on a DZS condition. -/
def Module.readDzs (m : Module) (s : Nat) : Module :=
  m.ask (m.cfg.dzsOf s) 0x25 [] (match (m.sInst s).vMatchSweep with | some k => .vmatch s k | none => .none_)

/-- A lease is granted to a string, and its mirror word rewritten with it (R270, R438, R446). -/
def Module.grantLease (m : Module) (s secs : Nat) : Module :=
  (m.order (m.cfg.dzsOf s) 0x22 (le 2 secs ++ zeros 2) (.lease s)).noteLease s secs

/-- The leases of an entry into SAFE_HOLD go to every closed string, once the boot reads are over (R446). -/
def Module.safeGrants (m : Module) : Module :=
  if m.sets.safeGrant ∧ m.scarabOn ∧ m.scarab.bootReads = [] then
    let m : Module := { m with sets := { m.sets with safeGrant := false } }
    m.strNos.foldl (fun m s => if closedState (m.sInst s).state then m.grantLease s 300 else m) m
  else m

/-! ## Boot (R260) -/

/-- The bays whose strings have all been read at boot are treated once: one recorded as served with no string closed enters
DEAD. -/
def Module.bootBays (m : Module) : Module :=
  let ready := m.scarab.bootBays.filter (fun b => m.scarab.bootReads.all (fun s => decide ((m.cfg.str s).bay ≠ b)))
  let m : Module := { m with scarab := { m.scarab with bootBays := m.scarab.bootBays.filter (fun b => decide (b ∉ ready)) } }
  ready.foldl (fun m b =>
    let st := (m.bInst b).state
    if 1 ≤ st ∧ st ≤ 4 ∧ m.included b = [] then m.setState (.bay b) 0 false else m) m

/-- The first case of R260 that fits what the DZS-2 of a string answered; `answered` says that it did. -/
def Module.bootCase (m : Module) (s : Nat) (answered : Bool) : Module :=
  let k : InstKey := .str s
  let i := m.inst k
  let d := (m.wk (m.cfg.dzsOf s)).dzs
  let aux := d.contactors % 8
  let coil := d.contactors / 8 % 8
  let leave (m : Module) : Module := { m with scarab := { m.scarab with bootReads := dropFrom m.scarab.bootReads s } }
  let own (m : Module) : Module := m.modInst k (fun i => { i with
    coils := coil, coilAt := List.replicate 3 m.ms, result := 0, polled := false, dzsTrue := false })
  if answered = false then
    leave ((m.setState k (if i.state = 4 ∨ i.state = 5 then 4 else 7) false).modInst k (fun i => { i with result := 0, polled := false }))
  else if aux = 0 then leave ((own m).setState k 7 false)
  else if d.mode = 6 ∨ auxStuck d then leave ((own m).setState k 8 false)
  else if d.mode = 4 then (leave (own m)).raiseEvent k 4
  else if aux = 3 ∧ coil = 3 ∧ (d.mode = 1 ∨ d.mode = 2) then leave ((own m).setState k 4 false)
  else if aux = 3 ∧ coil = 3 ∧ d.mode = 3 then
    ((own m).modInst k (fun i => { i with dzsTrue := true })).order (m.cfg.dzsOf s) 0x24 [] (.boot s)
  else (leave (own m)).raiseEvent k 2

/-- The boot reads of R260 move on: a read is sent once the ring is trained, its answer judged, and the DZS_CLEAR of
case 6 awaited. An unreachable DZS-2 gives no reply. -/
def Module.bootStep (m : Module) (s : Nat) : Module :=
  let k : InstKey := .str s
  let i := m.inst k
  if s ∉ m.scarab.bootReads then m
  else if i.dzsTrue then
    if i.result = 0 then m
    else
      let m := { m with scarab := { m.scarab with bootReads := dropFrom m.scarab.bootReads s } }
      let ok := decide (i.result = 1)
      let m := m.modInst k (fun i => { i with result := 0, dzsTrue := false })
      if ok then m.setState k 4 false else m.raiseEvent k 2
  else if i.polled then (if i.result = 0 then m else m.bootCase s (decide (i.result = 1)))
  else if (m.wk (m.cfg.dzsOf s)).unreach then m.bootCase s false
  else if (m.ring (m.cfg.str s).ring).trained then
    (m.modInst k (fun i => { i with polled := true })).ask (m.cfg.dzsOf s) 0x25 [] (.boot s)
  else m

/-- Every boot read moves on; each bay follows once none of its strings is left. -/
def Module.bootRun (m : Module) : Module :=
  if m.scarab.bootReads = [] ∨ m.scarabOn = false then m
  else
    let m := m.scarab.bootReads.foldl (fun m s => m.bootStep s) m
    let m := m.scarab.bootReads.foldl (fun m s => m.bootStep s) m
    m.bootBays

/-- Boot reads whose queries a reset of the RGI has lost are asked again. -/
def Module.bootAgain (m : Module) : Module :=
  m.scarab.bootReads.foldl (fun m s => m.modInst (.str s) (fun i => { i with polled := false })) m

/-- Every instance starts from its mirror word, with no step running (R260, R272); each counted fault counts from the
first sweep after boot. -/
def Module.bootScarab (m : Module) : Module :=
  let from_ (w : Nat) : Inst :=
    let i := instOfWord w ((m.sweep.j + 1) % 4294967296)
    { state := i.state, faults := i.faults, stateSince := m.ms }
  let strs := m.strNos.map (fun s => (s, from_ (look 0 m.cal.scarabS s)))
  let bays := m.cfg.bays.map (fun b => (b, from_ (look 0 m.cal.scarabB b)))
  let m : Module := { m with scarab := { m.scarab with
    strs := strs, bays := bays, bootBays := m.cfg.bays
    bootReads := (strs.filter (fun (p : Nat × Inst) => 3 ≤ p.2.state ∧ p.2.state ≤ 6)).map (·.1) } }
  let m := strs.foldl (fun m (p : Nat × Inst) =>
    if p.2.state = 1 ∨ p.2.state = 2 then m.setState (.str p.1) 0 false else m) m
  m.bootBays

/-- The instances resume from their mirror words after a reset of the VSI (R72): the step in flight is issued again and its
timeout restarts. The coils are those of the newest report of the string's DZS-2 (log 187). -/
def Module.resumeScarab (m : Module) : Module :=
  let from_ (w : Option Nat) (coils : Nat) : Inst :=
    match w with
    | none => { stateSince := m.ms, coils := coils, coilAt := List.replicate 3 m.ms }
    | some w => { instOfWord w ((m.sweep.j + 1) % 4294967296) with
        stepStart := m.ms, stepSweep := m.sweep.j, stateSince := m.ms, coils := coils, coilAt := List.replicate 3 m.ms }
  { m with scarab := { m.scarab with
      strs := m.strNos.map (fun s => (s, from_ (find m.cal.scarabS s) ((m.wk (m.cfg.dzsOf s)).dzs.contactors / 8 % 8)))
      bays := m.cfg.bays.map (fun b => (b, from_ (find m.cal.scarabB b) 0)) } }

/-! ## The Carapace trip (R336, Table 10-5) -/

/-- TRIP and TRIP_RESET follow the trip in force. -/
def Module.tripEvents (m : Module) : Module :=
  if m.scarabOn then
    m.cfg.bays.foldl (fun m b =>
      let i := m.bInst b
      if m.tripInForce b then (if 1 ≤ i.state ∧ i.state ≤ 4 then (m.deliverAll (.bay b) 2).1 else m)
      else if i.state = 5 ∧ i.event ≠ some 3 then (m.deliverAll (.bay b) 3).1
      else m) m
  else m

/-! ## Scarab in the verdict stage (R244 step 5) -/

/-- A counted fault leaves the count after 24 h of sweeps (R271). -/
def Module.ageFaults (m : Module) (s k : Nat) : Module :=
  m.modInst (.str s) (fun i => { i with
    faults := i.faults.filter (fun f => sweepDiff k f * m.sweep.period < 86400000 || sweepAfter f k) })

/-- LIMITED of Table 10-1. -/
def Module.isLimited (m : Module) (s : Nat) : Bool :=
  decide (m.pctString s true < 100) || decide (m.pctString s false < 100) ||
  (m.cfg.cellsOf s).any (fun (x : Nat × ChannelEntry) => (m.cell x.1).cutDisHold || (m.cell x.1).cutChgHold)

/-- DERATED of Table 10-2. -/
def Module.isDerated (m : Module) (b : Nat) : Bool :=
  decide (m.pctBay b true < 100) || decide (m.pctBay b false < 100) || (m.permits b 0 != m.permits b 1) ||
  (m.cfg.stringsOf b).any (fun s => (m.sInst s).state = 7 ∨ (m.sInst s).state = 8)

/-- The changes the module itself makes at a verdict stage (Tables 10-3 and 10-4), with what the DZS-2s report. -/
def Module.moduleChanges (m : Module) (k : Nat) : Module :=
  let m := m.strNos.foldl (fun m s =>
    let m := ((m.ageFaults s k).limitReached (.str s)).dzsReport s
    if closedState (m.sInst s).state then m.setState (.str s) (if m.isLimited s then 5 else 4) true else m) m
  m.cfg.bays.foldl (fun m b =>
    let st := (m.bInst b).state
    if st = 2 ∨ st = 3 then m.setState (.bay b) (if m.isDerated b then 3 else 2) true else m) m

/-- BAY_V of a sweep against the precharge output (LINK_MATCH). -/
def Module.linkMatch (m : Module) (k : InstKey) (man : Manifest) : Bool :=
  let b := m.bayOfKey k
  match (m.inst k).step, m.bayV b with
  | some n, some v =>
    let st := look {} (m.seqOf k).steps n
    let out := man.vOut.getD b naU32
    decide (out ≠ naU32) && decide (absQ (v - (out : Rat)) ≤ (st.arg32 : Rat))
  | _, _ => false

/-- The conditions marked sweep read a sweep sampled after their step began (R258). -/
def Module.sweepWaits (m : Module) (man : Manifest) : Module :=
  m.instKeys.foldl (fun m k =>
    if sweepAfter man.sweep (m.inst k).stepSweep then
      if m.waitsOn k 0x08 then m.modInst k (fun i => { i with dzsTrue := m.linkMatch k man })
      else if m.waitsOn k 0x02 then
        (match k with
         | .str s =>
           (match m.dzs? (m.cfg.dzsOf s) with
            | some d =>
              if m.usedNow (m.cfg.dzsOf s) ∧ m.vMatch s d.vBat d.vBus then
                (m.modInst k (fun i => { i with vMatchSweep := some (i.vMatchSweep.getD man.sweep) })).readDzs s
              else m.modInst k (fun i => { i with vMatchSweep := none, fresh := false })
            | none => m)
         | .bay _ => m)
      else m
    else m) m

/-- The requests of rule rows are delivered, drains before opens, before any host command (R241, R391). -/
def Module.deliverRequests (m : Module) : Module :=
  let opens := m.ver.opens
  let drains := m.ver.drains
  let m := { m with ver := { m.ver with opens := [], drains := [] } }
  let m := drains.foldl (fun m b => (m.deliverAll (.bay b) 1).1) m
  opens.foldl (fun m (o : Nat × Bool) => (m.deliverAll (.str o.1) (if o.2 then 2 else 1)).1) m

end Sys2Proof.Machine
end

