-- ==== Sys2Proof/Machine/Dcp.lean ====
section
/-! DEFINITION. Taking a DCP request (R365 to R379): sessions and sequence numbers, the order of R367, roles and domain
states, refusals, and the reply. The cryptography of R366 and R370 reaches the model as facts (log 52). -/

namespace Sys2Proof.Machine

/-! ## Opcodes: privilege, role and domain state -/

/-- The privilege an opcode needs (Table 15-3). -/
def opPriv (op : Nat) : Nat :=
  if op ∈ [0x0012, 0x0013, 0x0104, 0x0707] then 2
  else if op / 256 = 0 ∨ op / 256 = 2 ∨
      op ∈ [0x0100, 0x0500, 0x0501, 0x0510, 0x0300, 0x0307, 0x0600, 0x0800, 0x0900, 0x0700, 0x0706, 0x0708] then 0
  else if op / 256 ∈ [1, 4, 5, 7, 8] then 1
  else 2

/-- The domain states that accept an opcode (Table 15-6). -/
def opStates (op : Nat) : List Nat :=
  if op ∈ [0x0001, 0x0002, 0x0003, 0x0004, 0x0005, 0x0010, 0x0011, 0x0100] then [0, 1, 2, 3, 4, 5, 7]
  else if op = 0x0020 then [6]
  else if op ∈ [0x0101, 0x0103] then [2]
  else if op = 0x0102 then [7]
  else if op = 0x0104 then [1, 2, 5, 7]
  else if op = 0x0400 then [3, 4]
  else if op = 0x0410 then [2, 3, 4]
  else if op ∈ [0x0401, 0x0411, 0x0420, 0x0431, 0x0440] then [2, 3, 4, 5, 7]
  else if op ∈ [0x0402, 0x0403, 0x0404, 0x0412, 0x0413, 0x0430, 0x0801] then [2, 3, 4, 7]
  else if op / 256 = 6 then [1, 2, 3, 4, 5, 7, 8]
  else if op = 0x0707 then [7]
  else if op / 256 = 7 then [2, 3, 4, 5, 7]
  else [1, 2, 3, 4, 5, 7]

/-- The opcodes that DCP defines (step 8 of R367; Tables 15-8 to 15-24). -/
def definedOps : List Nat :=
  [0x0001, 0x0002, 0x0003, 0x0004, 0x0005, 0x0010, 0x0011, 0x0012, 0x0013, 0x0020, 0x0100, 0x0101, 0x0102, 0x0103, 0x0104] ++
  span 0x0201 0x0210 ++ span 0x0220 0x0222 ++ span 0x0300 0x0307 ++ span 0x0400 0x0404 ++ span 0x0410 0x0413 ++
  [0x0420, 0x0430, 0x0431, 0x0440, 0x0500, 0x0501, 0x0502, 0x0510, 0x0511, 0x0512] ++ span 0x0600 0x0606 ++
  span 0x0700 0x0708 ++ span 0x0800 0x0803 ++ [0x0900, 0x0901]

/-- The event commands of group 0x04, which R391 answers at delivery. -/
def isEvent (op : Nat) : Bool := (0x0400 ≤ op && op ≤ 0x0404) || (0x0410 ≤ op && op ≤ 0x0413)

/-- Step 11 of R367. The event commands meet Table 15-6 at their delivery; where no verdict stage delivers any, they
are refused at once (log 48). -/
def Module.stateAccepts (m : Module) (op : Nat) : Bool :=
  decide (m.domainState ∈ (if isEvent op then [2, 3, 4, 5, 7] else opStates op))

/-- A module that is not LEADER refuses the opcode (R378). -/
def Module.roleRejects (m : Module) (op : Nat) : Bool :=
  let g := op / 256
  !m.leads &&
  ((decide (g ∈ [1, 3, 4, 5, 9]) && decide (op ∉ [0x0100, 0x0104, 0x0300, 0x0307, 0x0500, 0x0501, 0x0510, 0x0900])) ||
   decide (op ∈ [0x0801, 0x0701, 0x0702, 0x0703, 0x0704, 0x0705]) ||
   (decide (g = 2) && decide (m.pair.role = .syncing)))

/-- An address entry of Table 15-17. -/
def addrBytes (a : NetAddr) : List Byte :=
  le 16 a.addr6 ++ le 4 a.addr4 ++ [a.prefix6, a.prefix4] ++ le 2 (a.vid + 8192 * a.pcp)

/-- The slot of the leader as far as this module knows: 0 A, 1 B. -/
def Module.leaderSlot (m : Module) : Option Nat :=
  let b := decide (m.sup.slot = .b)
  if m.leads then some (if b then 1 else 0)
  else if m.pair.partnerRole = some .leader ∧ m.pair.silent = false then some (if b then 0 else 1)
  else none

/-- The ROLE_REJECT payload (R378). -/
def Module.rolePayload (m : Module) : List Byte :=
  match m.leaderSlot with
  | none => 0xFF :: zeros 51
  | some s =>
    [s, 0, 0, 0] ++ addrBytes (m.cfg.network.addrs.getD (2 * s) {}) ++ addrBytes (m.cfg.network.addrs.getD (2 * s + 1) {})

/-! ## Sessions and sequence numbers (R368 to R372) -/

/-- An open session. -/
def Module.session? (m : Module) (id : Nat) : Option Session := m.dcp.sessions.find? (fun x => x.id = id)

/-- A session rewritten. -/
def Module.modSession (m : Module) (id : Nat) (f : Session → Session) : Module :=
  { m with dcp := { m.dcp with sessions := m.dcp.sessions.map (fun x => if x.id = id then f x else x) } }

/-- A session closes: its subscriptions, pending deliveries and transfers end with it (R372, R387). -/
def Module.closeSession (m : Module) (id : Nat) : Module :=
  { m with
    dcp := { m.dcp with
      sessions := m.dcp.sessions.filter (fun x => x.id ≠ id), subs := m.dcp.subs.filter (fun x => x.session ≠ id)
      pend := m.dcp.pend.filter (fun x => x.session ≠ id), waits := m.dcp.waits.filter (fun x => x.session ≠ id) }
    sets := { m.sets with holder := if m.sets.holder = some id then none else m.sets.holder }
    upd := { m.upd with holder := if m.upd.holder = some id then none else m.upd.holder } }

/-- Every session closes (R372: a restart, or the entry into DORMANT). -/
def Module.closeSessions (m : Module) : Module := m.dcp.sessions.foldl (fun m x => m.closeSession x.id) m

/-- SEQUENCE is new under R368. -/
def isNew (x : Session) (seq : Nat) : Bool :=
  x.hi < seq || (decide (seq < x.hi) && decide (x.hi ≤ seq + 64) && x.statuses.all (fun p => p.1 ≠ seq))

/-- SEQUENCE is accepted. Kept are the status of the newest 64 requests and every number within 64 of the highest. -/
def accept (seq : Nat) (x : Session) : Session :=
  let hi := max x.hi seq
  let l := (seq, 0xFFFE) :: x.statuses
  { x with
    hi := hi
    statuses := (((List.range l.length).zip l).filter (fun (p : Nat × Nat × Nat) => p.1 < 64 || hi ≤ p.2.1 + 64)).map (·.2) }

/-- ORIGINAL_STATUS of a repeated request (R368). -/
def origStatus (x : Session) (seq : Nat) : Nat := look 0xFFFF (x.statuses.take 64) seq

/-- REKEY_DUE as a bit of FLAGS (R369). -/
def rekeyDue (x : Session) : Nat := if 0x7FF00000 < x.hi ∨ 0x7FF00000 < x.streamSeq then 16 else 0

/-- A reply under a session's keys; its status is kept for a repeat of the request (R368). -/
def Module.answer (m : Module) (x : Session) (seq op status flags : Nat) (payload : List Byte) : Module :=
  (m.modSession x.id (fun y => { y with statuses := y.statuses.map (fun (p : Nat × Nat) => if p.1 = seq then (seq, status) else p) })).emit
    (.dcp x.port x.src x.id seq op status (1 + flags + rekeyDue ((m.session? x.id).getD x)) payload)

/-! ## Counters (Table 15-22) -/

/-- The ten counters of DIAG.MODULE_COUNTERS in their order. -/
def Module.dcpCounters (m : Module) : List Nat :=
  [m.dcp.short_, m.dcp.lengthErr, m.dcp.headerErr, m.dcp.noSession, m.dcp.authFail, m.dcp.replay, m.dcp.rateDrop,
   m.dcp.queueFull, m.dcp.streamDrop, m.dcp.refused]

/-- The ten counters replaced. -/
def Module.setDcpCounters (m : Module) (c : Nat → Nat) : Module :=
  { m with dcp := { m.dcp with
    short_ := c 0, lengthErr := c 1, headerErr := c 2, noSession := c 3, authFail := c 4, replay := c 5, rateDrop := c 6
    queueFull := c 7, streamDrop := c 8, refused := c 9 } }

/-- A counter of DIAG.MODULE_COUNTERS advances. -/
def Module.countDcp (m : Module) (i : Nat) : Module :=
  let l := m.dcpCounters
  let old := l.getD i 0
  (m.setDcpCounters (fun j => if j = i then bump16 (l.getD j 0) else l.getD j 0)).satCheck old (bump16 old) (384 + i)

/-- Times within the last second. -/
def lastSecond (now : Nat) (l : List Nat) : List Nat := l.filter (fun t => now < t + 1000)

/-- A trailer failed (R367 step 5); AUTH_FAILURES holds while the last second has 16 failures (log 51). -/
def Module.authFailed (m : Module) : Module :=
  let m := m.countDcp 4
  let m := { m with dcp := { m.dcp with fails := m.ms :: lastSecond m.ms m.dcp.fails } }
  if 16 ≤ m.dcp.fails.length then m.raise .mgi cAuthFailures else m

/-- AUTH_FAILURES ends once the last second has fewer (log 51). -/
def Module.authReview (m : Module) : Module :=
  if m.holds cAuthFailures scModule 0 ∧ (lastSecond m.ms m.dcp.fails).length < 16 then m.clear .mgi cAuthFailures else m

/-! ## Refusals (R377) -/

/-- The COMMAND_RESULT payload (Table 15-7). -/
def Module.cmdResult (m : Module) (scope id inst hold row : Nat) : List Byte :=
  [m.domainState, scope] ++ le 2 id ++ [inst, hold] ++ le 2 row

/-- The record of a command (Table 17-3). -/
def Module.jotCommand (m : Module) (code sev op status session seq scope id : Nat) (result : List Byte) : Module :=
  m.jot .mgi code sev scope (if id = 0xFFFF then 0xFFFFFFFF else id) naCurrent
    (le 2 op ++ le 2 status ++ le 4 session ++ le 4 seq ++ padTo 8 result)

/-- A reply: status, further FLAGS and payload. -/
abbrev Answer := Nat × Nat × List Byte

/-- STATE_REJECT with its record (R377). -/
def Module.refuse (m : Module) (x : Session) (seq op scope id inst hold row : Nat) : Module × Option Answer :=
  let r := m.cmdResult scope id inst hold row
  (m.jotCommand eCommandReject sevInfo op stStateReject x.id seq scope id r, some (stStateReject, 0, r))

/-- INTERNAL with its record at WARNING (Table 15-4). -/
def Module.internal (m : Module) (x : Session) (seq op scope id : Nat) : Module × Option Answer :=
  (m.jotCommand eCommandReject sevWarning op stInternal x.id seq scope id (m.cmdResult scope id 0xFF 0 0xFFFF),
   some (stInternal, 0, []))

/-! ## The order of R367 -/

/-- DCP is served: the module runs, its MGI serves and it is not dormant (R372, R374, R382). -/
def Module.dcpUp (m : Module) : Bool := m.runs && m.up .mgi && decide (m.dorm.phase ≠ .dormant)

/-- A session has sent a valid request: replies follow the request, and a rekeyed session takes the place of the one it
replaces, with its subscriptions and pending deliveries (R362, R370). -/
def Module.heard (m : Module) (x : Session) (req : DcpReq) : Module :=
  let m := m.modSession x.id (fun y => { y with port := req.port, src := req.src, replaces := none })
  match x.replaces with
  | none => m
  | some old =>
    let move (i : Nat) : Nat := if i = old then x.id else i
    let m : Module := { m with
      dcp := { m.dcp with
        subs := m.dcp.subs.map (fun d => { d with session := move d.session })
        pend := m.dcp.pend.map (fun d => { d with session := move d.session })
        waits := m.dcp.waits.map (fun d => { d with session := move d.session }) }
      sets := { m.sets with holder := m.sets.holder.map move }
      upd := { m.upd with holder := m.upd.holder.map move } }
    m.closeSession old

/-- Requests of a session that wait for their delivery (R374). -/
def Module.waitingOf (m : Module) (id : Nat) : Nat :=
  (m.dcp.pend.filter (fun d => d.session = id)).length + (m.dcp.waits.filter (fun d => d.session = id)).length

/-- Steps 7 to 14 of R367 for a request whose SEQUENCE has been accepted. -/
def Module.serve (m : Module) (x : Session) (req : DcpReq) (op len : Nat) (inRange : Bool)
    (run : Module → Session → Module × Option Answer) : Module :=
  let r : Module × Option Answer :=
    if 0x80000000 ≤ req.seq ∧ op ≠ 0x0003 ∧ op ≠ 0x0004 then (m, some (stRekeyRequired, 0, []))
    else if op ∉ definedOps then (m, some (stBadOpcode, 0, []))
    else if x.privilege < opPriv op then (m, some (stPrivilege, 0, []))
    else if m.roleRejects op then (m, some (stRoleReject, 0, m.rolePayload))
    else if m.stateAccepts op = false then m.refuse x req.seq op 0 0xFFFF 0xFF 0 0xFFFF
    else if req.len ≠ len then (m, some (stParamLength, 0, []))
    else if inRange = false then (m, some (stParamRange, 0, []))
    else run m x
  match r.2 with
  | some a => r.1.answer x req.seq op a.1 a.2.1 a.2.2
  | none => r.1

/-- A request on a module in RECOVERY (R393): the update opcodes on ETH1, without a session. -/
def Module.recoveryRequest (m : Module) (req : DcpReq) (op len : Nat) (inRange : Bool)
    (run : Module → Session → Module × Option Answer) : Module :=
  if 0x0600 ≤ op ∧ op ≤ 0x0605 ∧ req.port = .eth1 ∧ req.unauth ∧ req.session = 0 then
    let r : Module × Option Answer :=
      if req.len ≠ len then (m, some (stParamLength, 0, []))
      else if inRange = false then (m, some (stParamRange, 0, []))
      else run m { privilege := 2 }
    match r.2 with
    | some a => r.1.emit (.dcp req.port req.src 0 req.seq op a.1 (5 + a.2.1) a.2.2)
    | none => r.1
  else m

/-- Request datagrams accepted in this second of the local timescale (R374; log 181). -/
def Module.thisSecond (m : Module) : Nat := if m.dcp.rateSec = m.ms / 1000 then m.dcp.rateN else 0

/-- One more request datagram is accepted (R374). -/
def Module.tallied (m : Module) : Module :=
  { m with dcp := { m.dcp with rateSec := m.ms / 1000, rateN := m.thisSecond + 1 } }

/-- At most 2,000 request datagrams per second are accepted; the rest are discarded and counted (R374). -/
def Module.admitted (m : Module) (f : Module → Module) : Module :=
  if 2000 ≤ m.thisSecond then m.countDcp 6 else f m.tallied

/-- A well-formed request with a session (R367 steps 4 to 14). A number counts as accepted from step 6 on
(DEDUCED, log 47). -/
def Module.dcpTaken (m : Module) (req : DcpReq) (op len : Nat) (inRange : Bool)
    (run : Module → Session → Module × Option Answer) : Module :=
  let m := m.authReview
  match m.session? req.session with
  | none => m.countDcp 3
  | some x =>
    if req.unauth then m.countDcp 3
    else if req.macOk = false then m.authFailed
    else if x.confirmed = false ∧ op ≠ 0x0002 then m.countDcp 3
    else
      let m := m.heard x req
      let x := (m.session? x.id).getD x
      if isNew x req.seq = false then
        (m.countDcp 5).emit (.dcp x.port x.src x.id req.seq op stReplay (1 + rekeyDue x) (le 2 (origStatus x req.seq)))
      else if 16 ≤ m.waitingOf x.id then (m.countDcp 7).answer x req.seq op stBusy 0 []
      else (m.modSession x.id (accept req.seq)).serve x req op len inRange run

/-- A request as it arrives: in RECOVERY, while DCP is silent, or under the rate of R374. -/
def Module.dcpRequest (m : Module) (req : DcpReq) (op len : Nat) (inRange : Bool)
    (run : Module → Session → Module × Option Answer) : Module :=
  if m.sup.phase = .on ∧ m.sup.recovery then m.recoveryRequest req op len inRange run
  else if m.dcpUp = false then m
  else m.admitted (fun m => m.dcpTaken req op len inRange run)

/-- The header of a packet that the module sends (Table 15-1), its payload after it; the trailer is a fact (log 52). -/
def dcpBytes (flags op status seq session : Nat) (payload : List Byte) : List Byte :=
  [0x5A, 0x44, 1, flags] ++ le 2 op ++ le 2 status ++ le 4 seq ++ le 4 session ++ le 2 payload.length ++ zeros 2 ++ payload

/-! ## Replies that come later (R394) -/

/-- A request waits for ring replies. -/
def Module.waitRing (m : Module) (x : Session) (seq op left ident : Nat) : Module :=
  { m with dcp := { m.dcp with waits := m.dcp.waits ++
    [{ session := x.id, seq := seq, opcode := op, left := left, ident := ident }] } }

/-- The reply of a diagnostic request whose ring replies have come. -/
def Module.diagReply (m : Module) (d : DiagWait) : Module :=
  match m.session? d.session with
  | none => m
  | some x =>
    let w : Wk := (d.ident / 512, d.ident % 512)
    let r := m.cmdResult scDomain 0xFFFF 0xFF 0 0xFFFF
    if d.failed then
      (m.jotCommand eCommandReject sevWarning d.opcode stInternal x.id d.seq scDomain 0xFFFF r).answer
        x d.seq d.opcode stInternal 0 []
    else
      m.answer x d.seq d.opcode stOk 0
        (if d.opcode = 0x0701 then
          [if (m.wk w).snapNear then 1 else 0, 0] ++ ((m.wk w).snap.map (le 2)).flatten
         else if d.opcode = 0x0702 then r
         else if d.opcode = 0x0703 then le 4 d.mask
         else [])

/-- Every wait that has ended is answered. -/
def Module.flushDiag (m : Module) : Module :=
  let done := m.dcp.waits.filter (fun d => d.left = 0)
  let m := { m with dcp := { m.dcp with waits := m.dcp.waits.filter (fun d => d.left ≠ 0) } }
  done.foldl Module.diagReply m

end Sys2Proof.Machine
end

