-- ==== Sys2Proof/Machine/Precharge.lean ====
section
/-! DEFINITION. The precharge converter channels of the PWI (chapter 11): soft start, retries, phases, limits and
faults. Only the leader drives them; a follower keeps run records (R292). -/

namespace Sys2Proof.Machine

/-- A channel's entry of Table 11-1. -/
def Module.preCfg (m : Module) (c : Nat) : PreEntry := m.cfg.precharge.getD c {}

/-- A channel. -/
def Module.pch (m : Module) (c : Nat) : PreCh := m.pre.getD c {}

/-- The channel is switching (Table 11-3). -/
def PreCh.switching (ch : PreCh) : Bool := ch.state = 1 || ch.state = 2 || ch.state = 3

/-- The channel is driven from here: a follower's copy of a run, and a run that waits to resume, are not (R61, R292). -/
def PreCh.driven (ch : PreCh) : Bool := ch.switching && ch.preEn

/-- The channel may run: a set is in force, its entry has phases (R275), and its bay is populated (R18, R19; log 158). -/
def Module.preUsed (m : Module) (c : Nat) : Bool :=
  m.conf?.isSome && decide (m.sup.slot ≠ .invalid) && decide ((m.preCfg c).phases ≠ 0) && decide (c ∈ m.cfg.bays)

/-- Remaining retry delay of R286, ms. After a restart the kept plant time of the last SHORT counts; where plant
time is not known the whole delay runs from the restart (log 24). -/
def Module.preRetryLeft (m : Module) (c : Nat) : Nat :=
  let ch := m.pch c
  let d := (m.preCfg c).retryDelay * 1000000000
  let left :=
    match ch.lastShort with
    | some t => t + d - m.time.now
    | none =>
      if ch.shortCount = 0 ∧ ch.lastShortPlant = 0 then 0
      else if ch.lastShortPlant ≠ 0 ∧ m.plant ≠ 0 then ch.lastShortPlant + d - m.plant
      else m.dcp.bootAt + d - m.time.now
  (left + 999999) / 1000000

/-- The run record of R292. -/
def Module.preRecord (m : Module) (c : Nat) : RunRecord :=
  let ch := m.pch c
  { state := ch.state, vTarget := ch.vTarget
    probeMs := if ch.state = 1 then (m.time.now - ch.probeAt) / 1000000 else 0
    done := ch.done, shortCount := ch.shortCount
    retryLeft := if ch.state = 4 then m.preRetryLeft c else 0, acc := ch.acc }

/-- A channel replaced: its Caldera word follows under the write stop (R286), its conditions follow its state
(log 25), and the leader sends the run record at a change of state (R292). -/
def Module.putPch (m : Module) (c : Nat) (ch : PreCh) : Module :=
  let old := m.pch c
  let ch := if m.calOk then { ch with stored := (ch.shortCount, decide (ch.state = 6), ch.lastShortPlant) } else ch
  let m := { m with pre := modAt m.pre c (fun _ => ch) }
  let m := if ch.state < 4 then m.clear .pwi cPrechargeFault scPrecharge c else m
  let m := if ch.state = 6 then m else m.clear .pwi cPrechargeLockout scPrecharge c
  if ch.state ≠ old.state ∧ m.leads then m.emit (.pairRun c (m.preRecord c)) else m

/-! ## The outputs of a phase (R276, R279, R280) -/

/-- A channel's phase. -/
def PreCh.leg (ch : PreCh) (h : Nat) : Leg := ch.legs.getD h {}

/-- A phase rewritten. -/
def PreCh.modLeg (ch : PreCh) (h : Nat) (f : Leg → Leg) : PreCh := { ch with legs := modAt ch.legs h f }

/-- A phase's outputs H and L go to a pair of levels. After either output falls both stay low for DEAD_TIME, and what was asked
for follows at its end; H and L are never high together (R276). -/
def PreCh.drivePhase (ch : PreCh) (h : Nat) (lv : Bool × Bool) : PreCh :=
  let now := ch.pwm.getD h (false, false)
  if (ch.leg h).want.isSome then ch.modLeg h (fun l => { l with want := some lv })
  else if now = lv then ch
  else if now = (false, false) then { ch with pwm := modAt ch.pwm h (fun _ => lv) }
  else { ch.modLeg h (fun l => { l with want := some lv }) with pwm := modAt ch.pwm h (fun _ => (false, false)) }

/-- DEAD_TIME has passed at a phase: the outputs that waited rise (R276). -/
def PreCh.deadOver (ch : PreCh) (h : Nat) : PreCh :=
  match (ch.leg h).want with
  | some lv => { ch.modLeg h (fun l => { l with want := none }) with pwm := modAt ch.pwm h (fun _ => lv) }
  | none => ch

/-- A phase begins a cycle: H is driven. -/
def PreCh.beginCycle (ch : PreCh) (h : Nat) : PreCh :=
  (ch.modLeg h (fun l => { l with off := false, inCycle := true, late := false })).drivePhase h (true, false)

/-- A phase's outputs go low and its cycle is over. -/
def PreCh.quiet (ch : PreCh) (h : Nat) : PreCh :=
  { ch.modLeg h (fun _ => {}) with pwm := modAt ch.pwm h (fun _ => (false, false)) }

/-- PWM and PRE_EN low (Table 11-3). -/
def PreCh.low (ch : PreCh) : PreCh :=
  { ch with preEn := false, pwm := List.replicate 4 (false, false), legs := List.replicate 4 {}, active := [], shed := none
            shedCycle := 0, iSet := 0, full := [], recent := [], maxReq := 0 }

/-! ## Voltages and currents (R278, R283 to R285) -/

/-- One bit of a modulator in the three integrators of the sinc3 filter, and the length of the constant run it stands in. -/
def Sdm.bit (x : Sdm) (b : Bool) : Sdm :=
  let i1 := (x.i1 + (if b then 1 else 0)) % 33554432
  let i2 := (x.i2 + i1) % 33554432
  let i3 := (x.i3 + i2) % 33554432
  { x with i1 := i1, i2 := i2, i3 := i3, last := b, run := if b = x.last then min 64 (x.run + 1) else 1 }

/-- `n` bits of a modulator, the first in bit 0; whether 64 clocks have passed without a change. -/
def Sdm.bits : Nat → Nat → Sdm → Bool → Sdm × Bool
  | 0, _, x, stuck => (x, stuck)
  | n + 1, w, x, stuck =>
    let x := x.bit (decide (w % 2 = 1))
    Sdm.bits n (w / 2) x (stuck || decide (x.run = 64))

/-- The three differences of the filter at its decimated rate: the density of ones as a count of 2^24. -/
def Sdm.comb (x : Sdm) : Sdm × Nat :=
  let d1 := (x.i3 + 33554432 - x.c1) % 33554432
  let d2 := (d1 + 33554432 - x.c2) % 33554432
  let d3 := (d2 + 33554432 - x.c3) % 33554432
  ({ x with c1 := x.i3, c2 := d1, c3 := d2 }, d3)

/-- A modulator's 256 bits of one decimation: the filter after them, the density as a count of 2^24, and whether the data stood
still for 64 clocks (R278, Table 11-4). -/
def Sdm.sample (x : Sdm) (w : Nat) : Sdm × Nat × Bool :=
  let r := Sdm.bits 256 w x false
  let d := r.1.comb
  (d.1, d.2, r.2)

/-- A decimated voltage: V = SCALE x (2d - 1), d as the filter's count of 2^24 (R278). -/
def preVolts (scale ones : Nat) : Int := roundInt ((scale : Rat) * (2 * (ones : Rat) / 16777216 - 1))

/-- The SENSE test of Table 11-4 fails. -/
def preSenseBad (scale : Nat) (v : Int) (const : Bool) : Bool := const || decide (105 * (scale : Int) < 100 * |v|)

/-- V_PROBE of R283 as the pseudocode's integer, mV. -/
def preVProbe (e : PreEntry) (vTarget : Nat) : Nat := e.probePct * vTarget / 100

/-- V_OUT is below V_PROBE = PROBE_PCT x V_TARGET (R283). -/
def preBelow (e : PreEntry) (vTarget : Nat) (vOut : Int) : Bool := decide (100 * vOut < (e.probePct * vTarget : Nat))

/-- I_FLOOR of R284, mA. -/
def preFloor (e : PreEntry) : Int := ((e.iFloorPct : Int) * e.iRun).tdiv 100

/-- The set current of PROBE (R284). -/
def preProbe (e : PreEntry) (vTarget : Nat) (vOut : Int) : Int :=
  max (preFloor e) ((e.iRun * vOut).tdiv (preVProbe e vTarget : Int))

/-- The set current of RAMP and HOLD (R285). -/
def preRamp (e : PreEntry) (vTarget : Nat) (vOut : Int) : Int :=
  clampI 0 e.iRun ((e.iRun * ((vTarget : Int) - vOut)).tdiv (e.vKnee : Int))

/-- Phases of the entry that OVERLOAD has not disabled. -/
def prePhases (e : PreEntry) (ch : PreCh) : List Nat := (List.range e.phases).filter (fun h => h ∉ ch.disabled)

/-- The segment that R283 chooses. -/
def preSegment (e : PreEntry) (vTarget : Nat) (vOut : Int) : Nat := if preBelow e vTarget vOut then 1 else 2

/-- A run begins (R283): PRE_EN high, MIN_PHASES phases, PROBE or RAMP. -/
def Module.preBegin (m : Module) (c : Nat) : Module :=
  let e := m.preCfg c
  let ch := m.pch c
  let seg := preSegment e ch.vTarget ch.vOut
  let ch : PreCh := { ch.low with disabled := [], fastCount := 0, enabledSync := false }
  m.putPch c { ch with
    state := seg, preEn := true, done := false, probeAt := m.time.now, lockRun := 0, missRun := 0
    active := if e.shedEn then (List.range e.phases).take e.minPhases else List.range e.phases
    iSet := if seg = 1 then preFloor e else 0 }

/-- A fault of Table 11-4: outputs low first, then the state, then the journal. SHORT goes to RETRY_WAIT or
LOCKOUT (R286); every other fault to FAULT, but a channel in LOCKOUT stays there (log 25). -/
def Module.preFault (m : Module) (c code : Nat) : Module :=
  let was := m.pch c
  let ch : PreCh := { was.low with fault := code, done := false }
  if code = 1 then
    let n := u8 (ch.shortCount + 1)
    let lock := decide (ch.state = 6) || decide ((m.preCfg c).retryMax < n)
    let ch := { ch with shortCount := n, state := if lock then 6 else 4, lastShort := some m.time.now
                        lastShortPlant := m.plant
                        before := some (was.state, was.shortCount, was.lastShort, was.lastShortPlant) }
    let m := (m.putPch c ch).raise .pwi cPrechargeFault sevWarning scPrecharge c code
    if lock then m.raise .pwi cPrechargeLockout sevWarning scPrecharge c n else m
  else
    (m.putPch c { ch with state := if ch.state = 6 then 6 else 5, before := none }).raise .pwi cPrechargeFault sevWarning
      scPrecharge c code

/-- A channel as it was before the SHORT just detected: DRIVER wins over every fault of the same 10 us, and SHORT_COUNT then does
not change (R290). -/
def PreCh.unshort (ch : PreCh) : PreCh :=
  match ch.before with
  | some (st, n, t, p) => if ch.fault = 1 then { ch with state := st, shortCount := n, lastShort := t, lastShortPlant := p } else ch
  | none => ch

/-- Why a START is refused (R283): 0 accepted. -/
def Module.preRefusal (m : Module) (c vTarget : Nat) : Nat :=
  let e := m.preCfg c
  let ch := m.pch c
  if m.preUsed c = false then 1
  else if vTarget < 1000 ∨ 1500000 < vTarget then 2
  else if ch.vSrc < (vTarget + e.srcMargin : Nat) then 3
  else if ch.state = 5 then 4
  else if ch.state = 6 then 5
  else if ch.validRun < 782 then 6
  else 0

/-- The PWI's answer to a START or STOP waits for Scarab (R257, R283). -/
def Module.preAnswer (m : Module) (c : Nat) (ok : Bool) : Module :=
  { m with pre := modAt m.pre c (fun ch => { ch with answer := some ok }) }

/-- START of R291 and Table 11-5. -/
def Module.preStart (m : Module) (c vTarget : Nat) : Module :=
  let ch := m.pch c
  let e := m.preCfg c
  let why := m.preRefusal c vTarget
  let m := m.preAnswer c (decide (why = 0))
  if why ≠ 0 then
    m.jot .pwi ePrechargeRefused sevWarning scPrecharge c why (leI 4 vTarget ++ leI 4 ch.vSrc)
  else
    let ch := { ch with vTarget := vTarget, stands := true, done := false, disabled := [], answer := some true }
    if ch.state = 0 then
      let m := m.putPch c ch
      if m.preRetryLeft c = 0 then m.preBegin c else m.putPch c { ch with state := 4 }
    else if ch.state = 2 ∨ ch.state = 3 then
      m.putPch c { ch with state := preSegment e vTarget ch.vOut, probeAt := m.time.now }
    else m.putPch c ch

/-- STOP of R291 and Table 11-5: it completes on acceptance. -/
def Module.preStop (m : Module) (c : Nat) : Module :=
  let ch : PreCh := { m.pch c with answer := some true }
  if ch.state = 6 then m.putPch c { ch with stands := false }
  else m.putPch c { ch.low with state := 0, stands := false, done := false }

/-- A channel that may not run any longer is stopped: its entry or its bay is gone from the set (R19, R275). -/
def Module.preDrop (m : Module) (c : Nat) : Module :=
  if m.preUsed c ∨ (m.pch c).state = 0 ∨ (m.pch c).state = 6 then m else m.preStop c

/-! ## Phases (R280, R281, R287) -/

/-- n_req of R287. -/
def preReq (e : PreEntry) (iSet : Int) : Nat :=
  max e.minPhases (min e.phases (((iSet : Rat) * e.phases / e.iRun).ceil.toNat))

/-- Phases running after a new set current (R287): missing phases start at once, a shed is cancelled when n_req
returns to n_active. -/
def PreCh.adapt (ch : PreCh) (e : PreEntry) : PreCh :=
  let avail := prePhases e ch
  let want := if e.shedEn then min avail.length (preReq e ch.iSet) else avail.length
  let idle := avail.filter (fun h => h ∉ ch.active)
  { ch with
    active := sortBy (fun (h : Nat) => (h : Int)) (ch.active ++ idle.take (want - ch.active.length))
    shed := if ch.active.length ≤ want then none else ch.shed
    maxReq := max ch.maxReq want }

/-- Cycles of one rotation (R281). -/
def preRotation (e : PreEntry) : Nat := if e.rotate = 0 then 8 else e.rotate

/-- The slot of a phase: slots count the active phases in order from the rotation (R281, log 26). -/
def PreCh.slotOf (ch : PreCh) (h : Nat) : Option Nat :=
  (ch.active.zipIdx.find? (fun (p : Nat × Nat) => p.1 = h)).map (fun p => (p.2 + ch.rot) % ch.active.length)

/-- The turn-on instant of a phase, in 1/256 of the SYNC period after the SYNC edge (R280). -/
def PreCh.slotAt (ch : PreCh) (e : PreEntry) (h : Nat) : Option Nat :=
  (ch.slotOf h).map (fun k => (e.phaseOffset + k * 256 / ch.active.length) % 256)

/-- The phase in the highest slot (R281, R287). -/
def PreCh.highest (ch : PreCh) : Option Nat :=
  ch.active.find? (fun h => ch.slotOf h = some (ch.active.length - 1))

/-- The share of a phase that is being shed: from the full share to 0 over the rotation, by a course that the manual leaves open
(log 157). -/
def PreCh.shedShare (ch : PreCh) (e : PreEntry) (whole : Rat) : Rat :=
  if preRotation e ≤ ch.shedCycle then 0
  else if ch.shedCycle = 0 then whole
  else clampQ 0 whole (Config.shedShare whole ch.shedCycle (preRotation e))

/-- i_ph of a phase (R279, R287), mA. -/
def PreCh.share (ch : PreCh) (e : PreEntry) (h : Nat) : Rat :=
  let n := ch.active.length
  let whole : Rat := (ch.iSet : Rat) / n
  match ch.shed with
  | none => whole
  | some g =>
    let own := ch.shedShare e whole
    if g = h then own else if n ≤ 1 then whole else ((ch.iSet : Rat) - own) / ((n - 1 : Nat) : Rat)

/-- The SYNC period by which the slots are timed, ns (R280). -/
def prePeriod (e : PreEntry) (ch : PreCh) : Nat :=
  match ch.period with
  | some p => if ch.enabledSync then p else 100000000 / e.fFree
  | none => 100000000 / e.fFree

/-- The hysteresis band of a phase, within its bounds (R280). -/
def preBand (e : PreEntry) (ch : PreCh) (h : Nat) : Int := clampI e.bandMin e.bandMax (ch.band.getD h 0)

/-- Cycles counted for SYNC_LOCKED once every active phase has ended one (R280). -/
def PreCh.countLock (ch : PreCh) : PreCh :=
  if ch.active.all (fun h => (ch.leg h).ended) then
    let hit := ch.active.all (fun h => (ch.leg h).hit)
    let inN := if hit then min 16 (ch.lockRun + 1) else 0
    let outN := if hit then 0 else min 16 (ch.missRun + 1)
    { ch with
      legs := ch.legs.map (fun l => { l with ended := false, hit := false }), lockRun := inN, missRun := outN
      syncLocked := decide (inN = 16) || (ch.syncLocked && decide (outN < 16)) }
  else ch

/-- The end of a cycle of a phase, `cycleNs` after its turn-on: the band adapts, and the cycle counts for lock when its valley
falls within 2 % of T before the next turn-on (R280). -/
def PreCh.endCycle (ch : PreCh) (e : PreEntry) (h cycleNs : Nat) : PreCh :=
  let t := prePeriod e ch
  let b := clampI e.bandMin e.bandMax ((preBand e ch h * cycleNs).tdiv t)
  let hit := decide (50 * ((cycleNs : Int) - t).natAbs ≤ t) && !(ch.leg h).late
  let ch := ch.modLeg h (fun l => { l with inCycle := false, ended := true, hit := hit })
  PreCh.countLock { ch with
    band := modAt ch.band h (fun _ => b), shedCycle := if ch.shed = some h then ch.shedCycle + 1 else ch.shedCycle }

/-! ## Regulation -/

/-- Regulation and verdicts of one sample of a switching channel (R284, R285, R290). -/
def Module.preRegulate (m : Module) (c : Nat) (bad : Bool) : Module :=
  let e := m.preCfg c
  let ch := m.pch c
  let v := ch.vOut
  let ch := if ch.state = 1 ∧ preBelow e ch.vTarget v = false then { ch with state := 2 } else ch
  let raw := if ch.state = 1 then preProbe e ch.vTarget v else preRamp e ch.vTarget v
  let iSet := if ch.disabled = [] then raw else min raw (((prePhases e ch).length : Int) * e.iCont)
  let reached := decide (ch.state ≠ 1 ∧ (ch.vTarget : Int) - e.doneBand ≤ v)
  let ch := { ch with iSet := iSet, done := ch.done || reached
                      state := if reached then 3 else ch.state
                      shortCount := if reached then 0 else ch.shortCount }
  let full := if ch.state = 2 ∧ iSet = e.iRun then (v :: ch.full).take 7814 else []
  let recent := if ch.state = 1 then [] else (v :: ch.recent).take 79
  let stall := decide (full.length = 7814) &&
    decide (2 * (v - full.getLastD v) * (e.cLink : Int) < e.iRun * 100000)
  let fell := recent.any (fun u => decide (0 < u ∧ 2 * v < u))
  let ch := ({ ch with full := full, recent := recent } : PreCh).adapt e
  let m := m.putPch c ch
  if fell then m.preFault c 1 else if stall then m.preFault c 2 else if bad then m.preFault c 5 else m

/-! ## Meanings -/

/-- PRECHARGE_START (R283, R291): Scarab's START reaches the PWI. -/
def execPrechargeStart (chan vTarget : Nat) (s : State) : Host.Outcome State Fault Refusal :=
  onModule s (fun m => if m.up .pwi ∧ m.leads then m.preStart chan vTarget else m)

/-- PRECHARGE_STOP (R291). -/
def execPrechargeStop (chan : Nat) (s : State) : Host.Outcome State Fault Refusal :=
  onModule s (fun m => if m.up .pwi then m.preStop chan else m)

/-- A decimation of both modulators of a channel: the filters, the voltages and the run of valid data (R278, Table 11-4). -/
def PreCh.sampled (ch : PreCh) (e : PreEntry) (bitsOut bitsSrc : Nat) : PreCh × Bool :=
  let o := ch.sdmOut.sample bitsOut
  let r := ch.sdmSrc.sample bitsSrc
  let vOut := preVolts e.scaleOut o.2.1
  let vSrc := preVolts e.scaleSrc r.2.1
  let bad := preSenseBad e.scaleOut vOut o.2.2 || preSenseBad e.scaleSrc vSrc r.2.2
  ({ ch with
      sdmOut := o.1, sdmSrc := r.1, vOut := vOut, vSrc := vSrc, volts := true
      validRun := if bad then 0 else min 782 (ch.validRun + 1) }, bad)

/-- SDM_SAMPLE (R278, R284, R285, R287, R290): 256 clocks of both modulators, 12.8 us, as their bits in order from bit 0. -/
def execSdmSample (chan bitsOut bitsSrc : Nat) (s : State) : Host.Outcome State Fault Refusal :=
  onModule s (fun m =>
    if m.up .pwi then
      let r := (m.pch chan).sampled (m.preCfg chan) bitsOut bitsSrc
      let m := { m with pre := modAt m.pre chan (fun _ => r.1) }
      if r.1.driven then m.preRegulate chan r.2
      else if r.1.state = 4 ∧ r.2 ∧ m.leads then m.preFault chan 5
      else m
    else m)

/-- V_OUT as the manifest and the records carry it: not available before the first decimation (R12). -/
def PreCh.vOutField (ch : PreCh) : Nat := if ch.volts then ch.vOut.toNat else naU32

/-- VOUT_LATCH (R278): every channel's V_OUT at the sample instant, for the manifest. -/
def execVoutLatch (s : State) : Host.Outcome State Fault Refusal :=
  onModule s (fun m =>
    if m.up .pwi then
      { m with pre := m.pre.map (fun ch => { ch with vLatch := ch.vOutField })
               sweep := { m.sweep with vOutIn := m.sweep.vOutNow, vOutNow := m.pre.map PreCh.vOutField } }
    else m)

/-- PHASE_CYCLE (R276, R279, R280): of an active phase, its turn-on instant, a phase current at a peak or a valley, or the time
both its outputs have been low. -/
def PreCh.cycle (ch : PreCh) (e : PreEntry) (h : Nat) (event : PhaseEvent) (current : Int) (cycleNs : Nat) : PreCh :=
  let i := ch.share e h
  let b : Rat := preBand e ch h
  let l := ch.leg h
  match event with
  | .turnOn at_ =>
    if ch.slotAt e h ≠ some at_ then ch
    else if l.inCycle ∧ l.off = false then ch.modLeg h (fun l => { l with late := true })
    else ch.beginCycle h
  | .peak =>
    if l.inCycle ∧ l.off = false ∧ i + b / 2 ≤ (current : Rat) then ch.drivePhase h (false, true) else ch
  | .valley =>
    let low := max 0 (i - b / 2)
    if l.inCycle ∧ l.off = false ∧ (current : Rat) ≤ low then
      let ch := ch.endCycle e h cycleNs
      if l.late then ch.beginCycle h
      else if low = 0 then ch.drivePhase h (false, false) else ch
    else ch
  | .lowFor ns => if 5 * e.deadTime ≤ ns then ch.deadOver h else ch

/-- PHASE_CYCLE. -/
def execPhaseCycle (chan phase : Nat) (event : PhaseEvent) (current : Int) (cycleNs : Nat) (s : State) :
    Host.Outcome State Fault Refusal :=
  onModule s (fun m =>
    if m.up .pwi ∧ (m.pch chan).driven ∧ phase ∈ (m.pch chan).active then
      { m with pre := modAt m.pre chan (fun ch => ch.cycle (m.preCfg chan) phase event current cycleNs) }
    else m)

/-- SYNC_EDGE (R280): a SYNC rising edge, with the measured period. -/
def execSyncEdge (periodNs : Nat) (s : State) : Host.Outcome State Fault Refusal :=
  onModule s (fun m =>
    if m.up .pwi then
      let m : Module :=
        { m with pre := m.pre.map (fun ch => { ch with period := some periodNs, syncLost := false, enabledSync := true }) }
      m.clear .pwi cSyncLost
    else m)

/-- SYNC_LOST (R280): no edge for 100 us; the slots run from the PWI's own timer. -/
def execSyncLost (s : State) : Host.Outcome State Fault Refusal :=
  onModule s (fun m =>
    if m.up .pwi then
      let m : Module := { m with pre := m.pre.map (fun ch => { ch with syncLost := true }) }
      m.raise .pwi cSyncLost
    else m)

/-- A rotation boundary of a running channel (R281, R287): the slots advance, a phase that was being shed leaves, and one more may
be shed. -/
def PreCh.rotated (ch : PreCh) (e : PreEntry) : PreCh :=
  let gone := ch.shed
  let ch := match gone with | some h => ch.quiet h | none => ch
  let ch := { ch with
    rot := if e.rotate = 0 then ch.rot else (ch.rot + 1) % 12
    active := ch.active.filter (fun h => some h ≠ gone), shedCycle := 0 }
  ({ ch with shed := if e.shedEn ∧ ch.maxReq < ch.active.length then ch.highest else none, maxReq := 0 } : PreCh).adapt e

/-- ROTATION_BOUNDARY. -/
def execRotationBoundary (chan : Nat) (s : State) : Host.Outcome State Fault Refusal :=
  onModule s (fun m =>
    if m.up .pwi ∧ (m.pch chan).driven then
      { m with pre := modAt m.pre chan (fun ch => ch.rotated (m.preCfg chan)) }
    else m)

/-- FAST_LIMIT (R288): a crossing of I_FAST drops the phase's H output and keeps the phase off until its next turn-on; sixteen
within 1 ms are a SHORT. -/
def execFastLimit (chan phase : Nat) (s : State) : Host.Outcome State Fault Refusal :=
  onModule s (fun m =>
    if m.up .pwi ∧ m.leads then
      let ch := m.pch chan
      let win := (m.time.now :: ch.fastWin).filter (fun t => m.time.now < t + 1000000)
      let ch := { (ch.quiet phase).modLeg phase (fun l => { l with off := true }) with
        fastCount := bump16 ch.fastCount, fastWin := if 16 ≤ win.length then [] else win }
      let m := { m with pre := modAt m.pre chan (fun _ => ch) }
      if 16 ≤ win.length then m.preFault chan 1 else m
    else m)

/-- One phase of R289: its accumulator after 10 us at an RMS current, A^2 ms. -/
def preAcc (e : PreEntry) (acc : Rat) (rms : Int) : Rat :=
  max 0 (acc + ((rms : Rat) * rms - (e.iCont : Rat) * e.iCont) / 1000000 / 100)

/-- Phases lost to OVERLOAD leave the run (R289). -/
def PreCh.overloaded (ch : PreCh) (e : PreEntry) (out : List Nat) : PreCh :=
  let ch := out.foldl PreCh.quiet ch
  let ch := { ch with
    disabled := addAll ch.disabled out, active := ch.active.filter (fun h => h ∉ out)
    shed := if ch.shed.any (fun h => decide (h ∈ out)) then none else ch.shed }
  ({ ch with iSet := min ch.iSet (((prePhases e ch).length : Int) * e.iCont) } : PreCh).adapt e

/-- SLOW_LIMIT_TICK (R278, R289): 10 us of phase currents, their means and their RMS values in mA. -/
def execSlowLimitTick (chan : Nat) (means rms : List Int) (s : State) : Host.Outcome State Fault Refusal :=
  onModule s (fun m =>
    if m.up .pwi then
      let e := m.preCfg chan
      let ch := m.pch chan
      let acc := ch.acc.zipIdx.map (fun (p : Rat × Nat) => preAcc e p.1 (rms.getD p.2 0))
      let out := ch.active.filter (fun h => decide ((e.i2tMax : Rat) < acc.getD h 0))
      let ch := { ch with acc := acc, current := means }
      if ch.driven ∧ out ≠ [] then
        let ch := ch.overloaded e out
        let m := { m with pre := modAt m.pre chan (fun _ => ch) }
        if prePhases e ch = [] then m.preFault chan 3 else m
      else { m with pre := modAt m.pre chan (fun _ => ch) }
    else m)

/-- PROBE_TIMEOUT (R284, R286), `ms` after PROBE began: at T_PROBE the verdict is SHORT while I_SET still equals I_FLOOR, and at
10 x T_PROBE in any case. -/
def execProbeTimeout (chan ms : Nat) (s : State) : Host.Outcome State Fault Refusal :=
  onModule s (fun m =>
    let e := m.preCfg chan
    let ch := m.pch chan
    if m.up .pwi ∧ ch.driven ∧ ch.state = 1 ∧ ((ms = e.tProbe ∧ ch.iSet = preFloor e) ∨ 10 * e.tProbe ≤ ms) then
      m.preFault chan 1
    else m)

/-- RETRY_DELAY_EXPIRE (R286): a new run with the same V_TARGET if the START stands, else OFF. -/
def execRetryDelayExpire (chan : Nat) (s : State) : Host.Outcome State Fault Refusal :=
  onModule s (fun m =>
    if m.up .pwi ∧ m.leads ∧ (m.pch chan).state = 4 then
      if (m.pch chan).stands ∧ m.preUsed chan then m.preBegin chan else m.putPch chan { m.pch chan with state := 0 }
    else m)

/-- DRIVER_FAULT (R290): PRE_FLT_N_c low for 1 us. `same` says that another fault of the channel was detected in the same
10 us: DRIVER wins over it, and SHORT_COUNT does not change. -/
def execDriverFault (chan : Nat) (same : Bool) (s : State) : Host.Outcome State Fault Refusal :=
  onModule s (fun m =>
    if m.up .pwi ∧ m.leads then
      let m : Module := if same then { m with pre := modAt m.pre chan PreCh.unshort } else m
      m.preFault chan 4
    else m)

/-- SRC_LOW (R290): V_SRC below V_OUT + SRC_MARGIN / 2 for 10 ms while switching. -/
def execSrcLow (chan : Nat) (s : State) : Host.Outcome State Fault Refusal :=
  onModule s (fun m => if m.up .pwi ∧ (m.pch chan).driven then m.preFault chan 6 else m)

/-- PRECHARGE_RESUME (R292): after a PWI reset or a change of leader, from the run record and the measured V_OUT. -/
def execPrechargeResume (chan vOut : Nat) (s : State) : Host.Outcome State Fault Refusal :=
  onModule s (fun m =>
    let ch : PreCh := { m.pch chan with vOut := (vOut : Int), volts := true }
    let e := m.preCfg chan
    if m.up .pwi ∧ m.leads ∧ m.preUsed chan ∧ ch.switching ∧ ch.preEn = false then
      let seg := preSegment e ch.vTarget vOut
      let done := decide (seg = 2 ∧ ch.vTarget ≤ vOut + e.doneBand)
      m.putPch chan { ch.low with
        state := if done then 3 else seg, done := done, preEn := true
        probeAt := m.time.now, shortCount := ch.shortCount
        active := if e.shedEn then (prePhases e ch).take e.minPhases else prePhases e ch
        iSet := if seg = 1 then preFloor e else 0 }
    else m)

/-- A millisecond passes: every dead time, at most 500 ns, is over. -/
def PreCh.rested (ch : PreCh) : PreCh := (List.range 4).foldl PreCh.deadOver ch

end Sys2Proof.Machine
end

