-- ==== Sys2Proof/Machine/Switch.lean ====
section
/-! DEFINITION. The switch island (chapter 12, R49): 24 protected high-side channels, their protection, their
watchdog and their latches. -/

namespace Sys2Proof.Machine

/-- A channel. -/
def Module.swc (m : Module) (n : Nat) : SwCh := m.sw.chans.getD n {}

/-- A channel rewritten. -/
def Module.modSw (m : Module) (n : Nat) (f : SwCh → SwCh) : Module :=
  { m with sw := { m.sw with chans := modAt m.sw.chans n f } }

/-- A channel's entry (Table 12-5). -/
def Module.swCfg (m : Module) (n : Nat) : SwEntry := m.cfg.switches.getD n {}

/-- The feed of a channel (R296). -/
def feedOf (n : Nat) : Nat := n / 12

/-- The bay whose BAY_SWITCH entries name a channel (R307). -/
def Module.seqBay (m : Module) (n : Nat) : Option Nat :=
  (List.range 4).find? (fun b => decide (n ∈ m.cfg.baySwitch.getD b []))

/-- What every change of state drops: the present attempt and what it waits for. -/
def SwCh.calm (ch : SwCh) : SwCh :=
  { ch with blankOver := false, inLimit := false, driveDone := false, prior := none, dipWasOn := false, dipPause := false
            afterShort := false, afterThermal := false, thermalOn := false, ready := false }

/-- OFF. -/
def SwCh.off (ch : SwCh) : SwCh := { ch.calm with state := 0, shortNow := 0 }

/-- One attempt begins, at a local time in ms. -/
def SwCh.attempt (ch : SwCh) (now : Nat) : SwCh := { ch.calm with state := 1, began := now }

/-- The duty of a channel's output, in % (Table 12-2): full drive or PWM. A COIL pulls in at full drive and holds at
ECON_DUTY; a MOTOR ramps linearly over T_RAMP. -/
def Module.swDuty (m : Module) (n : Nat) : Nat :=
  let ch := m.swc n
  let e := m.swCfg n
  if ch.state = 2 then (if e.load = .coil then e.econDuty else 100)
  else if ch.state = 1 then
    if e.load = .motor ∧ ch.driveDone = false then min 100 (100 * (m.ms - ch.began) / e.tRamp)
    else if e.load = .coil ∧ ch.driveDone then e.econDuty
    else 100
  else 0

/-- A channel in turn-on or waiting is PAUSED (R301), by a dip of its feed or by its die (R312). -/
def SwCh.pause (ch : SwCh) (dip : Bool) : SwCh :=
  if ch.state = 1 ∨ ch.state = 3 then { ch with state := 4, prior := some ch.state, dipPause := dip } else ch

/-- A channel's feed lies below 9 V (R49). -/
def Module.dipped (m : Module) (n : Nat) : Bool := m.sw.dip.getD (feedOf n) false

/-- The die of a channel's group is above its limit (R301). -/
def Module.groupHot (m : Module) (n : Nat) : Bool := m.sw.groupHot.getD (n / 4) false

/-- Nothing starts while the feed or the die forbids it. -/
def Module.hold (m : Module) (n : Nat) (ch : SwCh) : SwCh :=
  if m.dipped n then ch.pause true else if m.groupHot n then ch.pause false else ch

/-- A new turn-on with a full budget (R297, R303); none in a module whose outputs parking has switched off (R358). -/
def Module.turnOn (m : Module) (n : Nat) : Module :=
  if m.sup.outputsOff then m
  else m.modSw n (fun ch => m.hold n { ch.attempt m.ms with attempts := 0, shortNow := 0 })

/-- A latch: output off, the commanded state kept, WARNING with the cause (R308). -/
def Module.latchSw (m : Module) (n cause : Nat) : Module :=
  let m := m.modSw n (fun ch => { ch.calm with state := 5, cause := cause, shortNow := 0 })
  m.raise .swi cSwitchLatched sevWarning scSwitch n cause (int32s [(cause : Int)])

/-- A LAMP attempt ends without a short: another one follows unless the attempts are used up (R303). -/
def Module.lampAgain (m : Module) (n : Nat) : Module :=
  let ch := m.swc n
  if (m.swCfg n).lampRetries ≤ ch.attempts then m.latchSw n 3
  else m.modSw n (fun ch => m.hold n { ch.calm with state := 3, shortNow := 0 })

/-- A cut-off of R299. -/
def Module.cutOff (m : Module) (n : Nat) : Module :=
  if (m.swCfg n).load = .lamp ∧ (m.swc n).state = 1 then m.lampAgain n else m.latchSw n 2

/-- A counted attempt of a LAMP starts (R303). -/
def Module.countedAttempt (m : Module) (n : Nat) : Module :=
  let ch := m.swc n
  if (m.swCfg n).lampRetries ≤ ch.attempts then m.latchSw n 3
  else m.modSw n (fun ch => m.hold n { ch.attempt m.ms with attempts := ch.attempts + 1 })

/-- The restart a waiting channel makes once what it waits for has come (R298, R300, R303). -/
def Module.restartSw (m : Module) (n : Nat) : Module :=
  let ch := m.swc n
  if ch.afterShort then m.modSw n (fun ch => m.hold n (ch.attempt m.ms))
  else if ch.afterThermal ∧ (ch.thermalOn ∨ (m.swCfg n).load ≠ .lamp) then m.latchSw n 4
  else m.countedAttempt n

/-- What a waiting channel waits for has come: it restarts, or, PAUSED, restarts when the pause ends. -/
def Module.cameSw (m : Module) (n : Nat) : Module :=
  if (m.swc n).state = 3 then m.restartSw n
  else if (m.swc n).state = 4 ∧ (m.swc n).prior = some 3 then m.modSw n (fun ch => { ch with ready := true })
  else m

/-- A PAUSED channel continues where it stopped (R301, R312). -/
def Module.unpause (m : Module) (n : Nat) : Module :=
  let ch := m.swc n
  if ch.state ≠ 4 ∨ ch.dipWasOn then m
  else
    let m := m.modSw n (fun ch => { ch with state := ch.prior.getD 1, prior := none, dipPause := false })
    if ch.ready then m.restartSw n else m

/-- A channel that has been told a commanded state (R307 to R309): a latched channel refuses ON and keeps its commanded
state, and an UNUSED one is commanded off. -/
def SwCh.told (ch : SwCh) (m : Module) (n : Nat) (on : Bool) : SwCh :=
  { ch with commanded := if on ∧ ch.state = 5 then ch.commanded else on && decide ((m.swCfg n).load ≠ .unused)
            failActive := false, partnerOn := ch.partnerOn && on }

/-- A commanded state applied to a channel (R307 to R309, R314). -/
def Module.applySw (m : Module) (n : Nat) (on : Bool) : Module :=
  let m := m.modSw n (fun ch => ch.told m n on)
  let ch := m.swc n
  if (m.swCfg n).load = .unused then m.modSw n SwCh.off
  else if ch.state = 5 then m
  else if m.sup.outputsOff then m.modSw n SwCh.off
  else if on = false then m.modSw n SwCh.off
  else if m.follows then
    if ch.state = 0 ∨ ch.state = 1 ∨ ch.state = 3 then
      if ch.partnerOn then
        m.modSw n (fun ch => if m.dipped n then { ch.calm with state := 4, dipWasOn := true, dipPause := true }
                             else { ch.calm with state := 2 })
      else m.modSw n SwCh.off
    else m
  else if ch.state = 0 then m.turnOn n
  else m

/-- The stored fail-safe state of a channel taken (R310): a latched channel stays off. -/
def Module.failSw (m : Module) (n : Nat) : Module :=
  let m := m.modSw n (fun ch => { ch with failActive := true })
  if (m.swc n).state = 5 then m
  else
    match m.sw.failsafe.getD n .off with
    | .off => m.modSw n SwCh.off
    | .on => if (m.swc n).state = 0 then m.turnOn n else m
    | .hold => m

/-- All channels in turn. -/
def Module.eachSw (m : Module) (f : Module → Nat → Module) : Module := (List.range 24).foldl f m

/-- The latch of a channel cleared (R308); a commanded ON begins a new turn-on. -/
def Module.resetLatch (m : Module) (n : Nat) : Module :=
  let was := decide ((m.swc n).state = 5)
  let m := m.modSw n (fun ch => { ch with shorts := 0, cause := 0, state := if ch.state = 5 then 0 else ch.state })
  if was then
    let m := m.clear .swi cSwitchLatched scSwitch n
    m.applySw n (m.swc n).commanded
  else m

/-- The SWI starts with every channel in its stored fail-safe state, HOLD restoring the commanded state (R74, R310, R312),
unless both its feeds are below their threshold: then it starts with their return (R49). -/
def Module.swiStart (m : Module) : Module :=
  if m.sw.noFeed then m
  else
    let m : Module := { m with sw := { m.sw with powered := true } }
    m.eachSw (fun m n =>
      let m := m.failSw n
      if m.sw.failsafe.getD n .off = .hold ∧ (m.swc n).commanded ∧ (m.swc n).state = 0 then m.turnOn n else m)

/-- The switch controller is serving (R311, R312). -/
def Module.swiServes (m : Module) : Bool := m.sw.powered && m.up .swi

/-- A new leader continues from the commanded image, and a turn-on starts anew with a full budget (R313, R314). -/
def Module.takeSwitches (m : Module) : Module :=
  if m.swiServes && !m.sw.expired then m.eachSw (fun m n => m.applySw n (m.sw.image.getD n false)) else m

/-! ## Meanings -/

/-- VSW_FEED_DIP (R49, R312): the feed's outputs go off with their commanded states kept. -/
def execVswFeedDip (feed : Nat) (s : State) : Host.Outcome State Fault Refusal :=
  onModule s (fun m =>
    { m with sw := { m.sw with
      dip := modAt m.sw.dip feed (fun _ => true)
      chans := m.sw.chans.zipIdx.map (fun (p : SwCh × Nat) =>
        if feedOf p.2 = feed then
          if p.1.state = 2 then { p.1 with state := 4, dipWasOn := true, dipPause := true }
          else if p.1.state = 4 then { p.1 with dipPause := true }
          else p.1.pause true
        else p.1) } })

/-- VSW_FEED_RETURN (R312): channels in turn-on continue, channels in steady ON begin a new turn-on. -/
def execVswFeedReturn (feed : Nat) (s : State) : Host.Outcome State Fault Refusal :=
  onModule s (fun m =>
    let m : Module := { m with sw := { m.sw with dip := modAt m.sw.dip feed (fun _ => false) } }
    m.eachSw (fun m n =>
      let ch := m.swc n
      if feedOf n = feed ∧ ch.state = 4 ∧ ch.dipPause then
        if ch.dipWasOn then
          if m.follows ∧ ch.failActive = false then
            m.modSw n (fun ch => if ch.partnerOn then { ch.calm with state := 2 } else ch.off)
          else m.turnOn n
        else if m.groupHot n then m.modSw n (fun ch => { ch with dipPause := false })
        else m.unpause n
      else m))

/-- SWI_SUPPLY_RESET (R49): both feeds below 7.0 V; what the non-volatile image holds stays. -/
def execSwiSupplyReset (s : State) : Host.Outcome State Fault Refusal :=
  onModule s (fun m =>
    let m := m.modIsl .swi (fun i => { i with up := false, epoch := (i.epoch + 1) % 256 })
    { m with sw := { m.sw with
      powered := false, noFeed := true, expired := false, suspended := false
      chans := m.sw.chans.map (fun ch => { ch.off with state := if ch.cause = 0 then 0 else 5, failActive := false
                                                       partnerOn := false, offRun := 0 }) } })

/-- SWI_SUPPLY_RESTART (R49, R312): a feed is back above 8.0 V, and every channel takes its fail-safe state; HOLD restores the
commanded state. -/
def execSwiSupplyRestart (s : State) : Host.Outcome State Fault Refusal :=
  onModule s (fun m =>
    if m.sw.powered then m
    else
      let m := m.modIsl .swi (fun i => { i with up := true })
      Module.swiStart { m with sw := { m.sw with noFeed := false } })

/-- SW_REFRESH (R309, R310, R312 to R314): a refresh with a valid check restarts the watchdog; the VSI's carries the image, and
the leader's image and the follower's currents go to the partner with it.
The operands give the currents and output voltages that the SWI reports with it (R318). -/
def execSwRefresh (source : RefreshFrom) (checkOk : Bool) (currents : List Int) (volts : List Nat) (s : State) :
    Host.Outcome State Fault Refusal :=
  onModule s (fun m =>
    if checkOk ∧ m.swiServes ∧ (if source = .vsi then m.up .vsi else m.up .mgi) then
      let m : Module := { m with sw := { m.sw with
        expired := false, suspended := false
        chans := m.sw.chans.zipIdx.map (fun (p : SwCh × Nat) =>
          { p.1 with current := currents.getD p.2 p.1.current, vOut := volts.getD p.2 p.1.vOut }) } }
      let m := m.emit (.refresh (if source = .vsi then some m.sw.image else none))
      let m := if m.follows then m.emit (.pairImage none (m.sw.chans.map (·.current))) else m
      let m := if source = .vsi ∧ m.leads ∧ m.isPair then m.emit (.pairImage (some m.sw.image) []) else m
      if source = .vsi ∧ m.conf?.isSome ∧ m.sup.slot ≠ .invalid then
        m.eachSw (fun m n => m.applySw n (m.sw.image.getD n false))
      else m
    else m)

/-- SW_WATCHDOG_EXPIRE (R310): three periods without a valid refresh. -/
def execSwWatchdogExpire (s : State) : Host.Outcome State Fault Refusal :=
  onModule s (fun m =>
    if m.sw.powered ∧ m.sw.suspended = false then
      ({ m with sw := { m.sw with expired := true } } : Module).eachSw Module.failSw
    else m)

/-- SWITCH_SHORT_ATTEMPT (R298): the second short attempt in a row latches SHORT. -/
def execSwitchShortAttempt (chan : Nat) (s : State) : Host.Outcome State Fault Refusal :=
  onModule s (fun m =>
    let ch := m.swc chan
    if ch.state = 1 ∨ ch.state = 2 then
      let m := m.modSw chan (fun ch => { ch with shorts := bump8 ch.shorts })
      if ch.shortNow = 0 then
        m.modSw chan (fun ch => m.hold chan { ch.calm with
          state := 3, shortNow := 1, afterShort := true, attempts := if ch.state = 2 then 0 else ch.attempts })
      else m.latchSw chan 1
    else m)

/-- SHORT_GAP_EXPIRE (R298): the second attempt starts. -/
def execShortGapExpire (chan : Nat) (s : State) : Host.Outcome State Fault Refusal :=
  onModule s (fun m => if (m.swc chan).afterShort then m.cameSw chan else m)

/-- CURRENT_LIMIT_EXPIRE (R299): in current limit for 1 ms outside blanking. -/
def execCurrentLimitExpire (chan : Nat) (s : State) : Host.Outcome State Fault Refusal :=
  onModule s (fun m =>
    let ch := m.swc chan
    if ch.state = 2 ∨ (ch.state = 1 ∧ ch.blankOver) then m.cutOff chan else m)

/-- OVERLOAD_EXPIRE (R299): above I_TRIP for T_OVL, counted from the later of its start and the end of blanking. -/
def execOverloadExpire (chan : Nat) (s : State) : Host.Outcome State Fault Refusal :=
  onModule s (fun m =>
    let ch := m.swc chan
    if ch.state = 2 ∨ (ch.state = 1 ∧ ch.blankOver) then m.cutOff chan else m)

/-- BLANKING_END (R299): a channel still in current limit cuts off. -/
def execBlankingEnd (chan : Nat) (inLimit : Bool) (s : State) : Host.Outcome State Fault Refusal :=
  onModule s (fun m =>
    if (m.swc chan).state = 1 then
      let m := m.modSw chan (fun ch => { ch with blankOver := true, inLimit := inLimit })
      if inLimit then m.cutOff chan else m
    else m)

/-- JUNCTION_SHUTDOWN (R300): the channel cuts off and waits for its junction, unless it was the last attempt of a warm-up
(R303). -/
def execJunctionShutdown (chan : Nat) (s : State) : Host.Outcome State Fault Refusal :=
  onModule s (fun m =>
    let ch := m.swc chan
    if ch.state = 1 ∧ (m.swCfg chan).load = .lamp ∧ (m.swCfg chan).lampRetries ≤ ch.attempts then m.latchSw chan 3
    else if ch.state = 1 ∨ ch.state = 2 then
      m.modSw chan (fun ch => m.hold chan { ch.calm with
        state := 3, shortNow := 0, afterThermal := true, thermalOn := decide (ch.state = 2) })
    else m)

/-- JUNCTION_RESTART (R300, R303): a LAMP in turn-on makes an attempt, any other channel latches THERMAL. -/
def execJunctionRestart (chan : Nat) (s : State) : Host.Outcome State Fault Refusal :=
  onModule s (fun m => if (m.swc chan).afterThermal then m.cameSw chan else m)

/-- GROUP_DIE_LIMIT (R301): the group's channels in turn-on or waiting are PAUSED. -/
def execGroupDieLimit (group : Nat) (dieT : Int) (s : State) : Host.Outcome State Fault Refusal :=
  onModule s (fun m =>
    { m with sw := { m.sw with
      groupT := modAt m.sw.groupT group (fun _ => dieT), groupHot := modAt m.sw.groupHot group (fun _ => true)
      chans := m.sw.chans.zipIdx.map (fun (p : SwCh × Nat) => if p.2 / 4 = group then p.1.pause false else p.1) } })

/-- GROUP_DIE_RESUME (R301): PAUSED channels continue where they stopped. -/
def execGroupDieResume (group : Nat) (dieT : Int) (s : State) : Host.Outcome State Fault Refusal :=
  onModule s (fun m =>
    let m : Module := { m with sw := { m.sw with
      groupT := modAt m.sw.groupT group (fun _ => dieT), groupHot := modAt m.sw.groupHot group (fun _ => false) } }
    m.eachSw (fun m n => if n / 4 = group ∧ m.dipped n = false then m.unpause n else m))

/-- PAUSE_EXPIRE (R301): 2 s PAUSED; a pause of the feed has no limit (R312). -/
def execPauseExpire (chan : Nat) (s : State) : Host.Outcome State Fault Refusal :=
  onModule s (fun m =>
    let ch := m.swc chan
    if ch.state = 4 ∧ ch.dipPause = false then m.latchSw chan 4 else m)

/-- Place of a FAILSAFE in the order of shedding (R302). -/
def shedRank : SwFailsafe → Nat
  | .off => 0 | .hold => 1 | .on => 2

/-- Shedding of R302: from the ordered candidates, until the mean falls within the rating. -/
def Module.shedDown (m : Module) (cause limit : Nat) (means : List Int) : Int → List Nat → Module
  | _, [] => m
  | total, n :: rest =>
    if (limit : Int) < total then (m.latchSw n cause).shedDown cause limit means (total - means.getD n 0) rest
    else m

/-- GROUP_FEED_OVERLOAD (R302): 1 s means of every channel, mA. The channels that can be shed are those that drive their
output, or did so within the mean and wait (DEDUCED, log 178). -/
def execGroupFeedOverload (which : OverSet) (means : List Int) (s : State) : Host.Outcome State Fault Refusal :=
  onModule s (fun m =>
    let chans := (List.range 24).filter (fun n =>
      match which with
      | .group g => n / 4 = g
      | .feed f => feedOf n = f
      | .both => true)
    let (limit, cause) :=
      match which with
      | .group _ => (16000, 5)
      | .feed _ => (32000, 6)
      | .both => (48000, 6)
    let cand := chans.filter (fun n =>
      let st := (m.swc n).state
      st = 1 || st = 2 || ((st = 3 || st = 4) && decide (0 < means.getD n 0)))
    let order := sortBy (fun (n : Nat) => (shedRank (m.sw.failsafe.getD n .off) * 24 + (23 - n) : Nat)) cand
    m.shedDown cause limit means (sumI (chans.map (fun n => means.getD n 0))) order)

/-- LAMP_RETRY_START (R303): 5 ms after a cut-off at the end of blanking. -/
def execLampRetryStart (chan : Nat) (s : State) : Host.Outcome State Fault Refusal :=
  onModule s (fun m =>
    let ch := m.swc chan
    if (m.swCfg chan).load = .lamp ∧ ch.afterShort = false ∧ ch.afterThermal = false then m.cameSw chan else m)

/-- WARMUP_WINDOW_EXPIRE (R303): the window of 300 ms ends before turn-on succeeds. -/
def execWarmupWindowExpire (chan : Nat) (s : State) : Host.Outcome State Fault Refusal :=
  onModule s (fun m =>
    let ch := m.swc chan
    if (m.swCfg chan).load = .lamp ∧ (ch.state = 1 ∨ (ch.state = 3 ∧ ch.thermalOn = false)) then m.latchSw chan 3
    else m)

/-- TURN_ON_COMPLETE (R297): steady ON; the leader reports it (R314). A COIL or a MOTOR has ended its own drive phase. -/
def execTurnOnComplete (chan : Nat) (s : State) : Host.Outcome State Fault Refusal :=
  onModule s (fun m =>
    let load := (m.swCfg chan).load
    if (m.swc chan).state = 1 ∧ ((load ≠ .coil ∧ load ≠ .motor) ∨ (m.swc chan).driveDone) then
      let m := m.modSw chan (fun ch => { ch.calm with state := 2, shortNow := 0, driveDone := true })
      if m.leads ∧ m.isPair then m.emit (.pairSteady chan) else m
    else m)

/-- DRIVE_PHASE_END (R297): T_PULL or T_RAMP ends; the channel goes to economy PWM or full drive. -/
def execDrivePhaseEnd (chan : Nat) (s : State) : Host.Outcome State Fault Refusal :=
  onModule s (fun m =>
    if (m.swc chan).state = 1 then m.modSw chan (fun ch => { ch with driveDone := true }) else m)

/-- OPEN_LOAD_ON_EXPIRE (R305, R314): the 10 ms mean against I_OPEN; in a pair the leader tests the sum. -/
def execOpenLoadOnExpire (chan : Nat) (meanMa : Int) (s : State) : Host.Outcome State Fault Refusal :=
  onModule s (fun m =>
    let e := m.swCfg chan
    if (m.swc chan).state = 2 ∧ e.openOnEn ∧ m.follows = false then
      let sum := meanMa + (if m.isPair then m.sw.partnerCur.getD chan 0 else 0)
      let low := decide (sum < (e.iOpen : Int))
      let m := m.modSw chan (fun ch => { ch with openOn := low })
      m.setCond low .swi cOpenLoadOn sevWarning scSwitch chan
    else m)

/-- OFF_STATE_TEST (R306, R314): the readings at the end of the pull-up and of the pull-down phase. -/
def execOffStateTest (chan : Nat) (upHigh downHigh : Bool) (s : State) : Host.Outcome State Fault Refusal :=
  onModule s (fun m =>
    let ch := m.swc chan
    if ch.state = 0 ∧ (m.swCfg chan).openOffEn ∧ m.follows = false ∧ ch.partnerOn = false ∧
        (upHigh ∨ downHigh = false) then
      let found := if upHigh = false then 1 else if downHigh = false then 2 else 3
      let run := if ch.offLast = found then min 3 (ch.offRun + 1) else 1
      let m := m.modSw chan (fun ch => { ch with offLast := found, offRun := run })
      if run < 3 then m
      else if found = 1 then
        let m := m.modSw chan (fun ch => { ch with openOff := false, shortSup := false })
        (m.clear .swi cOpenLoadOff scSwitch chan).clear .swi cShortToSupply scSwitch chan
      else if found = 2 then
        (m.modSw chan (fun ch => { ch with openOff := true })).raise .swi cOpenLoadOff sevWarning scSwitch chan
      else
        (m.modSw chan (fun ch => { ch with shortSup := true })).raise .swi cShortToSupply sevWarning scSwitch chan
    else m)

/-- PARTNER_CHANNEL_ON (R314): the leader reports steady ON, and a follower's commanded channel turns on. -/
def execPartnerChannelOn (chan : Nat) (s : State) : Host.Outcome State Fault Refusal :=
  onModule s (fun m =>
    let m := m.modSw chan (fun ch => { ch with partnerOn := true })
    if m.follows ∧ m.swiServes ∧ (m.swc chan).state = 0 ∧ (m.swc chan).commanded then m.applySw chan true else m)

end Sys2Proof.Machine
end

