-- ==== Sys2Proof/Machine/Reads.lean ====
section
/-! DEFINITION. The records that the module gives out, byte by byte: Tables 07-11 to 07-13, 08-12, 08-13, 09-5, 11-6, 12-9,
13-5, 14-11, 15-11, 15-14 and 15-15, the scan of R384, and the data reads of group 0x02. -/

namespace Sys2Proof.Machine

/-! ## Cells (Tables 07-11, 08-12, 08-13) -/

/-- A rational as an unsigned field of `n` bytes, rounded and saturating; all ones is the not-available code and is never
written as a value (R12). -/
def satField (n : Nat) (q : Rat) : List Byte := le n (clampI 0 ((256 ^ n : Nat) - 2) (roundInt q)).toNat

/-- An impedance as a field, not available where there is none (R12, Table 00-6). -/
def impField (x : Option Nat) : List Byte := le 4 (match x with | some v => min v 0xFFFFFFFE | none => naU32)

/-- FLAGS of Table 07-2. -/
def Module.chargeFlags (m : Module) (e : Nat) : Nat :=
  let c := m.cell e
  bitsOf [c.provisional, c.countGap, c.balGap, c.capacityLow, c.reconciled, c.anchoredRest, decide (m.chg e < 0),
    decide (capMc c < m.chg e)]

/-- CELL_SOC (Table 07-11); before a cell's first base its SOC is not available (R12). -/
def Module.recCellSoc (m : Module) (e : Nat) : List Byte :=
  let c := m.cell e
  leI 8 (roundInt (m.chg e)) ++ le 2 (if waiting c then naU16 else m.socClamped e) ++
    (if waiting c then le 2 naU16 else satField 2 (c.sigma * 10000)) ++ [confOf c, m.chargeFlags e] ++
    zeros 2 ++ le 8 c.tAnchor

/-- IMP_FLAGS of Table 08-3. -/
def impFlags (c : CellSt) : Nat :=
  bitsOf [c.rohm25.isSome, c.rpol25.isSome && c.tauPol.isSome, c.rohmBase.isSome, c.impOutlier, c.impRise, c.restored]

/-- IMP_CONF (R222): the class of sqrt(ROHM_VAR) against 3 % and 10 % of ROHM_25, compared as squares. -/
def impConf (c : CellSt) : Nat :=
  match c.rohm25 with
  | none => 3
  | some r =>
    if c.rohmVar ≤ 9 * (r : Rat) * r / 10000 then 0 else if c.rohmVar ≤ (r : Rat) * r / 100 then 1 else 2

/-- ROHM_AGE: ROHM_25 against its baseline, 0.1 %. -/
def rohmAge (c : CellSt) : Nat :=
  match c.rohm25, c.rohmBase with
  | some r, some b => if b = 0 then naU16 else min 0xFFFE (roundInt (1000 * (r : Rat) / b)).toNat
  | _, _ => naU16

/-- CELL_IMP (Table 08-12). -/
def Module.recCellImp (m : Module) (e : Nat) : List Byte :=
  let c := m.cell e
  satField 4 (m.rOhm e) ++ satField 4 (m.rPol e) ++ le 2 (sat16 (m.tau e)) ++ [impConf c, impFlags c] ++
    impField c.rohm25 ++ impField c.rpol25 ++ le 2 (rohmAge c) ++ le 2 (sat16 c.fitN) ++ le 8 c.tFit

/-- CAP_FLAGS of Table 08-3. -/
def capFlags (c : CellSt) : Nat :=
  bitsOf [c.learnDue, c.nameplateOnly, c.clamped, c.capLost, c.writePending, c.capFade]

/-- CELL_CAP (Table 08-13). -/
def Module.recCellCap (m : Module) (e : Nat) : List Byte :=
  let c := m.cell e
  let np := (m.chEntry e).nameplate
  le 4 c.cap ++ le 4 np ++ le 2 (if np = 0 then 10000 else min 10000 (roundInt (10000 * (c.cap : Rat) / np)).toNat) ++
    satField 2 (10000 * sqrtF c.capVar) ++ le 2 (sat16 c.capUpdates) ++ [capFlags c, c.lastResult] ++ le 4 c.capVer ++
    zeros 4 ++ le 8 c.tUpdate

/-! ## Workers (Table 15-14) -/

/-- SLOT_STATE of a held slot (Table 04-11). -/
def slotState (s : SlotRx) : Nat :=
  s.fill % 4 + 4 * bitsOf [s.latched, s.turnFar, s.timeOk, s.resetSeen, s.lenMismatch]

/-- The part of a WORKER record from CELL_FLAGS on. -/
def workerBody (typ : WType) (s : SlotRx) : List Byte :=
  match typ, s.body with
  | .dzc24, .dzc b =>
    [b.flags % 256] ++ leI 2 b.stackDelta ++
    padTo 48 ((b.cellV.map (le 2)).flatten) ++ padTo 24 ((b.temp.map (leI 2)).flatten) ++ leI 2 (b.dieTemp.getD naTemp) ++
    zeros 10
  | .dzs2, .dzs b =>
    [b.flags % 256] ++ leI 2 naTemp ++ leI 4 b.iA ++ leI 4 b.iB ++ le 4 b.vBat ++ le 4 b.vBus ++ leI 4 b.meanA ++
    leI 4 b.meanB ++
    (le 1 b.contactors ++ le 1 b.mode ++ le 2 b.leaseLeft ++ le 1 b.flags ++ le 1 b.stepCount ++ zeros 3) ++ zeros 51
  | .dzc24, _ =>
    [0] ++ leI 2 naTemp ++ (List.replicate 24 (le 2 naU16)).flatten ++ (List.replicate 13 (leI 2 naTemp)).flatten ++ zeros 10
  | .dzs2, _ =>
    [0] ++ leI 2 naTemp ++ leI 4 naCurrent ++ leI 4 naCurrent ++ le 4 naU32 ++ le 4 naU32 ++ leI 4 naCurrent ++
    leI 4 naCurrent ++ zeros 60

/-- WORKER (Table 15-14): the newest used slot's values and their age. -/
def Module.recWorker (m : Module) (i : Nat) : List Byte :=
  let w := wkOfInst i
  let e := look {} m.cfg.workers w
  let x := m.wk w
  [w.1, w.2 - 1, typeCode e.typ, u8 x.held.age] ++ le 4 x.held.sweep ++
    (if x.held.valid then slotState x.held.slot else 0) :: workerBody e.typ (if x.held.valid then x.held.slot else {})

/-! ## Strings and bays (Tables 07-12, 07-13, 09-5, 15-15) -/

/-- STRING_SOC (Table 07-12). -/
def Module.recStringSoc (m : Module) (s : Nat) : List Byte :=
  let x := m.strE s
  let es := (m.cfg.cellsOf s).map (·.1)
  let cs := es.map m.cell
  let socs := (es.filter (fun e => !waiting (m.cell e))).map m.socClamped
  let flags := bitsOf [x.usable && decide (x.d ≤ 0), x.usable && decide (x.c ≤ 0), cs.any (·.capacityLow), cs.any (·.countGap),
    cs.any (·.provisional), m.strStale s]
  le 2 s ++ [m.strConf s, flags] ++
    (if x.usable then satField 2 x.r ++ satField 2 x.u else le 2 naU16 ++ le 2 naU16) ++
    le 2 ((leastN socs).getD naU16) ++ le 2 ((greatestN socs).getD naU16) ++ leI 8 (roundInt x.d) ++ leI 8 (roundInt x.c) ++
    le 2 x.posDis ++ le 2 x.posChg ++ leI 8 x.qStr ++ le 4 (m.sweep.estimated.getD 0) ++ zeros 4

/-- BAY_SOC (Table 07-13); 4 is the domain. -/
def Module.recBaySoc (m : Module) (b : Nat) : List Byte :=
  let x := m.bayE b
  let strs := if b = 4 then m.cfg.bays.flatMap (fun b => (m.socStrings b).1) else (m.socStrings b).1
  let strs := strs.filter (fun s => (m.strE s).usable)
  let flags := bitsOf [strs ≠ [] && strs.all (fun s => decide ((m.strE s).d ≤ 0)),
    strs ≠ [] && strs.all (fun s => decide ((m.strE s).c ≤ 0)), x.offline]
  [if b = 4 then 1 else 0, if b = 4 then 0 else b, if x.usable then x.conf else 0xFF, flags] ++
    (if x.usable then satField 2 x.r ++ satField 2 x.u else le 2 naU16 ++ le 2 naU16) ++ le 2 x.strings ++ zeros 2 ++
    leI 8 (if x.usable then roundInt x.d else 0) ++ leI 8 (if x.usable then roundInt x.c else 0) ++
    le 4 (m.sweep.estimated.getD 0)

/-- A limit in mA as a field: towards zero. -/
def limitField (q : Rat) : Int := truncInt q

/-- LIMIT (Table 09-5): a string, or 512 plus a bay. -/
def Module.recLimit (m : Module) (i : Nat) : List Byte :=
  let bay := decide (512 ≤ i)
  let dis := if bay then (m.bayE (i - 512)).pubDis else (m.strE i).pubDis
  let chg := if bay then (m.bayE (i - 512)).pubChg else (m.strE i).pubChg
  let val (l : DirLimit) (sign : Int) : List Byte := (l.vals.map (fun v => leI 4 (sign * limitField v))).flatten
  [if bay then 1 else 0, dis.cause + 16 * chg.cause] ++ le 2 (if bay then i - 512 else i) ++ [dis.pct, chg.pct] ++
    le 2 (dis.limiter.getD naU16) ++ val dis (-1) ++ val chg 1 ++ le 4 (m.sweep.verdicts.getD 0) ++
    le 2 (chg.limiter.getD naU16) ++ zeros 2

/-- STRING_STATE (Table 15-15). -/
def Module.recStringState (m : Module) (s : Nat) : List Byte :=
  let i := m.sInst s
  let d := (m.wk (m.cfg.dzsOf s)).dzs
  le 2 s ++ [i.state, i.event.getD 0xFF] ++ le 2 (i.step.getD naU16) ++
    [u8 i.faults.length, bitsOf [i.zeroHold, decide (s ∉ m.cfg.seq.noAutoClose), decide (s ∈ m.cfg.seq.holdStrings), m.strStale s],
      d.mode, d.contactors] ++ le 2 d.leaseLeft ++ le 4 (m.sweep.verdicts.getD 0)

/-- BAY_STATE (Table 15-15). -/
def Module.recBayState (m : Module) (b : Nat) : List Byte :=
  let i := m.bInst b
  [b, i.state, i.event.getD 0xFF, bitsOf [m.drainHeld b, m.tripInForce b]] ++ le 2 (i.step.getD naU16) ++
    le 2 (m.included b).length ++ le 2 (m.cfg.stringsOf b).length ++ [m.rep.causes.getD b 0, 0] ++
    le 4 (m.sweep.verdicts.getD 0)

/-! ## Rings, precharge, switches, Carapace and pair -/

/-- PORT_TONE of an end (Table 15-15). -/
def Module.portTone (m : Module) (r : Nat) (south : Bool) : Nat :=
  match m.ownPort r south with
  | none => 0xFF
  | some p => if (m.port p).enabled then toneCode (m.port p).tone else 3

/-- RING (Table 15-15). -/
def Module.recRing (m : Module) (r : Nat) : List Byte :=
  let x := m.ring r
  let w := m.cfg.ringW r
  let ends := m.servingEnds r
  let un := ((m.cfg.workersOf r).filter (fun (y : Wk × WorkerEntry) => (m.wk y.1).unreach)).length
  let quar := (x.segs.filter (fun (y : Nat × SegSt) => y.2.quarantined)).length
  [r, bitsOf [decide (ends.length = 2), decide (0 < un), decide (0 < quar), x.segs.any (fun (y : Nat × SegSt) => y.2.unstable)]] ++
    le 2 w ++ [m.portTone r false, m.portTone r true] ++
    le 2 (min x.part.north w) ++ le 2 (if x.part.south ≤ w then x.part.south else 0) ++ le 2 un ++ le 2 quar ++ zeros 2 ++
    le 4 x.frameTime ++ le 4 x.rereadSlots ++ le 4 m.sweep.j ++ zeros 4

/-- PRECHARGE (Table 11-6). -/
def Module.recPrecharge (m : Module) (c : Nat) : List Byte :=
  let ch := m.pch c
  let mask (l : List Nat) : List Bool := (List.range 4).map (fun h => decide (h ∈ l))
  [c, ch.state, ch.fault, bitsOf [ch.done, ch.syncLocked, ch.syncLost, ch.shed.isSome], bitsOf (mask ch.active ++ mask ch.disabled),
    u8 ch.shortCount] ++ le 2 (if ch.state = 4 then sat16 ((m.preRetryLeft c + 999) / 1000) else 0) ++ le 4 ch.vTarget ++
    le 4 ch.vLatch ++ le 4 (if ch.volts then ch.vSrc.toNat else naU32) ++ leI 4 (sumI ch.current) ++ le 2 ch.fastCount ++ zeros 2 ++ le 4 m.sweep.j

/-- SWITCH (Table 12-9); in a pair the current is the sum of both modules. -/
def Module.recSwitch (m : Module) (n : Nat) : List Byte :=
  let ch := m.swc n
  [n, ch.state, ch.cause, bitsOf [ch.commanded, ch.failActive, ch.openOn, ch.openOff, ch.shortSup, (m.seqBay n).isSome, ch.partnerOn]] ++
    leI 4 (ch.current + if m.isPair then m.sw.partnerCur.getD n 0 else 0) ++ le 4 ch.vOut ++ [u8 ch.attempts, u8 ch.shorts] ++
    leI 2 (m.sw.groupT.getD (n / 4) naTemp) ++ le 4 m.sweep.j ++ zeros 4

/-- CARAPACE (Table 13-5): the newest report. -/
def Module.recCarapace (m : Module) : List Byte :=
  let r := m.rep
  [r.state, r.flags, r.tripMask, r.dirPermit, r.toneLoss, 0, 0, 0] ++
    ((List.range 4).map (fun b => leI 4 (r.limDis.getD b 0) ++ leI 4 (r.limChg.getD b 0))).flatten ++ le 4 r.bank ++
    (List.range 4).map (fun b => r.causes.getD b 0) ++ le 4 r.inputs ++ zeros 4 ++ le 8 r.tReport

/-- The count of blocks of the state image (R347). -/
def imageCount : Nat := 25386

/-- PAIR (Table 14-11). -/
def Module.recPair (m : Module) : List Byte :=
  let p := m.pair
  let d := p.digests.headD (0, 0)
  [roleCode p.role, p.partnerRole.elim 0xFF roleCode, min (slotNo m.sup.slot) 2,
    bitsOf [p.tokenLow, m.sup.peerPresent, decide (m.sup.lever = .locked), p.keep.leverLocked, p.lanes.getD 0 false,
      p.lanes.getD 1 false, p.keep.ejectPending || m.sup.ejectLow, m.holds cTokenFault scModule 0]] ++
    le 2 ((p.resync.next - p.resync.lost.length) * 10000 / imageCount) ++ le 2 p.mismatches ++ le 4 d.1 ++ le 8 d.2 ++ le 2 p.handovers ++
    le 2 p.failovers ++ le 2 (sat16 ((m.time.now - p.lastValid) / 1000000)) ++ le 2 p.laneCrc ++ le 8 p.tRole ++ le 4 m.sweep.j

/-! ## DOMAIN.STATUS (Table 15-11) -/

/-- SEVERITY_LIVE: the highest severity among active rows. -/
def Module.severityLive (m : Module) : Nat := (greatestN (m.activeRows.map (fun (a : VKey × Rule) => a.2.severity))).getD 0

/-- The DOMAIN.STATUS record. -/
def Module.recStatus (m : Module) : List Byte :=
  let states := m.strNos.map (fun s => (m.sInst s).state)
  [m.domainState, roleCode m.pair.role, timeCode m.time.state, slotNo m.sup.slot] ++ le 4 (m.sweep.verdicts.getD 0) ++
    le 2 m.sweep.period ++ le 2 m.alertsLive ++
    (List.range 4).map (fun b => if b ∈ m.cfg.bays then (m.bInst b).state else 0xFF) ++
    le 2 (states.filter closedState).length ++ le 2 (states.filter (fun st => st = 7 ∨ st = 8)).length ++
    le 2 (m.strNos.filter m.strStale).length ++ [m.severityLive, 0] ++
    le 8 (if m.sets.active.state = 6 then m.sets.active.setId else 0) ++ le 8 m.plant ++
    le 8 (m.plantField m.dcp.bootAt)

/-! ## The scan of R384 -/

/-- The indexes of a scan that are returned, and the index at which it stops when not all fit. -/
def scanTake : Nat → List Nat → List Nat × Option Nat
  | 0, [] => ([], none)
  | 0, i :: _ => ([], some i)
  | _ + 1, [] => ([], none)
  | n + 1, i :: t => let r := scanTake n t; (i :: r.1, r.2)

/-- A read reply (Tables 15-12 and 15-13): `present` in index order, records of `size` bytes, an index space of `range`. -/
def readReply (sweep first count size range : Nat) (present : List Nat) (rec : Nat → List Byte) : Answer :=
  if count = 0 ∨ range ≤ first then (stParamRange, 0, [])
  else
    let stop := min (first + count) range
    let r := scanTake (1392 / (4 + size)) (present.filter (fun i => first ≤ i && i < stop))
    let upTo := r.2.getD stop
    let next := if r.2.isSome ∨ stop < range then upTo else naU32
    (stOk, if r.2.isSome then 8 else 0,
      le 4 sweep ++ le 4 first ++ le 2 (sat16 (upTo - first)) ++ le 2 r.1.length ++ le 4 next ++
      (r.1.map (fun i => le 4 i ++ rec i)).flatten)

/-- Present indexes of each record of Table 15-12, and its size, index space and contents. Kinds are the opcodes. -/
def Module.readTable (m : Module) (op : Nat) : Nat × Nat × List Nat × (Nat → List Byte) :=
  let chans := (sortBy (fun (x : Nat × ChannelEntry) => (x.1 : Int)) m.cfg.channels).map (·.1)
  let strs := (sortBy (fun (x : Nat) => (x : Int)) m.strNos)
  let mapped := decide (m.domainState ≠ 1)
  let only (l : List Nat) : List Nat := if mapped then l else []
  if op = 0x0201 then (24, 196608, only chans, m.recCellSoc)
  else if op = 0x0202 then (32, 196608, only chans, m.recCellImp)
  else if op = 0x0203 then (32, 196608, only chans, m.recCellCap)
  else if op = 0x0204 then (96, 8192, only (sortBy (fun (x : Nat) => (x : Int)) (m.cfg.workers.map (fun (w : Wk × WorkerEntry) => wkInst w.1))), m.recWorker)
  else if op = 0x0205 then (48, 512, only strs, m.recStringSoc)
  else if op = 0x0206 then (16, 512, only strs, m.recStringState)
  else if op = 0x0207 then (32, 5, only (m.cfg.bays ++ [4]), m.recBaySoc)
  else if op = 0x0208 then (16, 4, only m.cfg.bays, m.recBayState)
  else if op = 0x0209 then (40, 516, only (strs ++ m.cfg.bays.map (512 + ·)), m.recLimit)
  else if op = 0x020A then (32, 32, only m.cfg.rings, m.recRing)
  else if op = 0x020B then (32, 4, (List.range 4).filter (fun c => (m.preCfg c).phases ≠ 0), m.recPrecharge)
  else if op = 0x020C then (24, 24, (List.range 24).filter (fun n => (m.swCfg n).load ≠ .unused), m.recSwitch)
  else if op = 0x020D then (64, 1, [0], fun _ => m.recCarapace)
  else (40, 1, [0], fun _ => m.recPair)

/-- The sweep that a read reply names: the newest estimate for the records of the estimate and the held slots, else the
newest sweep whose verdict stage has ended. -/
def Module.readSweep (m : Module) (op : Nat) : Nat :=
  if op ∈ [0x0201, 0x0202, 0x0203, 0x0204, 0x0205, 0x0207] then m.sweep.estimated.getD 0
  else if op ∈ [0x0206, 0x0208, 0x0209] then m.sweep.verdicts.getD 0
  else m.sweep.j

/-- A data read of Table 15-12. -/
def Module.dataRead (m : Module) (op first count : Nat) : Answer :=
  let t := m.readTable op
  readReply (m.readSweep op) first count t.1 t.2.1 t.2.2.1 t.2.2.2

/-- A data read as a request. -/
def Module.readRequest (m : Module) (req : DcpReq) (op first count : Nat) : Module :=
  m.dcpRequest req op 8 true (fun m _ => (m, some (m.dataRead op first count)))

end Sys2Proof.Machine
end

