-- ==== Sys2Proof/Machine/Streams.lean ====
section
/-! DEFINITION. The data reads of group 0x02 (R384 to R386), the burst reads, and streams (R387, R388). -/

namespace Sys2Proof.Machine

/-- READ.CELL_SOC (R200, R384). -/
def execReadCellSoc (req : DcpReq) (first count : Nat) (s : State) : Host.Outcome State Fault Refusal :=
  onModule s (fun m => m.readRequest req 0x0201 first count)

/-- READ.CELL_IMP (R222, R384). -/
def execReadCellImp (req : DcpReq) (first count : Nat) (s : State) : Host.Outcome State Fault Refusal :=
  onModule s (fun m => m.readRequest req 0x0202 first count)

/-- READ.CELL_CAP (R222, R384). -/
def execReadCellCap (req : DcpReq) (first count : Nat) (s : State) : Host.Outcome State Fault Refusal :=
  onModule s (fun m => m.readRequest req 0x0203 first count)

/-- READ.WORKER (R384, R385). -/
def execReadWorker (req : DcpReq) (first count : Nat) (s : State) : Host.Outcome State Fault Refusal :=
  onModule s (fun m => m.readRequest req 0x0204 first count)

/-- READ.STRING_SOC (R200, R384). -/
def execReadStringSoc (req : DcpReq) (first count : Nat) (s : State) : Host.Outcome State Fault Refusal :=
  onModule s (fun m => m.readRequest req 0x0205 first count)

/-- READ.STRING_STATE (R384, R385). -/
def execReadStringState (req : DcpReq) (first count : Nat) (s : State) : Host.Outcome State Fault Refusal :=
  onModule s (fun m => m.readRequest req 0x0206 first count)

/-- READ.BAY_SOC (R200, R384). -/
def execReadBaySoc (req : DcpReq) (first count : Nat) (s : State) : Host.Outcome State Fault Refusal :=
  onModule s (fun m => m.readRequest req 0x0207 first count)

/-- READ.BAY_STATE (R384, R385). -/
def execReadBayState (req : DcpReq) (first count : Nat) (s : State) : Host.Outcome State Fault Refusal :=
  onModule s (fun m => m.readRequest req 0x0208 first count)

/-- READ.LIMIT (R233, R384). -/
def execReadLimit (req : DcpReq) (first count : Nat) (s : State) : Host.Outcome State Fault Refusal :=
  onModule s (fun m => m.readRequest req 0x0209 first count)

/-- READ.RING (R384, R385). -/
def execReadRing (req : DcpReq) (first count : Nat) (s : State) : Host.Outcome State Fault Refusal :=
  onModule s (fun m => m.readRequest req 0x020A first count)

/-- READ.PRECHARGE (R293, R384). -/
def execReadPrecharge (req : DcpReq) (first count : Nat) (s : State) : Host.Outcome State Fault Refusal :=
  onModule s (fun m => m.readRequest req 0x020B first count)

/-- READ.SWITCH (R318, R384). -/
def execReadSwitch (req : DcpReq) (first count : Nat) (s : State) : Host.Outcome State Fault Refusal :=
  onModule s (fun m => m.readRequest req 0x020C first count)

/-- READ.CARAPACE (R336, R384). -/
def execReadCarapace (req : DcpReq) (first count : Nat) (s : State) : Host.Outcome State Fault Refusal :=
  onModule s (fun m => m.readRequest req 0x020D first count)

/-- READ.PAIR (R361, R384). -/
def execReadPair (req : DcpReq) (first count : Nat) (s : State) : Host.Outcome State Fault Refusal :=
  onModule s (fun m => m.readRequest req 0x020E first count)

/-! ## Bursts (R386) -/

/-- Archived bursts of a string that have entered estimation, newest first. -/
def Module.archived (m : Module) (s : Nat) : List Burst := (m.burst s).archive.filter (fun b => b.entered.isSome)

/-- READ.BURST_LIST (R386). -/
def execReadBurstList (req : DcpReq) (string : Nat) (s : State) : Host.Outcome State Fault Refusal :=
  onModule s (fun m => m.dcpRequest req 0x0210 2 (decide (string < 512)) (fun m _ =>
    let l := (m.archived string).take 64
    (m, some (stOk, 0, le 2 l.length ++ zeros 6 ++ (l.map (fun b => le 8 (b.tStep))).flatten))))

/-- The 1,024 bytes of a block: 512 samples of 16 bits from a DZC-24, 256 of 32 bits from a DZS-2 (Table 05-18). -/
def blockBytes (typ : WType) (l : List Int) : List Byte :=
  padTo 1024 ((l.map (leI (if typ = .dzs2 then 4 else 2))).flatten)

/-- READ.BURST (R386): a burst, hop or block that the archive does not hold is NOT_FOUND. -/
def execReadBurst (req : DcpReq) (string hop block tStep : Nat) (s : State) : Host.Outcome State Fault Refusal :=
  onModule s (fun m => m.dcpRequest req 0x020F 16 (decide (string < 512 ∧ 1 ≤ hop ∧ hop ≤ 256 ∧ block < 24)) (fun m _ =>
    let l := m.archived string
    let found := if tStep = 0 then l.head? else l.find? (fun b => b.tStep = tStep)
    let w : Wk := ((m.cfg.str string).ring, hop)
    match found with
    | none => (m, some (stNotFound, 0, []))
    | some b =>
      match find b.blocks (hop, block) with
      | none => (m, some (stNotFound, 0, []))
      | some data =>
        (m, some (stOk, 0, le 8 (b.tStep) ++ [bitsOf [true, decide (b.skipped ≠ [])]] ++ zeros 7 ++
          blockBytes (look {} m.cfg.workers w).typ data))))

/-! ## Streams (R387, R388) -/

/-- The read whose records a stream of a sweep kind carries. -/
def kindOp (kind : Nat) : Nat := [0, 0, 0x0209, 0x0207, 0x0205, 0x0204, 0x0201].getD kind 0

/-- Bytes that a subscription sends for one sweep, as packets of full length but for the last. -/
def Module.streamBytes (m : Module) (kind first count : Nat) : Nat :=
  if kind = 1 then 36 + 24 + 4 + 48
  else if 2 ≤ kind ∧ kind ≤ 6 then
    let t := m.readTable (kindOp kind)
    let n := (t.2.2.1.filter (fun i => first ≤ i && i < first + count)).length
    let per := 1384 / (4 + t.1)
    let parts := max 1 ((n + per - 1) / per)
    parts * (36 + 24) + n * (4 + t.1)
  else 0

/-- RATE of a subscription, kbit/s: bytes per sent sweep × 8 ÷ (P × DECIMATE) (R387). -/
def Module.streamRate (m : Module) (kind decimate first count : Nat) : Nat :=
  (m.streamBytes kind first count * 8 + m.sweep.period * decimate - 1) / (m.sweep.period * decimate)

/-- The newest stored record of a series. -/
def Module.newestSeq (m : Module) (dom : Bool) : Option Nat :=
  greatestN ((m.jou.stored.map (·.2.seq)).filter (fun k => decide (domSeq k = dom)))

/-- STREAM.SUBSCRIBE (R387). -/
def execStreamSubscribe (req : DcpReq) (kind decimate sevMin first count destPort : Nat) (s : State) :
    Host.Outcome State Fault Refusal :=
  onModule s (fun m => m.dcpRequest req 0x0220 16
    (decide (1 ≤ kind ∧ kind ≤ 9 ∧ (6 < kind ∨ (1 ≤ decimate ∧ decimate ≤ 255)) ∧ (kind ≠ 7 ∨ sevMin ≤ 4)))
    (fun m x =>
      let t := m.readTable (kindOp kind)
      if 2 ≤ kind ∧ kind ≤ 6 ∧ (count = 0 ∨ t.2.1 ≤ first) then (m, some (stParamRange, 0, []))
      else
        let rate := m.streamRate kind (max 1 decimate) first count
        let mine := (m.dcp.subs.filter (fun d => d.session = x.id)).length
        let total := rate + (m.dcp.subs.map (·.rate)).foldl (· + ·) 0
        if 4 ≤ mine ∨ 16 ≤ m.dcp.subs.length ∨ m.cfg.network.streamBudget * 1000 < total then (m, some (stBusy, 0, []))
        else
          let id := m.dcp.nextSub
          ({ m with dcp := { m.dcp with
              nextSub := id % 65535 + 1
              subs := m.dcp.subs ++ [{ id := id, session := x.id, kind := kind, decimate := decimate, sevMin := sevMin
                                       first := first, count := count, destPort := destPort, rate := rate
                                       dst := x.src / 65536 * 65536 + destPort % 65536
                                       sentDom := m.newestSeq true, sentLoc := m.newestSeq false }] } },
           some (stOk, 0, le 2 id ++ zeros 2 ++ le 4 rate))))

/-- STREAM.UNSUBSCRIBE (R387); a subscription that the session does not hold is NOT_FOUND. -/
def execStreamUnsubscribe (req : DcpReq) (stream : Nat) (s : State) : Host.Outcome State Fault Refusal :=
  onModule s (fun m => m.dcpRequest req 0x0221 2 true (fun m x =>
    if m.dcp.subs.any (fun d => d.id = stream && d.session = x.id) then
      ({ m with dcp := { m.dcp with subs := m.dcp.subs.filter (fun d => !(d.id = stream && d.session = x.id)) } },
       some (stOk, 0, []))
    else (m, some (stNotFound, 0, []))))

/-- The request of a subscription (Table 15-16). -/
def subBytes (d : Subscr) : List Byte :=
  [d.kind, d.decimate, d.sevMin, 0] ++ le 4 d.first ++ le 4 d.count ++ le 2 d.destPort ++ zeros 2

/-- STREAM.LIST (R387): the subscriptions of the session. -/
def execStreamList (req : DcpReq) (s : State) : Host.Outcome State Fault Refusal :=
  onModule s (fun m => m.dcpRequest req 0x0222 0 true (fun m x =>
    let l := m.dcp.subs.filter (fun d => d.session = x.id)
    (m, some (stOk, 0, [l.length, 0, 0, 0] ++ (l.map (fun d => le 2 d.id ++ zeros 2 ++ subBytes d)).flatten))))

/-- A 32-byte bitmap of alert sources. -/
def bitmapBytes (l : List Nat) : List Byte :=
  (List.range 32).map (fun i => bitsOf ((List.range 8).map (fun b => decide (8 * i + b ∈ l))))

/-- The journal record header and payload as bytes (Table 17-1), with its CRC. -/
def recBytes (r : JRec) : List Byte :=
  let head := le 8 r.seq ++ le 8 r.plant ++ le 8 r.local_ ++ le 4 r.sweep ++ le 2 r.code ++
    [r.severity % 8, bitsOf [r.degraded, r.held, r.fall, r.borrowed], r.source, r.origin + 4 * r.role, r.payload.length, r.scope] ++
    le 4 r.inst ++ le 2 r.row ++ le 2 r.alert ++ leI 4 r.value ++ le 8 r.setId ++ zeros 4
  head ++ le 4 (crc32c (head ++ r.payload)) ++ r.payload

/-- Records packed into parts of at most `room` bytes each: the records of the part under way, and those left. -/
def packRecs (room : Nat) : List (List Byte) → List JRec → List (List (List Byte))
  | part, [] => if part = [] then [] else [part]
  | part, r :: t =>
    let b := recBytes r
    if part ≠ [] ∧ room < part.flatten.length + b.length then part :: packRecs room [b] t
    else packRecs room (part ++ [b]) t

/-- A record of a JOURNAL stream: of its severities, and written since its last packet. -/
def Subscr.wants (d : Subscr) (r : JRec) : Bool :=
  decide (d.sevMin ≤ r.severity) &&
    (match if domSeq r.seq then d.sentDom else d.sentLoc with
     | some k => decide (k < r.seq)
     | none => true)

/-- Records of a stream packet in its parts (R388). JOURNAL carries the records written since its last packet. -/
def Module.streamParts (m : Module) (d : Subscr) : List (List Byte) :=
  if d.kind = 1 then [le 4 (m.readSweep 0x0206) ++ zeros 4 ++ le 2 1 ++ le 2 1 ++ le 4 naU32 ++ m.recStatus]
  else if 2 ≤ d.kind ∧ d.kind ≤ 6 then
    let op := kindOp d.kind
    let t := m.readTable op
    let per := 1384 / (4 + t.1)
    let ids := t.2.2.1.filter (fun i => d.first ≤ i && i < d.first + d.count)
    let n := max 1 ((ids.length + per - 1) / per)
    (List.range n).map (fun k =>
      let part := (ids.drop (k * per)).take per
      let from_ := if k = 0 then d.first else part.headD d.first
      let upTo := if k + 1 < n then (ids.drop ((k + 1) * per)).headD 0 else min (d.first + d.count) t.2.1
      let next := if k + 1 = n ∧ upTo = t.2.1 then naU32 else upTo
      le 4 (m.readSweep op) ++ le 4 from_ ++ le 2 (sat16 (upTo - from_)) ++ le 2 part.length ++ le 4 next ++
      (part.map (fun i => le 4 i ++ t.2.2.2 i)).flatten)
  else
    let head (n : Nat) : List Byte := le 4 (m.readSweep 0x0206) ++ zeros 4 ++ le 2 n ++ le 2 n ++ le 4 naU32
    if d.kind = 7 then
      (packRecs 1384 [] ((m.jou.stored.map (·.2)).filter d.wants)).map (fun part => head part.length ++ part.flatten)
    else if d.kind = 8 then [head 1 ++ bitmapBytes m.live ++ bitmapBytes m.al.sticky ++ bitmapBytes m.al.mask]
    else [head 1 ++ m.recCarapace]

/-- A stream packet leaves: the session's stream sequence advances, and DROPPED tells of packets lost before it. -/
def Module.sendPart (m : Module) (d : Subscr) (parts : Nat) (p : Nat × List Byte) : Module :=
  match m.session? d.session with
  | none => m
  | some x =>
    let seq := x.streamSeq + 1
    if 0x80000000 ≤ seq then m
    else
      let dropped := (m.dcp.subs.find? (fun y => y.id = d.id)).elim false (·.dropped)
      let m := m.modSession x.id (fun y => { y with streamSeq := seq })
      let m : Module := { m with dcp := { m.dcp with subs := m.dcp.subs.map (fun y => if y.id = d.id then { y with dropped := false } else y) } }
      m.emit (.stream d.dst x.id d.id (0x0230 + d.kind) seq (2 + rekeyDue { x with streamSeq := seq } + if dropped then 32 else 0)
        (le 2 d.id ++ le 2 p.1 ++ le 2 parts ++ zeros 2 ++ p.2))

/-- STREAM_SEND (R388): the packets of a subscription leave, or are dropped to keep within STREAM_BUDGET. -/
def execStreamSend (stream : Nat) (dropPacket : Bool) (s : State) : Host.Outcome State Fault Refusal :=
  onModule s (fun m =>
    match m.dcp.subs.find? (fun d => d.id = stream) with
    | none => m
    | some d =>
      if m.dcpUp = false ∨ (m.pair.role = .syncing) then m
      else if dropPacket then
        let m : Module := { m with dcp := { m.dcp with subs := m.dcp.subs.map (fun y => if y.id = stream then { y with dropped := true } else y) } }
        m.countDcp 8
      else
        let parts := m.streamParts d
        let m := ((List.range parts.length).zip parts).foldl (fun m p => m.sendPart d parts.length p) m
        { m with dcp := { m.dcp with subs := m.dcp.subs.map (fun y =>
            if y.id = stream then { y with sentDom := m.newestSeq true, sentLoc := m.newestSeq false } else y) } })

end Sys2Proof.Machine
end

