-- ==== Sys2Proof/Machine/Can.lean ====
section
/-! DEFINITION. The CAN FD controllers (chapter 16): receive objects, transmit objects and their content, error states, the
mirroring of limit frames, and the checks of the CAN section. -/

namespace Sys2Proof.Machine

/-- The CAN section of a controller. -/
def Module.canCfg (m : Module) (c : Nat) : CanPortCfg := m.cfg.can.getD c {}

/-- A controller. -/
def Module.canCtl (m : Module) (c : Nat) : CanCtl := m.can.ctl.getD c {}

/-- A controller rewritten. -/
def Module.modCan (m : Module) (c : Nat) (f : CanCtl → CanCtl) : Module :=
  { m with can := { m.can with ctl := modAt m.can.ctl c f } }

/-- INSTANCE of a controller or one of its objects (Table 17-1). -/
def canInst (c obj : Nat) : Nat := c * 256 + obj

/-- The controller takes part in its bus (R397, R399, R410). -/
def Module.canHears (m : Module) (c : Nat) : Bool :=
  m.runs && m.up .fbi && (m.canCtl c).ok && decide (m.dorm.phase ≠ .dormant)

/-- The controller may send: NORMAL, in the leader or the single module (R399). -/
def Module.canNormal (m : Module) (c : Nat) : Bool := m.canHears c && m.acts && decide ((m.canCfg c).ctl.mode = 1)

/-- BUS_OFF or BUS_OFF_HELD. -/
def CanCtl.offBus (x : CanCtl) : Bool := decide (x.err = .busOff) || decide (x.err = .busOffHeld)

/-- Code of an error state (Table 16-7), in its order. -/
def canErrCode : CanErr → Nat
  | .active => 0 | .passive => 1 | .busOff => 2 | .busOffHeld => 3

/-! ## Frame content (R403, R409) -/

/-- A limit kind (Table 16-6). -/
def limitKind (t : CanTxCfg) : Bool := t.content = 1 || t.content = 2

/-- The counter of a period start (R409). -/
def Module.canCounter (m : Module) (periodMs : Nat) : Nat := m.plantOrLocal / (periodMs * 1000000) % 256

/-- FLAGS of a limit frame (Table 16-8). -/
def Module.limitFlags (m : Module) (b : Nat) (mirrored : Bool) : Nat :=
  bitsOf [m.drainStands b, m.tripInForce b, m.permits b 0, m.permits b 1, decide (0 < m.ver.held), mirrored, (m.bayE b).offline]

/-- SOC_USABLE of a bay in the sweep whose limits are published (R409). -/
def Module.canSoc (m : Module) (b : Nat) : List Byte := le 2 (((m.bayE b).pubSoc.map (·.1)).getD naU16)

/-- A current of a LIMIT_CLASSIC frame, A towards zero. -/
def ampField (q : Rat) : List Byte := le 2 (sat16 (truncInt (q / 1000)).natAbs)

/-- LIMIT_FD of a bay (Table 16-8). -/
def Module.limitFd (m : Module) (b : Nat) (mirrored : Bool) : List Byte :=
  let x := m.bayE b
  let val (l : DirLimit) (sign : Int) : List Byte := (l.vals.map (fun v => leI 4 (sign * limitField v))).flatten
  [b, (m.bInst b).state, m.limitFlags b mirrored, m.canCounter 20] ++ val x.pubDis (-1) ++ val x.pubChg 1 ++ m.canSoc b ++
    [(x.pubSoc.map (·.2)).getD 0xFF, x.pubDis.cause + 16 * x.pubChg.cause] ++
    le 4 (match m.bayV b with | some v => (roundInt v).toNat | none => naU32) ++ le 4 (m.sweep.verdicts.getD 0) ++
    le 2 (m.included b).length ++ le 2 (m.cfg.stringsOf b).length ++ zeros 4

/-- LIMIT_CLASSIC of a bay (Table 16-9). -/
def Module.limitClassic (m : Module) (b : Nat) (mirrored : Bool) : List Byte :=
  let x := m.bayE b
  ampField (x.pubDis.vals.getD 0 0) ++ ampField (x.pubChg.vals.getD 0 0) ++ m.canSoc b ++
    [m.limitFlags b mirrored, m.canCounter 20]

/-- STATUS (Table 16-10). -/
def Module.canStatus (m : Module) (periodMs : Nat) : List Byte :=
  [m.domainState, roleCode m.pair.role + 16 * min (slotNo m.sup.slot) 2, m.severityLive, m.canCounter periodMs] ++
    le 2 m.alertsLive ++
    [timeCode m.time.state, bitsOf [m.can.ctl.any (fun x => x.mirroring), decide ((m.canCtl 0).err ≠ .active),
      decide ((m.canCtl 1).err ≠ .active)]] ++
    le 4 (m.sweep.verdicts.getD 0) ++
    (List.range 4).map (fun b => if b ∈ m.cfg.bays then (m.bInst b).state else 0xFF)

/-- The data of a transmit object from the newest published values (Table 16-6). -/
def Module.canData (m : Module) (t : CanTxCfg) (mirrored : Bool) : List Byte :=
  padTo t.length
    (if t.content = 1 then m.limitFd t.arg mirrored
     else if t.content = 2 then m.limitClassic t.arg mirrored
     else if t.content = 3 then m.canStatus t.period
     else if t.content = 4 then bitmapBytes m.live
     else ((t.items.take t.arg).map (fun (i : Nat × Nat) =>
       leI 4 (match m.signal i.1 i.2 0 with | some v => clampI (-2147483647) 2147483647 (roundInt v) | none => naCurrent))).flatten)

/-! ## Error states (R406, R412) -/

/-- The 32-bit counter of the controllers, us of plant time or of the local timescale in UNSET, `ago` ns before now (R405). -/
def Module.canClock (m : Module) (ago : Nat) : Nat := (m.plantOrLocal - ago) / 1000 % 4294967296

/-- A record of a controller's error state or of its mirroring: TEC, REC, the timestamp and the six counters (R412). -/
def Module.canState (m : Module) (c : Nat) : Module :=
  let x := m.canCtl c
  m.jot .fbi eCanState sevWarning scCan (canInst c 255) (canErrCode x.err)
    (([x.tec, x.rec_, m.canClock 0, x.nRxOk, x.nRxUn, x.nTxOk, x.nTxFail, x.nBusOff, x.nPex].map (le 4)).flatten)

/-- The conditions of a controller follow its error state. -/
def Module.canConds (m : Module) (c : Nat) : Module :=
  let x := m.canCtl c
  let i := canInst c 255
  let m := m.setCond (decide (x.err = .passive)) .fbi cCanErrorPassive sevWarning scCan i
  let m := m.setCond x.offBus .fbi cCanBusOff sevWarning scCan i
  m.setCond (decide (x.err = .busOffHeld)) .fbi cCanBusOffHeld sevWarning scCan i

/-- The error state changes, and is journalled. -/
def Module.setErr (m : Module) (c : Nat) (e : CanErr) : Module :=
  if (m.canCtl c).err = e then m
  else ((m.modCan c (fun x => { x with err := e })).canConds c).canState c

/-- A counter of a controller advances; `i` numbers RX_OK, RX_UNMATCHED, TX_OK, TX_FAIL, BUS_OFF, PEX. -/
def Module.countCan (m : Module) (c i : Nat) : Module :=
  let x := m.canCtl c
  let old := [x.nRxOk, x.nRxUn, x.nTxOk, x.nTxFail, x.nBusOff, x.nPex].getD i 0
  let m := m.modCan c (fun x =>
    { x with
      nRxOk := if i = 0 then bump16 x.nRxOk else x.nRxOk, nRxUn := if i = 1 then bump16 x.nRxUn else x.nRxUn
      nTxOk := if i = 2 then bump16 x.nTxOk else x.nTxOk, nTxFail := if i = 3 then bump16 x.nTxFail else x.nTxFail
      nBusOff := if i = 4 then bump16 x.nBusOff else x.nBusOff, nPex := if i = 5 then bump16 x.nPex else x.nPex })
  m.satCheck old (bump16 old) (400 + 6 * c + i)

/-! ## Sending (R404) -/

/-- An identifier's place in arbitration: base identifiers by their 11 bits, extended ones after an equal base. -/
def canKey (ide : Bool) (ident : Nat) : Nat :=
  if ide then ident / 262144 * 524288 + 262144 + ident % 262144 else ident * 524288

/-- The pending frame that arbitration sends first. -/
def canFirst : List CanPend → Option CanPend
  | [] => none
  | p :: t => match canFirst t with
    | none => some p
    | some q => if canKey q.ide q.ident < canKey p.ide p.ident then some q else some p

/-- Two pending frames are of one object on one controller. -/
def samePend (p q : CanPend) : Bool := q.obj = p.obj && q.mirrored = p.mirrored

/-- A free controller starts its first pending frame and captures its counter at the SOF (R404, R405). -/
def Module.canStart (m : Module) (c : Nat) : Module :=
  let x := m.canCtl c
  if m.canNormal c && !x.offBus && x.cur.isNone then
    match canFirst x.pend with
    | some p =>
      let stamp := m.canClock 0
      (m.modCan c (fun x => { x with
        cur := some p, stamp := stamp
        pend := x.pend.map (fun q => if samePend p q then { q with begun := true } else q) })).emit
        (.can c p.obj p.mirrored p.data)
    | none => m
  else m

/-- A used and valid transmit object. -/
def Module.canTx? (m : Module) (c obj : Nat) : Option CanTxCfg :=
  if obj ∈ (m.canCtl c).badTx then none
  else match find (m.canCfg c).tx obj with
    | some t => if t.content = 0 then none else some t
    | none => none

/-- A frame becomes pending: it takes the place of the object's pending frame and its retry count starts again. A limit frame
that its period did not get onto the bus ends the object's run of clean periods (R407). -/
def Module.canPending (m : Module) (c : Nat) (p : CanPend) : Module :=
  (m.modCan c (fun x => { x with
    clean := if !p.mirrored && x.pend.any (samePend p) then put x.clean p.obj 0 else x.clean
    pend := x.pend.filter (fun q => !samePend p q) ++ [p] })).canStart c

/-- The pending frame of an object with content from now. -/
def Module.canFrameOf (m : Module) (obj : Nat) (t : CanTxCfg) (mirrored : Bool) : CanPend :=
  { obj := obj, mirrored := mirrored, ident := t.ident, ide := t.ide, fdf := t.fdf, brs := t.brs, data := m.canData t mirrored }

/-- The identifier of a mirrored object is one of the healthy controller's own (R407). -/
def Module.mirrorConflict (m : Module) (c : Nat) (t : CanTxCfg) : Bool :=
  (m.canCfg c).tx.any (fun (o : Nat × CanTxCfg) =>
    (m.canTx? c o.1).isSome && decide (o.2.ident = t.ident) && decide (o.2.ide = t.ide))

/-- A limit object of the failed controller becomes pending on the one that mirrors it; a controller without FD_EN cannot send
an FD object (log 183). -/
def Module.canMirror (m : Module) (failed obj : Nat) (t : CanTxCfg) : Module :=
  let c := 1 - failed
  if t.fdf && !(m.canCfg c).ctl.fdEn then m
  else if m.mirrorConflict c t then m.raise .fbi cCanMirrorConflict sevWarning scCan (canInst c obj)
  else m.canPending c (m.canFrameOf obj t true)

/-- The limit objects of a controller. -/
def Module.limitObjs (m : Module) (c : Nat) : List (Nat × CanTxCfg) :=
  (m.canCfg c).tx.filter (fun (o : Nat × CanTxCfg) => (m.canTx? c o.1).isSome && limitKind o.2)

/-- Mirroring ends. -/
def Module.endMirror (m : Module) (c : Nat) : Module :=
  if (m.canCtl c).mirroring then
    let m := m.modCan c (fun x => { x with mirroring := false, pend := x.pend.filter (fun p => !p.mirrored) })
    (m.clearAll .fbi cCanMirrorConflict).canState c
  else m

/-- The healthy PCS channel starts to mirror the failed one (R407). -/
def Module.startMirror (m : Module) (failed : Nat) : Module :=
  let c := 1 - failed
  if failed < 2 ∧ m.canNormal c ∧ (m.canCtl c).offBus = false ∧ (m.canCtl failed).offBus ∧ (m.canCtl c).mirroring = false then
    let m := (m.modCan c (fun x => { x with mirroring := true })).canState c
    (m.limitObjs failed).foldl (fun m (o : Nat × CanTxCfg) => m.canMirror failed o.1 o.2) m
  else m

/-- TEC above 255 (R406): BUS_OFF, or BUS_OFF_HELD at the fifth within 60 s. -/
def Module.busOff (m : Module) (c : Nat) : Module :=
  let x := m.canCtl c
  let rec_ := x.recoveries.filter (fun t => m.ms < t + 60000)
  let m := m.modCan c (fun x => { x with recoveries := rec_, clean := [], cur := none })
  let m := (m.countCan c 4).setErr c (if 4 ≤ rec_.length then .busOffHeld else .busOff)
  if c < 2 then (m.endMirror c).startMirror c else m

/-- The error state that the counters give. -/
def Module.canCount (m : Module) (c : Nat) : Module :=
  let x := m.canCtl c
  if x.offBus then m
  else if 255 < x.tec then m.busOff c
  else m.setErr c (if 128 ≤ x.tec ∨ 128 ≤ x.rec_ then .passive else .active)

/-- The object a pending frame belongs to, as its controller and index. -/
def canOwner (c : Nat) (p : CanPend) : Nat := if p.mirrored then 1 - c else c

/-- A failed PCS channel has sent every limit object cleanly for 10 periods (R407). -/
def Module.cleanCheck (m : Module) (c : Nat) : Module :=
  if c < 2 ∧ (m.canCtl (1 - c)).mirroring ∧ (m.canCtl c).offBus = false ∧
      (m.limitObjs c).all (fun (o : Nat × CanTxCfg) => decide (10 ≤ look 0 (m.canCtl c).clean o.1)) then
    m.endMirror (1 - c)
  else m

/-! ## Start, reset and checks of the CAN section (R410, R411) -/

/-- A controller integrates error active with nothing pending. -/
def Module.canInit (m : Module) (c : Nat) : Module :=
  let m := m.endMirror c
  let m := m.modCan c (fun x => { x with tec := 0, rec_ := 0, pend := [], cur := none, clean := [], recoveries := [] })
  m.setErr c .active

/-- The timeout of a receive object ends (R402). -/
def Module.canHeard (m : Module) (c obj : Nat) : Module :=
  let m := m.modCan c (fun x => { x with rx := put x.rx obj { look {} x.rx obj with timedOut := false } })
  let m : Module := { m with al := { m.al with canObjs := m.al.canObjs.filter (fun o => o.1 ≠ c || o.2.1 ≠ obj) } }
  m.clear .fbi cCanRxTimeout scCan (canInst c obj)

/-- An FBI reset (R411): receive objects are empty, mirroring has ended, and nothing is held. -/
def Module.canReset (m : Module) : Module :=
  (List.range 3).foldl (fun m c =>
    let m := (m.canCtl c).abandoned.foldl (fun m o => m.clear .fbi cTxAbandoned scCan (canInst c o)) m
    let m := m.modCan c (fun x => { x with abandoned := [] })
    let m := (m.canCtl c).rx.foldl (fun m (o : Nat × CanRxSt) => m.canHeard c o.1) m
    (m.modCan c (fun x => { x with rx := [] })).canInit c) m

/-- At H_h the old leader's controllers listen only: what waits is dropped (R411). -/
def Module.canDrop (m : Module) : Module :=
  (List.range 3).foldl (fun m c => (m.endMirror c).modCan c (fun x => { x with pend := [], cur := none })) m

/-- The limit objects of both PCS channels become pending at once (R355). -/
def Module.canLimits (m : Module) : Module :=
  (List.range 3).foldl (fun m c =>
    if m.canNormal c then (m.limitObjs c).foldl (fun m (o : Nat × CanTxCfg) => m.canPending c (m.canFrameOf o.1 o.2 false)) m
    else m) m

/-- The new leader's controllers integrate afresh (R411); one that is held stays held (R406). -/
def Module.canHandover (m : Module) : Module :=
  (List.range 3).foldl (fun m c =>
    if (m.canCtl c).err = .busOffHeld then m.modCan c (fun x => { x with pend := [], cur := none }) else m.canInit c) m

/-- A nominal bit timing outside Table 16-2 or R397. -/
def nominalBad (x : CanCtlCfg) : Bool :=
  let d := x.nbrp * (1 + x.ntseg1 + x.ntseg2)
  x.nbrp < 1 || 32 < x.nbrp || x.ntseg1 < 2 || 256 < x.ntseg1 || x.ntseg2 < 2 || 128 < x.ntseg2 || x.nsjw < 1 ||
    x.ntseg2 < x.nsjw || 80000000 < 125000 * d || 1000000 * d < 80000000

/-- A data bit timing outside Table 16-2, R397 or R398. -/
def dataBad (x : CanCtlCfg) : Bool :=
  let n := x.nbrp * (1 + x.ntseg1 + x.ntseg2)
  let d := x.dbrp * (1 + x.dtseg1 + x.dtseg2)
  x.dbrp < 1 || 32 < x.dbrp || x.dtseg1 < 1 || 32 < x.dtseg1 || x.dtseg2 < 1 || 16 < x.dtseg2 || x.dsjw < 1 ||
    x.dtseg2 < x.dsjw || 127 < x.tdcOffset || 80 < d || 8 * d < 80 || n < d || (d < 80 && (!x.tdcEn || 2 < x.dbrp))

/-- An invalid controller entry (R410). -/
def ctlBad (x : CanCtlCfg) : Bool := 2 < x.mode || nominalBad x || (x.fdEn && dataBad x)

/-- An identifier outside its range. -/
def identBad (ide : Bool) (ident : Nat) : Bool := if ide then 536870912 ≤ ident else 2048 ≤ ident

/-- An invalid receive entry (R410). -/
def rxBad (x : CanRxCfg) : Bool :=
  identBad x.ide x.ident || 536870912 ≤ x.mask || 255 < x.alert || 60000 < x.timeout || (0 < x.timeout && x.timeout < 10)

/-- An invalid transmit entry (R403, R410), but for a repeated identifier. -/
def txBad (fdEn : Bool) (t : CanTxCfg) : Bool :=
  let period := if limitKind t then 20 else t.period
  identBad t.ide t.ident || (t.fdf && !fdEn) || 15 < t.retryLimit || 5 < t.content ||
    (if t.fdf then decide (t.length ∉ [0, 1, 2, 3, 4, 5, 6, 7, 8, 12, 16, 20, 24, 32, 48, 64]) else decide (8 < t.length)) ||
    (t.content = 1 && (!t.fdf || t.length ≠ 48)) || (t.content = 2 && (t.fdf || t.length ≠ 8)) ||
    (t.content = 3 && (!t.fdf || t.length ≠ 16)) || (t.content = 4 && (!t.fdf || t.length ≠ 32)) ||
    (limitKind t && 3 < t.arg) || ((t.content = 3 || t.content = 4) && t.arg ≠ 0) ||
    (t.content = 5 && (t.arg < 1 || 4 < t.arg || t.length < 4 * t.arg ||
      (t.items.take t.arg).any (fun (i : Nat × Nat) => decide (signalScope i.1 ∉ [some 2, some 3, some 4])))) ||
    (!limitKind t && (t.period < 10 || 10000 < t.period)) || period ≤ t.offset

/-- The invalid receive entries of a section. -/
def badRxOf (p : CanPortCfg) : List Nat := (p.rx.filter (fun (o : Nat × CanRxCfg) => rxBad o.2)).map (·.1)

/-- The invalid transmit entries of a section; of a repeated identifier every later entry (log 66). -/
def badTxOf (p : CanPortCfg) : List Nat :=
  let used := p.tx.filter (fun (o : Nat × CanTxCfg) => o.2.content ≠ 0)
  (used.filter (fun (o : Nat × CanTxCfg) => txBad p.ctl.fdEn o.2 ||
    used.any (fun (q : Nat × CanTxCfg) => decide (q.1 < o.1) && decide (q.2.ident = o.2.ident) && decide (q.2.ide = o.2.ide)))).map (·.1)

/-- The CAN section of the set in force is tested and taken (R410): invalid entries raise CAN_CONFIG, transmit entries from
instance 128 on (log 66). -/
def Module.canSetup (m : Module) : Module :=
  let m := m.clearAll .fbi cCanConfig
  (List.range 3).foldl (fun m c =>
    let p := m.canCfg c
    let bad := ctlBad p.ctl
    let m := m.modCan c (fun x => { x with
      ok := m.conf?.isSome && !bad && decide (p.ctl.mode ≠ 0), badRx := badRxOf p, badTx := badTxOf p })
    if m.conf?.isNone then m
    else
      let wrong (m : Module) (o : Nat) : Module :=
        m.raise .fbi cCanConfig sevWarning scCan (canInst c o) naCurrent (int32s [(c : Int), (o : Int)])
      let m := if bad then wrong m 255 else m
      let m := (badRxOf p).foldl wrong m
      (badTxOf p).foldl (fun m o => wrong m (128 + o)) m) m

/-- Activation (R406, R410): a controller whose entry changes, or that is held, starts again. -/
def Module.canActivate (m : Module) (old : List CanPortCfg) : Module :=
  let m := (List.range 3).foldl (fun m c =>
    if (old.getD c {}).ctl ≠ (m.canCfg c).ctl ∨ (m.canCtl c).err = .busOffHeld then m.canInit c else m) m
  let m := (List.range 3).foldl (fun m c =>
    (m.canCtl c).rx.foldl (fun m (o : Nat × CanRxSt) =>
      if find (old.getD c {}).rx o.1 = find (m.canCfg c).rx o.1 then m
      else (m.canHeard c o.1).modCan c (fun x => { x with rx := del x.rx o.1 })) m) m
  m.canSetup

/-! ## Meanings -/

/-- A receive object takes a frame (R400). -/
def rxTakes (x : CanRxCfg) (f : CanFrame) : Bool :=
  x.ide = f.ide && f.ident &&& x.mask = x.ident &&& x.mask && (if f.fdf then x.acceptFd else x.acceptClassic)

/-- The first used object that takes a frame. -/
def Module.rxMatch (m : Module) (c : Nat) (f : CanFrame) : Option (Nat × CanRxCfg) :=
  (m.canCfg c).rx.find? (fun (o : Nat × CanRxCfg) => decide (o.1 ∉ (m.canCtl c).badRx) && rxTakes o.2 f)

/-- The payload of a CAN_RX record (Table 17-3). -/
def canRxBytes (f : CanFrame) (stamp : Nat) (lost : Bool) : List Byte :=
  le 4 (f.ident + (if f.ide then 536870912 else 0)) ++ le 4 stamp ++
    [bitsOf [lost, f.fdf, f.brs, f.esi], f.data.length, 0, 0] ++ f.data

/-- REC after a frame received without error, as ISO 11898-1 counts: from 128 or above it falls to a value between 119 and
127 that the standard leaves open (log 1). -/
def recAfterFrame (free rec_ : Nat) : Nat :=
  if rec_ < 128 then rec_ - 1 else 119 + Config.freeValue free % 9

/-- CAN_FRAME_RX (R400, R401, R405); the frame's `sofNs` is how long ago the sample point of its SOF was. -/
def execCanFrameRx (ctl : Nat) (frame : CanFrame) (s : State) : Host.Outcome State Fault Refusal :=
  onModule s (fun m =>
    if m.canHears ctl && !(m.canCtl ctl).offBus && !frame.remote then
      let x := m.canCtl ctl
      let m := (m.modCan ctl (fun x => { x with rec_ := recAfterFrame m.free x.rec_ })).canCount ctl
      let m : Module := if x.rec_ < 128 then m else { m with free := m.free + 1 }
      let stamp := m.canClock frame.sofNs
      let m := (m.countCan ctl 0).modCan ctl (fun x => { x with stamp := stamp })
      match m.rxMatch ctl frame with
      | none => m.countCan ctl 1
      | some (obj, cfg) =>
        let old := look {} (m.canCtl ctl).rx obj
        let lost := !old.taken
        let m := m.canHeard ctl obj
        let new : CanRxSt := { frame := some frame, stamp := stamp, lost := lost, taken := false, timedOut := false }
        let m := m.modCan ctl (fun x => { x with rx := put x.rx obj new })
        if cfg.journal ∧ old.frame.map (·.data) ≠ some frame.data then
          m.jot .fbi eCanRx sevTrace scCan (canInst ctl obj) naCurrent (canRxBytes frame stamp lost)
        else m
    else m)

/-- CAN_RX_TIMEOUT (R402). -/
def execCanRxTimeout (ctl obj : Nat) (s : State) : Host.Outcome State Fault Refusal :=
  onModule s (fun m =>
    match find (m.canCfg ctl).rx obj with
    | some cfg =>
      if m.canHears ctl ∧ obj ∉ (m.canCtl ctl).badRx ∧ cfg.timeoutAlert ∧ 0 < cfg.timeout then
        let m := m.modCan ctl (fun x => { x with rx := put x.rx obj { look {} x.rx obj with timedOut := true } })
        let m : Module := { m with al := { m.al with canObjs := addTo m.al.canObjs (ctl, obj, cfg.alert) } }
        (m.raise .fbi cCanRxTimeout sevWarning scCan (canInst ctl obj)).stick
      else m
    | none => m)

/-- CAN_TX_PERIOD (R404, R407): content is written and the frame is pending; a limit object is mirrored as well. -/
def execCanTxPeriod (ctl obj : Nat) (s : State) : Host.Outcome State Fault Refusal :=
  onModule s (fun m =>
    match m.canTx? ctl obj with
    | some t =>
      if m.canNormal ctl then
        let m := m.canPending ctl (m.canFrameOf obj t false)
        if ctl < 2 ∧ limitKind t ∧ (m.canCtl (1 - ctl)).mirroring then m.canMirror ctl obj t else m
      else m
    | none => m)

/-- CAN_TX_DONE (R404, R407, R408): the frame on the bus is sent; TEC falls by 1. -/
def execCanTxDone (ctl obj : Nat) (mirrored : Bool) (s : State) : Host.Outcome State Fault Refusal :=
  onModule s (fun m =>
    match (m.canCtl ctl).cur with
    | some p =>
      if p.obj = obj ∧ p.mirrored = mirrored then
        let owner := canOwner ctl p
        let limit := match m.canTx? owner obj with | some t => limitKind t | none => false
        let m := m.modCan ctl (fun x => { x with
          cur := none, tec := x.tec - 1
          pend := x.pend.filter (fun q => !(samePend p q && q.begun))
          clean := if limit && !mirrored then put x.clean obj (if 0 < p.retries then 0 else look 0 x.clean obj + 1)
            else x.clean })
        let m := (m.countCan ctl 2).canCount ctl
        let m := m.modCan owner (fun x => { x with abandoned := dropFrom x.abandoned obj })
        let m := m.clear .fbi cTxAbandoned scCan (canInst owner obj)
        let m : Module := if limit ∧ ctl < 2 then { m with can := { m.can with lastLimit := m.time.now } } else m
        (m.cleanCheck ctl).canStart ctl
      else m
    | none => m)

/-- CAN_TX_ERROR (R404, R406): an attempt failed; TEC rises by 8 where ISO 11898-1 counts the error (`counted`, log 182), and
after RETRY_LIMIT failed retries the frame is dropped, unless new content has replaced it meanwhile. -/
def execCanTxError (ctl obj : Nat) (mirrored counted : Bool) (s : State) : Host.Outcome State Fault Refusal :=
  onModule s (fun m =>
    match (m.canCtl ctl).cur with
    | some p =>
      if p.obj = obj ∧ p.mirrored = mirrored then
        let owner := canOwner ctl p
        let cfg := (m.canTx? owner obj).getD {}
        let same (q : CanPend) : Bool := samePend p q && q.begun
        let gone := decide (cfg.retryLimit ≤ p.retries) && (m.canCtl ctl).pend.any same
        let m := m.modCan ctl (fun x => { x with
          cur := none, tec := if counted then x.tec + 8 else x.tec
          pend := if gone then x.pend.filter (fun q => !same q)
            else x.pend.map (fun q => if same q then { q with retries := q.retries + 1, begun := false } else q)
          clean := if limitKind cfg && !mirrored then put x.clean obj 0 else x.clean })
        let m := (m.countCan ctl 3).canCount ctl
        let m := if gone then
            (m.modCan owner (fun x => { x with abandoned := addTo x.abandoned obj })).raise .fbi cTxAbandoned sevWarning
              scCan (canInst owner obj)
          else m
        m.canStart ctl
      else m
    | none => m)

/-- BUS_OFF_RECOVERY (R406): 128 times 11 recessive bits. -/
def execBusOffRecovery (ctl : Nat) (s : State) : Host.Outcome State Fault Refusal :=
  onModule s (fun m =>
    if (m.canCtl ctl).err = .busOff ∧ m.canHears ctl then
      let m := m.modCan ctl (fun x => { x with
        tec := 0, rec_ := 0, recoveries := m.ms :: x.recoveries.filter (fun t => m.ms < t + 60000)
        pend := x.pend.map (fun p => { p with retries := 0 }) })
      let m := m.setErr ctl .active
      ((if ctl < 2 then m.startMirror (1 - ctl) else m)).canStart ctl
    else m)

/-- CAN_RX_ERROR (R406): a receive error; the operand is REC as ISO 11898-1 counts it. -/
def execCanRxError (ctl recAfter : Nat) (s : State) : Host.Outcome State Fault Refusal :=
  onModule s (fun m =>
    if m.canHears ctl && !(m.canCtl ctl).offBus then (m.modCan ctl (fun x => { x with rec_ := recAfter })).canCount ctl else m)

/-- CAN_PROTOCOL_EXCEPTION (R397): a recessive res bit in an FD frame. -/
def execCanProtocolException (ctl : Nat) (s : State) : Host.Outcome State Fault Refusal :=
  onModule s (fun m => if m.canHears ctl then m.countCan ctl 5 else m)

end Sys2Proof.Machine
end

