-- ==== Sys2Proof/Machine/Sha.lean ====
section
/-! DEFINITION. SHA-256 (FIPS 180-4), which names a configuration set (Table 18-4) and guards the body of an image (Table 18-1).
Words are numbers below 2^32. -/

namespace Sys2Proof.Machine

/-- The bits of an integer cube root, from bit `k` down, above the root found so far. -/
def icbrtFrom (n : Nat) : Nat → Nat → Nat
  | 0, r => if (r + 1) ^ 3 ≤ n then r + 1 else r
  | k + 1, r =>
    let t := r + 2 ^ (k + 1)
    icbrtFrom n k (if t ^ 3 ≤ n then t else r)

/-- The first 64 primes, whose roots give the constants of the hash. -/
def shaPrimes : List Nat :=
  [2, 3, 5, 7, 11, 13, 17, 19, 23, 29, 31, 37, 41, 43, 47, 53] ++ [59, 61, 67, 71, 73, 79, 83, 89, 97, 101, 103, 107, 109, 113, 127, 131] ++
  [137, 139, 149, 151, 157, 163, 167, 173, 179, 181, 191, 193, 197, 199, 211, 223] ++
  [227, 229, 233, 239, 241, 251, 257, 263, 269, 271, 277, 281, 283, 293, 307, 311]

/-- The first 32 bits of the fractions of the cube roots. -/
def shaK : List Nat := shaPrimes.map (fun p => icbrtFrom (p * 2 ^ 96) 36 0 % 2 ^ 32)

/-- The initial hash: the first 32 bits of the fractions of the square roots of the first eight primes. -/
def shaInit : List Nat := (shaPrimes.take 8).map (fun p => isqrt (p * 2 ^ 64) % 2 ^ 32)

/-- A word rotated to the right. -/
def rotr (x n : Nat) : Nat := x / 2 ^ n + x % 2 ^ n * 2 ^ (32 - n)

/-- The words of a schedule, newest first, extended by `n`. -/
def shaSchedule : Nat → List Nat → List Nat
  | 0, w => w
  | n + 1, w =>
    let g (i : Nat) : Nat := w.getD (i - 1) 0
    let a := g 15
    let b := g 2
    let s0 := rotr a 7 ^^^ rotr a 18 ^^^ (a / 2 ^ 3)
    let s1 := rotr b 17 ^^^ rotr b 19 ^^^ (b / 2 ^ 10)
    shaSchedule n ((s1 + g 7 + s0 + g 16) % 2 ^ 32 :: w)

/-- A round: the eight working words and the sum of a constant and a word of the schedule. -/
def shaRound (v : List Nat) (kw : Nat) : List Nat :=
  match v with
  | [a, b, c, d, e, f, g, h] =>
    let ch := (e &&& f) ^^^ ((2 ^ 32 - 1 - e) &&& g)
    let t1 := h + (rotr e 6 ^^^ rotr e 11 ^^^ rotr e 25) + ch + kw
    let maj := (a &&& b) ^^^ (a &&& c) ^^^ (b &&& c)
    let t2 := (rotr a 2 ^^^ rotr a 13 ^^^ rotr a 22) + maj
    [(t1 + t2) % 2 ^ 32, a, b, c, (d + t1) % 2 ^ 32, e, f, g]
  | _ => v

/-- The value of bytes, most significant first. -/
def unbe (l : List Byte) : Nat := l.foldl (fun n b => n * 256 + b) 0

/-- Pieces of `n` elements, `k` of them. -/
def pieces {α : Type} (n : Nat) : Nat → List α → List (List α)
  | 0, _ => []
  | k + 1, l => l.take n :: pieces n k (l.drop n)

/-- A block of 64 bytes is taken into the hash. -/
def shaBlock (hash : List Nat) (block : List Byte) : List Nat :=
  let w := (shaSchedule 48 ((pieces 4 16 block).map unbe).reverse).reverse
  let v := ((shaK.zip w).map (fun x => x.1 + x.2)).foldl shaRound hash
  (hash.zip v).map (fun x => (x.1 + x.2) % 2 ^ 32)

/-- `n` bytes of a value, most significant first. -/
def be (n v : Nat) : List Byte := (le n v).reverse

/-- SHA-256: 32 bytes. -/
def sha256 (msg : List Byte) : List Byte :=
  let padded := msg ++ [0x80] ++ zeros ((119 - msg.length % 64) % 64) ++ be 8 (8 * msg.length)
  (((pieces 64 (padded.length / 64) padded).foldl shaBlock shaInit).map (be 4)).flatten

end Sys2Proof.Machine
end

