-- ==== Sys2Proof/Machine/SetBytes.lean ====
section
/-! DEFINITION. Configuration sets and firmware images as bytes (R28 to R30, R130, R176, R177, R227, R234, R256, R275, R315, R390,
R410, R428, R429, R441, R442): blocks held, the sections of a set by their tables, the signature checks of a set, and the header
of an image. Reserved fields are not read (R14). -/

namespace Sys2Proof.Machine

/-! ## Bytes held -/

/-- Bytes that blocks (offset, length), sorted by offset, cover from a position on. -/
def covered : Nat → List (Nat × Nat) → Nat
  | _, [] => 0
  | at_, (o, n) :: t =>
    let a := max at_ o
    if o + n ≤ a then covered at_ t else (o + n - a) + covered (o + n) t

/-- Distinct bytes of a list of blocks. -/
def distinctBytes (l : List (Nat × Nat)) : Nat := covered 0 (sortBy (fun (b : Nat × Nat) => (b.1 : Int)) l)

/-- Distinct bytes that blocks hold. -/
def bytesHeld (l : List (Nat × List Byte)) : Nat := distinctBytes (l.map (fun b => (b.1, b.2.length)))

/-- A block written over what is held, newest first. -/
def addBlock (l : List (Nat × List Byte)) (offset : Nat) (data : List Byte) : List (Nat × List Byte) :=
  (offset, data) :: l.filter (fun b => !(decide (b.1 = offset) && decide (b.2.length ≤ data.length)))

/-- The byte at an offset, if it is held: of the newest block that covers it. -/
def heldByte (l : List (Nat × List Byte)) (i : Nat) : Option Byte :=
  (l.find? (fun b => b.1 ≤ i && i < b.1 + b.2.length)).map (fun b => b.2.getD (i - b.1) 0)

/-- The first `n` bytes that blocks hold together; one that none covers reads 0. -/
def assembled (l : List (Nat × List Byte)) (n : Nat) : List Byte := (List.range n).map (fun i => (heldByte l i).getD 0)

/-! ## Fields -/

/-- `n` bytes from an offset. -/
def bytesAt (b : List Byte) (i n : Nat) : List Byte := (b.drop i).take n

/-- A byte. -/
def byteAt (b : List Byte) (i : Nat) : Nat := b.getD i 0

/-- `n` bits of a byte from bit `lo`. -/
def bitsAt (b : List Byte) (i lo n : Nat) : Nat := byteAt b i / 2 ^ lo % 2 ^ n

/-- A bit of a byte. -/
def flagAt (b : List Byte) (i lo : Nat) : Bool := bitsAt b i lo 1 = 1

/-- An unsigned field of `n` bytes (R9). -/
def natAt (b : List Byte) (i n : Nat) : Nat := unle (bytesAt b i n)

/-- A signed field of `n` bytes (R9). -/
def intAt (b : List Byte) (i n : Nat) : Int :=
  let v := natAt b i n
  if 2 ^ (8 * n - 1) ≤ v then (v : Int) - (2 ^ (8 * n) : Nat) else v

/-- The entries of `n` bytes of a table, with their indexes. -/
def entriesOf (n : Nat) (b : List Byte) : List (Nat × List Byte) :=
  (pieces n (b.length / n) b).zipIdx.map (fun e => (e.2, e.1))

/-- The entries that are not entirely zero. -/
def nonZero (l : List (Nat × List Byte)) : List (Nat × List Byte) := l.filter (fun e => e.2.any (fun b => decide (b ≠ 0)))

/-! ## The core sections (Table 18-5) -/

/-- CORE_LIMITS. -/
def readCore (b : List Byte) : CoreLimits :=
  { vCellMax := natAt b 0 2, vCellMin := natAt b 2 2, tCellMax := intAt b 4 2, tCellMin := intAt b 6 2, period := natAt b 8 2 }

/-- A worker table entry (Table 01-1). A reserved TYPE is read with a FORMAT that is no index, so that MAP_FORMAT refuses it. -/
def readWorker (b : List Byte) : Option WorkerEntry :=
  let t := bitsAt b 0 0 4
  if t = 0 then none
  else some {
    typ := if t = 2 then .dzs2 else .dzc24, format := if t ≤ 2 then bitsAt b 0 4 4 else 255, string := natAt b 1 2 % 512
    serialCheck := flagAt b 3 0, serial := natAt b 8 8 }

/-- The worker table: ring-major, 256 entries per ring (R28). -/
def readWorkers (b : List Byte) : List (Wk × WorkerEntry) :=
  (entriesOf 16 b).filterMap (fun e => (readWorker e.2).map (fun w => ((e.1 / 256, e.1 % 256 + 1), w)))

/-- A string table entry (Table 01-2). -/
def readString (b : List Byte) : Option StringEntry :=
  if flagAt b 1 0 then some {
    ring := byteAt b 0, firstHop := natAt b 2 2, lastHop := natAt b 4 2, dzsHop := natAt b 6 2, cellCount := natAt b 8 2
    bay := byteAt b 10, curveSet := byteAt b 11, vStringMax := natAt b 12 4, iRated := natAt b 16 4 }
  else none

/-- The string table (R29). -/
def readStrings (b : List Byte) : List (Nat × StringEntry) := (entriesOf 32 b).filterMap (fun e => (readString e.2).map (fun s => (e.1, s)))

/-- A channel table entry (Table 01-3). -/
def readChannel (b : List Byte) : Option ChannelEntry :=
  let v := natAt b 0 4
  if v / 2 ^ 20 % 2 = 1 then some {
    position := v % 512, string := v / 2 ^ 9 % 512, bay := v / 2 ^ 18 % 4, tempInput := v / 2 ^ 21 % 16, nameplate := natAt b 4 4 }
  else none

/-- The channel table (R30). -/
def readChannels (b : List Byte) : List (Nat × ChannelEntry) := (entriesOf 8 b).filterMap (fun e => (readChannel e.2).map (fun c => (e.1, c)))

/-- An address entry of the network section. -/
def readAddr (b : List Byte) : NetAddr :=
  let vlan := natAt b 22 2
  { addr6 := natAt b 0 16, addr4 := natAt b 16 4, prefix6 := byteAt b 20, prefix4 := byteAt b 21, vid := vlan % 4096, pcp := vlan / 8192 }

/-- The network section (Table 15-17). -/
def readNetwork (b : List Byte) : NetCfg :=
  { addrs := (pieces 24 4 b).map readAddr, gateway4 := natAt b 96 4, gateway6 := natAt b 100 16, dscp := bitsAt b 116 0 6
    streamBudget := natAt b 118 2, sessionIdle := natAt b 120 2 }

/-- A CAN controller entry (Table 16-2). -/
def readCanCtl (b : List Byte) : CanCtlCfg :=
  { mode := bitsAt b 0 0 2, fdEn := flagAt b 0 2, tdcEn := flagAt b 0 3, nbrp := byteAt b 1, ntseg1 := natAt b 2 2, ntseg2 := byteAt b 4
    nsjw := byteAt b 5, dbrp := byteAt b 6, dtseg1 := byteAt b 7, dtseg2 := byteAt b 8, dsjw := byteAt b 9, tdcOffset := byteAt b 10 }

/-- A used receive object (Table 16-4). -/
def readCanRx (b : List Byte) : Option CanRxCfg :=
  let id := natAt b 0 4
  if flagAt b 8 0 then some {
    ident := id % 2 ^ 29, ide := decide (id / 2 ^ 29 % 2 = 1), mask := natAt b 4 4 % 2 ^ 29, acceptClassic := flagAt b 8 1
    acceptFd := flagAt b 8 2, journal := flagAt b 8 3, timeoutAlert := flagAt b 8 4, alert := byteAt b 9, timeout := natAt b 10 2 }
  else none

/-- A transmit object that is not UNUSED (Table 16-5). -/
def readCanTx (b : List Byte) : Option CanTxCfg :=
  let id := natAt b 0 4
  if byteAt b 5 = 0 then none
  else some {
    ident := id % 2 ^ 29, ide := decide (id / 2 ^ 29 % 2 = 1), fdf := decide (id / 2 ^ 30 % 2 = 1), brs := decide (id / 2 ^ 31 % 2 = 1)
    length := byteAt b 4, content := byteAt b 5, arg := byteAt b 6, retryLimit := bitsAt b 7 0 4, period := natAt b 8 2
    offset := natAt b 10 2, items := (List.range 4).map (fun k => (natAt b (16 + 4 * k) 2, natAt b (18 + 4 * k) 2)) }

/-- The CAN section of one controller: its entry, 128 receive and 64 transmit entries (R410). -/
def readCanPort (b : List Byte) : CanPortCfg :=
  { ctl := readCanCtl (bytesAt b 0 32)
    rx := (entriesOf 16 (bytesAt b 32 2048)).filterMap (fun e => (readCanRx e.2).map (fun x => (e.1, x)))
    tx := (entriesOf 32 (bytesAt b 2080 2048)).filterMap (fun e => (readCanTx e.2).map (fun x => (e.1, x))) }

/-- A switch channel entry (Table 12-5). A FAILSAFE of 3 lies outside the table: it is read with a LOAD_TYPE that does, so that
SW_PARAM refuses it. -/
def readSwitch (b : List Byte) : SwEntry :=
  let code := bitsAt b 0 0 3
  let safe := bitsAt b 0 3 2
  { load := [LoadType.unused, .lamp, .coil, .motor, .heater, .valve].getD code .unused
    loadCode := if safe = 3 then 8 else code, failsafe := [SwFailsafe.off, .on, .hold].getD safe .off, openOffEn := flagAt b 0 5
    openOnEn := flagAt b 0 6, lampRetries := byteAt b 1, econDuty := byteAt b 2, iTrip := intAt b 4 4, iOpen := natAt b 8 2
    tBlank := natAt b 10 2, tPull := natAt b 12 2, tRamp := natAt b 14 2, tOvl := natAt b 16 2, shortGap := natAt b 18 2
    tOpenOn := natAt b 20 2 }

/-! ## The other sections with a layout -/

/-- A format table entry (Table 05-5). -/
def readFormat (b : List Byte) : FormatEntry :=
  { wtype := bitsAt b 0 0 4, slotLen := byteAt b 1
    items := (List.range (byteAt b 2)).map (fun n => (byteAt b (4 + 2 * n), byteAt b (5 + 2 * n))) }

/-- The points of a curve set at one branch and temperature: point i at byte 128 + ((b × 32 + k) × 128 + i) × 4 (R177). -/
def readPoints (b : List Byte) (count branch k : Nat) : List (Nat × Nat) :=
  (List.range count).map (fun i =>
    let o := 128 + ((branch * 32 + k) * 128 + i) * 4
    (natAt b o 2, natAt b (o + 2) 2))

/-- A curve set of 32,896 bytes (R176, Tables 07-3 and 07-4). -/
def readCurveSet (b : List Byte) : CurveSet :=
  let points := byteAt b 1
  { plateau := flagAt b 0 0, hysteresis := flagAt b 0 1, pointCount := points, tempCount := byteAt b 2, zoneCount := byteAt b 3
    vChgCutoff := natAt b 4 2, vDisCutoff := natAt b 6 2, vErr := natAt b 8 2, hystFull := natAt b 10 2, sdPpmDay := natAt b 12 2
    sdDoubling := byteAt b 14, temps := (List.range 32).map (fun k => intAt b (16 + 2 * k) 2)
    zones := (List.range 8).map (fun z => (natAt b (80 + 4 * z) 2, natAt b (82 + 4 * z) 2)), rNom := natAt b 112 4
    pts := (List.range 2).map (fun br => (List.range (min (byteAt b 2) 32)).map (fun k => readPoints b (min points 128) br k)) }

/-- A stored curve (Table 09-2). -/
def readCurve (b : List Byte) : Curve :=
  { kind := byteAt b 0, pts := (List.range (byteAt b 1)).map (fun i => (intAt b (16 + 8 * i) 4, intAt b (20 + 8 * i) 4)) }

/-- A rule row (Table 09-6). -/
def readRule (b : List Byte) : Rule :=
  { scope := bitsAt b 0 0 3, enabled := flagAt b 0 3, outside := flagAt b 0 4, latch := flagAt b 0 5, thrCurve := flagAt b 0 6
    cond := bitsAt b 1 0 3, punit := bitsAt b 1 3 2, dir := bitsAt b 1 5 2, severity := bitsAt b 2 0 3, action := bitsAt b 2 3 3
    alert := byteAt b 3, signal := natAt b 4 2, deratePct := byteAt b 6, bayMask := bitsAt b 7 0 4, thrA := intAt b 8 4
    thrB := intAt b 12 4, hyst := intAt b 16 4, persist := natAt b 20 2, rateSpan := natAt b 22 2, argSignal := natAt b 24 2 }

/-- A sequence step (Table 10-6). -/
def readStep (b : List Byte) : Step :=
  { kind := bitsAt b 0 0 4, operand := byteAt b 1, arg := natAt b 2 2, arg32 := intAt b 4 4, timeout := natAt b 8 2
    success := natAt b 10 2, failure := natAt b 12 2 }

/-- The SEQUENCE section: the entry table, 16 words for strings and 16 for bays, 4,096 steps (R256), and the rest of Table 10-15,
whose layout no table gives (log 89). -/
def readSeq (b : List Byte) : SeqCfg :=
  { Config.seqParams (b.drop 65600) with
    strEntry := (List.range 16).map (fun i => natAt b (2 * i) 2)
    bayEntry := (List.range 16).map (fun i => natAt b (32 + 2 * i) 2)
    steps := (nonZero (entriesOf 16 (bytesAt b 64 65536))).map (fun e => (e.1, readStep e.2)) }

/-- A precharge channel entry (Table 11-1). -/
def readPre (b : List Byte) : PreEntry :=
  { phases := bitsAt b 0 0 3, shedEn := flagAt b 0 3, minPhases := byteAt b 1, rotate := byteAt b 2, phaseOffset := byteAt b 3
    deadTime := byteAt b 4, iFloorPct := byteAt b 5, probePct := byteAt b 6, retryMax := byteAt b 7, iRun := intAt b 8 4
    iFast := intAt b 12 4, iCont := intAt b 16 4, i2tMax := natAt b 20 4, isnsGain := natAt b 24 4, scaleOut := natAt b 28 4
    scaleSrc := natAt b 32 4, cLink := natAt b 36 4, bandMin := natAt b 40 2, bandMax := natAt b 42 2, tProbe := natAt b 44 2
    retryDelay := natAt b 46 2, doneBand := natAt b 48 2, vKnee := natAt b 50 2, srcMargin := natAt b 52 2, fFree := natAt b 54 2 }

/-! ## A set (R441) -/

/-- A directory entry: SECTION, OFFSET, LENGTH and CRC. -/
structure DirEntry where
  section_ : Nat := 0
  offset : Nat := 0
  length : Nat := 0
  crc : Nat := 0
  deriving DecidableEq, Repr, Inhabited

/-- The directory of a set, behind its header of 128 bytes. -/
def readDir (b : List Byte) : List DirEntry :=
  (pieces 16 (natAt b 12 2) (b.drop 128)).map (fun e =>
    { section_ := natAt e 0 2, offset := natAt e 4 4, length := natAt e 8 4, crc := natAt e 12 4 })

/-- The bytes of a directory entry's section. -/
def sectionBytes (b : List Byte) (d : DirEntry) : List Byte := bytesAt b d.offset d.length

/-- The bytes of a section by its number; none where the set does not hold it. -/
def sectionOf (b : List Byte) (n : Nat) : List Byte :=
  ((readDir b).find? (fun d => decide (d.section_ = n))).elim [] (sectionBytes b)

/-- The content of a set: its header (Table 18-4) and its sections (Table 18-5). The sections whose layout no table gives are
read by constants without a body (log 89). -/
def readSet (b : List Byte) : ConfigSet :=
  let sec := sectionOf b
  let sw := sec 0x22
  let tail := Config.switchParams (sw.drop 768)
  let sb := Config.senseBalance (sec 0x40)
  let est := Config.estimation (sec 0x42)
  { format := natAt b 4 2, pairDomain := decide (byteAt b 6 = 1), oddDomain := decide (1 < byteAt b 6), ownerSigned := flagAt b 7 0
    size := natAt b 8 4, setId := natAt b 16 8, core := readCore (sec 1), workers := readWorkers (sec 0x10)
    strings := readStrings (sec 0x11), channels := readChannels (sec 0x12), network := readNetwork (sec 0x20)
    can := (pieces 4128 3 (sec 0x21)).map readCanPort, switches := (pieces 32 24 sw).map readSwitch
    swWdPeriod := tail.1, baySwitch := tail.2, sweep := Config.sweepSection (sec 0x30)
    formats := (nonZero (entriesOf 64 (sec 0x31))).map (fun e => (e.1, readFormat e.2))
    sense := sb.1, bal := sb.2.1, dorm := sb.2.2, curveSets := (pieces 32896 8 (sec 0x41)).map readCurveSet
    soc := est.1, learn := est.2, curves := (nonZero (entriesOf 528 (sec 0x50))).map (fun e => (e.1, readCurve e.2))
    rules := (nonZero (entriesOf 32 (sec 0x51))).map (fun e => (e.1, readRule e.2)), limit := Config.limitSection (sec 0x52)
    seq := readSeq (sec 0x60), precharge := (pieces 64 4 (sec 0x61)).map readPre }

/-- A configuration set as it was received, with the signature checks of R442. -/
structure LoadedSet where
  cfg : ConfigSet := {}
  headOk : Bool := true
  crcOk : Bool := true
  sigOk : Bool := true
  deriving DecidableEq, Repr, Inhabited

/-- Some two sections of a directory share a byte. -/
def sectionsMeet : List DirEntry → Bool
  | [] => false
  | d :: t => t.any (fun e => decide (d.offset < e.offset + e.length) && decide (e.offset < d.offset + d.length)) || sectionsMeet t

/-- SET_ID as R442 computes it: the first 8 bytes of SHA-256 over every section in directory order (Table 18-4). -/
def computedSetId (b : List Byte) : Nat := unle ((sha256 ((readDir b).map (sectionBytes b)).flatten).take 8)

/-- MAGIC of a set: "DZCS". -/
def setMagic : List Byte := [0x44, 0x5A, 0x43, 0x53]

/-- The signature checks of a received set (R442), against the owner key held. -/
def loadSet (key : Option Nat) (b : List Byte) : LoadedSet :=
  let c := readSet b
  let dir := readDir b
  { cfg := c
    headOk := decide (bytesAt b 0 4 = setMagic) && decide (c.size = b.length) && decide (128 + 16 * natAt b 12 2 ≤ c.size) &&
      !sectionsMeet dir
    crcOk := dir.all (fun d => decide ((sectionBytes b d).length = d.length) && decide (crc32c (sectionBytes b d) = d.crc)) &&
      decide (c.setId = computedSetId b)
    sigOk := match key with
      | some k => Config.ed25519 k (b.take (c.size - 64)) (bytesAt b (c.size - 64) 64)
      | none => true }

/-! ## A firmware image (R428, R429) -/

/-- MAGIC of an image: "DZIM". -/
def imageMagic : List Byte := [0x44, 0x5A, 0x49, 0x4D]

/-- An image by its header (Table 18-1), with the hash of its body and its signatures, against the owner key held. -/
def readImage (key : Option Nat) (b : List Byte) : ImageFacts :=
  let size := natAt b 12 4
  let head := bytesAt b 0 256
  let vendor := bytesAt b (256 + size) 64
  { magicOk := decide (bytesAt b 0 4 = imageMagic), hdrVersion := byteAt b 4, target := byteAt b 5, ownerSigned := flagAt b 6 0
    version := natAt b 8 4, bodySize := size, formatMin := natAt b 16 2, formatMax := natAt b 18 2, genOwn := natAt b 20 2
    rollback := natAt b 64 4, hashOk := decide (sha256 (bytesAt b 256 size) = bytesAt b 32 32)
    vendorOk := Config.ed25519 Config.imageKey head vendor
    ownerOk := match key with
      | some k => Config.ed25519 k (head ++ vendor) (bytesAt b (320 + size) 64)
      | none => true }

end Sys2Proof.Machine
end

