-- ==== Sys2Proof/Machine/Kwetric.lean ====
section
/-! DEFINITION. The events of the ring ports (chapter 04): links and tone (R108, R112, R119), collecting frames (R105),
replies (R96 to R99), probes, notices, timeouts, rejoin and quarantine (R116, R122), and frames forwarded by the partner
(R106). -/

namespace Sys2Proof.Machine

/-- The ring interface serves. -/
def Module.rgiUp (m : Module) : Bool := m.runs && m.up .rgi

/-! ## What follows a ring event -/

/-- A wake ends: sweeps resume, and the leader holds the dormant interval for the first manifest (R168, R198). A module that found
sleeping workers beside it (R460) has its sweeps running already. -/
def Module.wakeEnd (m : Module) : Module :=
  { m with
    sweep := { m.sweep with
      running := true
      dormIn := if m.leads ∧ m.sweep.running = false then some ((m.time.now - m.dorm.entryAt) / 1000000000)
        else m.sweep.dormIn }
    dorm := { m.dorm with phase := .awake } }

/-- A wake has ended once every ring is trained and every WAKE_CAUSE has come (R168). -/
def Module.wakeCheck (m : Module) : Module :=
  if m.dorm.phase = .waking ∧ m.cfg.rings.all (fun r => (m.ring r).trained) ∧
      m.cfg.workers.all (fun (w : Wk × WorkerEntry) => (m.wk w.1).queries.all (fun q => q.cmd.tag ≠ .wake)) then m.wakeEnd
  else m

/-- A DZS-2 reports MODE DORMANT to a module that is awake, which has booted beside sleeping workers: the leader wakes
them (R460). -/
def Module.sleepers (m : Module) (ss : List Nat) : Module :=
  if m.acts && decide (m.dorm.phase = .awake) && ss.any (fun s => decide ((m.wk (m.cfg.dzsOf s)).dzs.mode = 5)) then
    Module.exitWorkers { m with dorm := { m.dorm with phase := .waking, wakeAt := m.time.now } }
  else m

/-- Training, rejoin, burst readout, boot reads and Scarab move on, and diagnostic requests are answered (R108, R116,
R147, R259, R260, R394). -/
def Module.afterRing (m : Module) (r : Nat) : Module :=
  ((((((m.trainCheck r).rejoinStep r).pump r).bootRun).safeGrants).scarabRun).wakeCheck.flushDiag

/-- Strings whose DZS-2 slot a sweep frame carries used. -/
def Module.dzsIn (m : Module) (r : Nat) (f : CollectFrame) : List Nat :=
  let ws := ((m.slotsOf r f).filter (fun (p : Nat × Wk × SlotRx) => slotUsed (cleanPoint f) p.1 p.2.2)).map
    (fun (p : Nat × Wk × SlotRx) => p.2.1)
  (m.cfg.strings.filter (fun (x : Nat × StringEntry) => decide (m.cfg.dzsOf x.1 ∈ ws))).map (·.1)

/-- A collecting frame of a ring, with what its DZS-2 slots report (R105, R255). -/
def Module.collected (m : Module) (r : Nat) (f : CollectFrame) : Module :=
  let m := m.takeCollect r f
  let m := if f.kind = .rollCall then m else 
    ((m.dzsIn r f).foldl (fun m s => m.dzsSlotReport s f.sweep) m).sleepers (m.dzsIn r f)
  m.afterRing r

/-- A reply of a worker, with what a DZS-2 reports (R96, R255, R258). -/
def Module.replied (m : Module) (w : Wk) (f : RingReply) : Module :=
  let m := m.takeReply w f
  let s := (look {} m.cfg.workers w).string
  let m := if f.opcode = 0x25 ∧ f.status = 0 ∧ (look {} m.cfg.workers w).typ = .dzs2 then
    ((m.dzsReport s).dzsAnswer s).sleepers [s] else m
  m.afterRing w.1

/-- A frame is forwarded to the partner (R106). -/
def Module.forward (m : Module) (p : Nat) (f : RingFrame) : Module := if m.isPair then m.emit (.pairRing p f) else m

/-- The segment at a port (R122); ports from 32 on are the partner's. -/
def Module.portSegment (m : Module) (p : Nat) : Nat × Nat :=
  let e := m.endOfPort p
  (e.1, if e.2 then m.cfg.ringW e.1 else 0)

/-- An error found at a port belongs to the segment into it (R122). -/
def Module.portError (m : Module) (p : Nat) : Module := m.segError (m.portSegment p).1 (m.portSegment p).2 1

/-- Port counter `i` of Table 04-17 advanced by `n`. -/
def Module.countMany (m : Module) (p i : Nat) : Nat → Module
  | 0 => m
  | n + 1 => (m.countPort p i).countMany p i n

/-- Code violations received at a port, other control characters among them (R89, R121). -/
def Module.countCode (m : Module) (p n : Nat) : Module := m.countMany p 0 (min n 0xFFFF)

/-! ## Links and tone (R108, R112, R119) -/

/-- A port enabled by the ACTIVE set (R21). -/
def Module.portOn (m : Module) (p : Nat) : Bool := decide (p < 32) && (m.port p).enabled

/-- PORT_LINK_UP (R108). -/
def execPortLinkUp (port : Nat) (s : State) : Host.Outcome State Fault Refusal :=
  onModule s (fun m =>
    if m.rgiUp && m.portOn port && !(m.port port).up then
      let m := m.modPort port (fun q => { q with up := true })
      let r := (m.endOfPort port).1
      if (m.ring r).trained then m else m.beginTraining r
    else m)


/-- PORT_LINK_DOWN (R119): the port is DEAD, for the RGI and for the Carapace's own detectors (R324). -/
def execPortLinkDown (port : Nat) (s : State) : Host.Outcome State Fault Refusal :=
  let c : Carapace := { s.cara with
    tones := modAt s.cara.tones port (fun _ => .dead), toneWins := modAt s.cara.toneWins port (fun _ => none) }
  let m := s.m
  onBoth s c (if m.rgiUp && m.portOn port && (m.port port).up then
      let m := m.modPort port (fun q => { q with up := false, lastWin := none })
      let m := (m.countPort port 10).toneChange port .dead
      let e := m.endOfPort port
      let m := if (m.ring e.1).trained then m.learnTurn e.1 (if e.2 then m.cfg.ringW e.1 else 1) e.2 else m
      m.afterRing e.1
    else m)

/-- The class of an idle window (R119); none where it is ignored. -/
def windowClass (hasA hasB hasS : Bool) : Option Tone :=
  if hasA && hasB && !hasS then some .tone else if hasS && !hasA && !hasB then some .silent else none

/-- TONE_WINDOW (R119, R324): two agreeing windows change the state, each classifier for itself. -/
def execToneWindow (port : Nat) (hasA hasB hasS : Bool) (codeErr : Nat) (s : State) : Host.Outcome State Fault Refusal :=
  let m := if s.m.rgiUp && s.m.portOn port then s.m.countCode port codeErr else s.m
  match windowClass hasA hasB hasS with
  | none => onBoth s s.cara m
  | some t =>
    let c : Carapace :=
      if s.cara.state = .off then s.cara
      else { s.cara with
        tones := if s.cara.toneWins.getD port none = some t then modAt s.cara.tones port (fun _ => t) else s.cara.tones
        toneWins := modAt s.cara.toneWins port (fun _ => some t) }
    onBoth s c (if m.rgiUp && m.portOn port && (m.port port).up then
        let agree := decide ((m.port port).lastWin = some t)
        let m := m.modPort port (fun q => { q with lastWin := some t })
        if agree then m.toneChange port t else m
      else m)

/-! ## Frames (R95, R96, R105, R114) -/

/-- Counts of a collecting frame at the port it reached (Table 04-17, R122). -/
def Module.countFrame (m : Module) (p : Nat) (f : CollectFrame) : Module :=
  let m := m.countCode p f.codeErr
  let ok := f.eofOk && f.hdrCrcOk && f.crcOk
  let m := if ok then m else (m.countPort p 1).portError p
  let m := if hopCntOk f.hopCnt f.hopCntN then m else m.countPort p 2
  let m := if f.turned then m.countPort p 7 else m
  let bad := (m.slotsOf (m.endOfPort p).1 f).filter (fun (x : Nat × Wk × SlotRx) => !slotUsed (cleanPoint f) x.1 x.2.2)
  bad.foldl (fun m _ => m.countPort p 8) m

/-- COLLECTING_FRAME_RX (R105, R106). -/
def execCollectingFrameRx (port : Nat) (frame : CollectFrame) (s : State) : Host.Outcome State Fault Refusal :=
  onModule s (fun m =>
    if m.rgiUp && m.portOn port then
      ((m.countFrame port frame).forward port (.collect frame)).collected (m.endOfPort port).1 frame
    else m)

/-- A reply reaches its end with HOP_CNT equal to HOP (R96) and in agreement with its complement (R93). -/
def replyHopOk (f : RingReply) : Bool := decide (f.hopCnt = (f.hop + 255) % 256) && hopCntOk f.hopCnt f.hopCntN

/-- REPLY_FRAME_RX (R96 to R98, R106). -/
def execReplyFrameRx (port : Nat) (reply : RingReply) (s : State) : Host.Outcome State Fault Refusal :=
  onModule s (fun m =>
    if m.rgiUp && m.portOn port then
      let m := (m.countCode port reply.codeErr).forward port (.reply reply)
      if reply.crcOk = false then (m.countPort port 1).portError port
      else if replyHopOk reply = false then m.countPort port 2
      else
        let m := if reply.status = 2 then m.countPort port 5 else if reply.status = 1 then m.countPort port 6 else m
        let r := (m.endOfPort port).1
        m.replied (r, northHop reply.fromSouth (m.cfg.ringW r) reply.hop) reply
    else m)

/-- PROBE_RETURN (R108, R109); ports from 32 on are the partner's (log 40). -/
def execProbeReturn (port hop roundTrip : Nat) (s : State) : Host.Outcome State Fault Refusal :=
  onModule s (fun m =>
    let e := m.endOfPort port
    if m.rgiUp && (m.portOn port || (m.isPair && decide (32 ≤ port))) && decide (1 ≤ hop ∧ hop ≤ m.cfg.ringW e.1) then
      (m.probeBack (e.1, northHop e.2 (m.cfg.ringW e.1) hop) e.2 roundTrip).afterRing e.1
    else m)

/-- TURNED_COMMAND_RX (R95). -/
def execTurnedCommandRx (port : Nat) (s : State) : Host.Outcome State Fault Refusal :=
  onModule s (fun m => if m.rgiUp && m.portOn port then m.countPort port 7 else m)

/-- NOTICE_RX (R106, R112, R114). A notice whose HOP_CNT disagrees with its complement names no origin and is dropped
(log 162). -/
def execNoticeRx (port : Nat) (notice : NoticeFrame) (s : State) : Host.Outcome State Fault Refusal :=
  onModule s (fun m =>
    if m.rgiUp && m.portOn port then
      let m := (m.countCode port notice.codeErr).forward port (.notice notice)
      if notice.crcOk = false then (m.countPort port 1).portError port
      else if hopCntOk notice.hopCnt notice.hopCntN = false then m.countPort port 2
      else
        let e := m.endOfPort port
        ((m.countPort port 9).takeNotice e.1 e.2 notice).afterRing e.1
    else m)

/-- PAIR_RING_FRAME_RX (R106): the frame is handled as if received at the module's own port, and an error in it is charged to
the segment into the partner's port (R122). -/
def Module.pairFrame (m : Module) (port : Nat) (frame : RingFrame) : Module :=
  let r := port % 32
  match frame with
  | .collect f => (if f.eofOk && f.hdrCrcOk && f.crcOk then m else m.portError (r + 32)).collected r f
  | .reply f =>
    if f.crcOk = false then m.portError (r + 32)
    else if replyHopOk f then m.replied (r, northHop f.fromSouth (m.cfg.ringW r) f.hop) f
    else m
  | .notice f =>
    if f.crcOk = false then m.portError (r + 32)
    else if hopCntOk f.hopCnt f.hopCntN then (m.takeNotice r (!decide (m.sup.slot = .b)) f).afterRing r
    else m

/-! ## Timeouts, rejoin and quarantine (R98, R99, R116, R122) -/

/-- REPLY_TIMEOUT (R98, R99): of the counted command outstanding, else of the oldest query. -/
def execReplyTimeout (ring hop : Nat) (s : State) : Host.Outcome State Fault Refusal :=
  onModule s (fun m =>
    let w : Wk := (ring, hop)
    if m.rgiUp && m.acts then
      match (m.wk w).outst, (m.wk w).queries with
      | some o, _ => (m.countedTimeout w o).afterRing ring
      | none, q :: rest => (m.queryTimeout w q rest).afterRing ring
      | none, [] => m
    else m)

/-- A segment may be rejoined: it is broken, no rejoin runs on the ring, and no quarantine stands in force (R116, R122). -/
def Module.mayRejoin (m : Module) (r sg : Nat) : Bool :=
  let x := m.seg r sg
  m.segDown r sg && (m.ring r).rejoin.isNone && (!x.quarantined || x.eligible)

/-- The end segments of a pair close once the partner is FOLLOWER-READY (R116). -/
def Module.partnerEndOk (m : Module) (r sg : Nat) : Bool :=
  let far := if m.leaderSouth then 0 else m.cfg.ringW r
  !m.isPair || sg ≠ far || m.pair.partnerRole = some .ready

/-- REJOIN_START (R116). -/
def execRejoinStart (ring segment : Nat) (s : State) : Host.Outcome State Fault Refusal :=
  onModule s (fun m =>
    if m.rgiUp && m.acts && m.mayRejoin ring segment && !(m.seg ring segment).unstable && m.partnerEndOk ring segment then
      m.beginRejoin ring segment none
    else m)

/-- REJOIN_WATCH_EXPIRE (R116): the segment stayed UP for 10 s. -/
def execRejoinWatchExpire (ring segment : Nat) (s : State) : Host.Outcome State Fault Refusal :=
  onModule s (fun m =>
    match (m.ring ring).rejoin with
    | some j =>
      if m.rgiUp && decide (j.segment = segment ∧ j.phase = 2) then m.modRing ring (fun x => { x with rejoin := none }) else m
    | none => m)

/-- QUARANTINE_EXPIRE (R122). -/
def execQuarantineExpire (ring segment : Nat) (s : State) : Host.Outcome State Fault Refusal :=
  onModule s (fun m =>
    if m.rgiUp && (m.seg ring segment).quarantined then m.modSeg ring segment (fun x => { x with eligible := true }) else m)

end Sys2Proof.Machine
end

