-- ==== Sys2Proof/Machine/Rebuild.lean ====
section
/-! DEFINITION. The rebuild of a restarted module's cells from its own Caldera (R194, R196, R219, R220, R356). It runs as the
first sweep after boot begins, when the rings have answered their roll calls. -/

namespace Sys2Proof.Machine

/-! ## Capacity (R216, R219) -/

/-- The record of a cell (Table 08-9). -/
def Module.capRecord (m : Module) (e : Nat) : CapRec :=
  let c := m.cell e
  { cap := c.cap, version := c.capVer, sigma := (clampI 0 65535 (roundInt (10000 * sqrtF c.capVar))).toNat
    updates := sat16 c.capUpdates, channel := e, serial := m.wantSerial (wkOfIx e), base := c.rohmBase }

/-- The serial that the newest roll call reports at a hop; the accepted one where none has answered (log 60). -/
def Module.rolledSerial (m : Module) (w : Wk) : Nat :=
  match find (m.ring w.1).rollN w.2, find (m.ring w.1).rollS w.2 with
  | some b, _ => b.serial
  | none, some b => b.serial
  | none, none => m.wantSerial w

/-- A copy as stored: none while it is blank. -/
def copyOf (l : List (Nat × List Byte)) (e : Nat) : Option CapRec :=
  match find l e with
  | none => none
  | some b => if b.all (fun x => decide (x = 0)) then none else some (CapRec.ofBytes b)

/-- A copy is valid (R219). -/
def Module.capValid (m : Module) (e : Nat) (r : Option CapRec) : Bool :=
  match r with
  | none => false
  | some r =>
    r.ok && decide (r.channel = e) &&
    (!(look {} m.cfg.workers (wkOfIx e)).serialCheck || decide (r.serial = m.rolledSerial (wkOfIx e)))

/-- What R219 finds in the two copies of an entry. -/
inductive CapFound where
  | record (r : CapRec) | first | lost
  deriving DecidableEq, Repr

/-- The choice of R219. -/
def Module.capChoose (m : Module) (e : Nat) : CapFound :=
  let a := copyOf m.cal.capA e
  let b := copyOf m.cal.capB e
  let crcOk (r : Option CapRec) : Bool := match r with | some r => r.ok | none => false
  match m.capValid e a, m.capValid e b with
  | true, true =>
    let ra := a.getD {}
    let rb := b.getD {}
    .record (if sweepAfter rb.version ra.version then rb else ra)
  | true, false => .record (a.getD {})
  | false, true => .record (b.getD {})
  | false, false => if (a.isNone && b.isNone) || crcOk a || crcOk b then .first else .lost

/-- The newest VERSION that a copy with a right CRC holds: the next write of the entry advances it (R216). -/
def Module.capVersion (m : Module) (e : Nat) : Nat :=
  let v (r : Option CapRec) : Nat := match r with | some r => if r.ok then r.version else 0 | none => 0
  let a := v (copyOf m.cal.capA e)
  let b := v (copyOf m.cal.capB e)
  if sweepAfter b a then b else a

/-- The newest VERSION of an entry that this module's journal intends (R219). -/
def Module.intended (m : Module) (e ver : Nat) : Bool :=
  m.jou.stored.any (fun (p : Nat × JRec) =>
    p.2.code = eCapacityIntent && p.2.inst = e && p.2.origin = min (slotNo m.sup.slot) 2 &&
    sweepAfter (unle ((p.2.payload.drop 8).take 4)) ver)

/-- The other copy is made to match the chosen one, without a new VERSION (R219); under the write stop it waits (R218). -/
def Module.repairCopies (m : Module) (e : Nat) (r : CapRec) : Module :=
  let b := r.bytes
  if look [] m.cal.capA e = b ∧ look [] m.cal.capB e = b then m
  else if m.calOk then { m with cal := { m.cal with capA := put m.cal.capA e b, capB := put m.cal.capB e b } }
  else
    let m := m.modCell e (fun c => { c with writePending := true })
    { m with cal := { m.cal with capWait := addEntry e m.cal.capWait, capExempt := addEntry e m.cal.capExempt } }

/-- Capacity of a cell at boot (R219). -/
def Module.restoreCapacity (m : Module) (e : Nat) : Module :=
  let np := (m.chEntry e).nameplate
  match m.capChoose e with
  | .record r =>
    let m := m.modCell e (fun c => { c with
      cap := r.cap, capVar := f32 (((r.sigma : Rat) / 10000) * ((r.sigma : Rat) / 10000)), capVer := r.version
      capUpdates := r.updates, rohmBase := r.base, nameplateOnly := decide (r.updates = 0)
      learnDue := decide (r.updates = 0) })
    let m := m.repairCopies e r
    if m.intended e r.version then m.jot .mgi eCapacityWriteLost sevInfo scCell e (i32 (r.cap : Int)) (le 4 r.version)
    else m
  | .first =>
    (m.modCell e (fun c => { firstCapacity m.cfg.learn np c with capVer := m.capVersion e })).handRecord e 0 true
  | .lost =>
    m.modCell e (fun c => { firstCapacity m.cfg.learn np c with nameplateOnly := false, capLost := true })

/-! ## Impedance and charge (R194, R220) -/

/-- Impedance of a cell at boot (R220). -/
def Module.restoreImpedance (m : Module) (e : Nat) : Module :=
  match (find m.cal.imp e).map MirImp.ofWord with
  | none => m
  | some w =>
    if m.cal.impSet = m.sets.active.setId ∧ (w.seq = m.cal.impSeq % 256 ∨ w.seq = (m.cal.impSeq + 1) % 256) then
      let var (v : Option Nat) : Rat :=
        let x := (m.cfg.learn.impSigmaRestore : Rat) / 100 * ((v.getD 0 : Nat) : Rat)
        f32 (x * x)
      m.modCell e (fun c => { c with
        rohm25 := w.rohm, rpol25 := w.rpol, tauPol := w.tau, fitN := w.fitN, rohmVar := var w.rohm, rpolVar := var w.rpol
        restored := true, restored20 := decide (20 ≤ w.fitN) })
    else m

/-- A word of the charge mirror is valid (R194). -/
def Module.mirValid (m : Module) (seq : Nat) : Bool :=
  let h := m.cal.charge
  decide (h.setId = m.sets.active.setId) && (decide (seq = h.seq % 65536) || decide (seq = (h.seq + 1) % 65536))

/-- The charge of a cell at boot (R194): its word, or a first estimate (R196); true for a valid word. -/
def Module.restoreCharge (m : Module) (e : Nat) : Module × Bool :=
  match (find m.cal.charge.cells e).map MirCell.ofWord with
  | some w =>
    if m.mirValid w.seq then
      let q := (m.strE (m.strOf e)).qStr
      (m.modCell e (fun c =>
        let c := setBase q ((w.soc : Rat) / 10000 * capMc c) c
        { c with
          sigma := f32 ((w.sigma : Rat) / 10000), provisional := bitAt w.flags 0, countGap := true
          balGap := bitAt w.flags 2, capacityLow := bitAt w.flags 3, reconciled := bitAt w.flags 4
          anchoredRest := bitAt w.flags 5, firstEst := .none_ }), true)
    else (m.firstEstimate e, false)
  | none => (m.firstEstimate e, false)

/-- The string's values at boot, where its word is valid (R194). -/
def Module.restoreString (m : Module) (s : Nat) : Module :=
  match (find m.cal.charge.strs s).map MirStr.ofWord with
  | some w =>
    if m.mirValid w.seq then
      m.modStrE s (fun x => { x with
        r := (w.r : Rat), begun := true, dirChg := w.dirChg
        qRev := (if w.dirChg then 1 else -1) * ((w.qRev * 360000 : Nat) : Int) })
    else m
  | none => m

/-- The reported values of a bay or the domain at boot, where its word is valid (R194). -/
def Module.restoreBay (m : Module) (p : Nat × Nat) : Module :=
  if m.mirValid (fieldAt p.2 48 16) then
    m.modBayE p.1 (fun x => { x with r := (sint16 (fieldAt p.2 0 16) : Rat), begun := true })
  else m

/-- Every string, bay and cell from Caldera; SOC_MIRROR_INVALID and CAPACITY_LOST with their counts. A blank mirror,
as of a new module, raises nothing (R196; log 61). -/
def Module.rebuildCells (m : Module) : Module :=
  let m : Module := { m with est := { } }
  let m := m.strNos.foldl Module.restoreString m
  let m := m.cal.charge.bays.foldl Module.restoreBay m
  let es := m.cfg.channels.map (fun (x : Nat × ChannelEntry) => x.1)
  let r := es.foldl (fun (a : Module × Nat) e =>
    let x := ((a.1.restoreCapacity e).restoreImpedance e).restoreCharge e
    (x.1, if x.2 then a.2 else a.2 + 1)) (m, 0)
  let m := r.1
  let valid := es.length - r.2
  let m : Module := { m with est := { m.est with
    ready := true, gapPending := if 0 < valid then some m.cal.charge.plant else none } }
  let m := if 0 < r.2 ∧ m.cal.charge.setId ≠ 0 then
      m.raise .esi cSocMirrorInvalid sevWarning scDomain 0 (r.2 : Int) (int32s [(r.2 : Int)]) else m
  let lost := (es.filter (fun e => (m.cell e).capLost)).length
  if 0 < lost then m.raise .esi cCapacityLost sevWarning scDomain 0 (lost : Int) (int32s [(lost : Int)]) else m

/-- The rebuild that a boot has asked for. -/
def Module.rebuildDue (m : Module) : Module := if m.est.due then m.rebuildCells else m

end Sys2Proof.Machine
end

