-- ==== Sys2Proof/Machine/TimeUnit.lean ====
section
/-! DEFINITION. The time unit's own operations (R75 to R86): steps, slews and the trimmed rate, the states of Table 03-6, the
PPS_OUT pin and a PTP master's messages. -/

namespace Sys2Proof.Machine

/-! ## Steps and states (R83, R84, R86) -/

/-- The tags of the freezes being read out shift with a step of plant time (R86). -/
def shiftTag (d : Int) (b : BurstSt) : BurstSt :=
  { b with active := b.active.map (fun x => { x with tStep := ((x.tStep : Int) + d).toNat }) }

/-- The second of a plant time. -/
def secondOf (t : Int) : Nat := t.toNat / 1000000000

/-- Plant time is stepped (R84): the step is journalled with its size. A second that the step jumps over has no edge of
PPS_OUT (R78). -/
def Module.stepTime (m : Module) (d : Int) : Module :=
  let off := m.time.offset + d
  let m : Module := { m with
    time := { m.time with offset := off, pendingStep := none, slew := 0, ppsEdge := secondOf ((m.time.now : Int) + off) }
    bursts := m.bursts.map (fun (p : Nat × BurstSt) => (p.1, shiftTag d p.2)) }
  m.jot .mgi eTimeStep sevInfo scTime 0xFFFFFFFF (clampI (-2147483647) 2147483647 d) (leI 4 (clampI (-2147483647) 2147483647 d))

/-- LOCKED is entered. -/
def Module.enterLocked (m : Module) : Module :=
  let m : Module := { m with time := { m.time with
    state := .locked, lockedAt := m.time.now, sourceLost := false, lockWanted := false } }
  (m.clear .mgi cTimeHoldover).clear .mgi cTimeFreerun

/-- What remains to be corrected when UNSET is left: the step that waits, or the rest of a slew. -/
def TimeUnit.owed (t : TimeUnit) : Int := t.pendingStep.getD t.slew

/-- The time unit is LOCKED. Leaving UNSET is always a step: at the next sweep boundary, or at once while no sweeps run (R84;
log 70). -/
def Module.lockTime (m : Module) : Module :=
  match m.time.state with
  | .locked => m
  | .unset =>
    if m.sweep.running then { m with time := { m.time with pendingStep := some m.time.owed, lockWanted := true } }
    else (m.stepTime m.time.owed).enterLocked
  | .holdover | .freerun => m.enterLocked

/-- A pending step of plant time takes effect at the boundary, and with it the way out of UNSET (R84). -/
def Module.boundaryTime (m : Module) : Module :=
  match m.time.pendingStep with
  | some d => if m.time.lockWanted then (m.stepTime d).enterLocked else m.stepTime d
  | none => m

/-- The time unit runs free, and PPS_OUT is low (R78, R83). -/
def Module.freerun (m : Module) : Module :=
  let m : Module := { m with time := { m.time with state := .freerun, ppsOut := false } }
  (m.clear .mgi cTimeHoldover).raise .mgi cTimeFreerun

/-- What LOCKED rests on is gone (R83): HOLDOVER after an hour of it, and otherwise FREERUN. -/
def Module.sourceGone (m : Module) : Module :=
  let m : Module := { m with time := { m.time with sourceLost := true, lockWanted := false } }
  if m.time.state = .locked then
    if m.time.lockedAt + 3600000000000 ≤ m.time.now then
      (Module.raise { m with time := { m.time with state := .holdover, heldAt := m.time.now } } .mgi cTimeHoldover)
    else m.freerun
  else m

/-- The module's own source is lost and no other stands in. A follower is LOCKED on its leader's time, not on its own
source (R82, R83). -/
def Module.loseSource (m : Module) : Module :=
  if m.follows then { m with time := { m.time with sourceLost := true } } else m.sourceGone

/-! ## Sources (R75) -/

/-- PTP is a source here (R75). -/
def Module.ptpSource (m : Module) : Bool := decide (m.cfg.sweep.timeSource ≠ .ppsHost)

/-- PPS_IN is the source here: PPS_HOST, or PTP_THEN_PPS without a master (R75). -/
def Module.ppsSource (m : Module) : Bool :=
  decide (m.cfg.sweep.timeSource = .ppsHost) ||
    (decide (m.cfg.sweep.timeSource = .ptpThenPps) && m.time.ptpPort.isNone)

/-- A time of day is known: the host has supplied one, or plant time has been set from PTP (R75, "the last known time of
day"). -/
def Module.todHeld (m : Module) : Bool := m.time.todKnown || decide (m.time.state ≠ .unset)

/-- The module hears the source it would steer to as its own (R82). -/
def Module.ownSource (m : Module) : Bool :=
  (m.ptpSource && m.time.ptpPort.isSome) || (m.ppsSource && m.time.ppsSeen && m.todHeld)

/-! ## The clock of one millisecond (R78, R83, R84) -/

/-- The rate that plant time runs on, in ps per ms of the local timescale: the last trimmed rate in LOCKED and HOLDOVER, the
oscillator alone otherwise (R83). -/
def TimeUnit.rate (t : TimeUnit) : Int :=
  match t.state with
  | .locked | .holdover => t.trim
  | .unset | .freerun => 0

/-- Plant time after one more millisecond: it runs on its rate, and is slewed so that both together stay within 10 ppm, which is
10,000 ps in a millisecond (R83, R84). -/
def TimeUnit.slewed (t : TimeUnit) : TimeUnit :=
  let rate := t.rate
  let d := clampI (min 0 (-((10000 + rate) / 1000))) (max 0 ((10000 - rate) / 1000)) t.slew
  let ps := t.frac + rate
  { t with offset := t.offset + d + ps / 1000, slew := t.slew - d, frac := ps % 1000 }

/-- PPS_OUT in LOCKED and HOLDOVER: it rises at each plant-time second and stays high for 100 ms; otherwise it is low
(R78). -/
def TimeUnit.pps (t : TimeUnit) : TimeUnit :=
  let p := (t.now : Int) + t.offset
  let sec := secondOf p
  let on := decide (t.state = .locked ∨ t.state = .holdover)
  { t with
    ppsEdge := sec
    ppsOut := on && decide (p.toNat % 1000000000 < 100000000) && (t.ppsOut || decide (sec ≠ t.ppsEdge)) }

/-! ## A PTP master (R76) -/

/-- The port a master serves: one port is active at a time (Table 03-4; ETH1, log 153). -/
def ptpMasterPort : Nat := 0

/-- The module is the master of its timing network: MASTER_CAPABLE, and no better master is heard. -/
def Module.ptpMaster (m : Module) : Bool := m.cfg.sweep.ptpMaster && m.time.ptpPort.isNone

/-- clockClass of a master: 13 while locked to PPS_IN in PPS_HOST mode, else 248 (Table 03-4). -/
def Module.clockClass (m : Module) : Nat :=
  if m.cfg.sweep.timeSource = .ppsHost ∧ m.time.state = .locked ∧ m.time.ppsSeen then 13 else 248

/-- The nanoseconds of a logInterval. -/
def logInterval (k : Int) : Nat := if k < 0 then 1000000000 / 2 ^ (-k).toNat else 1000000000 * 2 ^ k.toNat

/-- An interval has ended within the newest millisecond. -/
def Module.tickOf (m : Module) (interval : Nat) : Bool :=
  decide (m.time.now / interval ≠ (m.time.now - 1000000) / interval)

/-- A message leaves the master's port. -/
def Module.sendPtp (m : Module) (x : PtpOut) : Module := m.emit (.ptp ptpMasterPort m.cfg.sweep.ptpDomain x)

/-- A master's messages: Announce, and Sync with its Follow_Up (two steps) at their intervals. -/
def Module.ptpClock (m : Module) : Module :=
  if m.ptpMaster then
    let m := if m.tickOf (logInterval m.cfg.sweep.ptpAnnounceLog) then m.sendPtp (.announce m.clockClass) else m
    if m.tickOf (logInterval m.cfg.sweep.ptpSyncLog) then (m.sendPtp .sync).sendPtp (.followUp m.plant) else m
  else m

end Sys2Proof.Machine
end

