-- ==== Sys2Proof/Machine/Sweeps.lean ====
section
/-! DEFINITION. The Geyser schedule (chapter 05): the service partition (R141), GEYSER (R123, R124), the SWEEP frame (R128),
the readout close with its manifest (R127, R138), the provisional manifest (R346) and the heartbeat (R269). -/

namespace Sys2Proof.Machine

/-- The schedule runs in this module as leader or single module; after a failover only from the takeover point on (R355). -/
def Module.schedules (m : Module) : Bool :=
  m.runs && m.acts && m.sweep.running && m.conf?.isSome && !m.pair.takeover

/-! ## The boundary (R84, R122, R141) -/

/-- A segment that is to be quarantined leaves service (R122). -/
def Module.quarantine (m : Module) (r sg : Nat) : Module :=
  let m := (m.forceTurn r sg).modSeg r sg (fun x => { x with quarantined := true, eligible := false, wantQuar := false })
  m.raise .rgi cRingSegmentQuarantined sevWarning scSegment (segInst r sg)

/-- The service partition of a ring for the next sweep. -/
def Module.boundaryRing (m : Module) (r : Nat) : Module :=
  let due := ((m.ring r).segs.filter (fun (x : Nat × SegSt) => x.2.wantQuar)).map (·.1)
  (due.foldl (fun m sg => m.quarantine r sg) m).fixPartition r


/-- PARTITION_FIX (R141). -/
def execPartitionFix (s : State) : Host.Outcome State Fault Refusal :=
  onModule s (fun m =>
    if m.runs ∧ m.conf?.isSome then
      let m := if m.up .rgi then m.cfg.rings.foldl Module.boundaryRing m else m
      m.boundaryTime
    else m)

/-! ## GEYSER and the SWEEP frame (R123, R124, R128) -/

/-- The sample instant of the next sweep: P after the last one; after boot the first whole multiple of P at least 1 ms
ahead (R123). -/
def Module.nextInstant (m : Module) : Nat :=
  let p := m.sweep.period * 1000000
  if m.sweep.tj = 0 then (m.time.now + 1000000 + p - 1) / p * p else m.sweep.tj + p

/-- The payload of a GEYSER (Table 04-8). Its plant times read 0 in UNSET (R83; log 154). -/
def Module.geyserPayload (m : Module) : List Byte :=
  le 8 (m.plantField m.sweep.tj) ++ le 8 (m.plantField (m.sweep.tj - 1000000)) ++ le 4 m.sweep.j ++ zeros 4

/-- After its first GEYSER a module that took over rereads the sweeps no leader finished (R355 step 2), under the newest turn
points (R141). -/
def Module.rereadOwed (m : Module) : Module :=
  let due := (m.sweep.owed.filter (fun (o : Nat × Bool) => o.2)).map (·.1)
  let m := due.foldl (fun m k => m.cfg.rings.foldl (fun m r =>
    [false, true].foldl (fun m e => m.sendReread r e k (m.newestHops r e)) m) m) m
  { m with sweep := { m.sweep with owed := m.sweep.owed.map (fun (o : Nat × Bool) => (o.1, false)) } }

/-- A period begins: no collecting frame of it has left or come back yet (R147). -/
def Module.openPeriod (m : Module) : Module :=
  m.cfg.rings.foldl (fun m r => m.modRing r (fun x => { x with outN := 0, outS := 0, readN := false, readS := false })) m

/-- The sweep index moves on, and is mirrored once it lies 10,000 sweeps past the mirrored one (R123): at the first sweep after
boot, and every 10,000 sweeps from there. -/
def Module.nextSweep (m : Module) : Module :=
  let j := (m.sweep.j + 1) % 4294967296
  { m with sweep := { m.sweep with
    j := j, tj := m.nextInstant
    mirror := if 10000 ≤ sweepDiff j m.sweep.mirror ∧ m.calOk then j else m.sweep.mirror } }

/-- GEYSER_SEND (R124): the sweep index advances, and every serving end sends. -/
def execGeyserSend (s : State) : Host.Outcome State Fault Refusal :=
  onModule s (fun m =>
    if m.schedules then
      let m := m.rebuildDue.nextSweep.openPeriod
      if m.up .rgi then (m.cfg.rings.foldl (fun m r => m.bcast r 0x01 m.geyserPayload) m).rereadOwed else m
    else m)

/-- The line time of a collecting frame over the given workers, us (R90, R129). -/
def Module.lineTime (m : Module) (ws : List Wk) : Nat :=
  let len := 24 + (ws.map m.slotLenOf).foldl (· + ·) 0
  (len + 2 + 40 * ((len - 1) / 2000)) * 400 / 1000

/-- The workers an end serves. -/
def Module.servedWorkers (m : Module) (r : Nat) (south : Bool) : List Wk :=
  ((m.cfg.workersOf r).map (fun (w : Wk × WorkerEntry) => w.1)).filter (fun w => decide ((m.endOf w).map (·.1) = some south))

/-- The SWEEP frames of a ring leave. -/
def Module.sendSweep (m : Module) (r k : Nat) : Module :=
  let ends := m.servingEnds r
  let times := ends.map (fun (e : Bool × Nat) => m.lineTime (m.servedWorkers r e.1))
  let m := m.modRing r (fun x => { x with frameTime := (greatestN times).getD 0, rereadSlots := 0 })
  ends.foldl (fun m (e : Bool × Nat) => m.sendCollect r e.1 .sweep k e.2) m

/-- The sweep before the newest. -/
def Module.lastSweep (m : Module) : Nat := (m.sweep.j + 4294967295) % 4294967296

/-- SWEEP_FRAME_SEND (R128): of the sweep before the newest, while its readout is open. -/
def execSweepFrameSend (s : State) : Host.Outcome State Fault Refusal :=
  onModule s (fun m =>
    if m.schedules && m.up .rgi && m.readoutOpen m.lastSweep then
      m.cfg.rings.foldl (fun m r => m.sendSweep r m.lastSweep) m
    else m)

/-! ## Manifests (R127, R138, R346) -/

/-- Ages and STALE of a worker at a manifest (R138). -/
def Module.ageWorker (m : Module) (man : Manifest) (w : Wk) : Module :=
  let used := decide (w ∈ man.used)
  let m := m.modWk w (fun x => { x with age := if used then 0 else bump8 x.age })
  if used then m.clear .rgi cStale scWorker (wkInst w)
  else if 3 ≤ (m.wk w).age then m.raise .rgi cStale sevWarning scWorker (wkInst w) ((m.wk w).age : Int) (int32s [((m.wk w).age : Int)])
  else m

/-- A manifest is taken: the ages follow it and it is kept (R127, R138). -/
def Module.takeManifest (m : Module) (man : Manifest) : Module :=
  let m := m.cfg.workers.foldl (fun m (w : Wk × WorkerEntry) => m.ageWorker man w.1) m
  let m := m.strNos.foldl (fun m s =>
    m.setCond ((m.cfg.workersOfString s).any (fun (w : Wk × WorkerEntry) => decide (3 ≤ (m.wk w.1).age))) .rgi cStale
      sevWarning scString s) m
  let m := m.strNos.foldl (fun m s => m.burstMissedCheck s man.sweep man.used) m
  { m with sweep := { m.sweep with
      manifests := (man :: m.sweep.manifests.filter (fun x => x.sweep ≠ man.sweep)).take (if m.pair.role = .syncing then 256 else 16)
      missedRun := if man.used = [] then m.sweep.missedRun + 1 else 0 } }

/-- The slots of a sweep that are used: accepted, of reachable workers, and none of a dropped sweep (R71, R137). -/
def Module.usedSlots (m : Module) (k : Nat) : List Wk :=
  if k ∈ m.sweep.dropped then []
  else ((look [] m.sweep.accepted k).map (·.1)).filter (fun w => !(m.wk w).unreach)

/-- t_g of each string at the first sweep after a rebuild from the charge mirror, ns (R194). -/
def Module.bootGaps (m : Module) (k : Nat) : List (Nat × Nat) :=
  match m.est.gapPending with
  | none => []
  | some p =>
    let now := if m.time.state = .unset then 0 else m.toPlant (m.instantOf k)
    m.strNos.map (fun s =>
      let w := MirStr.ofWord (look 0 m.cal.charge.strs s)
      let t := now - p
      (s, if now = 0 ∨ p = 0 then 600000000000 else if w.failClosed then t else min t ((w.leaseLeft + 1) * 1000000000)))

/-- The dormant interval for the first manifest: on the local timescale (R198), or from the plant time of an entry left
open in the journal (R460). -/
def Module.dormantSpan (m : Module) (k : Nat) : Option Nat :=
  match m.sweep.dormIn, m.dorm.bootEntry with
  | some t, _ => some t
  | none, some p =>
    let now := if m.time.state = .unset then 0 else m.toPlant (m.instantOf k)
    some (if now = 0 ∨ p = 0 then 0 else (now - p) / 1000000000)
  | none, none => none

/-- The readout of a period has closed: BURST_READ waits for the next on the ends whose partition ends in a turn (R147). -/
def Module.closePeriod (m : Module) : Module :=
  m.cfg.rings.foldl (fun m r => m.modRing r (fun x => { x with readN := false, readS := false })) m

/-- The manifest of one sweep is fixed, sent to the follower and taken (R127). -/
def Module.closeSweep (m : Module) (k : Nat) : Module :=
  if m.readoutOpen k then
    let man : Manifest :=
      { sweep := k, dropped := decide (k ∈ m.sweep.dropped), used := m.usedSlots k, bursts := m.sweep.burstsIn
        bal := m.sweep.balIn, tGap := m.bootGaps k, dormant := m.dormantSpan k, vOut := m.sweep.vOutIn, gen := m.pair.gen }
    let m : Module := { m with
      sweep := { m.sweep with burstsIn := [], balIn := [], dormIn := none, dropped := dropFrom m.sweep.dropped k }
      dorm := { m.dorm with bootEntry := none }
      est := { m.est with gapPending := none } }
    let m := m.takeManifest man
    if m.isPair then m.emit (.pairManifest man) else m
  else m

/-- READOUT_CLOSE (R127): the leader fixes the manifests of the sweeps a failover still owes (R355), in their order, and
that of the sweep before the newest. -/
def execReadoutClose (s : State) : Host.Outcome State Fault Refusal :=
  onModule s (fun m =>
    if m.schedules then
      let m := m.sweep.owed.foldl (fun m (o : Nat × Bool) => m.closeSweep o.1) m
      (Module.closeSweep { m with sweep := { m.sweep with owed := [] } } m.lastSweep).closePeriod
    else m)

/-- PROVISIONAL_MANIFEST (R346): only of a sweep whose frames reached this module, and no second one. -/
def execProvisionalManifest (s : State) : Host.Outcome State Fault Refusal :=
  onModule s (fun m =>
    let k := m.lastSweep
    if m.runs && m.up .rgi && decide (m.pair.role = .ready) && m.readoutOpen k && m.sweep.prov.isNone &&
        decide (look [] m.sweep.accepted k ≠ []) then
      let man : Manifest := { sweep := k, used := m.usedSlots k, gen := m.pair.gen }
      let m := m.takeManifest man
      { m with sweep := { m.sweep with prov := some man } }
    else m)

/-- HEARTBEAT_SEND (R269). -/
def execHeartbeatSend (s : State) : Host.Outcome State Fault Refusal :=
  onModule s (fun m =>
    if m.runs && m.acts && m.up .rgi && m.up .vsi && m.conf?.isSome && decide (m.dorm.phase ≠ .dormant) then
      m.cfg.rings.foldl Module.heartbeat m
    else m)

end Sys2Proof.Machine
end

