-- ==== Sys2Proof/Machine/Dormancy.lean ====
section
/-! DEFINITION. Dormancy (R165 to R170, R198, R382, R460): the entry on the host's command, its end in the next idle
millisecond (log 54), the wake and its causes, the survey, and DOMAIN.WAKE. -/

namespace Sys2Proof.Machine

/-! ## Entry (R165) -/

/-- Every bay is DEAD and every string OPEN, in LOCKOUT or in SERVICE. -/
def Module.mayDormant (m : Module) : Bool :=
  m.cfg.bays.all (fun b => decide ((m.bInst b).state = 0)) &&
  m.strNos.all (fun s => decide ((m.sInst s).state ∈ [0, 8, 9]))

/-- Balancing stops by BAL_STOP (R159), and no plan stands. -/
def Module.stopBalance (m : Module) : Module :=
  m.cfg.workers.foldl (fun m (w : Wk × WorkerEntry) =>
    if w.2.typ = .dzc24 then
      let running := (m.wk w.1).transfers ≠ []
      let m := m.modWk w.1 (fun x => { x with
        balPlan := [], transfers := [], balSent := none
        edges := keepEdges m.sweep.j m.sweep.period
          (x.edges ++ x.transfers.map (fun (t : Nat × Nat × Nat) => (t.1, m.sweep.j)))
        settled := x.transfers.foldl (fun l (t : Nat × Nat × Nat) => put l t.1 m.sweep.j) x.settled })
      if running then m.order w.1 0x31 [] else m
    else m) m

/-- The payload of DORMANT_ENTER (Table 06-10). -/
def Module.dormantPayload (m : Module) : List Byte :=
  let d := m.cfg.dorm
  le 2 d.vMin ++ le 2 d.vMax ++ leI 2 d.tMin ++ leI 2 d.tMax ++ [d.checkInterval, 0, 0, 0] ++ le 4 d.vBusMax ++ leI 4 d.iOpenMax

/-- Steps 1 to 3 of the entry, in either module of a pair; only the leader sends on the rings. Table 14-4 has no frame for the
leader's command to the follower: the JOURNAL frame of this record, with its WAKE_TAG (R382), is that command (log 171). -/
def Module.enterDormant (m : Module) (tag : Nat) : Module :=
  let m := m.stopBalance
  let m := m.cfg.rings.foldl Module.rollCall m
  let m := m.jotDom .mgi eDormant sevInfo scDomain 0xFFFFFFFF (i32 (m.sweep.j : Int)) (le 4 m.sweep.j ++ le 16 tag)
  { m with dorm := { m.dorm with
      phase := .entering, wakeTag := tag, survey := false, surveySweeps := 0, entryAt := m.time.now, ringsEntered := [] } }

/-- The record of the entry still waits to be written and sent to the follower. -/
def Module.entryWaits (m : Module) : Bool := m.jou.queue.any (fun r => decide (r.2.code = eDormant))

/-- The entry goes on, one step in each idle millisecond (log 54), once its record is written: step 4 sends DORMANT_ENTER; step 5
stops the schedule, leaves the ports and pair lanes to their activity detectors, suspends the switch watchdog (R312) and closes
the sessions (R372). -/
def Module.sleep (m : Module) : Module :=
  if m.dorm.phase ≠ .entering ∨ m.entryWaits then m
  else if m.dorm.ringsEntered = [] ∧ m.cfg.rings ≠ [] then
    let m := m.cfg.rings.foldl (fun m r => m.bcast r 0x50 m.dormantPayload) m
    { m with dorm := { m.dorm with ringsEntered := m.cfg.rings } }
  else
    let m := m.closeSessions.portsDead (fun _ => true)
    { m with
      sweep := { m.sweep with running := false }
      rings := m.rings.map (fun (p : Nat × RingSt) => (p.1, { p.2 with trained := false }))
      sw := { m.sw with suspended := true }
      dorm := { m.dorm with phase := .dormant, ringsEntered := [] } }

/-- DOMAIN.DORMANT (R165, R382, R383). -/
def execDomainDormant (req : DcpReq) (wakeTag : Nat) (s : State) : Host.Outcome State Fault Refusal :=
  onModule s (fun m => m.dcpRequest req 0x0103 16 (decide (wakeTag < 2 ^ 128)) (fun m x =>
    if m.mayDormant then
      let m := (m.clearAll .rgi cDormantWorkerFault).enterDormant wakeTag
      (m, some (stOk, 0, m.cmdResult scDomain 0xFFFF 0xFF 0 0xFFFF))
    else m.refuse x req.seq 0x0103 scDomain 0xFFFF 0xFF 0 0xFFFF))

/-! ## Wake (R168 to R170) -/

/-- The module wakes (R168): it activates its pair lanes; the leader sends the workers out of dormancy, trains the rings again
and reads WAKE_CAUSE, and resumes its sweeps after that; a follower is awake at once. -/
def Module.wake (m : Module) (survey : Bool) : Module :=
  let m : Module := { m with
    pair := { m.pair with lastValid := m.time.now }
    dorm := { m.dorm with
      phase := if m.follows then .awake else .waking, survey := survey, surveySweeps := 0, wakeAt := m.time.now } }
  let m := m.sendKeepalive.jotDom .mgi eDormant sevInfo scDomain 0xFFFFFFFF
  (if m.acts then m.exitWorkers else m).wakeCheck

/-- A wake that some ring or worker holds up ends 5 s after its start (R168). -/
def Module.wakeLate (m : Module) : Module :=
  if m.dorm.phase = .waking ∧ m.dorm.wakeAt + 5000000000 ≤ m.time.now then m.wakeEnd else m

/-- The entry is aborted: rings already sent DORMANT_ENTER are sent DORMANT_EXIT (R170). -/
def Module.abortDormant (m : Module) : Module :=
  let m := m.dorm.ringsEntered.foldl (fun m r => m.bcast r 0x51 []) m
  let m := m.jotDom .mgi eDormant sevInfo scDomain 0xFFFFFFFF
  { m with dorm := { m.dorm with phase := .awake, ringsEntered := [] } }

/-- A wake source arrives: it wakes, it aborts an entry, or it makes the wake of a survey final (R168 to R170). -/
def Module.wakeSource (m : Module) : Module :=
  if m.runs = false then m
  else match m.dorm.phase with
    | .dormant => m.wake false
    | .entering => m.abortDormant
    | _ => { m with dorm := { m.dorm with survey := false } }

/-- DORMANT_WAKE_RING (R167, R168, R170). -/
def execDormantWakeRing (port : Nat) (s : State) : Host.Outcome State Fault Refusal :=
  onModule s (fun m => if m.portOn port then m.wakeSource else m)

/-- PCS_DC_READY_RISE (R168, R258). -/
def execPcsDcReadyRise (s : State) : Host.Outcome State Fault Refusal :=
  onModule s (fun m =>
    if m.sup.phase = .on then
      (Module.wakeSource { m with sup := { m.sup with dcReady := true } }).scarabRun
    else m)

/-- PAIR_LANE_WAKE (R168): it wakes a sleeping module and changes nothing in one that is awake. -/
def execPairLaneWake (s : State) : Host.Outcome State Fault Refusal :=
  onModule s (fun m => if m.runs && m.isPair && decide (m.dorm.phase = .dormant) then m.wake false else m)

/-- DORMANT_SURVEY_EXPIRE (R169). -/
def execDormantSurveyExpire (s : State) : Host.Outcome State Fault Refusal :=
  onModule s (fun m =>
    if m.runs && decide (m.dorm.phase = .dormant) && decide (m.cfg.dorm.surveyH ≠ 0) then m.wake true else m)

/-- A sweep of a survey has run; after 10 sweeps with every WAKE_CAUSE read and none found, the module sleeps again
(R169). -/
def Module.surveyStep (m : Module) : Module :=
  if m.dorm.survey = false then m
  else
    let n := m.dorm.surveySweeps + 1
    let m : Module := { m with dorm := { m.dorm with surveySweeps := n } }
    -- a worker that no roll call has reached since the wake is missing (R169)
    let m := if m.acts then m.cfg.workers.foldl (fun m (w : Wk × WorkerEntry) =>
        if (m.wk w.1).answered then m else m.raise .rgi cDormantWorkerFault sevWarning scWorker (wkInst w.1)) m else m
    if m.al.conds.any (fun c => c.code = cDormantWorkerFault) then { m with dorm := { m.dorm with survey := false } }
    else if m.acts && decide (10 ≤ n) && decide (m.dorm.phase = .awake) && decide (m.domainState = 2) && m.mayDormant &&
        m.cfg.workers.all (fun (w : Wk × WorkerEntry) => (m.wk w.1).wakeRead) then
      m.enterDormant m.dorm.wakeTag
    else m

/-- DOMAIN.WAKE (R382): a packet without a session that a sleeping module matches by its serial number. -/
def execDomainWake (serial wakeTag : Nat) (s : State) : Host.Outcome State Fault Refusal :=
  onModule s (fun m =>
    if m.runs = false ∨ serial ≠ m.sup.serial then m
    else if wakeTag = m.dorm.wakeTag then
      if m.dorm.phase ≠ .awake ∨ m.dorm.survey then m.wakeSource else m
    else if m.dorm.phase = .dormant then m.countDcp 4
    else m)

end Sys2Proof.Machine
end

