-- ==== Sys2Proof/Machine/Image.lean ====
section
/-! DEFINITION. The state image of a pair as bytes, and its digest (R171, R202, R226, R347, Tables 07-1, 08-1, 08-2, 09-1 and
14-6). The layout of the regions beside CELL is in no table; their bytes are free values of their content (log 4). -/

namespace Sys2Proof.Machine

/-! ## The 512-byte cell state -/

/-- FLAGS of a window start (Table 08-3). -/
def startFlags (s : StartSlot) : Nat := bitsOf [s.valid, s.mainOk, s.fbOk, s.restEnded]

/-- A window start slot (Table 08-2). -/
def startBytes (s : StartSlot) : List Byte :=
  le 4 s.sweep ++ le 2 s.socA ++ le 2 s.sigmaA ++ leI 8 s.qStr ++ leI 8 s.absQ ++ float32 s.qLearn ++ le 4 s.activeN ++
    le 4 s.peakN ++ [startFlags s, 0, 0, 0]

/-- Bytes 0 to 63 (Table 07-1). -/
def chargeBytes (flags : Nat) (c : CellSt) : List Byte :=
  leI 8 c.qBase ++ leI 8 c.qStrBase ++ float32 c.qCorr ++ float32 c.sigma ++ le 4 c.anchorSweep ++ le 2 c.socAnchor ++
    le 2 c.sigmaAnchor ++ padTo 22 (c.means.map (le 2)).flatten ++ [c.minuteHead, flags] ++ le 4 c.minuteSum ++ le 2 c.minuteN ++
    zeros 2

/-- Bytes 64 to 207 (Table 08-1). -/
def learnBytes (c : CellSt) : List Byte :=
  le 4 (c.rohm25.getD naU32) ++ le 4 (c.rpol25.getD naU32) ++ le 2 (c.tauPol.getD naU16) ++ le 2 (sat16 c.fitN) ++
    float32 c.rohmVar ++ float32 c.rpolVar ++ le 4 (c.rohmBase.getD naU32) ++ float32 c.outSum ++
    [c.outN % 128 + 128 * (if c.outAbove then 1 else 0), impFlags c, c.lastReject, 0] ++ le 8 c.tFit ++ le 4 c.cap ++
    float32 c.capVar ++ le 4 c.capVer ++ le 2 (sat16 c.capUpdates) ++ [capFlags c, c.lastResult] ++ le 4 c.lastUpdate ++ zeros 4 ++
    startBytes c.startLo ++ startBytes c.startHi

/-- LIM_FLAGS (Table 09-1). -/
def limFlags (c : CellSt) : Nat := bitsOf [c.cutDisHold, c.cutChgHold, c.limitingDis, c.limitingChg]

/-- Bytes 208 to 239 (Table 09-1). -/
def limitBytes (c : CellSt) : List Byte :=
  float32 c.vPol0 ++ ((List.range 3).map (fun h => float32 (c.ilimDis.getD h 0))).flatten ++
    ((List.range 3).map (fun h => float32 (c.ilimChg.getD h 0))).flatten ++ [limFlags c, 0, 0, 0]

/-- The 512-byte cell state of a channel table entry; of an unused one it is zero. -/
def Module.cellBytes (m : Module) (e : Nat) : List Byte :=
  if (find m.cfg.channels e).isSome then
    let c := m.cell e
    padTo 512 (chargeBytes (m.chargeFlags e) c ++ learnBytes c ++ limitBytes c)
  else zeros 512

/-! ## The digest (R347) -/

/-- One bit step of CRC-64, reflected. -/
def crc64Step (c : Nat) : Nat := if c % 2 = 1 then (c / 2) ^^^ 0xC96C5795D7870F42 else c / 2

/-- `n` bit steps of CRC-64. -/
def crc64Steps : Nat → Nat → Nat
  | 0, c => c
  | n + 1, c => crc64Steps n (crc64Step c)

/-- CRC-64 of R347. -/
def crc64 (bytes : List Byte) : Nat :=
  (bytes.foldl (fun c b => crc64Steps 8 (c ^^^ b)) 0xFFFFFFFFFFFFFFFF) ^^^ 0xFFFFFFFFFFFFFFFF

/-- The state image after the verdict stage of sweep `k` (Table 14-6). -/
def Module.image (m : Module) (k : Nat) : StateImage :=
  { cells := m.est.cells, strs := m.est.strs, bays := m.est.bays, verdict := m.ver.recs, overflow := m.ver.overflow
    strInst := m.scarab.strs, bayInst := m.scarab.bays, sweep := k
    parts := m.rings.map (fun (p : Nat × RingSt) => (p.1, p.2.part))
    bursts := m.bursts
    workers := m.workers.map (fun (p : Wk × WorkerSt) =>
      let x := p.2
      (p.1, { held := x.held, plan := x.balPlan, transfers := x.transfers, settled := x.settled, edges := x.edges
              qBase := x.qBase, rebase := x.rebase, mismRun := x.mismRun, sense := x.sense })) }

/-- Regions 1 to 5 of Table 14-6 in its order: blocks, and the part of the image they hold. -/
def regions (img : StateImage) : List (Nat × StateImage) :=
  [(32, { strs := img.strs }), (1, { bays := img.bays }), (512, { verdict := img.verdict, overflow := img.overflow }),
   (9, { strInst := img.strInst, bayInst := img.bayInst }),
   (256, { sweep := img.sweep, parts := img.parts, bursts := img.bursts, workers := img.workers })]

/-- A block of a region whose layout no table gives. -/
def regionBlock (region : Nat) (img : StateImage) (i : Nat) : List Byte :=
  (List.range 4096).map (fun o => Config.imageByte region img (4096 * i + o) % 256)

/-- Block `i` of the CELL region. -/
def Module.cellBlock (m : Module) (i : Nat) : List Byte := ((List.range 8).map (fun n => m.cellBytes (8 * i + n))).flatten

/-- The blocks of the state image, in order. -/
def Module.imageBlocks (m : Module) (k : Nat) : List (List Byte) :=
  (List.range 24576).map m.cellBlock ++
    ((regions (m.image k)).zipIdx.map (fun (r : (Nat × StateImage) × Nat) =>
      (List.range r.1.1).map (regionBlock (r.2 + 1) r.1.2))).flatten

/-- The digest of sweep `k` (R347). -/
def Module.digest (m : Module) (k : Nat) : Nat :=
  ((m.imageBlocks k).zipIdx.foldl (fun a (b : List Byte × Nat) => a + crc64 (le 4 b.2 ++ b.1)) 0) % 2 ^ 64

end Sys2Proof.Machine
end

