-- ==== Sys2Proof/Machine/Stage.lean ====
section
/-! DEFINITION. The verdict stage (R125, R244) and the fast evaluation (R245): rows, requests, host commands at delivery
(R391), limits, Scarab, balancing and forced tests issued, the state digest and the snapshot for the follower (R347, R349). -/

namespace Sys2Proof.Machine

/-! ## Delivery of host commands (COMMAND_DELIVERY, R391) -/

/-- The event code a group 0x04 opcode stands for (Table 15-18). -/
def eventOf (op : Nat) : Nat :=
  if op = 0x0400 ∨ op = 0x0410 then 0
  else if op = 0x0401 ∨ op = 0x0411 then 1
  else if op = 0x0402 then 6
  else if op = 0x0403 then 7
  else if op = 0x0404 then 8
  else if op = 0x0412 then 4
  else 5

/-- The rule row that holds an opening of a string or a bay (HOLD 4 of Table 15-7). -/
def Module.holdRow (m : Module) (bay : Bool) (n : Nat) : Nat :=
  let b := if bay then n else (m.cfg.str n).bay
  let rows := (m.activeRows.filter (fun (a : VKey × Rule) =>
    (!bay && (a.2.action = 2 || a.2.action = 4) &&
      decide (n ∈ m.targetStrings a.2.scope (decide (a.2.action = 4)) a.1.overflow a.1.inst)) ||
    (a.2.action = 3 && decide (b ∈ m.targetBays a.2.scope a.1.overflow a.1.inst)))).map (fun (a : VKey × Rule) => a.1.row)
  (leastN rows).getD 0xFFFF

/-- What R248 sets against a command: HOLD and ROW of Table 15-7, 0 for nothing. -/
def Module.holdOf (m : Module) (op n : Nat) : Nat × Nat :=
  if op = 0x0400 then
    let h := m.holdOfString n
    (h, if h = 4 then m.holdRow false n else 0xFFFF)
  else if op = 0x0410 then
    if m.tripInForce n then (3, 0xFFFF) else if m.drainHeld n then (4, m.holdRow true n) else (0, 0xFFFF)
  else (0, 0xFFFF)

/-- A delivered command is answered with its record (R377, log 49). -/
def Module.commandDone (m : Module) (x : Session) (p : PendCmd) (st scope inst hold row : Nat) : Module :=
  let r := m.cmdResult scope p.ident inst hold row
  let code := if st = stAccepted then eCommand else eCommandReject
  (m.jotCommand code sevInfo p.opcode st x.id p.seq scope p.ident r).answer x p.seq p.opcode st 0 r

/-- One waiting event command meets the state at its delivery. -/
def Module.deliverCommand (m : Module) (p : PendCmd) : Module :=
  match m.session? p.session with
  | none => m
  | some x =>
    let bay := decide (0x0410 ≤ p.opcode)
    let scope := if bay then scBay else scString
    let every := decide (p.opcode = 0x0401 ∧ p.ident = 0xFFFF)
    let k : InstKey := if bay then .bay p.ident else .str p.ident
    if !every && !(if bay then decide (p.ident ∈ m.cfg.bays) else (find m.cfg.strings p.ident).isSome) then
      m.answer x p.seq p.opcode stNotFound 0 []
    else if m.domainState ∉ opStates p.opcode then
      m.commandDone x p stStateReject (if every then scDomain else scope) (if every then 0xFF else (m.inst k).state) 0 0xFFFF
    else if every then
      let m := m.strNos.foldl (fun m s => (m.deliverAll (.str s) 1).1) m
      m.commandDone x p stAccepted scDomain 0xFF 0 0xFFFF
    else
      let h := m.holdOf p.opcode p.ident
      if h.1 ≠ 0 then m.commandDone x p stStateReject scope (m.inst k).state h.1 h.2
      else
        let r := m.deliverAll k (eventOf p.opcode)
        r.1.commandDone x p (if r.2 then stAccepted else stStateReject) scope (r.1.inst k).state 0 0xFFFF

/-- Every waiting event command, in order of receipt; one of an earlier epoch of the MGI is discarded (R70). -/
def Module.deliverCommands (m : Module) : Module :=
  let l := m.dcp.pend.filter (fun p => p.epoch = (m.isl.getD 0 {}).epoch)
  l.foldl Module.deliverCommand { m with dcp := { m.dcp with pend := [] } }

/-! ## Balancing and forced tests (R153, R161, R162) -/

/-- One converter of BAL_SET (Table 06-6). -/
def convBytes (c : Option (Nat × Bool × Nat)) : List Byte :=
  match c with
  | none => [255, 0, 0, 0]
  | some (ch, charge, dur) => [ch, if charge then 1 else 0] ++ le 2 dur

/-- The plan of a worker is issued: BAL_SET, and BAL_READ where transfers run or have just run. Its transfers stand once the
worker has accepted it (R160); both modules of a pair keep them. -/
def Module.issuePlan (m : Module) (w : Wk) (k : Nat) : Module :=
  let x := m.wk w
  if x.balPlan = [] then m
  else
    let new := x.balPlan.filterMap (fun c => c.map (fun (t : Nat × Bool × Nat) => (t.1, k, t.2.2)))
    if new = [] ∧ x.transfers = [] then m
    else
      let m := m.modWk w (fun x => { x with balSent := some new })
      let m := m.order w 0x30 ((x.balPlan.map convBytes).flatten ++ zeros 2)
      if m.acts then m.ask w 0x32 [] else m

/-- A pull is placed on the next sweep whose GEYSER has not left (R149, R153). -/
def Module.forcePull (m : Module) (w : Wk) (pin : Nat) (tag : Nat → CmdTag) : Module :=
  let j := (m.sweep.j + 1) % 4294967296
  let m := m.modWk w (fun x => { x with sense := { x.sense with
    wantForce := dropFrom x.sense.wantForce pin, forced := x.sense.forced.filter (fun f => f.1 ≠ j) ++ [(j, pin)] } })
  m.order w 0x40 ([pin, 0, 0, 0] ++ le 4 j) (tag j)

/-- Forced tests wanted by the sense evaluation. -/
def Module.issueForces (m : Module) : Module :=
  m.cfg.workers.foldl (fun m (w : Wk × WorkerEntry) => match (m.wk w.1).sense.wantForce with
    | p :: _ => m.forcePull w.1 p (fun j => .force p j)
    | [] => m) m

/-- Balancing of a minute sweep. -/
def Module.issueBalance (m : Module) (k : Nat) : Module :=
  if minuteSweep m.sweep.period k ∧ m.dorm.phase = .awake then
    m.cfg.workers.foldl (fun m (w : Wk × WorkerEntry) => if w.2.typ = .dzc24 then m.issuePlan w.1 k else m) m
  else m

/-! ## The state image, its digest and the snapshot (R347 to R349) -/

/-- A follower asks for the leader's state: its lever is at LOCKED, its set is the leader's and no request is out (R349,
Table 14-9). -/
def Module.askState (m : Module) : Module :=
  if m.pair.role = .syncing ∧ m.sup.lever = .locked ∧ m.conf?.isSome ∧ m.pair.keep.setId = m.sets.active.setId ∧
      m.pair.resync.requested = false ∧ m.pair.resync.failed = false ∧ m.pair.resync.installed = false ∧
      m.pair.silent = false then
    let m : Module := { m with pair := { m.pair with
      resync := { m.pair.resync with requested := true, next := 0, lost := [], steps := [], buffered := [] } } }
    m.emit (.pairCtrl 0 0 m.upd.running.genOwn [])
  else m

/-- A follower loses its standing beside the leader: it asks for the state again (R342, R348, R349). -/
def Module.loseSync (m : Module) : Module :=
  if m.follows then
    let m := m.setRole .syncing
    let m : Module := { m with
      sweep := { m.sweep with prov := none }
      pair := { m.pair with
        equalRun := 0, accepted := none
        resync := { m.pair.resync with requested := false, installed := false, next := 0, lost := [], steps := [], buffered := [] } } }
    m.askState
  else m

/-- A SYNCING follower stands ready (Table 14-2). -/
def Module.readyCheck (m : Module) : Module :=
  if m.pair.role = .syncing ∧ m.pair.resync.installed ∧ 2 ≤ m.pair.equalRun ∧ m.sup.lever = .locked ∧
      m.pair.keep.setId = m.sets.active.setId then
    let m : Module := { m with pair := { m.pair with resync := { m.pair.resync with failed := false } } }
    ((m.setRole .ready).clear .pri cPairSyncFailed).clear .pri cPairDigestMismatch
  else m

/-- The digests of one sweep are compared once both are known (R342, R348). -/
def Module.digestCheck (m : Module) : Module :=
  match m.pair.partnerDigest with
  | none => m
  | some (k, d) =>
    match find m.pair.digests k with
    | none => m
    | some own =>
      let m : Module := { m with pair := { m.pair with partnerDigest := none } }
      if own = d then (Module.readyCheck { m with pair := { m.pair with equalRun := m.pair.equalRun + 1 } })
      else
        let m : Module := { m with pair := { m.pair with equalRun := 0, mismatches := bump16 m.pair.mismatches } }
        if m.follows then (m.raise .pri cPairDigestMismatch sevWarning scModule 0).loseSync else m

/-- The digest of sweep `k` is formed, sent and compared. -/
def Module.sendDigest (m : Module) (k : Nat) : Module :=
  if m.isPair then
    let d := m.digest k
    let m : Module := { m with pair := { m.pair with digests := ((k, d) :: m.pair.digests).take 64 } }
    (m.emit (.pairDigest k d)).digestCheck
  else m

/-- The leader takes the snapshot a follower waits for and streams it (R349). -/
def Module.sendSnapshot (m : Module) (k : Nat) : Module :=
  if m.acts ∧ m.pair.serve then
    let img := m.image k
    Module.emit { m with pair := { m.pair with serve := false, snap := some img } } (.pairState img)
  else m

/-! ## The stage (R244) -/

/-- ALERT.CLEAR takes effect: sticky bits that are not live go (R424). -/
def Module.clearSticky (m : Module) : Module :=
  let live := m.live
  { m with al := { m.al with
      sticky := m.al.sticky.filter (fun s => s ∉ m.al.clearReq || s ∈ live), clearReq := [] } }

/-- The insertion slots of a verdict stage (R264). -/
def Module.newQuota (m : Module) : Module :=
  { m with scarab := { m.scarab with quota := m.cfg.bays.map (fun b => (b, m.cfg.seq.insertBatch)) } }

/-- Requests of rule rows, then host commands, then every instance steps; a follower issues nothing (R246). -/
def Module.stageScarab (m : Module) : Module :=
  if m.scarabOn then m.deliverRequests.deliverCommands.scarabRun
  else { m with ver := { m.ver with opens := [], drains := [] } }

/-- The verdict stage of a sweep whose estimate has come. -/
def Module.stageSweep (m : Module) (k : Nat) : Module :=
  let m : Module := { m with ver := { m.ver with held := 0 } }
  let m := (m.evalRows k).driveTrip
  let m := (m.cfg.bays.foldl (fun m b => m.stampSoc b) (m.publish true)).moduleChanges k
  let m := m.newQuota
  let m := match m.sweep.manifests.find? (fun x => x.sweep = k) with
    | some man => if m.scarabOn then m.sweepWaits man else m
    | none => m
  let m := (m.stageScarab.issueForces.issueBalance k).driveAlerts.writeNotes
  let m : Module := { m with sweep := { m.sweep with verdicts := some k } }
  let m := if m.acts && m.isPair then (List.range 4).foldl (fun m c => m.emit (.pairRun c (m.preRecord c))) m else m
  ((m.stick.clearSticky.sendDigest k).sendSnapshot k).surveyStep

/-- The verdict stage while the ESI delivers nothing: limits are held, fast rows are evaluated, and Scarab steps on its
present and DZS conditions (R72, R232, R464). -/
def Module.stageHeld (m : Module) : Module :=
  let m := m.holdLimits.evalFast.driveTrip
  let m := m.newQuota.stageScarab.driveAlerts.writeNotes
  m.stick.clearSticky

/-- The VSI runs verdict stages here. -/
def Module.judges (m : Module) : Bool := m.runs && m.up .vsi && m.conf?.isSome && m.shadows

/-- VERDICT_STAGE (R125, R244). -/
def execVerdictStage (s : State) : Host.Outcome State Fault Refusal :=
  onModule s (fun m =>
    if m.judges then
      match m.sweep.estimated with
      | some k => if m.sweep.verdicts = some k then m.stageHeld else m.stageSweep k
      | none => m.stageHeld
    else m)

/-- A fast evaluation (R245): the fast rows; where one became active or released, its requests are delivered, Scarab steps
on them, and the limits they touch are republished. -/
def Module.fastStage (m : Module) : Module :=
  let n := m.evalFast.driveTrip
  if n.fastActive = m.fastActive then n.driveAlerts.writeNotes
  else
    let opened := n.ver.opens.map (fun (o : Nat × Bool) => o.1)
    let n := (if n.scarabOn then n.deliverRequests else n).scarabRun
    ((n.republish opened).driveAlerts).writeNotes

/-- FAST_ROW_EVAL (R245): the leader's fast rows, their actions and the limits they touch. -/
def execFastRowEval (s : State) : Host.Outcome State Fault Refusal :=
  onModule s (fun m => if m.judges && m.acts then m.fastStage else m)

end Sys2Proof.Machine
end

