-- ==== Sys2Proof/Machine/Mirrors.lean ====
section
/-! DEFINITION. The Caldera records of the estimate: mirror rounds (R193, R220), capacity records (R216 to R218), the
rebuild at boot (R260, R356) and the installation of a received state image
(R197, R221, R349). -/

namespace Sys2Proof.Machine

/-! ## Rounds (R193, R220) -/

/-- Rounds may be written: the write stop does not hold, and the state is the domain's (Table 02-8, R356). -/
def Module.mayMirror (m : Module) : Bool := m.runs && m.up .mgi && m.calOk && m.shadows && m.est.ready

/-- The charge word of a cell (Table 07-10). -/
def Module.mirCell (m : Module) (seq e : Nat) : MirCell :=
  { soc := clampI (-32768) 32767 (roundInt (m.soc e * 10000))
    sigma := (clampI 0 65535 (roundInt ((m.cell e).sigma * 10000))).toNat
    flags := m.chargeFlags e, seq := seq % 65536 }

/-- The words of a charge round in their order: cells (0), strings (1), bays and the domain (2). -/
def Module.chargeWords (m : Module) : List (Nat × Nat) :=
  m.cfg.channels.map (fun (x : Nat × ChannelEntry) => (0, x.1)) ++ m.strNos.map (fun s => (1, s)) ++
    (m.cfg.bays ++ [4]).map (fun b => (2, b))

/-- One word of a charge round. A cell that still waits for its first base keeps its old word (log 59). -/
def Module.writeWord (m : Module) (x : Nat × Nat) : Module :=
  let h := m.cal.charge
  let seq := h.seq + 1
  let h : ChargeMirror :=
    match x.1 with
    | 0 => if waiting (m.cell x.2) then h else { h with cells := put h.cells x.2 (m.mirCell seq x.2).word }
    | 1 => { h with strs := put h.strs x.2 (m.mirStr seq x.2).word }
    | _ => { h with bays := put h.bays x.2 (bayWord (roundInt (m.bayE x.2).r) (seq % 65536)) }
  { m with cal := { m.cal with charge := h } }

/-- Words of a mirror round that a millisecond writes: a charge round then ends within 25 s (log 174). -/
def wordsPerMs : Nat := 8

/-- A charge round goes on: its next words, and after the last of them the header with SEQ advanced. The write stop interrupts it
until the next minute sweep (R193). -/
def Module.chargeRound (m : Module) : Module :=
  match m.cal.charge.round with
  | none => m
  | some n =>
    if m.calOk = false then { m with cal := { m.cal with charge := { m.cal.charge with stopped := true } } }
    else if m.cal.charge.stopped ∨ m.mayMirror = false then m
    else
      let ws := m.chargeWords
      let m := ((ws.drop n).take wordsPerMs).foldl Module.writeWord m
      let h := m.cal.charge
      let h : ChargeMirror :=
        if n + wordsPerMs < ws.length then { h with round := some (n + wordsPerMs) }
        else { h with setId := m.sets.active.setId, seq := h.seq + 1, plant := m.plant, round := none }
      { m with cal := { m.cal with charge := h } }

/-- A charge round begins, or an interrupted one resumes. -/
def Module.beginCharge (m : Module) (anew : Bool) : Module :=
  let h := m.cal.charge
  { m with cal := { m.cal with charge := { h with
      due := false, stopped := false, round := some (if anew then 0 else h.round.getD 0) } } }

/-- CHARGE_MIRROR_ROUND (R193): the round that a minute sweep has asked for begins; a round that the write stop interrupted
resumes. -/
def execChargeMirrorRound (s : State) : Host.Outcome State Fault Refusal :=
  onModule s (fun m => if m.mayMirror && m.cal.charge.due then m.beginCharge false else m)

/-- The impedance word of a cell (Table 08-10). -/
def Module.mirImp (m : Module) (seq e : Nat) : MirImp :=
  let c := m.cell e
  { rohm := c.rohm25.map (min 0xFFFE), rpol := c.rpol25.map (min 0xFFFE), tau := c.tauPol.map (min 0xFFFE)
    fitN := u8 c.fitN, seq := seq % 256 }

/-- An impedance round goes on: its next words, then the header with SEQ advanced (R220). -/
def Module.impedanceRound (m : Module) : Module :=
  match m.cal.impRound with
  | none => m
  | some n =>
    if m.calOk = false then { m with cal := { m.cal with impStopped := true } }
    else if m.cal.impStopped ∨ m.mayMirror = false then m
    else
      let es := m.cfg.channels.map (fun (x : Nat × ChannelEntry) => x.1)
      let imp := ((es.drop n).take wordsPerMs).foldl (fun l e => put l e (m.mirImp (m.cal.impSeq + 1) e).word) m.cal.imp
      if n + wordsPerMs < es.length then { m with cal := { m.cal with imp := imp, impRound := some (n + wordsPerMs) } }
      else { m with cal := { m.cal with
          imp := imp, impRound := none, impSet := m.sets.active.setId, impSeq := m.cal.impSeq + 1 } }

/-- An impedance round begins, or an interrupted one resumes. -/
def Module.beginImpedance (m : Module) (anew : Bool) : Module :=
  { m with cal := { m.cal with
      impDue := false, impStopped := false, impRound := some (if anew then 0 else m.cal.impRound.getD 0) } }

/-- IMPEDANCE_MIRROR_ROUND (R220). -/
def execImpedanceMirrorRound (s : State) : Host.Outcome State Fault Refusal :=
  onModule s (fun m => if m.mayMirror && m.cal.impDue then m.beginImpedance false else m)

/-! ## Capacity records (R216 to R218) -/

/-- A waiting record may be written: exempt from the hour of R218, or the hour has passed. -/
def Module.capReady (m : Module) (e : Nat) : Bool :=
  decide (e ∈ m.cal.capExempt) ||
  (match find m.cal.capHour e with
   | some t => decide (t + 3600000 ≤ m.ms)
   | none => true)

/-- A record is written: copy B, then copy A; WRITE_PENDING clears (R217). -/
def Module.writeCapacity (m : Module) (e : Nat) : Module :=
  let r := m.capRecord e
  let m := m.modCell e (fun c => { c with writePending := false })
  { m with cal := { m.cal with
      capB := put m.cal.capB e r.bytes, capA := put m.cal.capA e r.bytes
      capHour := if e ∈ m.cal.capExempt then m.cal.capHour else put m.cal.capHour e m.ms
      capWait := dropFrom m.cal.capWait e, capExempt := dropFrom m.cal.capExempt e } }

/-- CAPACITY_RECORD_WRITE (R217, R218): the first waiting record in channel order that may be written. -/
def execCapacityRecordWrite (s : State) : Host.Outcome State Fault Refusal :=
  onModule s (fun m =>
    if m.runs && m.up .mgi && m.calOk then
      match m.cal.capWait.find? m.capReady with
      | some e => m.writeCapacity e
      | none => m
    else m)

/-! ## The rebuild of a restarted module (R194, R260, R356) -/

/-- A module that boots starts its Scarab instances from their mirror words; its cells are rebuilt as its first sweep begins. -/
def Module.rebuild (m : Module) : Module := Module.bootScarab { m with est := { due := true } }

/-- A module that takes over in service rebuilds at once (R356). -/
def Module.rebuildNow (m : Module) : Module := m.rebuildCells.bootScarab

/-! ## A received state image (R197, R221, R349) -/

/-- The Scarab mirror from the instances as they stand (R349 step 6). -/
def Module.writeScarab (m : Module) : Module :=
  if m.calOk then 
    let words (l : List (Nat × Inst)) : List (Nat × Nat) := l.map (fun (p : Nat × Inst) => (p.1, instWord p.2))
    { m with cal := { m.cal with scarabS := words m.scarab.strs, scarabB := words m.scarab.bays } } else m

/-- Capacity records whose content the installed state changes are written again, with the partner's VERSION (R221). -/
def Module.handDiffering (m : Module) : Module :=
  m.cfg.channels.foldl (fun m (x : Nat × ChannelEntry) =>
    let old := copyOf m.cal.capA x.1
    let new := m.capRecord x.1
    if look [] m.cal.capA x.1 = new.bytes ∧ look [] m.cal.capB x.1 = new.bytes then m
    else
      let m := m.modCell x.1 (fun c => { c with writePending := true })
      let m : Module := { m with cal := { m.cal with
        capWait := addEntry x.1 m.cal.capWait, capExempt := addEntry x.1 m.cal.capExempt } }
      m.jot .mgi eCapacityIntent sevInfo scCell x.1 (i32 (new.cap : Int))
        (le 4 ((old.map (·.cap)).getD 0) ++ le 4 new.cap ++ le 4 new.version)) m

/-- Caldera follows the installed state (R349 step 6). -/
def Module.rewriteCaldera (m : Module) : Module :=
  let m := m.handDiffering.writeScarab
  (m.beginCharge true).beginImpedance true

/-- The state image is installed (R349 step 5); the sweeps buffered since are estimated next, in their
order, and the step images received since count (log 71). -/
def Module.installImage (m : Module) (img : StateImage) : Module :=
  let steps := m.pair.resync.steps.reverse.filter (fun (x : Nat × InstKey × Inst) => sweepAfter x.1 img.sweep)
  let m : Module := { m with
    est := { cells := img.cells, strs := img.strs, bays := img.bays, ready := true }
    ver := { m.ver with recs := img.verdict, overflow := img.overflow }
    scarab := { m.scarab with strs := img.strInst, bays := img.bayInst, bootReads := [], events := [] }
    sweep := { m.sweep with
      estimated := some img.sweep, verdicts := some img.sweep, prov := none
      manifests := m.sweep.manifests.filter (fun x => sweepAfter x.sweep img.sweep) }
    bursts := img.bursts
    pair := { m.pair with
      equalRun := 0
      resync := { m.pair.resync with requested := false, next := 0, lost := [], steps := [], buffered := [], installed := true, done := true } } }
  let m := img.workers.foldl (fun m (p : Wk × WorkerImage) =>
    let y := p.2
    m.modWk p.1 (fun x => { x with
      held := y.held, balPlan := y.plan, transfers := y.transfers, settled := y.settled, edges := y.edges, qBase := y.qBase
      rebase := y.rebase, mismRun := y.mismRun, sense := y.sense })) m
  let m := img.parts.foldl (fun m (p : Nat × Partition) => m.modRing p.1 (fun x => { x with part := p.2 })) m
  let m := steps.foldl (fun m (x : Nat × InstKey × Inst) => m.setInst x.2.1 x.2.2) m
  m.rewriteCaldera

end Sys2Proof.Machine
end

