-- ==== Sys2Proof/Machine/JournalWrite.lean ====
section
/-! DEFINITION. Writing journal records (R413 to R420): the two series of sequence numbers, the sections and what a full one
overwrites. -/

namespace Sys2Proof.Machine

/-- Slots of the section of a severity (Table 17-2). -/
def sectionSlots (sev : Nat) : Nat := [33554432, 16777216, 8388608, 4194304].getD sev 4194304


/-- A record is of TRIP severity. -/
def isTrip (e : Nat × JRec) : Bool := decide (e.2.severity = sevTrip)

/-- A TRIP record that the host has acknowledged (R421). -/
def Journal.acked (j : Journal) (e : Nat × JRec) : Bool :=
  isTrip e && domSeq e.2.seq && (match j.ackMark with | some k => decide (e.2.seq ≤ k) | none => false)

/-- The first entry that fits is taken out; the section it held comes back. -/
def takeOut (p : Nat × JRec → Bool) : List (Nat × JRec) → Option (Nat × List (Nat × JRec))
  | [] => none
  | e :: t => if p e then some (e.1, t) else (takeOut p t).map (fun r => (r.1, e :: r.2))

/-- The lowest section that holds a record other than TRIP. -/
def Journal.lowestSection (j : Journal) : Option Nat := leastN ((j.stored.filter (fun e => !isTrip e)).map (·.1))

/-- A record goes into a slot of a section. -/
def Journal.place (j : Journal) (kept : List (Nat × JRec)) (sec : Nat) (r : JRec) : Journal :=
  { j with stored := kept ++ [(sec, { r with borrowed := decide (sec ≠ min r.severity 4) })] }

/-- A TRIP record in a full section takes the slot that R420 names; the flag says that an unacknowledged one went. -/
def Journal.storeTrip (j : Journal) (r : JRec) : Journal × Bool :=
  match takeOut j.acked j.stored with
  | some (sec, kept) => (j.place kept sec r, false)
  | none =>
    match j.lowestSection with
    | some sec =>
      (match takeOut (fun e => !isTrip e && decide (e.1 = sec)) j.stored with
       | some (sec, kept) => (j.place kept sec r, false)
       | none => (j, false))
    | none =>
      (match takeOut isTrip j.stored with
       | some (sec, kept) => (Journal.place { j with tripOver := bump16 j.tripOver } kept sec r, true)
       | none => (j, false))

/-- A record is stored (R420). -/
def Module.storeRec (m : Module) (r : JRec) : Module :=
  let j := m.jou
  let s := min r.severity 4
  if (j.stored.filter (fun e => decide (e.1 = s))).length < sectionSlots s then { m with jou := j.place j.stored s r }
  else if s = sevTrip then
    let x := j.storeTrip r
    let m : Module := { m with jou := x.1 }
    if x.2 then m.raise .mgi cJournalTripOverwritten else m
  else
    match takeOut (fun e => !isTrip e && decide (e.1 = s)) j.stored with
    | some (sec, kept) => { m with jou := j.place kept sec r }
    | none => { m with jou := { j with dropped := bump16 j.dropped } }

/-- A record takes its number as it is written (R417): the leader's and the single module's in the domain series, and the
follower has a copy; every other module's in its local series, never above ALARM. A record received keeps its own. -/
def Module.number (m : Module) (keepsSeq : Bool) (r : JRec) : Module × JRec :=
  if keepsSeq then (m, r)
  else if m.leads then
    let r := { r with seq := m.jou.domNext }
    let m : Module := { m with jou := { m.jou with domNext := m.jou.domNext + 1 } }
    (if m.isPair then m.emit (.pairJournal r) else m, r)
  else
    ({ m with jou := { m.jou with locNext := m.jou.locNext + 1 } },
      { r with seq := m.jou.locNext, severity := min r.severity sevAlarm })

/-- The oldest waiting record is written. -/
def Module.writeNext (m : Module) : Module :=
  match m.jou.queue with
  | [] => m
  | (keeps, r) :: t =>
    let m : Module := { m with jou := { m.jou with queue := t } }
    let x := m.number keeps r
    let m := x.1.storeRec x.2
    if m.jou.queue.length < 65536 then m.clear .mgi cJournalQueueFull else m

/-- So many waiting records are written. -/
def Module.writeMany : Nat → Module → Module
  | 0, m => m
  | n + 1, m => Module.writeMany n m.writeNext

/-- Every record waiting now is written. -/
def Module.writeAll (m : Module) : Module := Module.writeMany m.jou.queue.length m

/-- A counter of the journal that stands at 0xFFFF is named once (R427); no read clears it (log 190). -/
def Module.nameCounter (m : Module) (count name : Nat) : Module :=
  if count = 0xFFFF ∧ name ∉ m.jou.named then
    Module.saturated { m with jou := { m.jou with named := addTo m.jou.named name } } name
  else m

/-- JOURNAL_WRITE (R417, R419, R420, R427). -/
def execJournalWrite (s : State) : Host.Outcome State Fault Refusal :=
  onModule s (fun m =>
    if m.runs ∧ m.up .mgi then
      let m := m.writeNext
      (m.nameCounter m.jou.dropped 418).nameCounter m.jou.tripOver 419
    else m)

end Sys2Proof.Machine
end

