-- ==== Sys2Proof/Machine/Handover.lean ====
section
/-! DEFINITION. Leadership (R339 to R342), planned handovers (R351 to R353), failovers (R354 to R356) and parking (R358,
R359) as the operations that the commands of the pair link, the lever and DCP share. -/

namespace Sys2Proof.Machine

/-! ## The lead token and the keepalive -/

/-- LEAD_TOKEN names this module's slot (R340). -/
def Module.wireMine (m : Module) : Bool :=
  (decide (m.sup.slot = .a) && m.pair.tokenLow) || (decide (m.sup.slot = .b) && !m.pair.tokenLow)

/-- The wire permits leadership: always in slot A, in slot B while it is high (Table 14-2, R354). -/
def Module.wirePermits (m : Module) : Bool :=
  decide (m.sup.slot = .a) || (decide (m.sup.slot = .b) && !m.pair.tokenLow)

/-- A condition that a single moment raises: its record is written, its sticky bit set, and it does not last (log 63). -/
def Module.pulse (m : Module) (src : Island) (code sev : Nat) : Module := (m.raise src code sev).clear src code

/-- The link carries frames (R344). -/
def Module.linked (m : Module) : Bool := m.isPair && !m.pair.silent

/-! ## Ports and outputs -/

/-- The ports of populated rings may be enabled: in a pair, as leader, or as a follower with its lever at LOCKED (Tables
02-11 and 14-9). -/
def Module.mayEnable (m : Module) : Bool :=
  m.runs && m.conf?.isSome && decide (m.sup.slot ≠ .invalid) && !m.sup.outputsOff && decide (m.dorm.phase ≠ .dormant) &&
    (m.leads || (m.isPair && m.follows && decide (m.sup.lever = .locked)))

/-- The own ports of the populated rings are enabled and every other one is not (R21). -/
def Module.enablePorts (m : Module) : Module :=
  if m.mayEnable then
    let own := m.cfg.rings.flatMap (fun r => [m.ownPort r false, m.ownPort r true].filterMap id)
    let m : Module := { m with ports := m.ports.zipIdx.map (fun (p : PortSt × Nat) =>
        { p.1 with enabled := decide (p.2 ∈ own) }) }
    m.portsDead (fun p => decide (p ∉ own))
  else m

/-- The ring ports are disabled. -/
def Module.disablePorts (m : Module) : Module :=
  Module.portsDead { m with ports := m.ports.map (fun p => { p with enabled := false }) } (fun _ => true)

/-- PWM and PRE_EN of every channel are low; a run in progress keeps its state for the run record (R61, R292). -/
def Module.prechargeLow (m : Module) : Module := { m with pre := m.pre.map PreCh.low }

/-- The outputs of a parking module end (R358 step 4). -/
def Module.parkPoint (m : Module) : Module :=
  let m : Module := m.disablePorts.prechargeLow
  { m with
    sup := { m.sup with outputsOff := true }
    sw := { m.sw with chans := m.sw.chans.map (fun ch => if ch.state = 5 then ch else ch.off) } }

/-! ## Becoming and ceasing to be leader (Tables 14-2 and 14-7) -/

/-- Every completion that a Scarab instance waited for is asked for again, and its step runs from now (Table 14-7: counted
commands are re-sent identically; log 65). -/
def Module.reissue (m : Module) : Module :=
  m.instKeys.foldl (fun m k => m.modInst k (fun i => { i with
    issued := false, result := 0, waiting := 0, stepFailed := false, fresh := false, stepStart := m.ms, coilAt := List.replicate 3 m.ms })) m

/-- The module leads. In slot A it drives the wire low and its token hold timer runs (R341); fast rows start inactive,
limit frames count from now, and plant time goes over to the module's own source (R82). -/
def Module.takeLead (m : Module) : Module :=
  let a := decide (m.sup.slot = .a)
  let m := m.setRole .leader
  let m : Module := { m with
    ver := { m.ver with fast := [] }
    sweep := { m.sweep with running := true, prov := none }
    can := { m.can with lastLimit := m.time.now }
    pair := { m.pair with
      stopped := false, driving := a, holdRun := a, tokenLow := a || m.pair.tokenLow, vsiDepart := false, bootWait := false
      offered := none, accepted := none, offerFails := 0, depart := none, breaks := [], noGeyser := false
      splitDone := false, setWanted := false, wantHandover := false
      resync := { m.pair.resync with requested := false, next := 0, lost := [], steps := [], buffered := [], failed := false } } }
  let m := ((m.clear .pri cPairSyncFailed).clear .pri cPairDigestMismatch).clear .pri cTokenFault
  let m := if m.ownSource then m else m.sourceGone
  m.takeSwitches.canHandover.enablePorts.sendKeepalive

/-- The rings that the old leader trained stay trained (R352). -/
def Module.keepTraining (m : Module) : Module :=
  m.cfg.rings.foldl (fun m r => m.modRing r (fun x => { x with trained := true })) m

/-- Commands whose answers the module no longer waits for. -/
def Module.dropCommands (m : Module) : Module :=
  let m : Module := { m with
    workers := m.workers.map (fun (p : Wk × WorkerSt) => (p.1, p.2.dropped))
    rings := m.rings.map (fun (p : Nat × RingSt) => (p.1, { p.2 with rejoin := none }))
    dcp := { m.dcp with waits := m.dcp.waits.map (fun d => { d with left := 0, failed := true }) } }
  m.flushDiag

/-- Leader work ends here, and the module has another role (Table 14-2). A slot A module releases the wire. -/
def Module.dropLead (m : Module) (r : Role) : Module :=
  let m := (m.prechargeLow.canDrop.setRole r).dropCommands
  let m : Module := { m with
    ver := { m.ver with fast := [], opens := [], drains := [] }
    sweep := { m.sweep with owed := [] }
    pair := { m.pair with
      driving := false, holdRun := false, tokenLow := m.pair.tokenLow && decide (m.sup.slot ≠ .a)
      offered := none, accepted := none, offerFails := 0, wantHandover := false, takeover := false, serve := false
      snap := none
      resync := { m.pair.resync with installed := decide (r = .ready) } } }
  m.drive

/-- Waiting event commands are refused, naming the new leader (R379). -/
def Module.rejectPending (m : Module) : Module :=
  let l := m.dcp.pend
  let m : Module := { m with
    dcp := { m.dcp with pend := [] }, pair := { m.pair with partnerRole := some .leader } }
  l.foldl (fun m p => match m.session? p.session with
    | some x => m.answer x p.seq p.opcode stRoleReject 0 m.rolePayload
    | none => m) m

/-! ## Planned handover (R351 to R353) -/

/-- The first sweep whose handover point lies at least 1 ms ahead (R352, R353). -/
def Module.nextHandover (m : Module) : Nat :=
  (m.sweep.j + (if m.time.now + 3000000 ≤ m.nextInstant then 1 else 2)) % 4294967296

/-- The partner can take over: READY, its lever at LOCKED, its digests equal for the last two sweeps (R351). -/
def Module.partnerReady (m : Module) : Bool :=
  m.linked && decide (m.pair.partnerRole = some .ready) && m.pair.keep.leverLocked && decide (2 ≤ m.pair.equalRun) &&
    decide (m.pair.depart = none)

/-- The leader wants a handover and, where its partner can take over, offers it for sweep `h`. -/
def Module.offerHandover (m : Module) (h : Nat) : Module :=
  let m : Module := { m with pair := { m.pair with wantHandover := true } }
  if m.acts && m.partnerReady && m.pair.offered.isNone && m.pair.accepted.isNone then
    Module.emit { m with pair := { m.pair with offered := some h } } (.pairHandover 0 h)
  else m

/-- The leader wants a handover at the next point it can be offered for. -/
def Module.startHandover (m : Module) : Module := m.offerHandover m.nextHandover

/-- The offer for sweep `h` found no ACCEPT, and the next sweep is offered; the third in a row raises HANDOVER_FAILED (R353). -/
def Module.offerFailed (m : Module) (h : Nat) : Module :=
  let n := m.pair.offerFails + 1
  let next := if sweepAfter m.nextHandover h then m.nextHandover else (h + 1) % 4294967296
  if n < 3 then Module.offerHandover { m with pair := { m.pair with offered := none, offerFails := n } } next
  else
    let m : Module := { m with pair := { m.pair with offered := none, offerFails := 0, wantHandover := false, then_ := 0 } }
    let m := m.pulse .pri cHandoverFailed sevWarning
    if m.sup.lever ≠ .locked then m.raise .mgi cEjectRefused else m

/-! ## Parking (R53, R358, R359) -/

/-- Parking begins: PARK_NOTICE leaves. -/
def Module.beginPark (m : Module) : Module :=
  let m := m.clear .mgi cEjectRefused
  let m : Module := { m with sup := { m.sup with parking := true } }
  if m.isPair then m.emit .pairPark else m

/-- The module's own ends serve hops of a ring (R359). -/
def Module.servesSplit (m : Module) : Bool :=
  m.cfg.rings.any (fun r => (m.servingEnds r).any (fun (e : Bool × Nat) => e.1 = decide (m.sup.slot = .b)))

/-- A follower, or a module that neither leads nor follows, parks without a handover, unless its ends serve hops. -/
def Module.followerPark (m : Module) : Module :=
  if m.follows && m.servesSplit then m.raise .mgi cEjectRefused else m.beginPark

/-! ## What a follower takes from its leader -/

/-- A precharge run record takes effect on a follower's channel, with its outputs low (R61, R292). -/
def Module.applyRecord (m : Module) (c : Nat) (r : RunRecord) : Module :=
  let ch := m.pch c
  let delay := (m.preCfg c).retryDelay * 1000
  let m := m.putPch c { ch.low with
    state := r.state, vTarget := r.vTarget, probeAt := m.time.now - r.probeMs * 1000000, done := r.done
    shortCount := r.shortCount, acc := r.acc, stands := decide (1 ≤ r.state ∧ r.state ≤ 4), record_ := r
    lastShort := if r.retryLeft = 0 then ch.lastShort else some (m.time.now - (delay - r.retryLeft) * 1000000) }
  let m := if r.state = 5 then m.raise .pwi cPrechargeFault sevWarning scPrecharge c else m
  if r.state = 6 then m.raise .pwi cPrechargeLockout sevWarning scPrecharge c else m

/-- A follower takes the sweep index from its leader (R123, R345); the instant follows by whole periods, on the whole
multiples of P (log 64). -/
def Module.adoptSweep (m : Module) (k : Nat) : Module :=
  if m.follows then
    let j := m.sweep.j
    if j = k then m
    else { m with sweep := { m.sweep with
      j := k
      tj := if m.sweep.tj ≠ 0 && sweepAfter k j && decide (sweepDiff k j < 16) then
          m.sweep.tj + sweepDiff k j * m.sweep.period * 1000000
        else m.time.now / (m.sweep.period * 1000000) * (m.sweep.period * 1000000)
      mirror := if 10000 ≤ sweepDiff k m.sweep.mirror ∧ m.calOk then k else m.sweep.mirror } }
  else m

/-- A follower asks its leader first for the set it lacks, then for the state (R349, R350). -/
def Module.askLeader (m : Module) : Module :=
  if m.pair.role = .syncing ∧ m.linked ∧ m.pair.keep.setId ≠ m.sets.active.setId then
    if m.pair.setWanted then m
    else Module.emit { m with pair := { m.pair with setWanted := true } } (.pairCtrl 2 0 0 [])
  else m.askState

/-- A single module leads once its lever is at LOCKED (R54): it enables its ports, and its limit frames count from now
(R408). -/
def Module.leadAlone (m : Module) : Module :=
  let m := m.setRole .leader
  let m := Module.enablePorts { m with can := { m.can with lastLimit := m.time.now } }
  if m.conf?.isSome then m.rebuild else m

/-- The role that a module which holds none takes: Table 14-2 in a pair, R54 in a single-module domain. -/
def Module.roleCheck (m : Module) : Module :=
  if decide (m.sup.slot = .single) && m.runs && decide (m.pair.role = .none_) && m.dcp.loaded then
    if m.sup.lever = .locked then m.leadAlone else m
  else if m.isPair && m.runs && decide (m.pair.role = .none_) && m.dcp.loaded then
    if m.linked && decide (m.pair.partnerRole = some .leader) then ((m.setRole .syncing).enablePorts).askLeader
    else if m.sup.lever = .locked ∧ m.wirePermits ∧
        (m.sup.peerPresent = false ∨ (m.linked ∧ m.pair.partnerRole.isSome) ∨ m.pair.bootWait) then
      m.takeLead.rebuild
    else m
  else m

/-! ## Failover (R354 to R356) -/

/-- The domain series goes on from the highest SEQ held + 65,536 (R418). -/
def Module.jumpDomain (m : Module) : Module :=
  let held := ((m.jou.stored.map (·.2.seq)) ++ ((m.jou.queue ++ m.jou.holding).filter (·.1)).map (·.2.seq)).filter domSeq
  { m with jou := { m.jou with domNext := (match greatestN held with
      | some k => max m.jou.domNext (k + 65536)
      | none => m.jou.domNext) } }

/-- The instant from which a missing GEYSER of the leader is seen: T_j - 500 us of the first sweep j due after the silence
began, with the last valid pair frame (R354). -/
def Module.absentFrom (m : Module) : Nat :=
  let p := m.sweep.period * 1000000
  let since := m.pair.lastValid + 1000000
  let n := if since < m.sweep.tj then 0 else (since - m.sweep.tj) / p + 1
  m.sweep.tj + n * p - 500000

/-- The leader's GEYSER is missing at this module's ports (R354). -/
def Module.geyserAbsent (m : Module) : Bool := m.pair.noGeyser && decide (m.absentFrom ≤ m.time.now)

/-- The ring evidence of R354: every populated ring with an own port up shows a BREAK at the leader's end or lacks the
leader's GEYSER, or is split and the link has been silent for 1 s. -/
def Module.ringEvidence (m : Module) : Bool :=
  m.cfg.rings.all (fun r =>
    match m.ownPort r (decide (m.sup.slot = .b)) with
    | some p =>
      !(m.port p).up || decide (r ∈ m.pair.breaks) || m.geyserAbsent ||
        (m.pair.splitDone && decide ((m.ring r).turnN ≠ [] ∨ (m.ring r).turnS ≠ []))
    | none => true)

/-- D has come (R354). -/
def Module.mayTakeOver (m : Module) : Bool :=
  m.follows && m.runs && m.wirePermits && decide (m.sup.lever = .locked) && decide (m.dorm.phase ≠ .dormant) &&
    (m.pair.depart.isSome || (m.pair.silent && m.ringEvidence))

/-- SAFE_HOLD is entered (R446): limits are 0 with DRAIN set, and leases wait to be granted. -/
def Module.enterSafeHold (m : Module) : Module :=
  { m with
    sets := { m.sets with safeHold := true, safeLate := false, safeGrant := true }
    ver := { m.ver with zeroed := true }
    sweep := { m.sweep with period := ((m.sets.active.content).getD {}).core.period } }

/-- A HEARTBEAT leaves every own end at once, whatever the partition (R355). -/
def Module.heartbeatOwn (m : Module) : Module :=
  if m.dorm.phase = .dormant then m
  else m.cfg.rings.foldl (fun m r => [m.ownPort r false, m.ownPort r true].foldl (fun m p => match p with
    | some p => if (m.port p).up then m.emit (.ring p (.command 0x21 0 false 0 m.heartbeatPayload)) else m
    | none => m) m) m

/-- D: the module leads, and takes over what cannot wait (R355, R356). -/
def Module.failover (m : Module) : Module :=
  let ready := decide (m.pair.role = .ready)
  let m : Module := { m with pair := { m.pair with failovers := bump16 m.pair.failovers } }
  let m := m.jumpDomain.takeLead
  let m := m.pulse .pri cPairFailover sevWarning
  let m :=
    if ready then m
    else
      let m := m.pulse .pri cPairUnsyncedTakeover sevAlarm
      let m := if m.sets.incompatible ∧ m.conf?.isNone then m.enterSafeHold else m
      if m.pair.resync.done then m else m.rebuildNow
  let m : Module := { m with pair := { m.pair with takeover := true, takeAt := m.time.now } }
  m.keepTraining.canLimits.heartbeatOwn.drive

/-- Sweeps that no leader will sample any more: those whose instant lies before the takeover point's own sweep. -/
def Module.skipped (m : Module) : Nat :=
  let p := m.sweep.period * 1000000
  if m.sweep.tj = 0 ∨ p = 0 then 0 else (m.time.now - m.sweep.tj) / p

/-- Sweeps up to the newest that hold no manifest, oldest first, with whether the workers may still hold their slots: the
last two sampled (R103). -/
def Module.unfinished (m : Module) (j : Nat) : List (Nat × Bool) :=
  (((List.range 8).map (fun i => (j + 4294967296 - 7 + i) % 4294967296)).filter (fun k =>
    m.readoutOpen k && (match m.sweep.estimated with | some e => sweepAfter k e | none => decide (sweepDiff j k ≤ 1)))).map (fun k =>
      (k, decide (sweepDiff j k ≤ 1)))

/-- A row became active in a sweep whose actions the old leader may not have issued: one after the newest whose DIGEST has
come (R355 step 1). -/
def Module.actionOpen (m : Module) (x : VRec) : Bool :=
  x.active && (match m.pair.lastDigest with | some k => sweepAfter x.at_ k | none => true)

/-- H_t: the rest of Table 14-7 is taken over (R355), and the actions that the old leader may not have issued are. -/
def Module.takeoverPoint (m : Module) : Module :=
  let j := m.sweep.j
  let n := m.skipped
  let owed := m.unfinished j ++ (List.range n).map (fun i => ((j + 1 + i) % 4294967296, false))
  let m : Module := { m with
    pair := { m.pair with takeover := false }
    sweep := { m.sweep with
      j := (j + n) % 4294967296, tj := m.sweep.tj + n * m.sweep.period * 1000000
      owed := owed } }
  let m := if m.up .rgi then m.cfg.rings.foldl Module.fixPartition m else m
  let m := (m.ver.recs.filter (fun (p : VKey × VRec) => m.actionOpen p.2)).foldl (fun m (p : VKey × VRec) =>
    m.request (look {} m.cfg.rules p.1.row) p.1.overflow p.1.inst) m
  let m := m.newQuota.reissue
  if m.scarabOn then m.deliverRequests.scarabRun else m

end Sys2Proof.Machine
end

