-- ==== Sys2Proof/Machine/Boot.lean ====
section
/-! DEFINITION. Starting the module (R18, R43, R73, R74, R433 to R437, R445): what survives a restart, Weevil's choice of an
image, the ACTIVE set, and the roles a boot ends in. -/

namespace Sys2Proof.Machine

/-! ## What survives (Caldera, the journal, the switch image and what the carrier and the host hold) -/

/-- A set slot after a restart: a check that was cut off is to be asked for again (log 67). -/
def SetSlot.kept (x : SetSlot) : SetSlot := if x.state = 3 then { x with state := 2 } else x

/-- Conditions of the supplies and of the islands that R73 leaves running. -/
def keptCodes : List Nat :=
  [cAuxHigh, cAuxLow, cModuleHot, cPrechargeFault, cPrechargeLockout, cSyncLost, cSwitchLatched, cOpenLoadOn, cOpenLoadOff,
    cShortToSupply]

/-- A precharge channel after a loss of power: its Caldera word (R286). -/
def PreCh.fromStored (ch : PreCh) : PreCh :=
  { stored := ch.stored, shortCount := ch.stored.1, state := if ch.stored.2.1 then 6 else 0, lastShortPlant := ch.stored.2.2 }

/-- A switch channel as the SWI starts (R74, R310, R317): its commanded state and its latch are non-volatile. -/
def SwCh.restarted (ch : SwCh) : SwCh := { commanded := ch.commanded, cause := ch.cause, state := if ch.cause = 0 then 0 else 5 }

/-- The next SEQ of a series at boot: the highest found in the journal + 65,536 (R418). -/
def nextSeq (seqs : List Nat) (first : Nat) : Nat := match greatestN seqs with | some k => k + 65536 | none => first

/-- The epoch of an island after a restart (R70). -/
def Module.bootEpoch (m : Module) (power : Bool) (i : Nat) : Nat :=
  let e := (m.isl.getD i {}).epoch
  if power then 0 else if i = 4 ∨ i = 5 ∨ i = 6 then e else (e + 1) % 256

/-- A DORMANT entry that the journal still shows open: its plant time and its WAKE_TAG (R460). -/
def Module.openDormant (m : Module) : Option (Nat × Nat) :=
  match (m.jou.stored.reverse.map (·.2)).find? (fun r => r.code = eDormant) with
  | some r => if r.payload = [] then none else some (r.plant, unle (r.payload.drop 4))
  | none => none

/-- The module with everything that a restart loses at its reset value. `power` says that the supply was lost: without it the
CPI, the SWI and the PWI run on (R73). A restart with the lever out of LOCKED releases EJECT_N (log 186). -/
def Module.cold (m : Module) (power : Bool) : Module :=
  let seqs := m.jou.stored.map (·.2.seq)
  { sup := { m.sup with phase := .on, recovery := false, parking := false, parked := false, outputsOff := false, ejectLow := false
                        slot := m.sup.slotNow }
    isl := m.isl.zipIdx.map (fun (p : IslandSt × Nat) =>
      if !power && (p.2 = 4 || p.2 = 5 || p.2 = 6) then p.1 else { epoch := m.bootEpoch power p.2 })
    time := { now := m.time.now }
    workers := m.workers.map (fun (p : Wk × WorkerSt) => (p.1, { accepted := p.2.accepted }))
    sweep := { mirror := m.sweep.mirror, j := (m.sweep.mirror + 9999) % 4294967296 }
    bursts := m.bursts.map (fun (p : Nat × BurstSt) => (p.1, { archive := p.2.archive }))
    dorm := { bootEntry := m.openDormant.map (·.1), wakeTag := (m.openDormant.map (·.2)).getD 0 }
    cal := { m.cal with
      capWait := [], capHour := [], capExempt := [], impDue := false, impRound := none, impStopped := false
      charge := { m.cal.charge with due := false, round := none, stopped := false } }
    pre := if power then m.pre.map PreCh.fromStored
      else (if m.isPair then m.pre.map PreCh.low else m.pre).map (fun ch => { ch with answer := none })
    sw := if power then { powered := m.sw.powered, noFeed := m.sw.noFeed, chans := m.sw.chans.map SwCh.restarted, failsafe := m.sw.failsafe, dip := m.sw.dip
                          groupT := m.sw.groupT, groupHot := m.sw.groupHot, image := m.sw.chans.map (·.commanded) }
      else { m.sw with image := m.sw.chans.map (·.commanded) }
    pair := { tokenLow := m.pair.tokenLow && decide (m.sup.slotNow = .b) }
    dcp := { keys := m.dcp.keys, bootAt := m.time.now }
    jou := { stored := m.jou.stored, ackMark := m.jou.ackMark
             domNext := nextSeq (seqs.filter domSeq) 0
             locNext := nextSeq (seqs.filter (fun k => !domSeq k)) 9223372036854775808 }
    al := { sticky := m.al.sticky, mask := m.al.mask
            conds := if power then [] else m.al.conds.filter (fun c => c.code ∈ keptCodes) }
    sets := { active := m.sets.active.kept, pending := m.sets.pending.kept, previous := m.sets.previous.kept, check := m.sets.check }
    upd := { m.upd with holder := none, prepared := false, state := if m.upd.state = 2 then 1 else m.upd.state }
    free := m.free
    outbox := m.outbox }

/-! ## Weevil (R433 to R437) -/

/-- An image that starts. -/
def bootable (x : ImageFacts) : Bool := x.hashOk

/-- The payload of a UPDATE_EVENT: the version it names and RESULT (log 68). -/
def Module.jotUpdate (m : Module) (sev version result : Nat) : Module :=
  m.jot .mgi eUpdateEvent sev scUpdate 0xFFFFFFFF (i32 (version : Int)) (le 4 version ++ le 4 result)

/-- RETREAT is copied back to RUNNING (R436). -/
def Module.restoreRetreat (m : Module) : Module :=
  Module.jotUpdate { m with upd := { m.upd with
    running := m.upd.retreat, trial := none, phase := 0, state := 0, result := stInternal } } sevAlarm m.upd.retreat.version stInternal

/-- The image on trial has used up its attempts or its time (R434, R436). -/
def trialOver (t : Trial) : Bool := 3 ≤ t.boots || t.leftMs = 0

/-- What Weevil does before it starts the firmware: a trial that is over ends, an image that does not start is replaced, and
a boot attempt of a trial is counted. -/
def Module.weevil (m : Module) : Module :=
  let m := match m.upd.trial with
    | some t => if trialOver t ∧ bootable m.upd.retreat then m.restoreRetreat else m
    | none => m
  let m := if bootable m.upd.running = false ∧ bootable m.upd.retreat then m.restoreRetreat else m
  match m.upd.trial with
  | some t => { m with upd := { m.upd with
      trial := some { t with boots := t.boots + 1 }, state := if m.upd.state = 6 then 7 else m.upd.state } }
  | none => m

/-! ## The ACTIVE set at boot (R18, R445, R448) -/

/-- CONFIG_EVENT: SET_ID and, where a check names it, CHECK_NAME (log 68). -/
def Module.jotConfig (m : Module) (sev setId : Nat) (name : List Byte) : Module :=
  m.jot .mgi eConfigEvent sev scConfig 0xFFFFFFFF naCurrent (le 8 setId ++ padTo 24 name)

/-- The check name of R18 in ASCII. -/
def nameMapConfig : List Byte := [0x4D, 0x41, 0x50, 0x5F, 0x43, 0x4F, 0x4E, 0x46, 0x49, 0x47]

/-- The running image adopts a format (R442). -/
def Module.adopts (m : Module) (format : Nat) : Bool := decide (m.upd.running.formatMin ≤ format ∧ format ≤ m.upd.running.formatMax)

/-- A set fits the slot wiring (R17). -/
def Module.fitsSlot (m : Module) (c : ConfigSet) : Bool := decide (c.pairDomain = m.isPair) && !c.oddDomain

/-- The ACTIVE slot takes a state. -/
def Module.activeState (m : Module) (st : Nat) : Module :=
  { m with sets := { m.sets with active := { m.sets.active with state := st } } }

/-- The ACTIVE set is loaded, or found absent, or kept aside. -/
def Module.loadActive (m : Module) : Module :=
  let m : Module := { m with dcp := { m.dcp with loaded := true }, al := { m.al with loading := false } }
  match m.sets.active.content with
  | none => m
  | some c =>
    if m.fitsSlot c = false then (m.activeState 7).jotConfig sevAlarm c.setId nameMapConfig
    else if m.adopts c.format = false then
      let m := (m.activeState 7).jotConfig sevAlarm c.setId []
      if m.isPair then
        Module.raise { m with sets := { m.sets with incompatible := true } } .mgi cSettingsIncompatible
      else m.enterSafeHold
    else if m.sets.active.state = 7 then (m.activeState 6).jotConfig sevInfo c.setId []
    else m

/-! ## Service -/

/-- Every precharge output is off, and no run stands: without a set in force the module enables none (R18). -/
def Module.noPrecharge (m : Module) : Module :=
  { m with pre := m.pre.map (fun ch => { ch.low with state := if ch.state = 6 then 6 else 0, stands := false }) }

/-- The module takes the set in force into use: the period, the stored fail-safe states, the CAN section; the module then
takes a role when it can (R54, Table 14-2). -/
def Module.beginService (m : Module) : Module :=
  let m : Module := match m.conf? with
    | some c => { m with
        sweep := { m.sweep with period := c.sweep.period, running := true }
        sw := { m.sw with failsafe := c.switches.map (·.failsafe) } }
    | none => m.noPrecharge
  let m := m.canSetup
  if m.leads then
    let m := m.enablePorts
    if m.conf?.isSome then m.rebuild else m
  else m.roleCheck

/-- The islands that Weevil releases, or in RECOVERY the boot ROM's (R74, R437). The SWI, which runs on its own feeds, stays in
reset while both are below their threshold (R49). -/
def Module.releaseIslands (m : Module) (all : Bool) : Module :=
  { m with isl := m.isl.zipIdx.map (fun (p : IslandSt × Nat) =>
      { p.1 with up := (all || p.2 = 0 || p.2 = 5 || p.2 = 6) && !(decide (p.2 = 5) && m.sw.noFeed) }) }

/-- Conditions that a boot finds standing: latched switch channels and locked-out precharge channels. -/
def Module.standing0 (m : Module) : Module :=
  let m := (List.range 24).foldl (fun m n =>
    if (m.swc n).state = 5 then m.raise .swi cSwitchLatched sevWarning scSwitch n (m.swc n).cause
      (int32s [((m.swc n).cause : Int)]) else m) m
  (List.range 4).foldl (fun m c =>
    if (m.pch c).state = 6 then m.raise .pwi cPrechargeLockout sevWarning scPrecharge c (m.pch c).shortCount else m) m

/-- The firmware starts (R74). -/
def Module.startFirmware (m : Module) : Module :=
  let m := m.releaseIslands true
  let m := m.jot .mgi eBoot sevInfo scModule 0
  let m := Module.weevil { m with upd := { m.upd with phase := 0 } }
  let m : Module := { m with pair := { m.pair with gen := m.upd.running.genOwn } }
  let m := if m.sup.slot = .invalid then m.raise .mgi cSlotInvalid sevWarning scModule 0 else m
  m.standing0.loadActive.beginService

/-- Boot, after a loss of power or as a restart of the whole module (R73, R74, R433, R436, R437). -/
def Module.boot (m : Module) (power : Bool) : Module :=
  let m := m.cold power
  let m : Module := { m with sup := { m.sup with bootNo := m.sup.bootNo + 1 } }
  if (power ∧ m.sup.jumper) ∨ (bootable m.upd.running = false ∧ bootable m.upd.retreat = false) then
    let fail := decide (bootable m.upd.running = false ∧ bootable m.upd.retreat = false)
    Module.releaseIslands { m with sup := { m.sup with recovery := true }, upd := { m.upd with bootFail := fail } } false
  else if m.upd.phase = 1 ∨ m.upd.phase = 2 then Module.releaseIslands { m with sup := { m.sup with phase := .weevil } } false
  else m.startFirmware

/-- The module leaves the domain and starts again as a whole: what waits is written (log 85), and a leader of a pair departs
first, with CAUSE 1 (R73, R354). -/
def Module.restart (m : Module) : Module :=
  let m := if m.runs && m.up .mgi then m.writeAll else m
  let m := if m.isPair && m.leads then m.emit (.pairDepart 1) else m
  m.boot false

/-- The Carapace reads the slot code as the module boots (R44): while the invalid code stands its outputs are
de-energised, and where it no longer stands the bays without a trip energise again (log 151). -/
def Carapace.readSlot (c : Carapace) (code : SlotCode) : Carapace :=
  let bad := decide (code = .invalid)
  let d : Carapace := { c with slotInvalid := bad, slotB := decide (code = .b) }
  if c.slotInvalid = bad then d else d.settle.applyInputs

/-- A command of the rest of the module that may start the module anew: at a boot the Carapace reads the slot code too. -/
def onBoot (s : State) (f : Module → Module) : Host.Outcome State Fault Refusal :=
  let m := f s.m
  onBoth s (if m.sup.bootNo = s.m.sup.bootNo then s.cara else s.cara.readSlot m.sup.slot) m

end Sys2Proof.Machine
end

