-- ==== Sys2Proof/Machine/Power.lean ====
section
/-! DEFINITION. Supply, lever and slot (chapter 02): power-up, the AUX thresholds, the write stop, the power-fail sequence, the
ejector lever with parking, and the contacts of the partner's slot. -/

namespace Sys2Proof.Machine

/-- The slot a code names (Table 02-6); a contact tied to GND reads false. -/
def slotOf (id1 id0 : Bool) : SlotCode :=
  match id1, id0 with
  | false, false => .single
  | false, true => .a
  | true, false => .b
  | true, true => .invalid

/-! ## Power-up and the AUX supply -/


/-- A power-up is that of an insertion: the lever stands at SEATED, and either it has never been there, or the eject stop
was withdrawn when the supply went, so that the module has been out of its slot. Any other return of the supply finds the
module where it was, held by the eject stop (R52; log 152). -/
def Supply.inserted (p : Supply) : Bool := decide (p.lever ≠ .locked) && (decide (p.lever = .open_) || p.ejectFree)

/-- The eject stop is withdrawn (R52): from the first withdrawal of the lock stop after an insertion until the lever first
reaches LOCKED, and from the completion of parking until the supply is lost. -/
def Supply.ejectStop (p : Supply) : Bool :=
  decide (p.phase ≠ .off) && ((p.lockSeen && !p.everLocked) || p.ejectFree)

/-- The module after AUX has risen above the start threshold; the contacts mate with the lever at SEATED or beyond. -/
def Module.powerUp (m : Module) (code : SlotCode) (peer jumper : Bool) : Module :=
  let fresh := m.sup.inserted
  let m : Module := { m with sup := { m.sup with
    slotNow := code, peerPresent := peer, jumper := jumper, protectOpen := false, writeStop := false
    lever := if m.sup.lever = .locked then .locked else .seated
    everLocked := m.sup.everLocked && !fresh, lockSeen := m.sup.lockSeen && !fresh, ejectFree := false } }
  (m.boot true).swiStart

/-- POWER_UP (R15, R43, R44, R46, R52, R74): the Carapace starts its self-test, the SWI its fail-safe states, and the module
boots as far as its image and its set take it. -/
def execPowerUp (slotId1 slotId0 peerPresent jumper : Bool) (s : State) : Host.Outcome State Fault Refusal :=
  if s.m.sup.phase ≠ .off then .next s
  else
    let code := slotOf slotId1 slotId0
    let c := s.cara
    let c : Carapace :=
      if c.state = .off then
        { c with state := .selfTest, epoch := 0, slotInvalid := decide (code = .invalid), slotB := decide (code = .b)
                 locked := decide (s.m.sup.lever = .locked)
                 partner := if code = .single then none else c.partner }
      else c.readSlot code
    onBoth s c (s.m.powerUp code peerPresent jumper)

/-- AUX_LOW_RAISE (R46). -/
def execAuxLowRaise (s : State) : Host.Outcome State Fault Refusal :=
  onModule s (fun m => if m.runs then m.raise .mgi cAuxLow else m)

/-- AUX_LOW_CLEAR (R46). -/
def execAuxLowClear (s : State) : Host.Outcome State Fault Refusal :=
  onModule s (fun m => if m.runs then m.clear .mgi cAuxLow else m)

/-- AUX_HIGH_RAISE (R46). -/
def execAuxHighRaise (s : State) : Host.Outcome State Fault Refusal :=
  onModule s (fun m => if m.runs then m.raise .mgi cAuxHigh else m)

/-- AUX_HIGH_CLEAR (R46). -/
def execAuxHighClear (s : State) : Host.Outcome State Fault Refusal :=
  onModule s (fun m => if m.runs then m.clear .mgi cAuxHigh else m)

/-- AUX_PROTECT_OPEN (Table 02-8): the input protection disconnects AUX and the module runs on hold-up. -/
def execAuxProtectOpen (s : State) : Host.Outcome State Fault Refusal :=
  onModule s (fun m => { m with sup := { m.sup with protectOpen := decide (m.sup.phase ≠ .off) } })

/-- AUX_PROTECT_RECONNECT (Table 02-8). -/
def execAuxProtectReconnect (s : State) : Host.Outcome State Fault Refusal :=
  onModule s (fun m => { m with sup := { m.sup with protectOpen := false } })

/-- WRITE_STOP (Table 02-8): no new Caldera write starts. -/
def execWriteStop (s : State) : Host.Outcome State Fault Refusal :=
  onModule s (fun m => { m with sup := { m.sup with writeStop := true } })

/-- Precharge words that the write stop held back (R286). -/
def Module.writePrecharge (m : Module) : Module :=
  { m with pre := m.pre.map (fun ch => { ch with stored := (ch.shortCount, decide (ch.state = 6), ch.lastShortPlant) }) }

/-- WRITE_STOP_LIFT (Table 02-8, R217): what waited is written, capacity records in channel order. -/
def execWriteStopLift (s : State) : Host.Outcome State Fault Refusal :=
  onModule s (fun m =>
    let m : Module := { m with sup := { m.sup with writeStop := false } }
    if m.runs ∧ m.up .mgi then
      let m := m.writePrecharge
      m.cal.capWait.foldl (fun m e => if m.capReady e then m.writeCapacity e else m) m
    else m)

/-- The records of a power failure: POWER_FAIL first, then what waits, highest severity first (R419). -/
def Module.failRecords (m : Module) : Module :=
  if m.runs ∧ m.up .mgi then
    let q := m.jou.queue
    let m := Module.jot { m with jou := { m.jou with queue := [] } } .mgi ePowerFail sevWarning scModule 0
    let m : Module := { m with jou := { m.jou with
      queue := m.jou.queue ++ sortBy (fun (r : Bool × JRec) => -(r.2.severity : Int)) q } }
    m.writeAll
  else m

/-- POWER_FAIL (R46): the record, the departure, then outputs off and reset. The Carapace takes no part. -/
def execPowerFail (s : State) : Host.Outcome State Fault Refusal :=
  onModule s (fun m =>
    if m.sup.phase = .off then m
    else
      let m := m.failRecords
      let m := if m.isPair && m.leads then m.emit (.pairDepart 0) else m
      let m := m.cold true
      { m with
        sup := { m.sup with phase := .off }
        isl := m.isl.map (fun i => { i with up := false }) })

/-- MODULE_HOT_CHANGE (R37, R69): above 95 degC the board is hot, until it is below 90 degC. The MGI owns the board
sensors. -/
def execModuleHotChange (boardT : Int) (s : State) : Host.Outcome State Fault Refusal :=
  onModule s (fun m =>
    let m : Module := { m with sup := { m.sup with boardT := boardT } }
    if m.runs ∧ m.up .mgi then
      if 9500 < boardT then m.raise .mgi cModuleHot sevWarning scModule 0 boardT
      else if boardT < 9000 then m.clear .mgi cModuleHot
      else m
    else m)

/-- SLOT_CHANGED (R15): the contacts read another code than at boot; nothing changes until the next boot. -/
def execSlotChanged (slotId1 slotId0 : Bool) (s : State) : Host.Outcome State Fault Refusal :=
  onModule s (fun m =>
    let m : Module := { m with sup := { m.sup with slotNow := slotOf slotId1 slotId0 } }
    if m.runs then m.setCond (decide (m.sup.slotNow ≠ m.sup.slot)) .mgi cSlotChanged else m)

/-! ## The lever (R52 to R54, R358, R359) -/

/-- What the rest of the module does when the lever leaves LOCKED. -/
def Module.leverLeft (m : Module) : Module :=
  if m.runs = false then m
  else if m.leads then
    if m.isPair ∧ m.partnerReady then m.startHandover else m.raise .mgi cEjectRefused
  else if m.isPair then
    (if m.pair.role = .ready then m.loseSync else m).followerPark
  else m

/-- LEVER_LEAVE_LOCKED (R53, R359): the trip permit opens and parking starts, or is refused. -/
def execLeverLeaveLocked (s : State) : Host.Outcome State Fault Refusal :=
  if s.m.sup.lever = .locked then
    onBoth s { s.cara with locked := false } (Module.leverLeft { s.m with sup := { s.m.sup with lever := .seated } })
  else .next s

/-- EJECT_ASSERT (R53): 10 ms after the lever left LOCKED, EJECT_N is driven low. -/
def execEjectAssert (s : State) : Host.Outcome State Fault Refusal :=
  onModule s (fun m => { m with sup := { m.sup with ejectLow := decide (m.sup.lever ≠ .locked ∧ m.sup.phase ≠ .off) } })

/-- What the rest of the module does when the lever reaches LOCKED: a parked module restarts as at power-up. -/
def Module.leverLocked (m : Module) : Module :=
  if m.runs = false then m
  else if m.pair.role = .parked ∨ m.sup.parked then m.restart
  else
    let m := (m.clear .mgi cEjectRefused).clear .mgi cLeverUnlocked
    let m : Module := { m with
      sup := { m.sup with parking := false, outputsOff := false }
      pair := { m.pair with wantHandover := m.pair.wantHandover && decide (m.pair.offered.isSome ∨ m.pair.then_ ≠ 0) } }
    if m.follows then (m.enablePorts.askLeader).readyCheck else m.enablePorts.roleCheck

/-- LEVER_REACH_LOCKED (R52, R53, Tables 02-11 and 14-2): EJECT_N is released and the trip permit may close. -/
def execLeverReachLocked (s : State) : Host.Outcome State Fault Refusal :=
  onBoot { s with cara := { s.cara with locked := true } } (fun m =>
    Module.leverLocked { m with sup := { m.sup with lever := .locked, everLocked := true, ejectLow := false } })

/-- LEVER_UNLOCKED (R54): 60 s at SEATED after insertion. -/
def execLeverUnlocked (s : State) : Host.Outcome State Fault Refusal :=
  onModule s (fun m => if m.runs ∧ m.sup.lever ≠ .locked then m.raise .mgi cLeverUnlocked else m)

/-- PARK_COMPLETE (R358 step 5): the park is journalled, the eject stop is withdrawn and PARKED lights. -/
def execParkComplete (s : State) : Host.Outcome State Fault Refusal :=
  onModule s (fun m =>
    if m.runs ∧ m.sup.parking then
      let m := if m.sup.outputsOff then m else m.parkPoint
      let m := m.jot .mgi ePark sevInfo scPair 0xFFFFFFFF
      let m := if m.leads then m.dropLead .parked else m.setRole .parked
      { m with sup := { m.sup with parking := false, parked := true, ejectFree := true } }
    else m)

/-- PEER_PRESENT_CHANGE (R42, R336, Table 14-2). -/
def execPeerPresentChange (present : Bool) (s : State) : Host.Outcome State Fault Refusal :=
  onModule s (fun m =>
    let m : Module := { m with
      sup := { m.sup with peerPresent := present }
      pair := { m.pair with partnerParking := m.pair.partnerParking && present } }
    if m.runs then m.roleCheck.tripEvents.scarabRun else m)

/-- PEER_EJECT_CHANGE (R53): PEER_EJECT_N as read; the rules give it no further effect. -/
def execPeerEjectChange (low : Bool) (s : State) : Host.Outcome State Fault Refusal :=
  onModule s (fun m => { m with sup := { m.sup with peerEject := low } })

end Sys2Proof.Machine
end

