-- ==== Sys2Proof/Machine/Islands.lean ====
section
/-! DEFINITION. The reset of one island and its return (R70 to R73, R464), and the overrun of a handshake queue (R71). -/

namespace Sys2Proof.Machine

/-- CAUSE of an ISLAND_RESET record (Table 17-3). -/
def causeCode : ResetCause → Nat
  | .watchdog => 0 | .lockstep => 1 | .memory => 2 | .command => 3

/-- The record of an island's reset (Table 17-3). -/
def Module.jotReset (m : Module) (i : Island) (lost : Nat) : Module :=
  m.jot .mgi eIslandReset sevWarning scIsland (islandCode i) naCurrent
    ([islandCode i, (m.isl.getD (islandCode i) {}).cause, 0, 0] ++ le 4 lost)

/-- The islands whose double reset restarts the module (R73). -/
def restartIslands : List Island := [.mgi, .rgi, .esi, .vsi]

/-- Another of those islands has reset within the last second. -/
def Module.doubleReset (m : Module) (i : Island) : Bool :=
  decide (i ∈ restartIslands) && restartIslands.any (fun o => decide (o ≠ i) &&
    (match (m.isl.getD (islandCode o) {}).lastReset with
     | some t => decide (m.time.now < t + 1000000000)
     | none => false))

/-- What the island's reset ends at once (Table 03-2); its queues are flushed (R70): the event commands on their way to the
VSI, the sweeps and commands of the RGI, the events within the VSI. -/
def Module.islandDown (m : Module) (i : Island) : Module :=
  match i with
  | .mgi => { m with
      jou := { m.jou with heldLost := 0 }
      dcp := { m.dcp with pend := [] }
      time := { m.time with ppsOut := false } }
  | .rgi =>
    let m : Module := { m with
      sweep := { m.sweep with accepted := [] }
      rings := m.rings.map (fun (p : Nat × RingSt) => (p.1, { p.2 with
        trained := false, rejoin := none, outN := 0, outS := 0, readN := false, readS := false }))
      workers := m.workers.map (fun (p : Wk × WorkerSt) => (p.1, p.2.rgiReset)) }
    let m := m.bootAgain
    if m.isPair ∧ m.leads then m.startHandover else m
  | .vsi =>
    let m : Module := { m with
      scarab := { m.scarab with events := [] }
      ver := { m.ver with opens := [], drains := [] }
      dcp := { m.dcp with pend := [] } }
    if m.isPair ∧ m.leads then
      Module.emit { m with pair := { m.pair with vsiDepart := true } } (.pairDepart 2)
    else m
  | .pwi => m.prechargeLow
  | .fbi => m.canReset
  | .pri => { m with pair := { m.pair with lanes := [false, false] } }
  | .esi | .swi | .cpi => m

/-- One island resets alone; with a second of the four within 1 s the module restarts (R73). -/
def Module.resetIsland (m : Module) (i : Island) (cause : Nat) : Module :=
  let m := m.modIsl i (fun x => { x with
    up := false, epoch := (x.epoch + 1) % 256, lastReset := some m.time.now, cause := cause })
  let m := if i = .mgi then m else m.jotReset i 0
  if m.doubleReset i then m.restart else m.islandDown i

/-- ISLAND_RESET (R70, R72, R73): of the CPI it is the internal fault of R335. -/
def execIslandReset (island : Island) (cause : ResetCause) (s : State) : Host.Outcome State Fault Refusal :=
  if s.m.runs = false then .next s
  else if island = .cpi then
    if s.cara.state = .off then .next s
    else onBoth s s.cara.internalFault (s.m.resetIsland island (causeCode cause))   -- the CPI is none of the four of R73
  else onBoot s (fun m => if m.up island then m.resetIsland island (causeCode cause) else m)

/-! ## Return -/

/-- Manifests that wait for their estimate. -/
def Module.waitingManifests (m : Module) : Nat :=
  (m.sweep.manifests.filter (fun x => match m.sweep.estimated with
    | none => true
    | some k => sweepAfter x.sweep k)).length

/-- One waiting sweep is replayed with its verdict stage (R72, R464). -/
def Module.replayOne (m : Module) : Module :=
  if m.estimates then
    match m.nextManifest with
    | some man =>
      let m := m.estimateSweep man
      if m.judges then m.stageSweep man.sweep else m
    | none => m
  else m

/-- So many waiting sweeps are replayed, in order. -/
def Module.replay : Nat → Module → Module
  | 0, m => m
  | n + 1, m => Module.replay n m.replayOne

/-- A gap of more than 8 sweeps cannot be replayed (R72): the charge count has a gap, no row is evaluated on a sweep of it
(R464), and in a pair the state is resynchronised from the partner: a follower asks its leader for it, and a leader hands over
first, to the partner whose state has no gap (log 155). -/
def Module.replayGap (m : Module) : Module :=
  let m := m.eachBased (fun _ e m => m.modCell e (fun c => { c with countGap := true, gapEvent := true }))
  let newest := (m.sweep.manifests.head?.map (·.sweep)).or m.sweep.estimated
  let m : Module := { m with sweep := { m.sweep with estimated := newest, verdicts := newest } }
  if m.isPair ∧ m.leads then
    Module.startHandover { m with pair := { m.pair with gapped := true } }
  else m.loseSync

/-- Verdict rows run on the newest complete sweep, unless its stage has already ended (R72). -/
def Module.stageNewest (m : Module) : Module :=
  match m.sweep.estimated with
  | some k => if m.judges ∧ m.sweep.verdicts ≠ some k then m.stageSweep k else m
  | none => m

/-- The VSI returns (R72, Table 14-2, R357): a leader that departed follows the partner that leads by now, or resumes its work
from the Scarab mirror, the verdict rows first. -/
def Module.vsiBack (m : Module) : Module :=
  if m.leads ∧ m.pair.vsiDepart ∧ m.linked ∧ m.pair.partnerRole = some .leader then
    ((m.dropLead .syncing).enablePorts).askLeader
  else
    let a := decide (m.sup.slot = .a ∧ m.leads)
    let m : Module := { m with pair := { m.pair with
      vsiDepart := false, stopped := m.pair.stopped && !a, driving := m.pair.driving || a, holdRun := m.pair.holdRun || a
      tokenLow := m.pair.tokenLow || a } }
    m.resumeScarab.stageNewest.scarabRun

/-- What an island does as it returns (Table 03-2). -/
def Module.islandUp (m : Module) (i : Island) : Module :=
  match i with
  | .mgi =>
    let lost := m.jou.heldLost
    let m : Module := { m with jou := { m.jou with queue := m.jou.queue ++ m.jou.holding, holding := [] } }
    m.jotReset .mgi lost
  | .rgi => m.cfg.rings.foldl Module.beginTraining m
  | .esi => if m.waitingManifests ≤ 8 then Module.replay m.waitingManifests m else m.replayGap
  | .vsi => m.vsiBack
  | .pwi | .swi | .cpi | .fbi | .pri => m

/-- ISLAND_RETURN (R72, R464, Table 14-2). -/
def execIslandReturn (island : Island) (s : State) : Host.Outcome State Fault Refusal :=
  onModule s (fun m =>
    if m.runs ∧ m.up island = false then (m.modIsl island (fun x => { x with up := true })).islandUp island else m)

/-- MGI_OUTAGE_HANDOVER (R72, R351): a leader whose MGI stays down for more than 2 s releases leadership. -/
def execMgiOutageHandover (s : State) : Host.Outcome State Fault Refusal :=
  onModule s (fun m => if m.runs ∧ m.isPair ∧ m.leads ∧ m.up .mgi = false then m.startHandover else m)

/-- A queue as a number in the record (log 69). -/
def queueCode : QueueName → Nat
  | .rgiEsi => 0
  | .esiVsi => 1
  | .control p c => 256 + 16 * islandCode p + islandCode c

/-- The producer of a queue. -/
def producerOf : QueueName → Island
  | .rgiEsi => .rgi
  | .esiVsi => .esi
  | .control p _ => p

/-- The newest entry of a control queue is dropped (R71): an event command on its way to the VSI, or a record on its way to the
MGI. The transfers between the other islands complete within the command that makes them, and leave nothing queued
(log 156). -/
def Module.dropNewest (m : Module) (producer consumer : Island) : Module :=
  if producer = .mgi ∧ consumer = .vsi then { m with dcp := { m.dcp with pend := m.dcp.pend.dropLast } }
  else if producer = .vsi ∧ consumer = .mgi then { m with jou := { m.jou with queue := m.jou.queue.dropLast } }
  else m

/-- QUEUE_OVERRUN (R71): a sweep that does not fit is dropped whole, and treated as missed; a control queue drops its newest
entry. -/
def execQueueOverrun (queue : QueueName) (s : State) : Host.Outcome State Fault Refusal :=
  onModule s (fun m =>
    if m.runs then
      let m : Module :=
        match queue with
        | .rgiEsi => { m with sweep := { m.sweep with dropped := addTo m.sweep.dropped m.lastSweep } }
        | .esiVsi => { m with sweep := { m.sweep with verdicts := m.sweep.estimated } }
        | .control p c => m.dropNewest p c
      (m.raise (producerOf queue) cQueueOverrun sevWarning scModule 0 (queueCode queue)).clear (producerOf queue) cQueueOverrun
    else m)

end Sys2Proof.Machine
end

