-- ==== Sys2Proof/Machine/Time.lean ====
section
/-! DEFINITION. The commands of the time unit (R75 to R86): time pulses, PTP, PPS, the states of Table 03-6 and time in a
pair. The unit is the MGI's: while that island is in reset it takes none of them (R69). -/

namespace Sys2Proof.Machine

/-- The time unit works. -/
def Module.timeUp (m : Module) : Bool := m.runs && m.up .mgi

/-! ## Time pulses (R79, R80) -/

/-- The whole millisecond of plant time at which the present pulse leaves. -/
def Module.pulseTime (m : Module) : Nat := m.plantOrLocal / 1000000 * 1000000

/-- An island takes a pulse `t`, after so many ns of its own clock since the one before. Where this pulse's time was told with
the one before, the local counter is set to it and the rate is trimmed from the two; otherwise the counter runs on at its
trimmed rate. With the pulse comes the time of the next (log 149). -/
def IslandSt.pulsed (x : IslandSt) (t ticks : Nat) : IslandSt :=
  let told := decide (x.nextPulse = t)
  { x with
    counter := if told then t else x.counter + (x.trim * (ticks : Rat)).floor.toNat
    trim := if told ∧ x.counter ≠ 0 ∧ x.counter < t ∧ ticks ≠ 0 then ((t - x.counter : Nat) : Rat) / (ticks : Rat) else x.trim
    nextPulse := t + 1000000
    degraded := false }

/-- TIME_PULSE (R79, R80): the CPI takes it on its one-way input; every other island also over its queue. -/
def execTimePulse (island : Island) (ticks : Nat) (s : State) : Host.Outcome State Fault Refusal :=
  if s.m.timeUp = false then .next s
  else if island = .cpi then .next { s with cara := { s.cara with pulse := s.m.plant } }
  else onModule s (fun m =>
    if m.up island then
      let m := m.modIsl island (fun x => x.pulsed m.pulseTime ticks)
      m.clear island cTimePulseLost scIsland (islandCode island)
    else m)

/-- TIME_PULSE_LOST (R79): 100 pulses missed in a row. -/
def execTimePulseLost (island : Island) (s : State) : Host.Outcome State Fault Refusal :=
  onModule s (fun m =>
    if m.runs ∧ island ≠ .cpi ∧ m.up island then
      (m.modIsl island (fun x => { x with degraded := true })).raise island cTimePulseLost sevWarning scIsland (islandCode island)
    else m)

/-! ## Steering (R82, R84) -/

/-- The servo takes a measured offset and trims its rate, within 10 ppm (R75; how the rate follows is free, log 150). -/
def Module.servoTook (m : Module) (ns : Int) : Module :=
  { m with time := { m.time with servo := ns, trim := clampI (-10000) 10000 (Config.servoTrim m.time.trim ns) } }

/-- Plant time is corrected by an offset found to a source. Beyond 1 ms, or while nothing has set it yet, it is a step at the
next sweep boundary, or at once while no sweeps run (log 70); otherwise it is slewed out. -/
def Module.steer (m : Module) (ns : Int) : Module :=
  if m.time.state = .unset ∧ m.time.offset = 0 ∨ 1000000 < ns.natAbs then
    if m.sweep.running then { m with time := { m.time with pendingStep := some ns } } else m.stepTime ns
  else { m with time := { m.time with slew := ns } }

/-- A master is heard on a port: the port with the better one is active (Table 03-4). -/
def Module.heardMaster (m : Module) (eth gm : Nat) (better : Bool) : Module :=
  let t := { m.time with masters := modAt m.time.masters eth (fun _ => some gm) }
  if better ∨ t.ptpPort.isNone ∨ t.ptpPort = some eth then
    { m with time := { t with ptpPort := some eth, grandmaster := gm, sourceLost := t.sourceLost && decide (m.cfg.sweep.timeSource = .ppsHost) } }
  else { m with time := t }

/-- A measured offset with the path asymmetry of its port taken off (Table 03-4). -/
def Module.corrected (m : Module) (eth : Nat) (ns : Int) : Int := ns - m.cfg.sweep.ptpAsymmetry.getD eth 0

/-- PTP_MESSAGE_RX (R76, R82, R84), of the module's own domain number: an Announce, a measured offset, or a Delay_Req that a
master answers. A follower steers to its leader and only compares. -/
def execPtpMessageRx (eth domain : Nat) (msg : PtpMsg) (s : State) : Host.Outcome State Fault Refusal :=
  onModule s (fun m =>
    if m.timeUp ∧ domain = m.cfg.sweep.ptpDomain then
      match msg with
      | .announce gm better => m.heardMaster eth gm better
      | .offset ns =>
        if m.time.ptpPort = some eth then
          let d := m.corrected eth ns
          if m.follows then if d.natAbs ≤ 1000 then m.clear .mgi cPairTimeDisagree else m
          else if m.ptpSource then Module.steer (m.servoTook d) d
          else m
        else m
      | .delayReq => if m.ptpMaster ∧ eth = ptpMasterPort then m.sendPtp .delayResp else m
    else m)

/-- PPS_IN_EDGE (R75, R396): a TAI second. The time of day that the host supplied at least 10 ms ago applies at this edge;
afterwards the edge's offset steers. -/
def execPpsInEdge (offset : Int) (s : State) : Host.Outcome State Fault Refusal :=
  onModule s (fun m =>
    if m.timeUp then
      let m : Module := { m with time := { m.time with ppsSeen := true } }
      if m.follows ∨ m.ppsSource = false then m
      else
        let m : Module := { m with time := { m.time with sourceLost := false } }
        match m.time.tod with
        | some (sec, at_) =>
          if at_ + 10000000 ≤ m.time.now then
            let d : Int := (sec * 1000000000 : Nat) - ((m.time.now : Int) + m.time.offset)
            Module.steer { m with time := { m.time with tod := none, todKnown := true, servo := d } } d
          else m
        | none => if m.todHeld then Module.steer (m.servoTook offset) offset else m
    else m)

/-! ## States (R83) -/

/-- TIME_LOCK (R83): the servo offset has stayed within 1 us for 10 s. -/
def execTimeLock (s : State) : Host.Outcome State Fault Refusal :=
  onModule s (fun m => if m.timeUp then m.lockTime else m)

/-- PPS_IN edges come no more. -/
def Module.ppsGone (m : Module) : Module := Module.loseSource { m with time := { m.time with ppsSeen := false } }

/-- The active PTP port has lost its master: the other port takes over when it hears one, and PTP_THEN_PPS falls back to PPS_IN
and the last known time of day (R75, R76). -/
def Module.masterGone (m : Module) (p : Nat) : Module :=
  let m : Module := { m with time := { m.time with masters := modAt m.time.masters p (fun _ => none), ptpPort := none } }
  match m.time.masters.getD (1 - p) none with
  | some gm => { m with time := { m.time with ptpPort := some (1 - p), grandmaster := gm } }
  | none =>
    if m.cfg.sweep.timeSource = .ptpThenPps ∧ m.time.ppsSeen ∧ m.todHeld then m else m.loseSource

/-- TIME_SOURCE_LOST (R75, R76, R83): of the source in use. -/
def execTimeSourceLost (s : State) : Host.Outcome State Fault Refusal :=
  onModule s (fun m =>
    if m.timeUp then
      if m.ppsSource then m.ppsGone
      else
        match m.time.ptpPort with
        | some p => m.masterGone p
        | none => m.loseSource
    else m)

/-- HOLDOVER_EXPIRE (R83): 900 s. -/
def execHoldoverExpire (s : State) : Host.Outcome State Fault Refusal :=
  onModule s (fun m => if m.timeUp ∧ m.time.state = .holdover then m.freerun else m)

/-- PAIR_TIME_DISAGREE (R82): the follower keeps following. -/
def execPairTimeDisagree (s : State) : Host.Outcome State Fault Refusal :=
  onModule s (fun m => if m.runs ∧ m.follows then m.raise .pri cPairTimeDisagree else m)

end Sys2Proof.Machine
end

