-- ==== Sys2Proof/Machine/Checks.lean ====
section
/-! DEFINITION. The checks of a configuration set (R31 and the check rules of each chapter): the tables in their order, each
check with its name, and CHECK_RESULT (R389). A check answers the LOCATION of the first failing entry. -/

namespace Sys2Proof.Machine

/-- LOCATION where no entry of a table fails. -/
def noLoc : Nat := 0xFFFFFFFF

/-- A check that names no entry. -/
def failIf (bad : Bool) : Option Nat := if bad then some noLoc else none

/-- A check over the entries of a table: the index of the first that fails. -/
def firstBad {α : Type} (l : List (Nat × α)) (bad : Nat × α → Bool) : Option Nat := (l.find? bad).map (·.1)

/-- A value outside a range. -/
def out (v lo hi : Nat) : Bool := decide (v < lo) || decide (hi < v)

/-- A value outside a signed range. -/
def outI (v lo hi : Int) : Bool := decide (v < lo) || decide (hi < v)

/-- Strictly ascending. -/
def ascending : List Int → Bool
  | a :: b :: t => decide (a < b) && ascending (b :: t)
  | _ => true

/-- Never decreasing. -/
def nonDecreasing : List Nat → Bool
  | a :: b :: t => decide (a ≤ b) && nonDecreasing (b :: t)
  | _ => true

/-- Some two intervals of a list, each from its first to below its second number, meet. -/
def overlap : List (Nat × Nat) → Bool
  | [] => false
  | x :: t => t.any (fun y => decide (x.1 < y.2) && decide (y.1 < x.2)) || overlap t

/-- Some element stands twice. -/
def repeats : List Nat → Bool
  | [] => false
  | x :: t => decide (x ∈ t) || repeats t

/-! ## Table 01-4 -/

/-- Index of a worker table entry (R28). -/
def wkIx (w : Wk) : Nat := w.1 * 256 + (w.2 - 1)

/-- Workers by the index of their entry. -/
def ixWorkers (c : ConfigSet) : List (Nat × Wk × WorkerEntry) := c.workers.map (fun w => (wkIx w.1, w.1, w.2))

/-- A string's entry where it is present. -/
def present? (c : ConfigSet) (s : Nat) : Option StringEntry := find c.strings s

/-- MAP_LIMIT. A present string with fewer than 12 cells and no DZC-24, a lone DZS-2, fails no check of Table 01-4 although R24
gives a string 12 to 480 cells: the model accepts such a set (log 159). -/
def mapLimit (pair : Bool) (c : ConfigSet) : Option Nat :=
  let rings := if pair then 32 else 16
  let strs := if pair then 512 else 256
  let w := firstBad (ixWorkers c) (fun x => decide (rings ≤ x.2.1.1) || out x.2.1.2 1 256)
  let s := firstBad c.strings (fun x => decide (strs ≤ x.1) || decide (rings ≤ x.2.ring) || decide (3 < x.2.bay) || decide (480 < x.2.cellCount))
  let ch := firstBad c.channels (fun x => decide (rings * 6144 ≤ x.1) || decide (strs ≤ x.2.string))
  w.orElse (fun _ => s.orElse (fun _ => ch))

/-- The first hop without a worker below a worker (R21). -/
def mapHopGap (c : ConfigSet) : Option Nat :=
  ((ixWorkers c).find? (fun x => decide (1 < x.2.1.2) && (find c.workers (x.2.1.1, x.2.1.2 - 1)).isNone)).map (fun x => x.1 - 1)

def wtypeCode : WType → Nat
  | .dzc24 => 1
  | .dzs2 => 2

def mapFormat (c : ConfigSet) : Option Nat :=
  firstBad (ixWorkers c) (fun x =>
    let f : FormatEntry := look {} c.formats x.2.2.format
    decide (f.wtype ≠ wtypeCode x.2.2.typ))

def mapStringSpan (c : ConfigSet) : Option Nat :=
  let w := firstBad (ixWorkers c) (fun x => match present? c x.2.2.string with
    | none => true
    | some e => decide (e.ring ≠ x.2.1.1) || out x.2.1.2 e.firstHop e.lastHop)
  let s := firstBad c.strings (fun x => decide (x.2.lastHop < x.2.firstHop) ||
    (span x.2.firstHop x.2.lastHop).any (fun h => match find c.workers (x.2.ring, h) with
      | none => true
      | some e => decide (e.string ≠ x.1)))
  w.orElse (fun _ => s)

def mapDzsCount (c : ConfigSet) : Option Nat :=
  firstBad c.strings (fun x =>
    decide (((c.workersOfString x.1).filter (fun w => decide (w.2.typ = .dzs2))).map (·.1) ≠ [(x.2.ring, x.2.dzsHop)]))

def mapChannelFill (c : ConfigSet) : Option Nat :=
  firstBad (ixWorkers c) (fun x =>
    let cells := c.cellsAt x.2.1
    decide (x.2.2.typ = .dzc24) &&
      (out cells.length 12 24 || (List.range cells.length).any (fun n => (find c.channels (chanIx x.2.1 n)).isNone) ||
        cells.any (fun p => decide (p.2.string ≠ x.2.2.string))))

def mapPosition (c : ConfigSet) : Option Nat :=
  firstBad c.strings (fun x => decide ((c.cellsOf x.1).map (fun p => p.2.position) ≠ List.range x.2.cellCount))

def mapBay (pair : Bool) (c : ConfigSet) : Option Nat :=
  (firstBad c.strings (fun x => decide (x.2.bay ≠ bayOfRing pair x.2.ring))).orElse (fun _ =>
    firstBad c.channels (fun x => decide (x.2.bay ≠ bayOfRing pair (wkOfIx x.1).1)))

/-- R26; the cut-off is in 0.1 mV. -/
def mapVoltage (c : ConfigSet) : Option Nat :=
  firstBad c.strings (fun x =>
    decide (1500000 < x.2.vStringMax) || decide (x.2.vStringMax * 10 < x.2.cellCount * (c.curveSet x.2.curveSet).vChgCutoff))

def mapTemp (c : ConfigSet) : Option Nat := firstBad c.channels (fun x => decide (11 < x.2.tempInput))

def mapRating (c : ConfigSet) : Option Nat := firstBad c.strings (fun x => decide (1000000 < x.2.iRated))

/-! ## Table 05-12 -/

/-- Bytes of an item of a worker type (Table 05-6). -/
def itemBytes (wtype code : Nat) : Option Nat :=
  if wtype = 1 then find [(1, 48), (2, 24), (3, 2), (4, 1), (5, 48), (6, 48), (7, 2), (8, 4)] code
  else if wtype = 2 then find [(0x21, 8), (0x22, 16), (0x23, 8), (0x24, 12), (0x25, 9), (0x26, 16)] code
  else none

/-- The formats that the checks run on: those a worker names and those not entirely zero (R135). -/
def checkedFormats (c : ConfigSet) : List (Nat × FormatEntry) :=
  ((List.range 16).map (fun i => (i, (look {} c.formats i : FormatEntry)))).filter (fun x =>
    c.workers.any (fun w => decide (w.2.format = x.1)) || decide (x.2 ≠ {}))

def fmtType (c : ConfigSet) : Option Nat := firstBad (checkedFormats c) (fun x => out x.2.wtype 1 2)

def fmtLength (c : ConfigSet) : Option Nat :=
  firstBad (checkedFormats c) (fun x => out x.2.slotLen 8 240 || out x.2.items.length 1 24)

def fmtItem (c : ConfigSet) : Option Nat :=
  firstBad (checkedFormats c) (fun x =>
    x.2.items.any (fun i => (itemBytes x.2.wtype i.1).isNone) || repeats (x.2.items.map (·.1)))

def fmtOverlap (c : ConfigSet) : Option Nat :=
  firstBad (checkedFormats c) (fun x =>
    let spans := x.2.items.map (fun i => (i.2, i.2 + (itemBytes x.2.wtype i.1).getD 0))
    overlap spans || spans.any (fun s => decide (s.1 < 3) || decide (x.2.slotLen < s.2 + 2)))

def fmtRequired (c : ConfigSet) : Option Nat :=
  firstBad (checkedFormats c) (fun x =>
    let need := if x.2.wtype = 1 then [1, 2, 3, 4] else [0x21, 0x22, 0x23, 0x25] ++ (if c.sweep.bursts then [0x24] else [])
    need.any (fun n => x.2.items.all (fun i => decide (i.1 ≠ n))))

def sweepPeriod (c : ConfigSet) : Option Nat :=
  failIf (decide (c.sweep.period ∉ [20, 25, 40, 50, 100, 200, 250, 500, 1000]))

/-- Line time of a frame, ns (R90). -/
def frameNs (length : Nat) : Nat := (length + 2 + 40 * ((length - 1) / 2000)) * 400

/-- R129, of the frame that one end of the intact ring collects. -/
def sweepBudget (c : ConfigSet) : Option Nat :=
  c.rings.find? (fun r =>
    let slots := (c.workersOf r).foldl (fun n w => n + (look {} c.formats w.2.format : FormatEntry).slotLen) 0
    decide (c.sweep.period * 1000000 < 2 * frameNs (16 + slots + 8)))

def sweepFilter (c : ConfigSet) : Option Nat :=
  c.rings.find? (fun r => decide (c.sweep.period = 20) && decide (look 1 c.sweep.sweepCorner r = 0))

def sweepBurst (c : ConfigSet) : Option Nat := failIf (c.sweep.bursts && decide (100 < c.sweep.period))

/-- A row's persistence in ms. -/
def persistMs (p : Nat) (r : Rule) : Nat := r.persist * (if r.punit = 0 then p else if r.punit = 1 then 10 else 1000)

/-- R140. -/
def sweepStaleRule (c : ConfigSet) : Option Nat :=
  failIf (!(c.rules.any (fun x => x.2.enabled && decide (x.2.scope = 2) && decide (x.2.cond = 4) && decide (x.2.action = 2) &&
    decide (x.2.punit < 3) && decide (persistMs c.sweep.period x.2 ≤ 60000))))

/-! ## Chapter 06 -/

/-- A row as R157 requires it. -/
def doubleRow (r : Rule) : Bool :=
  r.enabled && decide (r.scope = 2) && decide (r.signal = 0x91) && decide (r.cond = 0) && decide (r.thrA = 0) &&
    decide (r.hyst = 0) && !r.thrCurve && decide (r.action = 2)

def senseRule (c : ConfigSet) : Option Nat :=
  failIf (c.bays.any (fun b => !(c.rules.any (fun x => doubleRow x.2 && bitAt x.2.bayMask b))))

def senseParam (c : ConfigSet) : Option Nat :=
  let s := c.sense
  let b := c.bal
  let d := c.dorm
  failIf (out s.owOpenMin 500 2500 || out s.owHighR 150 900 || out s.stackMax 100 1000 || out s.cellDev 200 2000 ||
    out s.cellFaultPersist 3 255 || out s.pairMargin 200 2000 || out s.stackMargin 100 1000 || out s.senseDeratePct 10 100 ||
    out s.secondFaultGrace 60 3600 || out b.deadband 100 5000 || out b.efficiency 70 95 || out b.settleMin 5 60 ||
    out b.spreadMax 1000 30000 || out d.checkInterval 1 60 || decide (d.vMax ≤ d.vMin) || decide (d.tMax ≤ d.tMin) ||
    decide (168 < d.surveyH))

/-! ## Table 07-5 -/

/-- The curve sets that present strings name. -/
def namedSets (c : ConfigSet) : List (Nat × CurveSet) :=
  ((List.range 8).filter (fun i => c.strings.any (fun s => decide (s.2.curveSet = i)))).map (fun i => (i, c.curveSet i))

/-- The point lists of a curve set that lookups read: branch 1 of a set without HYSTERESIS is never read (R179; log 72). -/
def pointLists (s : CurveSet) : List (List (Nat × Nat)) :=
  (if s.hysteresis then [0, 1] else [0]).flatMap (fun b => (List.range s.tempCount).map (fun k =>
    ((s.pts.getD b []).getD k []).take s.pointCount))

def curveCount (c : ConfigSet) : Option Nat :=
  firstBad (namedSets c) (fun x => out x.2.pointCount 2 128 || out x.2.tempCount 1 32 || decide (8 < x.2.zoneCount) ||
    out x.2.sdDoubling 5 30)

def curveTempOrder (c : ConfigSet) : Option Nat := firstBad (namedSets c) (fun x => !ascending (x.2.temps.take x.2.tempCount))

def curveSocOrder (c : ConfigSet) : Option Nat :=
  firstBad (namedSets c) (fun x => (pointLists x.2).any (fun l =>
    decide (l.length ≠ x.2.pointCount) || !ascending (l.map (fun p => (p.1 : Int))) || decide (l.head?.map (·.1) ≠ some 0) ||
      decide (l.getLast?.map (·.1) ≠ some 10000)))

def curveOcvOrder (c : ConfigSet) : Option Nat :=
  firstBad (namedSets c) (fun x => (pointLists x.2).any (fun l => !nonDecreasing (l.map (·.2))))

/-- At the points of either branch, at one temperature. -/
def curveBranch (c : ConfigSet) : Option Nat :=
  firstBad (namedSets c) (fun x => x.2.hysteresis && (List.range x.2.tempCount).any (fun k =>
    let chg := branchPts x.2 0 k
    let dis := branchPts x.2 1 k
    (mergeXs (chg.map (·.1)) (dis.map (·.1))).any (fun s => decide (lin chg s < lin dis s))))

def curveZone (c : ConfigSet) : Option Nat :=
  firstBad (namedSets c) (fun x =>
    let z := x.2.zones.take x.2.zoneCount
    z.any (fun p => decide (p.2 ≤ p.1)) || overlap z)

def curveCutoff (c : ConfigSet) : Option Nat := firstBad (namedSets c) (fun x => decide (x.2.vChgCutoff ≤ x.2.vDisCutoff))

def socParam (c : ConfigSet) : Option Nat :=
  let p := c.soc
  failIf (out p.restI 1 50 || out p.restTimeMin 5 240 || out p.restDvdt 10 500 || out p.anchorSigmaMax 50 1000 ||
    out p.bottomReserve 0 1000 || out p.topReserve 0 1000 || out p.iRefDis 5 300 || out p.iRefChg 5 300 ||
    out p.socSlew 10 50 || out p.reserveDeratePct 5 100 || out p.countErrPpm 100 20000 || out p.iOffsetErr 0 1000 ||
    out p.sigmaProv 500 5000)

/-! ## LEARN_PARAM (R223) -/

def impParamBad (p : LearnCfg) : Bool :=
  out p.impSocLo 0 10000 || out p.impSocHi 0 10000 || outI p.impTMin (-2000) 6000 || outI p.impTMax (-2000) 6000 ||
    out p.rDoubling 5 60 || out p.rOhmShare 20 90 || out p.tauPolNom 50 1600 || out p.fitResidMax 15 100 ||
    out p.impDrift 10 500 || out p.impRisePct 10 200 || out p.impOutlierPct 10 200 || out p.impSigmaRestore 1 20

def capParamBad (p : LearnCfg) : Bool :=
  out p.swingMain 4000 9000 || out p.swingFb 2000 9000 || outI p.tLo 0 4500 || outI p.tHi 0 4500 || out p.tSpread 200 2000 ||
    out p.rateAvg 5 100 || out p.ratePeak 10 300 || out p.peakShare 0 50 || out p.midRestMaxMin 60 1440 ||
    out p.winMainH 4 168 || out p.winFbH 24 1440 || out p.fallbackWeight 5 100 || out p.capStepMax 50 200 ||
    out p.capSigmaInit 100 1000 || out p.capDrift 0 50 || out p.capFadePct 50 100 || out p.maxAgeDays 7 365

def learnParam (c : ConfigSet) : Option Nat :=
  let p := c.learn
  failIf (impParamBad p || capParamBad p || decide (p.impSocHi ≤ p.impSocLo) || decide (p.impTMax ≤ p.impTMin) ||
    decide (p.tHi ≤ p.tLo) || decide (p.swingMain < p.swingFb))

/-! ## Table 09-10. A rule row or a curve that is not listed is entirely zero: unused. -/

def curveStore (c : ConfigSet) : Option Nat :=
  firstBad c.curves (fun x => decide (3 < x.2.kind) ||
    (decide (x.2.kind ≠ 0) && (out x.2.pts.length 2 64 || !ascending (x.2.pts.map (·.1)))))

/-- A curve index that a parameter or a row names is of another KIND. -/
def wrongKind (c : ConfigSet) (kind i : Nat) : Bool := decide ((look {} c.curves i : Curve).kind ≠ kind)

/-- A DER entry names a curve of another KIND. -/
def derBad (c : ConfigSet) (kind : Nat) (l : List Nat) : Bool :=
  l.any (fun i => decide (i ≠ 255) && (decide (63 < i) || wrongKind c kind i))

def limitParam (c : ConfigSet) : Option Nat :=
  let p := c.limit
  let bays := c.bays
  failIf (out p.limitRise 1 100 || out p.shareMinI 1 50 || out p.stringRExt 0 50000 || out p.carapaceMarginPct 50 100 ||
    out p.holdLimitPct 0 100 ||
    bays.any (fun b => out (p.bayIMaxDis.getD b 0) 1000 100000000 || out (p.bayIMaxChg.getD b 0) 1000 100000000) ||
    derBad c 1 p.derTDis || derBad c 1 p.derTChg || derBad c 2 p.derSocDis || derBad c 2 p.derSocChg)

/-- A signal may stand in a row of a scope (R235). -/
def signalFits (scope signal : Nat) : Bool :=
  match signalScope signal with
  | none => false
  | some s => decide (s = scope) || (isFlag signal && decide (s ≤ scope))

/-- With THR_CURVE, ARG_SIGNAL is of the row's scope or a wider one containing it (Table 09-6). -/
def argFits (r : Rule) : Bool :=
  !r.thrCurve || (match signalScope r.argSignal with | none => false | some s => decide (r.scope ≤ s))

def ruleScope (c : ConfigSet) : Option Nat :=
  firstBad c.rules (fun x => decide (4 < x.2.scope) || !signalFits x.2.scope x.2.signal || !argFits x.2)

/-- A TONE signal. -/
def toneSignal (c : Nat) : Bool := c = 0x33 || c = 0x41

def ruleCond (c : ConfigSet) : Option Nat :=
  firstBad c.rules (fun x => decide (5 < x.2.cond) || (decide (x.2.cond = 5) != toneSignal x.2.signal) ||
    (decide (x.2.cond = 4) && decide (3 ≤ x.2.scope)) || (decide (x.2.cond = 3) && isFlag x.2.signal))

/-- The curve index that a threshold of a row with THR_CURVE gives. -/
def thrIndex (v : Int) : Nat := (v % 256).toNat

def ruleThreshold (c : ConfigSet) : Option Nat :=
  firstBad c.rules (fun x =>
    let r := x.2
    let window := decide (r.cond = 2)
    (r.thrCurve && (wrongKind c 3 (thrIndex r.thrA) || (window && wrongKind c 3 (thrIndex r.thrB)))) ||
      (!r.thrCurve && window && decide (r.thrB < r.thrA)) || (decide (r.cond = 5) && outI r.thrA 1 3) || decide (r.hyst < 0))

def rulePersist (c : ConfigSet) : Option Nat :=
  firstBad c.rules (fun x => decide (3 ≤ x.2.punit) || (isFast x.2.signal && decide (x.2.punit = 0)))

def ruleAction (c : ConfigSet) : Option Nat :=
  firstBad c.rules (fun x =>
    let r := x.2
    decide (4 < r.action) || decide (100 < r.deratePct) || (decide (r.action = 4) && decide (r.severity ≠ sevTrip)) ||
      ((decide (r.action = 2) || decide (r.action = 3)) && decide (r.severity < sevAlarm)))

def ruleRate (c : ConfigSet) : Option Nat :=
  let rates := c.rules.filter (fun x => x.2.enabled && decide (x.2.cond = 3))
  if 8 < (rates.filter (fun x => decide (x.2.scope = 0))).length then some noLoc
  else firstBad rates (fun x => decide (x.2.rateSpan = 0))

/-- A PCS_LINK_LOST row (R250). -/
def pcsLinkRow (r : Rule) : Bool :=
  r.enabled && decide (r.scope = 4) && decide (r.signal = 0x42) && decide (r.cond = 0) && !r.thrCurve && decide (r.thrA ≤ 100) &&
    (decide (r.action = 3) || decide (r.action = 4))

def rulePcsLink (c : ConfigSet) : Option Nat := failIf (!(c.rules.any (fun x => pcsLinkRow x.2)))

/-! ## Table 10-14 -/

/-- Steps reachable from a list of steps, those outside the table left out. -/
def reach (steps : List (Nat × Step)) : Nat → List Nat → List Nat → List Nat
  | 0, _, seen => seen
  | _, [], seen => seen
  | n + 1, i :: rest, seen =>
    if i ∈ seen ∨ 4096 ≤ i then reach steps n rest seen
    else
      let st := look {} steps i
      reach steps n (if st.kind = 0xF then rest else st.success :: st.failure :: rest) (i :: seen)

/-- The templates of an entry table (R256). -/
def reachable (c : ConfigSet) (entries : List Nat) : List Nat :=
  reach c.seq.steps 16384 (entries.filter (fun e => decide (e ≠ 0xFFFF))) []

/-- A step's KIND, OPERAND and side fit Table 10-7. -/
def stepBad (bay : Bool) (st : Step) : Bool :=
  match st.kind with
  | 0x0 => false
  | 0x1 => if bay then decide (6 < st.operand) else decide (9 < st.operand)
  | 0x2 => bay || out st.operand 0x20 0x25
  | 0x3 => !bay || decide (7 < st.operand)
  | 0x4 => !bay
  | 0x5 => out st.operand 1 0x0B
  | 0x6 => false
  | 0x7 => bay
  | 0x8 => !bay || decide (8 < st.operand)
  | 0x9 => false
  | 0xA => decide (sevTrip < st.operand)
  | 0xF => false
  | _ => true

def seqKind (c : ConfigSet) : Option Nat :=
  let bad (bay : Bool) (l : List Nat) : Option Nat := l.find? (fun i => stepBad bay (look {} c.seq.steps i))
  (bad false (reachable c c.seq.strEntry)).orElse (fun _ => bad true (reachable c c.seq.bayEntry))

/-- An entry outside the table counts with the targets. -/
def seqTarget (c : ConfigSet) : Option Nat :=
  let entries := c.seq.strEntry ++ c.seq.bayEntry
  ((reachable c entries).find? (fun i =>
    let st := look {} c.seq.steps i
    decide (st.kind ≠ 0xF) && (decide (4096 ≤ st.success) || decide (4096 ≤ st.failure)))).orElse (fun _ =>
      failIf (entries.any (fun e => decide (e ≠ 0xFFFF) && decide (4096 ≤ e))))

def seqEntry (c : ConfigSet) : Option Nat :=
  ([1, 2, 4].find? (fun e => decide (c.seq.strEntry.getD e 0xFFFF = 0xFFFF))).orElse (fun _ =>
    ([1, 2].find? (fun e => decide (c.seq.bayEntry.getD e 0xFFFF = 0xFFFF))).map (· + 16))

/-- The first two steps of OPEN_TRIP, the second by SUCCESS. -/
def seqTrip (c : ConfigSet) : Option Nat :=
  let e := c.seq.strEntry.getD 2 0xFFFF
  let releases (i : Nat) : Bool :=
    let st := look {} c.seq.steps i
    decide (st.kind = 2) && decide (st.operand = 0x20) && decide (st.arg % 8 = 0)
  if releases e || (decide ((look {} c.seq.steps e).kind ≠ 0xF) && releases (look {} c.seq.steps e).success) then none else some e

/-- Steps that pass at once: no WAIT, no DELAY, no timeout, no END. -/
def fastStep (st : Step) : Bool := decide (st.kind ≠ 5) && decide (st.kind ≠ 6) && decide (st.kind ≠ 0xF) && decide (st.timeout = 0)

/-- Steps of a set that lead only out of the set are taken away, again and again: what stays lies on a cycle or leads to
one. -/
def trimSteps (steps : List (Nat × Step)) : Nat → List Nat → List Nat
  | 0, l => l
  | n + 1, l => trimSteps steps n (l.filter (fun i => decide ((look {} steps i).success ∈ l) || decide ((look {} steps i).failure ∈ l)))

def seqLoop (c : ConfigSet) : Option Nat :=
  let l := (reachable c (c.seq.strEntry ++ c.seq.bayEntry)).filter (fun i => fastStep (look {} c.seq.steps i))
  (trimSteps c.seq.steps l.length l).head?

/-- BAY_SWITCH entries in use: index (bay × 8 + slot) and channel. -/
def baySwitches (c : ConfigSet) : List (Nat × Nat) :=
  (c.baySwitch.zipIdx.flatMap (fun (b : List Nat × Nat) => b.1.zipIdx.map (fun (s : Nat × Nat) => (b.2 * 8 + s.2, s.1)))).filter
    (fun x => decide (x.2 ≠ 255))

def seqParam (c : ConfigSet) : Option Nat :=
  let p := c.seq
  if out p.insertI 5 50 || out p.insertVErr 0 10000 || out p.insertBatch 1 128 || out p.insertWaitMax 0 86400 ||
      out p.zeroWait 100 500 || out p.zeroIPct 1 20 || out p.leaseFloor 0 10 || out p.recoverDelay 1 600 ||
      out p.faultLimit 1 10 || out p.bayMinStrings 1 128 || out p.bayEmptyTime 100 60000 then some noLoc
  else firstBad (baySwitches c) (fun x => decide (23 < x.2))

/-! ## Table 11-8 -/

/-- The precharge entries in use. -/
def usedPre (c : ConfigSet) : List (Nat × PreEntry) :=
  (c.precharge.zipIdx.map (fun (x : PreEntry × Nat) => (x.2, x.1))).filter (fun x => decide (x.2.phases ≠ 0))

def preParam (c : ConfigSet) : Option Nat :=
  firstBad (usedPre c) (fun x =>
    let e := x.2
    decide (4 < e.phases) || out e.minPhases 1 e.phases || out e.rotate 0 255 || out e.phaseOffset 0 255 ||
      out e.deadTime 4 100 || out e.iFloorPct 1 10 || out e.probePct 1 10 || out e.retryMax 0 3 || outI e.iRun 1000 200000 ||
      out e.tProbe 50 2000 || out e.retryDelay 1 600 || out e.fFree 2000 20000 || decide (e.bandMax ≤ e.bandMin))

/-- The ISNS full scale is 2.5 V (Table 02-13). -/
def preLimit (c : ConfigSet) : Option Nat :=
  firstBad (usedPre c) (fun x =>
    let e := x.2
    decide (2 * (e.phases : Int) * e.iFast ≤ 2 * e.iRun + (e.phases : Int) * (e.bandMax : Int)) ||
      decide (5 * (e.isnsGain : Int) < 2 * e.iFast))

def preBay (c : ConfigSet) : Option Nat :=
  if (reachable c [c.seq.bayEntry.getD 0 0xFFFF]).any (fun i => decide ((look {} c.seq.steps i).kind = 4)) then
    c.bays.find? (fun b => decide ((c.precharge.getD b {}).phases = 0))
  else none

/-! ## Table 12-6 and NET_PARAM -/

def swParam (c : ConfigSet) : Option Nat :=
  if out c.swWdPeriod 20 1000 then some noLoc
  else firstBad (c.switches.zipIdx.map (fun (x : SwEntry × Nat) => (x.2, x.1))) (fun x =>
    let e := x.2
    decide (5 < e.loadCode) || out e.lampRetries 1 15 || out e.econDuty 20 100 || outI e.iTrip 100 6600 ||
      out e.iOpen 10 1000 || decide (12000 < e.tBlank) || out e.tPull 20 2000 || out e.tRamp 100 10000 || out e.tOvl 10 5000 ||
      out e.shortGap 1 1000 || out e.tOpenOn 100 10000)

def swBay (c : ConfigSet) : Option Nat :=
  firstBad (baySwitches c) (fun x => decide ((c.switches.getD x.2 {}).load = .unused))

def swShared (c : ConfigSet) : Option Nat :=
  firstBad (baySwitches c) (fun x => (baySwitches c).any (fun y => decide (y.1 < x.1) && decide (y.2 = x.2)))

/-- A nonzero IPv4 address is multicast or loopback. Addresses are their bytes as little-endian numbers, so the first byte
is the lowest. -/
def badAddr4 (a : Nat) : Bool := decide (a ≠ 0) && (decide (a % 256 = 127) || out (a % 256) 0 223 && decide (a % 256 ≤ 239))

/-- A nonzero IPv6 address is multicast or loopback. -/
def badAddr6 (a : Nat) : Bool := decide (a ≠ 0) && (decide (a % 256 = 255) || decide (a = 256 ^ 15))

/-- An address entry that NET_PARAM refuses. -/
def addrBad (a : NetAddr) : Bool :=
  badAddr4 a.addr4 || badAddr6 a.addr6 || (decide (a.addr4 ≠ 0) && out a.prefix4 1 32) ||
    (decide (a.addr6 ≠ 0) && out a.prefix6 1 128) || decide (a.vid = 4095)

/-- Two ports share an address. -/
def shareAddr (a b : NetAddr) : Bool :=
  (decide (a.addr4 ≠ 0) && decide (a.addr4 = b.addr4)) || (decide (a.addr6 ≠ 0) && decide (a.addr6 = b.addr6))

def netParam (c : ConfigSet) : Option Nat :=
  let n := c.network
  let a (i : Nat) : NetAddr := n.addrs.getD i {}
  if out n.streamBudget 1 200 || out n.sessionIdle 10 3600 || badAddr4 n.gateway4 || badAddr6 n.gateway6 then some noLoc
  else ([0, 1, 2, 3].find? (fun i => addrBad (a i))).orElse (fun _ =>
    if shareAddr (a 0) (a 1) then some 1 else if shareAddr (a 2) (a 3) then some 3 else none)

/-! ## All of them -/

/-- The checks of a chapter: CHECK_TABLE, whether CHECK_ROW counts (R389), and the checks by name. -/
abbrev CheckTable := Nat × Bool × List (String × (ConfigSet → Option Nat))

/-- Tables 01-4 and 05-12, SENSE_RULE and SENSE_PARAM. -/
def firstTables (pair : Bool) : List CheckTable :=
  [(1, true, [("MAP_CONFIG", fun c => failIf (c.pairDomain != pair || c.oddDomain)), ("MAP_LIMIT", mapLimit pair), ("MAP_HOP_GAP", mapHopGap),
     ("MAP_FORMAT", mapFormat), ("MAP_STRING_SPAN", mapStringSpan), ("MAP_DZS_COUNT", mapDzsCount),
     ("MAP_CHANNEL_FILL", mapChannelFill), ("MAP_POSITION", mapPosition), ("MAP_BAY", mapBay pair),
     ("MAP_VOLTAGE", mapVoltage), ("MAP_TEMP", mapTemp), ("MAP_RATING", mapRating)]),
   (5, true, [("FMT_TYPE", fmtType), ("FMT_LENGTH", fmtLength), ("FMT_ITEM", fmtItem), ("FMT_OVERLAP", fmtOverlap),
     ("FMT_REQUIRED", fmtRequired), ("SWEEP_PERIOD", sweepPeriod), ("SWEEP_BUDGET", sweepBudget),
     ("SWEEP_FILTER", sweepFilter), ("SWEEP_BURST", sweepBurst), ("SWEEP_STALE_RULE", sweepStaleRule)]),
   (6, false, [("SENSE_RULE", senseRule), ("SENSE_PARAM", senseParam)])]

/-- Tables 07-5 and 09-10 with LEARN_PARAM between them. -/
def middleTables : List CheckTable :=
  [(7, true, [("CURVE_COUNT", curveCount), ("CURVE_TEMP_ORDER", curveTempOrder), ("CURVE_SOC_ORDER", curveSocOrder),
     ("CURVE_OCV_ORDER", curveOcvOrder), ("CURVE_BRANCH", curveBranch), ("CURVE_ZONE", curveZone),
     ("CURVE_CUTOFF", curveCutoff), ("SOC_PARAM", socParam)]),
   (8, false, [("LEARN_PARAM", learnParam)]),
   (9, true, [("CURVE_STORE", curveStore), ("LIMIT_PARAM", limitParam), ("RULE_SCOPE", ruleScope), ("RULE_COND", ruleCond),
     ("RULE_THRESHOLD", ruleThreshold), ("RULE_PERSIST", rulePersist), ("RULE_ACTION", ruleAction), ("RULE_RATE", ruleRate),
     ("RULE_PCS_LINK", rulePcsLink)])]

/-- Tables 10-14, 11-8 and 12-6, and NET_PARAM. -/
def lastTables : List CheckTable :=
  [(10, true, [("SEQ_KIND", seqKind), ("SEQ_TARGET", seqTarget), ("SEQ_ENTRY", seqEntry), ("SEQ_TRIP", seqTrip),
     ("SEQ_LOOP", seqLoop), ("SEQ_PARAM", seqParam)]),
   (11, true, [("PRE_PARAM", preParam), ("PRE_LIMIT", preLimit), ("PRE_BAY", preBay)]),
   (12, true, [("SW_PARAM", swParam), ("SW_BAY", swBay), ("SW_SHARED", swShared)]),
   (15, true, [("NET_PARAM", netParam)])]

/-- The first check of a chapter that fails. -/
def checkTable (c : ConfigSet) (t : CheckTable) : Option CheckResult :=
  t.2.2.zipIdx.findSome? (fun x => (x.1.2 c).map (fun loc =>
    { result := stCheckFailed, table := t.1, row := if t.2.1 then x.2 + 1 else 0, loc := loc, name := x.1.1 }))

/-- The check tables in their order (R31): none where the set passes. -/
def checkSet (pair : Bool) (c : ConfigSet) : Option CheckResult :=
  (firstTables pair ++ middleTables ++ lastTables).findSome? (checkTable c)

/-- The checks of CONFIG.CHECK (R389, R442): the signature checks, FORMAT, then the tables. -/
def Module.checkLoaded (m : Module) (s : LoadedSet) : CheckResult :=
  if s.headOk = false ∨ s.crcOk = false ∨ (m.upd.ownerKey.isSome ∧ (s.cfg.ownerSigned = false ∨ s.sigOk = false)) then
    { result := stSignatureError }
  else if m.adopts s.cfg.format = false then { result := stSettingsIncompatible }
  else (checkSet m.isPair s.cfg).getD { result := stOk }

/-- CHECK_RESULT as bytes (R389). -/
def checkBytes (r : CheckResult) : List Byte :=
  le 2 r.result ++ [r.table, r.row] ++ le 4 r.loc ++ padTo 24 (r.name.toList.map Char.toNat)

end Sys2Proof.Machine
end

