-- ==== Sys2Proof/Machine/Activation.lean ====
section
/-! DEFINITION. A configuration set takes effect (R34, R124, R406, R410, R443, R446, R465): in the module that activates it, and
in a follower that receives its leader's set (R350). -/

namespace Sys2Proof.Machine

/-! ## R34 -/

/-- The map entries of a string in a set: string table, worker table and channel table. -/
def mapOf (c : ConfigSet) (s : Nat) : Option StringEntry × List (Wk × WorkerEntry) × List (Nat × ChannelEntry) :=
  (present? c s, c.workersOfString s, c.channels.filter (fun p => decide (p.2.string = s)))

/-- The set whose map stands: the ACTIVE set in force, or the one a SAFE_HOLD keeps aside. -/
def Module.mapSet (m : Module) : Option ConfigSet := if m.conf?.isSome then m.sets.active.content else none

/-- R34 permits the activation: every string whose entries change is in OPEN, LOCKOUT or SERVICE. -/
def Module.mapPermits (m : Module) (new : ConfigSet) : Bool :=
  match m.mapSet with
  | none => true
  | some old => old.strings.all (fun x => decide (mapOf old x.1 = mapOf new x.1) || decide ((m.sInst x.1).state ∈ [0, 8, 9]))

/-! ## R465 -/

/-- A rule row is identical, at the same number, in both sets. -/
def sameRow (old new : ConfigSet) (row : Nat) : Bool := decide (find old.rules row = find new.rules row)

/-- The records that an activation keeps; RATE references only while P is unchanged. -/
def keepRecs (old new : ConfigSet) (p p' : Nat) (l : List (VKey × VRec)) : List (VKey × VRec) :=
  (l.filter (fun x => sameRow old new x.1.row)).map (fun x =>
    (x.1, if p = p' then x.2 else { x.2 with ref := none, kref := none }))

/-- The active TRIP rows of the outgoing set that the incoming set does not hold alike go on under their outgoing content. -/
def Module.leavingTrips (m : Module) (old new : ConfigSet) : List (VKey × Rule × Curve × Curve × VRec) :=
  (m.ver.recs ++ m.ver.fast).filterMap (fun (x : VKey × VRec) =>
    let r : Rule := look {} old.rules x.1.row
    let c := m.rowCurves r
    if x.2.active && decide (r.action = 4) && !(sameRow old new x.1.row && decide (c.1 = look {} new.curves (thrIndex r.thrA) ∨ !r.thrCurve) &&
        decide (c.2 = look {} new.curves (thrIndex r.thrB) ∨ !r.thrCurve)) then
      some (x.1, r, c.1, c.2, x.2) else none)

/-- A running template keeps the SEQUENCE section it started on. -/
def keepSeq (old : SeqCfg) (i : Inst) : Inst := if i.step.isSome then { i with oldSeq := some (i.oldSeq.getD old) } else i

/-! ## The cell map's own consequences (log 73) -/

/-- A used channel carries another cell than before: it was unused, or its string or its nameplate capacity differs. -/
def newCell (old : ConfigSet) (e : Nat) (x : ChannelEntry) : Bool :=
  match find old.channels e with
  | none => true
  | some y => decide (x.string ≠ y.string) || decide (x.nameplate ≠ y.nameplate)

/-- The instances of the incoming set: those there were, and new ones in OPEN or DEAD. -/
def carryInsts (old : List (Nat × Inst)) (ks : List Nat) (seq : SeqCfg) (ms : Nat) : List (Nat × Inst) :=
  ks.map (fun k => match find old k with
    | some i => (k, keepSeq seq i)
    | none => (k, { stateSince := ms }))

/-- The cells, strings and workers follow the incoming map. -/
def Module.followMap (m : Module) (old : ConfigSet) : Module :=
  let new := m.cfg
  let m : Module := { m with
    est := { m.est with
      cells := m.est.cells.filter (fun x => (find new.channels x.1).isSome)
      strs := m.est.strs.filter (fun x => (find new.strings x.1).isSome) }
    workers := m.workers.filter (fun x => decide (find old.workers x.1 = find new.workers x.1)) }
  new.channels.foldl (fun m (x : Nat × ChannelEntry) =>
    if newCell old x.1 x.2 then (m.restoreCapacity x.1).firstEstimate x.1 else m) m

/-- The rings follow: one whose workers change is trained again; elsewhere a worker whose format or filter changes is told
(R134, R136). -/
def Module.followRings (m before : Module) (old : ConfigSet) : Module :=
  m.cfg.rings.foldl (fun m r =>
    if old.workersOf r ≠ m.cfg.workersOf r then m.beginTraining r
    else (m.cfg.workersOf r).foldl (fun m (w : Wk × WorkerEntry) =>
      let m := if before.formatPayload w.1 = m.formatPayload w.1 then m else m.order w.1 0x04 (m.formatPayload w.1)
      if before.filterPayload w.1 = m.filterPayload w.1 then m else m.order w.1 0x03 (m.filterPayload w.1)) m) m

/-! ## Taking effect -/

/-- A NOT_ADOPTED set that RETREAT holds an image for is never discarded (R443). -/
def Module.guarded (m : Module) (x : SetSlot) : Bool :=
  decide (x.state = 7) && decide (m.upd.retreat.formatMin ≤ x.format ∧ x.format ≤ m.upd.retreat.formatMax)

/-- PREVIOUS takes the former ACTIVE set (Table 18-6), which is CHECKED there (log 74). -/
def Module.shiftActive (m : Module) : SetSlot :=
  if m.guarded m.sets.previous ∧ m.guarded m.sets.active = false then m.sets.previous
  else if m.sets.active.state = 6 then { m.sets.active with state := 4 }
  else m.sets.active

/-- The incoming set is in force, beside the set that ran before: `previous` is what PREVIOUS then holds. -/
def Module.takeSet (m : Module) (incoming previous : SetSlot) : Module :=
  let before := m
  let old? := m.conf?
  let old := m.cfg
  let trips := match incoming.content with | some new => m.leavingTrips old new | none => []
  let m : Module := { m with
    sets := { m.sets with
      active := { incoming with state := 6 }, previous := previous, safeHold := false, safeLate := false, safeGrant := false
      revertAt := none, incompatible := false } }
  let m := (m.clear .mgi cSettingsIncompatible).jotConfig sevInfo incoming.setId []
  if old?.isNone then m.beginService
  else
    let new := m.cfg
    let p := new.sweep.period
    let keep := keepRecs old new before.sweep.period p
    let m : Module := { m with
      sweep := { m.sweep with
        period := p, oldP := if p = m.sweep.period then m.sweep.oldP else some (m.sweep.j, m.sweep.period) }
      ver := { m.ver with
        recs := keep m.ver.recs, fast := keep m.ver.fast, outTrips := m.ver.outTrips ++ trips
        overflow := m.ver.overflow.filter (sameRow old new), zeroed := m.upd.prepared }
      scarab := { m.scarab with
        strs := carryInsts m.scarab.strs (new.strings.map (·.1)) old.seq m.ms
        bays := carryInsts m.scarab.bays new.bays old.seq m.ms }
      sw := { m.sw with failsafe := new.switches.map (·.failsafe) } }
    let m := (List.range 4).foldl Module.preDrop m
    let m := (m.followMap old).enablePorts.canActivate old.can
    (m.followRings before old).drive

end Sys2Proof.Machine
end

