-- ==== Sys2Proof/Machine/Pair.lean ====
section
/-! DEFINITION. The pair link and the roles of a pair (chapter 14): the frames of Table 14-4, resynchronisation, planned handover,
failover and the lead token. The partner module is the outside world here: its frames are the commands. -/

namespace Sys2Proof.Machine

/-! ## A valid frame (R344) -/

/-- The pair link is served: a module of a pair runs and its PRI is up. -/
def Module.pairServes (m : Module) : Bool := m.runs && m.isPair && m.up .pri

/-- A valid frame has arrived: its lane is up and the link is not silent; a leader's frame carries the sweep index (R123). -/
def Module.heardPair (m : Module) (h : PairHdr) : Module :=
  let m := (m.clear .pri cPairLaneDown scModule h.lane).clear .pri cPairLinkLost
  let m : Module := { m with pair := { m.pair with
    lanes := modAt m.pair.lanes h.lane (fun _ => true), silent := false, lastValid := m.time.now, bootWait := false
    splitDone := false, noGeyser := false } }
  if h.role = .leader then m.adoptSweep h.sweep else m

/-- The leader's VSI works: what an earlier DEPART said is over. -/
def Module.partnerWorks (m : Module) : Module := { m with pair := { m.pair with depart := none } }

/-- A leader that was refused its parking hands over once its partner can take over (R359). -/
def Module.partnerChange (m before : Module) : Module :=
  if m.leads ∧ m.holds cEjectRefused scModule 0 ∧ before.partnerReady = false ∧ m.partnerReady then m.startHandover else m

/-! ## Keepalive, time and digest -/

/-- A KEEPALIVE (Table 14-5). -/
def Module.takeKeepalive (m : Module) (h : PairHdr) (k : Keepalive) : Module :=
  let before := m
  let m : Module := { m with pair := { m.pair with
    keep := k, partnerRole := some h.role, partnerParking := m.pair.partnerParking && !k.leverLocked } }
  let m := (m.heardPair h).roleCheck
  let m := if m.follows ∧ h.role = .leader then m.askLeader.readyCheck else m
  m.partnerChange before

/-- PAIR_KEEPALIVE_RX (R342, R344, R350, R359). -/
def execPairKeepaliveRx (h : PairHdr) (k : Keepalive) (s : State) : Host.Outcome State Fault Refusal :=
  onModule s (fun m => if m.pairServes then m.takeKeepalive h k else m)

/-- PAIR_RING_FRAME_RX (R106): the frame is taken as at the module's own port. -/
def execPairRingFrameRx (h : PairHdr) (port : Nat) (frame : RingFrame) (s : State) : Host.Outcome State Fault Refusal :=
  onModule s (fun m =>
    if m.pairServes then
      let m := m.heardPair h
      if m.up .rgi then m.pairFrame port frame else m
    else m)

/-- PAIR_TIME_RX (R82, R83): the operand is the offset to the leader's plant time. -/
def execPairTimeRx (h : PairHdr) (offset : Int) (s : State) : Host.Outcome State Fault Refusal :=
  onModule s (fun m =>
    if m.pairServes then
      let m := m.heardPair h
      if m.follows ∧ m.up .mgi then
        (Module.steer { m with pair := { m.pair with partnerTime := offset } } offset).lockTime
      else m
    else m)

/-- PAIR_DIGEST_RX (R342, R347, R348). -/
def execPairDigestRx (h : PairHdr) (digest : Nat) (s : State) : Host.Outcome State Fault Refusal :=
  onModule s (fun m =>
    if m.pairServes then
      let m := (m.heardPair h).partnerWorks
      let before := m
      (Module.digestCheck { m with pair := { m.pair with
        partnerDigest := some (h.sweep, digest), lastDigest := some h.sweep } }).partnerChange before
    else m)

/-! ## Resynchronisation (R349) -/

/-- A resynchronisation under way is abandoned; the third within 10 min raises PAIR_SYNC_FAILED. -/
def Module.abandonResync (m : Module) : Module :=
  if m.pair.resync.requested then
    let aborts := m.ms :: m.pair.resync.aborts.filter (fun t => decide (m.ms < t + 600000))
    let failed := decide (3 ≤ aborts.length)
    let m : Module := { m with pair := { m.pair with
      resync := { m.pair.resync with
        requested := false, next := 0, lost := [], steps := [], buffered := [], aborts := aborts, failed := failed } } }
    if failed then m.raise .pri cPairSyncFailed else m
  else m

/-- A chunk's block is counted; a gap before it is noted for RESEND. -/
def Resync.count (r : Resync) (b : Nat) : Resync :=
  if r.next ≤ b then { r with next := b + 1, lost := r.lost ++ (List.range (b - r.next)).map (· + r.next) }
  else { r with lost := dropFrom r.lost b }

/-- Every block has come: the image is installed, and the sweeps buffered since are replayed in their order. -/
def Module.completeResync (m : Module) (img : StateImage) : Module :=
  let m := m.installImage img
  Module.replay m.waitingManifests m

/-- STATE_CHUNK_RX (R349): the blocks are counted by number; the image they add up to comes with the block that completes
it. -/
def execStateChunkRx (h : PairHdr) (block : Nat) (last : Bool) (img : Option StateImage) (s : State) :
    Host.Outcome State Fault Refusal :=
  onModule s (fun m =>
    if m.pairServes then
      let m := m.heardPair h
      if m.pair.role = .syncing ∧ m.pair.resync.requested then
        let r := m.pair.resync.count block
        let m : Module := { m with pair := { m.pair with resync := r } }
        if r.lost = [] ∧ (last ∨ imageCount ≤ r.next) then
          match img with
          | some i => m.completeResync i
          | none => m
        else if last then m.emit (.pairCtrl 1 0 0 r.lost)
        else m
      else m
    else m)

/-- RESYNC_RETRY_EXPIRE (R349). -/
def execResyncRetryExpire (s : State) : Host.Outcome State Fault Refusal :=
  onModule s (fun m =>
    if m.pairServes ∧ m.follows ∧ m.pair.resync.failed then
      Module.askState { m with pair := { m.pair with resync := { m.pair.resync with failed := false } } }
    else m)

/-- The estimation generations of both images meet (R440). -/
def Module.sharedGen (m : Module) (gen : Nat) : Option Nat :=
  let own := m.upd.running.genOwn
  if max own gen ≤ min own gen + 1 then some (min own gen) else none

/-- STREAM_CTRL_RESYNC (R349, R440): the leader serves a snapshot from its next stage on, unless no generation is shared. -/
def execStreamCtrlResync (h : PairHdr) (genOwn : Nat) (s : State) : Host.Outcome State Fault Refusal :=
  onModule s (fun m =>
    if m.pairServes then
      let m := m.heardPair h
      if m.leads then
        let m : Module := { m with pair := { m.pair with partnerGen := some genOwn, equalRun := 0 } }
        match m.sharedGen genOwn with
        | some g => { m with pair := { m.pair with gen := g, serve := true } }
        | none => m
      else m
    else m)

/-- STREAM_CTRL_RESEND (R349): the named blocks are those of the snapshot. -/
def execStreamCtrlResend (h : PairHdr) (blocks : List Nat) (s : State) : Host.Outcome State Fault Refusal :=
  onModule s (fun m =>
    if m.pairServes then
      let m := m.heardPair h
      if m.leads ∧ blocks ≠ [] then
        match m.pair.snap with
        | some i => m.emit (.pairState i)
        | none => m
      else m
    else m)

/-! ## Manifests (R127, R346, R349, R440) -/

/-- Workers that a manifest names and whose slots this module lacks. -/
def Module.missingSlots (m : Module) (man : Manifest) : List Wk :=
  let l := look [] m.sweep.accepted man.sweep
  man.used.filter (fun w => (find l w).isNone)

/-- A manifest equals a provisional one in what the estimate takes from it (R346). -/
def sameManifest (a b : Manifest) : Bool :=
  decide (a.dropped = b.dropped ∧ a.bursts = b.bursts ∧ a.bal = b.bal ∧ a.tGap = b.tGap ∧ a.dormant = b.dormant) &&
    a.used.all (fun w => decide (w ∈ b.used)) && b.used.all (fun w => decide (w ∈ a.used))

/-- The generation that the manifest names (R440): one that this image does not implement is journalled once. -/
def Module.takeGen (m : Module) (gen : Nat) : Module :=
  let own := m.upd.running.genOwn
  let m' : Module := { m with pair := { m.pair with gen := gen } }
  if gen ≠ m.pair.gen ∧ gen ≠ own ∧ gen + 1 ≠ own then m'.jotUpdate sevInfo m.upd.running.version stSettingsIncompatible else m'

/-- PAIR_SLOT_MISSING follows what a leader's manifest names (R127). -/
def Module.noteMissing (m : Module) (man : Manifest) : Module :=
  m.setCond (decide (m.missingSlots man ≠ [])) .pri cPairSlotMissing

/-- A leader's manifest of a sweep that is still open here. -/
def Module.openManifest (m : Module) (man : Manifest) : Module :=
  let m := m.takeManifest man
  let m : Module :=
    if m.pair.resync.requested then
      { m with pair := { m.pair with resync := { m.pair.resync with buffered := m.pair.resync.buffered ++ [man] } } }
    else m
  let m := if 256 < m.pair.resync.buffered.length then m.abandonResync.askState else m
  let lacks := m.missingSlots man ≠ []
  let m := m.noteMissing man
  if lacks ∧ m.pair.role = .ready then m.loseSync else m

/-- PAIR_MANIFEST_RX (R127, R346). -/
def execPairManifestRx (h : PairHdr) (man : Manifest) (s : State) : Host.Outcome State Fault Refusal :=
  onModule s (fun m =>
    if m.pairServes then
      let m := m.heardPair h
      if m.follows then
        let m := m.takeGen man.gen
        match m.sweep.prov with
        | some p =>
          if p.sweep = man.sweep then
            let m : Module := { m with sweep := { m.sweep with prov := none } }
            if sameManifest p man then m else (m.noteMissing man).loseSync
          else m.openManifest man
        | none => if m.readoutOpen man.sweep then m.openManifest man else m
      else m
    else m)

/-! ## Scarab, precharge, switch image and end requests (R259, R292, R313, R345) -/

/-- A Scarab instance as the leader has it; its mirror word follows under the write stop, unless the state here was never
received (R356). -/
def Module.takeStep (m : Module) (sweep : Nat) (k : InstKey) (i : Inst) : Module :=
  let m := m.setInst k i
  let m : Module := if m.calOk && m.shadows then
      (match k with
       | .str s => { m with cal := { m.cal with scarabS := put m.cal.scarabS s (instWord i) } }
       | .bay b => { m with cal := { m.cal with scarabB := put m.cal.scarabB b (instWord i) } })
    else m
  if m.pair.resync.requested then
    { m with pair := { m.pair with resync := { m.pair.resync with steps := (sweep, k, i) :: m.pair.resync.steps } } }
  else m

/-- PAIR_SCARAB_STEP_RX (R259): at END the template is over. -/
def execPairScarabStepRx (h : PairHdr) (inst : InstKey) (img : Inst) (s : State) : Host.Outcome State Fault Refusal :=
  onModule s (fun m =>
    if m.pairServes then
      let m := (m.heardPair h).partnerWorks
      if m.follows then
        let m := m.takeStep h.sweep inst img
        match img.step with
        | some n => if (look {} (m.seqOf inst).steps n).kind = 0xF then (m.endTemplate inst).limitReached inst else m
        | none => m
      else m
    else m)

/-- PAIR_RUN_RECORD_RX (R292). -/
def execPairRunRecordRx (h : PairHdr) (chan : Nat) (r : RunRecord) (s : State) : Host.Outcome State Fault Refusal :=
  onModule s (fun m =>
    if m.pairServes then
      let m := (m.heardPair h).partnerWorks
      if m.follows then m.applyRecord chan r else m
    else m)

/-- PAIR_SWITCH_IMAGE_RX (R313, R314): a follower's VSI refreshes its SWI with the leader's image; a leader keeps the
follower's currents. -/
def execPairSwitchImageRx (h : PairHdr) (image : Option (List Bool)) (currents : List Int) (s : State) :
    Host.Outcome State Fault Refusal :=
  onModule s (fun m =>
    if m.pairServes then
      let m := m.heardPair h
      match image with
      | some l =>
        if m.follows then
          Module.emit { m with sw := { m.sw with image := l } } (.refresh (some l))
        else m
      | none => if m.leads then { m with sw := { m.sw with partnerCur := currents } } else m
    else m)

/-- PAIR_END_REQUEST_RX (R345): the complete frame leaves this module's own end. -/
def execPairEndRequestRx (h : PairHdr) (port : Nat) (frame : EndFrame) (_departure : Nat) (s : State) :
    Host.Outcome State Fault Refusal :=
  onModule s (fun m =>
    if m.pairServes then
      let m := m.heardPair h
      if m.follows ∧ m.up .rgi ∧ (m.port port).up then m.emit (.ring port frame) else m
    else m)

/-! ## Journal frames (R345, R417, R421, R424, R425, R463) -/

/-- The sources that a bitmap names. -/
def bitmapSources (b : List Byte) : List Nat := (List.range 256).filter (fun i => bitAt (b.getD (i / 8) 0) (i % 8))

/-- The row records that LATCH.ACK reaches are acknowledged (R239). 0xFFFF is every row, 0xFFFFFFFF every instance. -/
def ackRec (rules : List (Nat × Rule)) (row scope inst : Nat) (x : VKey × VRec) : Bool :=
  let r : Rule := look { enabled := false } rules x.1.row
  x.2.active && !x.2.acked && latched r && decide (row = 0xFFFF ∨ x.1.row = row) && decide (r.scope = scope) &&
    decide (inst = 0xFFFFFFFF ∨ x.1.inst = inst)

/-- Acknowledgement of every record that fits. -/
def ackAll (rules : List (Nat × Rule)) (row scope inst : Nat) (l : List (VKey × VRec)) : List (VKey × VRec) :=
  l.map (fun x => if ackRec rules row scope inst x then (x.1, { x.2 with acked := true }) else x)

/-- The verdict engine takes an acknowledgement; outgoing TRIP rows of R465 take it under their own content. -/
def Module.ackRows (m : Module) (row scope inst : Nat) : Module :=
  let rules := m.cfg.rules
  { m with ver := { m.ver with
    recs := ackAll rules row scope inst m.ver.recs, fast := ackAll rules row scope inst m.ver.fast
    outTrips := m.ver.outTrips.map (fun (o : VKey × Rule × Curve × Curve × VRec) =>
      if ackRec [(o.1.row, o.2.1)] row scope inst (o.1, o.2.2.2.2) then
        (o.1, o.2.1, o.2.2.1, o.2.2.2.1, { o.2.2.2.2 with acked := true })
      else o) } }

/-- A direct command of the leader takes effect on the follower from its record (log 75). -/
def Module.applyCommand (m : Module) (r : JRec) : Module :=
  match unle (r.payload.take 2) with
  | 0x0420 => m.ackRows r.row (r.value.toNat) r.inst
  | 0x0431 => if r.inst < 24 then m.resetLatch r.inst else m.eachSw Module.resetLatch
  | 0x0304 => { m with sets := { m.sets with
      pending := if m.sets.pending.state = 4 then { m.sets.pending with state := 8, actSweep := r.value.toNat } else m.sets.pending } }
  | 0x0306 => { m with sets := { m.sets with pending := {} } }
  | 0x0305 => { m with sets := { m.sets with revertAt := some r.value.toNat } }
  | _ => m

/-- What a follower does beside keeping a record of its leader. -/
def Module.applyJournal (m : Module) (r : JRec) : Module :=
  if r.code = eAlertMask then { m with al := { m.al with mask := bitmapSources r.payload } }
  else if r.code = eAlertClear then { m with al := { m.al with clearReq := addAll m.al.clearReq (bitmapSources r.payload) } }
  else if r.code = eJournalAck then
    if m.calOk then { m with jou := { m.jou with ackMark := some (max (m.jou.ackMark.getD 0) (unle (r.payload.take 8))) } } else m
  else if r.code = eStateChange ∧ r.scope = scDomain then
    { m with dcp := { m.dcp with service := decide (r.payload.getD 1 0 = 7) } }
  else if r.code = eCommand then m.applyCommand r
  else if r.code = eRingRejoined then m.segmentBack (r.inst / 512) (r.inst % 512)
  else if r.code = eDormant ∧ r.scope = scDomain ∧ r.payload.length = 20 ∧ m.dorm.phase = .awake then
    m.enterDormant (unle (r.payload.drop 4))
  else m

/-- A record numbered in the domain series is kept under its number, and the series goes on behind it (R417, R418). -/
def Module.keepRecord (m : Module) (r : JRec) : Module :=
  let m := m.enqueue true r
  { m with jou := { m.jou with domNext := max m.jou.domNext (r.seq + 1) } }

/-- A follower's own condition reaches the leader's map and its series (R424, R463). -/
def Module.partnerCond (m : Module) (r : JRec) : Module :=
  let c : Cond := { code := r.code, scope := r.scope, inst := r.inst }
  let m : Module := { m with al := { m.al with
    partner := if r.fall then dropFrom m.al.partner c else addTo m.al.partner c } }
  m.stick.enqueue false r

/-- PAIR_JOURNAL_RX (R345, R417, R463). -/
def execPairJournalRx (h : PairHdr) (r : JRec) (s : State) : Host.Outcome State Fault Refusal :=
  onModule s (fun m =>
    if m.pairServes then
      let m := m.heardPair h
      if h.role = .leader ∧ m.leads = false then (m.keepRecord r).applyJournal r
      else if m.leads then
        if h.role = .leader then m.keepRecord r else if r.code < 0x80 then m.partnerCond r else m.enqueue false r
      else m
    else m)

/-! ## The set of the leader (R350, R444, R447) -/

/-- The bytes of a set slot. -/
def SetSlot.bytes (x : SetSlot) : List Byte := assembled x.blocks x.size

/-- A set slot that holds a complete set. -/
def fullSlot (state : Nat) (l : LoadedSet) (b : List Byte) : SetSlot :=
  { state := state, format := l.cfg.format, size := b.length, blocks := [(0, b)], received := b.length, setId := l.cfg.setId
    content := some l.cfg }

/-- A set leaves in SET_CHUNK frames of at most 4,096 bytes (Table 14-4). -/
def Module.streamSet (m : Module) (slot : Nat) (x : SetSlot) : Module :=
  (pieces 4096 ((x.size + 4095) / 4096) x.bytes).zipIdx.foldl (fun m c => m.emit (.pairSet slot (4096 * c.2) c.1)) m

/-- The leader's ACTIVE set is checked and installed as the own one; one that the image cannot adopt is kept aside, and the
follower reports it. -/
def Module.takeActive (m : Module) (b : List Byte) : Module :=
  let l := loadSet m.upd.ownerKey b
  let r := m.checkLoaded l
  let m : Module := { m with sets := { m.sets with check := r }, pair := { m.pair with setWanted := false } }
  if r.result = stOk then
    let m := m.takeSet (fullSlot 6 l b) m.shiftActive
    (m.enablePorts).askLeader
  else if r.result = stSettingsIncompatible then
    let prev := m.shiftActive
    let m : Module := { m with sets := { m.sets with
      active := fullSlot 7 l b, previous := prev, incompatible := true } }
    m.raise .mgi cSettingsIncompatible
  else m

/-- What a follower has received of a set: a chunk at offset 0 begins it. -/
def takeChunk (held : List (Nat × List Byte)) (offset : Nat) (data : List Byte) : List (Nat × List Byte) :=
  if offset = 0 then [(0, data)] else addBlock held offset data

/-- SIZE of a set whose header has come (Table 18-4). -/
def setSize? (held : List (Nat × List Byte)) : Option Nat :=
  let head := assembled held 12
  if bytesHeld held < 12 then none else some (natAt head 8 4)

/-- The leader's PENDING set is whole: it is checked (R444). -/
def Module.takeStreamed (m : Module) (b : List Byte) : Module :=
  let l := loadSet m.upd.ownerKey b
  let r := m.checkLoaded l
  { m with sets := { m.sets with pending := fullSlot (if r.result = stOk then 4 else 5) l b, check := r } }

/-- SET_CHUNK_RX (R350, R444): slot 0 is the leader's ACTIVE set, slot 1 its PENDING set. A set whose SIZE bytes have come is
checked. -/
def execSetChunkRx (h : PairHdr) (slot offset : Nat) (data : List Byte) (s : State) : Host.Outcome State Fault Refusal :=
  onModule s (fun m =>
    if m.pairServes then
      let m := m.heardPair h
      if m.follows && (decide (slot ≠ 0) || m.pair.setWanted) then
        let held := takeChunk (if slot = 0 then m.pair.setBuf else m.sets.pending.blocks) offset data
        let whole := decide (setSize? held = some (bytesHeld held))
        let b := assembled held (bytesHeld held)
        if slot = 0 then
          let m : Module := { m with pair := { m.pair with setBuf := if whole then [] else held } }
          if whole then m.takeActive b else m
        else if whole then m.takeStreamed b
        else { m with sets := { m.sets with
          pending := { state := 1, size := (setSize? held).getD 0, blocks := held, received := bytesHeld held } } }
      else m
    else m)

/-- STREAM_CTRL_SET (R350, R444): the leader streams the set. -/
def execStreamCtrlSet (h : PairHdr) (slot : Nat) (s : State) : Host.Outcome State Fault Refusal :=
  onModule s (fun m =>
    if m.pairServes then
      let m := m.heardPair h
      if m.leads then m.streamSet slot (if slot = 0 then m.sets.active else m.sets.pending) else m
    else m)

/-! ## Planned handover (R351 to R353) -/

/-- A configuration set takes effect at a sweep. -/
def Module.activatesAt (m : Module) (k : Nat) : Bool :=
  (decide (m.sets.pending.state = 8) && decide (m.sets.pending.actSweep = k)) || decide (m.sets.revertAt = some k)

/-- HANDOVER_OFFER (R351, R353): ACCEPT or DECLINE. -/
def execHandoverOffer (h : PairHdr) (sweep : Nat) (s : State) : Host.Outcome State Fault Refusal :=
  onModule s (fun m =>
    if m.pairServes then
      let m := m.heardPair h
      if m.leads then m
      else if m.pair.role = .ready ∧ m.sup.lever = .locked ∧ 2 ≤ m.pair.equalRun ∧ m.pair.depart = none ∧
          m.activatesAt sweep = false then
        Module.emit { m with pair := { m.pair with accepted := some sweep } } (.pairHandover 1 sweep)
      else Module.emit { m with pair := { m.pair with accepted := none } } (.pairHandover 2 sweep)
    else m)

/-- HANDOVER_ACCEPT (R353): the handover is fixed. -/
def execHandoverAccept (h : PairHdr) (sweep : Nat) (s : State) : Host.Outcome State Fault Refusal :=
  onModule s (fun m =>
    if m.pairServes then
      let m := m.heardPair h
      if m.leads ∧ m.pair.offered = some sweep then
        { m with pair := { m.pair with offered := none, accepted := some sweep } }
      else m
    else m)

/-- HANDOVER_DECLINE (R353). -/
def execHandoverDecline (h : PairHdr) (sweep : Nat) (s : State) : Host.Outcome State Fault Refusal :=
  onModule s (fun m =>
    if m.pairServes then
      let m := m.heardPair h
      if m.leads ∧ m.pair.offered = some sweep then m.offerFailed sweep else m
    else m)

/-- A staged image is installed (R433, R438): UPDATE_EVENT, the phase in Caldera, and a restart of the whole module. -/
def Module.beginInstall (m : Module) : Module :=
  let m := m.jotUpdate sevInfo m.upd.version stOk
  Module.restart { m with upd := { m.upd with state := 6, phase := 1, prepared := false } }

/-- The old leader's side of H_h: its last domain record is the HANDOVER record (R418), leader work ends, and what the handover
was for follows (R53, R383, R439). -/
def Module.giveLead (m : Module) : Module :=
  let next := m.pair.then_
  let m := m.jot .pri eHandover sevInfo scPair 0xFFFFFFFF
  let m := if m.up .mgi then m.writeAll else m
  let m : Module := { m with pair := { m.pair with handovers := bump16 m.pair.handovers, then_ := 0 } }
  let gapped := m.pair.gapped
  let m := (m.dropLead .ready).rejectPending
  let m := if gapped then Module.loseSync { m with pair := { m.pair with gapped := false } } else m
  let m := if m.sup.lever = .locked then m else (m.setRole .syncing).beginPark
  if next = 1 then m.restart else if next = 2 then m.beginInstall else m

/-- The new leader's side of H_h. In slot B the wire has been released at this point. -/
def Module.gainLead (m : Module) : Module :=
  let m : Module := { m with pair := { m.pair with
    handovers := bump16 m.pair.handovers, tokenLow := m.pair.tokenLow && decide (m.sup.slot = .a) } }
  let m := m.takeLead.keepTraining.reissue.drive
  if m.scarabOn then m.scarabRun else m

/-- A handover of sweep `h` is due at the present handover point, that of the next sweep. -/
def Module.handoverDue (m : Module) (h : Nat) : Bool := !sweepAfter h ((m.sweep.j + 1) % 4294967296)

/-- H_h on the leader. -/
def Module.leaderPoint (m : Module) : Module :=
  match m.pair.accepted, m.pair.offered with
  | some h, _ =>
    if m.handoverDue h then
      if m.pair.partnerRole = some .ready ∧ m.pair.keep.leverLocked then m.giveLead
      else Module.offerFailed { m with pair := { m.pair with accepted := none } } h
    else m
  | none, some h => if m.handoverDue h then m.offerFailed h else m
  | none, none => if m.pair.takeover && decide (m.pair.takeAt + 1000000 ≤ m.time.now) then m.takeoverPoint else m

/-- H_h on a follower: an accepted handover completes where the wire names this module (R353). While the old leader is heard,
it changes the wire at this very point. -/
def Module.followerPoint (m : Module) : Module :=
  match m.pair.accepted with
  | some h =>
    if m.handoverDue h then
      if m.pair.role = .ready ∧ m.sup.lever = .locked ∧
          (m.sup.slot = .a ∨ m.wireMine ∨ (m.pair.depart = none ∧ m.pair.silent = false)) then m.gainLead
      else { m with pair := { m.pair with accepted := none } }
    else m
  | none => m

/-- HANDOVER_POINT (R352, R353, R355, R358): the handover point of the next sweep. -/
def execHandoverPoint (s : State) : Host.Outcome State Fault Refusal :=
  onBoot s (fun m =>
    if m.runs then
      let m := if m.isPair = false then m else if m.leads then m.leaderPoint else if m.follows then m.followerPoint else m
      if m.sup.parking ∧ m.leads = false ∧ m.sup.outputsOff = false then m.parkPoint else m
    else m)

/-! ## Failover, silence and departure (R354 to R356, R360) -/

/-- DEPART_RX (R354): a DEPART from the partner. -/
def execDepartRx (h : PairHdr) (cause : Nat) (s : State) : Host.Outcome State Fault Refusal :=
  onModule s (fun m =>
    if m.pairServes then
      let m := m.heardPair h
      { m with pair := { m.pair with depart := some cause } }
    else m)

/-- The lanes of a pair are watched for frames: in DORMANT only their activity detectors are (R168). -/
def Module.lanesWatched (m : Module) : Bool := m.pairServes && decide (m.dorm.phase ≠ .dormant)

/-- PAIR_LANE_DOWN (R344): the instance is the lane. -/
def execPairLaneDown (lane : Nat) (s : State) : Host.Outcome State Fault Refusal :=
  onModule s (fun m =>
    if m.lanesWatched then
      let m : Module := { m with pair := { m.pair with lanes := modAt m.pair.lanes lane (fun _ => false) } }
      m.raise .pri cPairLaneDown sevWarning scModule lane
    else m)

/-- PAIR_LINK_SILENT (R349, R354): the operand lists the rings on which the leader's GEYSERs keep arriving. A follower's time
loses the exchange it is LOCKED on (R83). -/
def execPairLinkSilent (geysersSeen : List Nat) (s : State) : Host.Outcome State Fault Refusal :=
  onModule s (fun m =>
    if m.lanesWatched then
      let m := m.abandonResync
      let m : Module := { m with pair := { m.pair with silent := true, serve := false, noGeyser := decide (geysersSeen = []) } }
      let m := if m.follows ∧ m.up .mgi then m.sourceGone else m
      if m.follows ∧ geysersSeen ≠ [] then (m.raise .pri cPairLinkLost).loseSync else m
    else m)

/-- SPLIT_RING_SILENCE (R354). -/
def execSplitRingSilence (s : State) : Host.Outcome State Fault Refusal :=
  onModule s (fun m =>
    if m.pairServes ∧ m.pair.silent then { m with pair := { m.pair with splitDone := true } } else m)

/-- FAILOVER_TAKEOVER (R354 to R356): D. -/
def execFailoverTakeover (s : State) : Host.Outcome State Fault Refusal :=
  onModule s (fun m => if m.isPair && m.mayTakeOver then m.failover else m)

/-! ## The lead token (R340, R341, Table 14-2) -/

/-- A leader that the wire no longer names without a handover follows from now on (R357). -/
def Module.deposed (m : Module) : Module := ((m.dropLead .syncing).enablePorts).askLeader

/-- LEAD_TOKEN_CHANGE (R340 to R342). A slot B leader that the wire leaves within an accepted handover completes it. A slot A
leader starts no further action while the wire that it drives low reads high; TOKEN_FAULT follows where that lasts (log 180). -/
def execLeadTokenChange (low : Bool) (s : State) : Host.Outcome State Fault Refusal :=
  onBoot s (fun m =>
    let m : Module := { m with pair := { m.pair with tokenLow := low } }
    if m.pairServes then
      if m.leads ∧ m.wireMine = false then
        if m.sup.slot = .b then (if m.pair.accepted.isSome then m.giveLead else m.deposed)
        else { m with pair := { m.pair with stopped := true } }
      else if m.leads ∧ m.pair.driving then { m with pair := { m.pair with stopped := false } }
      else m.roleCheck
    else m)

/-- TOKEN_HOLD_EXPIRE (R341): the PRI of a slot A leader releases the wire and sends DEPART. While its VSI resets the role
stays as Table 14-2 says, without leader work. -/
def execTokenHoldExpire (s : State) : Host.Outcome State Fault Refusal :=
  onModule s (fun m =>
    if m.pairServes ∧ m.sup.slot = .a ∧ m.leads ∧ m.pair.holdRun then
      let m : Module := { m with pair := { m.pair with driving := false, holdRun := false, tokenLow := false } }
      let m := m.emit (.pairDepart 3)
      if m.up .vsi then m.deposed else { m.prechargeLow with pair := { m.pair with stopped := true } }
    else m)

/-- TOKEN_FAULT (R341): leader work stops and the wire is released. -/
def execTokenFault (s : State) : Host.Outcome State Fault Refusal :=
  onModule s (fun m =>
    if m.pairServes ∧ m.sup.slot = .a ∧ m.leads ∧ m.pair.driving then (m.raise .pri cTokenFault).deposed else m)

/-- PAIR_BOOT_TIMEOUT (R342). -/
def execPairBootTimeout (s : State) : Host.Outcome State Fault Refusal :=
  onModule s (fun m =>
    if m.pairServes ∧ m.pair.role = .none_ ∧ m.pair.silent then
      Module.roleCheck { m with pair := { m.pair with bootWait := true } }
    else m)

/-- PARK_NOTICE_RX (R358): from the next handover point on no partition gives the partner's ends a hop. -/
def execParkNoticeRx (h : PairHdr) (s : State) : Host.Outcome State Fault Refusal :=
  onModule s (fun m =>
    if m.pairServes then
      let m := m.heardPair h
      { m with pair := { m.pair with partnerParking := true } }
    else m)

/-- PAIR_FRAME_CRC_ERROR (R343): the frame is discarded and counted. -/
def execPairFrameCrcError (lane : Nat) (s : State) : Host.Outcome State Fault Refusal :=
  onModule s (fun m =>
    if m.pairServes ∧ lane < 2 then
      let before := m.pair.laneCrc
      let m : Module := { m with pair := { m.pair with laneCrc := bump16 m.pair.laneCrc } }
      m.satCheck before m.pair.laneCrc 420
    else m)

end Sys2Proof.Machine
end

