-- ==== Sys2Proof/Machine/Sessions.lean ====
section
/-! DEFINITION. Sessions, identity and host keys (R363 to R372, R380, R381), and datagrams that fail R367 before their opcode
counts. -/

namespace Sys2Proof.Machine

/-! ## Opening and replacing a session (R370, R372) -/

/-- An unused, nonzero SESSION number, drawn from a free value: any number is free, and the next unused one is taken. -/
def Module.drawSession (m : Module) : Nat :=
  let v := Config.freeValue m.free
  (((List.range 32).map (fun i => (v + i) % 4294967295 + 1)).find? (fun n => (m.session? n).isNone)).getD 1

/-- SESSION, MOD_EPH and MOD_NONCE as the reply carries them (Table 15-8); the key and the nonce are free values. -/
def Module.openPayload (m : Module) (id : Nat) : List Byte :=
  le 4 id ++ le 32 (Config.freeValue (m.free + 1)) ++ le 16 (Config.freeValue (m.free + 2))

/-- A session for an enrolled key, with the payload of its reply. A replacement counts as confirmed (log 76). -/
def Module.openSession (m : Module) (req : DcpReq) (k : HostKey) (replaces : Option Nat) : Module × Nat × List Byte :=
  let id := m.drawSession
  let x : Session := { id := id, keyId := k.keyId, privilege := k.privilege, port := req.port, src := req.src
                       confirmed := replaces.isSome, replaces := replaces }
  ({ m with free := m.free + 3, dcp := { m.dcp with sessions := m.dcp.sessions ++ [x] } }, id, m.openPayload id)

/-- An enrolled key (R371). -/
def Module.key? (m : Module) (keyId : Nat) : Option HostKey := m.dcp.keys.find? (fun k => k.keyId = keyId)

/-- As many sessions as a module holds (R372); a session that is to replace another is not counted (log 76). -/
def Module.sessionsFull (m : Module) : Bool := decide (8 ≤ (m.dcp.sessions.filter (fun x => x.replaces = none)).length)

/-- SESSION.OPEN without a session. An unknown key discards it. -/
def Module.openUnauth (m : Module) (req : DcpReq) (hostKeyId : Nat) : Module :=
  if req.len ≠ 56 then m.emit (.dcp req.port req.src 0 req.seq 0x0001 stParamLength 5 [])
  else match m.key? hostKeyId with
    | none => m.countDcp 4
    | some k =>
      if m.sessionsFull then (m.countDcp 9).emit (.dcp req.port req.src 0 req.seq 0x0001 stSessionLimit 5 [])
      else
        let r := m.openSession req k none
        r.1.emit (.dcp req.port req.src r.2.1 req.seq 0x0001 stOk 1 r.2.2)

/-- SESSION.OPEN (R370, R372). -/
def execSessionOpen (req : DcpReq) (hostKeyId : Nat) (s : State) : Host.Outcome State Fault Refusal :=
  onModule s (fun m =>
    if req.unauth ∧ req.session = 0 then if m.dcpUp then m.admitted (fun m => m.openUnauth req hostKeyId) else m
    else m.dcpRequest req 0x0001 56 true (fun m _ =>
      match m.key? hostKeyId with
      | none => (m, some (stNotFound, 0, []))
      | some k =>
        if m.sessionsFull then (m.countDcp 9, some (stSessionLimit, 0, []))
        else
          let r := m.openSession req k none
          (r.1, some (stOk, 0, r.2.2))))

/-- SESSION.CONFIRM (R370). -/
def execSessionConfirm (req : DcpReq) (s : State) : Host.Outcome State Fault Refusal :=
  onModule s (fun m => m.dcpRequest req 0x0002 0 true (fun m x =>
    (m.modSession x.id (fun y => { y with confirmed := true }),
     some (stOk, 0, [x.privilege, 0] ++ le 2 m.cfg.network.sessionIdle))))

/-- SESSION.REKEY (R369, R370): an earlier replacement of the same session lapses. -/
def execSessionRekey (req : DcpReq) (hostKeyId : Nat) (s : State) : Host.Outcome State Fault Refusal :=
  onModule s (fun m => m.dcpRequest req 0x0003 56 true (fun m x =>
    match m.key? hostKeyId with
    | none => (m, some (stNotFound, 0, []))
    | some k =>
      let m : Module := { m with dcp := { m.dcp with
        sessions := m.dcp.sessions.filter (fun y => y.replaces ≠ some x.id) } }
      let r := m.openSession req k (some x.id)
      (r.1, some (stOk, 0, r.2.2))))

/-- SESSION.CLOSE (R372). -/
def execSessionClose (req : DcpReq) (s : State) : Host.Outcome State Fault Refusal :=
  onModule s (fun m => m.dcpRequest req 0x0004 0 true (fun m x => (m.closeSession x.id, some (stOk, 0, []))))

/-- SESSION.ECHO (Table 15-8): 0 to 1,408 bytes come back. -/
def execSessionEcho (req : DcpReq) (data : List Byte) (s : State) : Host.Outcome State Fault Refusal :=
  onModule s (fun m => m.dcpRequest req 0x0005 data.length (decide (data.length ≤ 1408)) (fun m _ => (m, some (stOk, 0, data))))

/-- SESSION_CONFIRM_EXPIRE (R370): without SESSION.CONFIRM within 5 s the session lapses. -/
def execSessionConfirmExpire (session : Nat) (s : State) : Host.Outcome State Fault Refusal :=
  onModule s (fun m =>
    match m.session? session with
    | some x => if x.confirmed then m else m.closeSession session
    | none => m)

/-- SESSION_IDLE_EXPIRE (R372): SESSION_IDLE without a valid request. -/
def execSessionIdleExpire (session : Nat) (s : State) : Host.Outcome State Fault Refusal :=
  onModule s (fun m => if (m.session? session).isSome then m.closeSession session else m)

/-! ## Identity (R380, R381) -/

/-- Bytes that the manufacturing record, the identity key pair and Wenkesel's signature give (log 50). -/
def idBytes (first n : Nat) : List Byte := (List.range n).map (fun i => Config.identityByte (first + i) % 256)

/-- The IDENTITY.READ record (Table 15-9). -/
def Module.recIdentity (m : Module) : List Byte :=
  idBytes 0 20 ++ le 8 m.sup.serial ++ le 4 m.upd.running.version ++ le 4 m.upd.retreat.version ++ idBytes 36 4 ++
    le 4 m.upd.caraVersion ++ [slotNo m.sup.slot] ++ zeros 3 ++ idBytes 48 96

/-- IDENTITY.READ (R370, R381). -/
def execIdentityRead (req : DcpReq) (s : State) : Host.Outcome State Fault Refusal :=
  onModule s (fun m => m.dcpRequest req 0x0010 0 true (fun m _ =>
    (m, some (stOk, 0, m.recIdentity))))

/-! ## Host keys (R371) -/

/-- HOSTKEY.LIST (Table 15-8). -/
def execHostkeyList (req : DcpReq) (s : State) : Host.Outcome State Fault Refusal :=
  onModule s (fun m => m.dcpRequest req 0x0011 0 true (fun m _ =>
    (m, some (stOk, 0, [m.dcp.keys.length, 0, 0, 0] ++
      (m.dcp.keys.map (fun k => le 32 k.key ++ [k.privilege] ++ zeros 7)).flatten))))

/-- A list of keys with one more, or with one replaced at its place. -/
def addKey (l : List HostKey) (k : HostKey) : List HostKey :=
  if l.any (fun x => x.keyId = k.keyId) then l.map (fun x => if x.keyId = k.keyId then k else x) else l ++ [k]

/-- The place of a key in the list. -/
def keyIndex (l : List HostKey) (keyId : Nat) : Nat := (l.takeWhile (fun x => x.keyId ≠ keyId)).length

/-- Some key carries ADMIN. -/
def hasAdmin (l : List HostKey) : Bool := l.any (fun k => k.privilege = 2)

/-- The first key: without a session, on SVC, while the list is empty; it must carry ADMIN. -/
def Module.firstKey (m : Module) (req : DcpReq) (k : HostKey) : Module :=
  let reply (m : Module) (st : Nat) (payload : List Byte) : Module :=
    m.emit (.dcp req.port req.src 0 req.seq 0x0012 st 5 payload)
  if m.stateAccepts 0x0012 = false then
    let r := m.cmdResult scDomain 0xFFFF 0xFF 0 0xFFFF
    reply (m.jotCommand eCommandReject sevInfo 0x0012 stStateReject 0 req.seq scDomain 0xFFFF r) stStateReject r
  else if req.len ≠ 36 then reply m stParamLength []
  else if k.privilege ≠ 2 then reply m stParamRange []
  else if m.calOk then reply { m with dcp := { m.dcp with keys := [k] } } stOk [0]
  else
    reply (m.jotCommand eCommandReject sevWarning 0x0012 stInternal 0 req.seq scDomain 0xFFFF
      (m.cmdResult scDomain 0xFFFF 0xFF 0 0xFFFF)) stInternal []

/-- HOSTKEY.ADD (R363, R371): a seventeenth key, and a change that leaves no ADMIN key, are PARAM_RANGE (log 77). -/
def execHostkeyAdd (req : DcpReq) (key keyId privilege : Nat) (s : State) : Host.Outcome State Fault Refusal :=
  onModule s (fun m =>
    let k : HostKey := { key := key, keyId := keyId, privilege := privilege }
    if req.unauth ∧ req.session = 0 ∧ req.port = .svc ∧ m.dcp.keys = [] then
      if m.dcpUp then m.admitted (fun m => m.firstKey req k) else m
    else m.dcpRequest req 0x0012 36 (decide (privilege ≤ 2)) (fun m x =>
      let l := addKey m.dcp.keys k
      if 16 < l.length ∨ hasAdmin l = false then (m, some (stParamRange, 0, []))
      else if m.calOk = false then m.internal x req.seq 0x0012 scDomain 0xFFFF
      else ({ m with dcp := { m.dcp with keys := l } }, some (stOk, 0, [keyIndex l keyId]))))

/-- HOSTKEY.REMOVE (R371): the sessions of the key close. -/
def execHostkeyRemove (req : DcpReq) (keyId : Nat) (s : State) : Host.Outcome State Fault Refusal :=
  onModule s (fun m => m.dcpRequest req 0x0013 8 true (fun m x =>
    let l := m.dcp.keys.filter (fun k => k.keyId ≠ keyId)
    if m.key? keyId = none then (m, some (stNotFound, 0, []))
    else if hasAdmin l = false then (m, some (stParamRange, 0, []))
    else if m.calOk = false then m.internal x req.seq 0x0013 scDomain 0xFFFF
    else
      let gone := m.dcp.sessions.filter (fun y => y.keyId = keyId)
      let m : Module := { m with dcp := { m.dcp with keys := l } }
      (gone.foldl (fun m (y : Session) => m.closeSession y.id) m, some (stOk, 0, []))))

/-! ## Datagrams that fail early (R364, R367 steps 1 to 8) -/

/-- DCP answers at all: in service, or in RECOVERY (R393). -/
def Module.dcpHears (m : Module) : Bool := m.dcpUp || (decide (m.sup.phase = .on) && m.sup.recovery)

/-- Step 2 failed: at most 10 replies per second. -/
def Module.lengthError (m : Module) (d : BadDatagram) : Module :=
  let m := m.countDcp 1
  let l := lastSecond m.ms m.dcp.lenReplies
  if l.length < 10 then
    Module.emit { m with dcp := { m.dcp with lenReplies := m.ms :: l } }
      (.dcp d.port d.src d.session d.seq d.opcode stLengthError 5 [])
  else { m with dcp := { m.dcp with lenReplies := l } }

/-- A datagram through steps 1 to 3 of R367: the first that fails decides. One that passes them goes on as a request with an
opcode that DCP does not define. -/
def Module.takeMalformed (m : Module) (d : BadDatagram) : Module :=
  if d.size < 36 ∨ d.magicOk = false then m.countDcp 0
  else if 1408 < d.lengthField ∨ d.size ≠ 36 + d.lengthField then m.lengthError d
  else if d.version ≠ 1 ∨ d.status ≠ 0 ∨ d.reservedOk = false ∨ d.replyOrStream then
    (m.countDcp 2).emit (.dcp d.port d.src d.session d.seq d.opcode stHeaderError 5 [1])
  else if d.opcode ∈ definedOps then m
  else
    let req : DcpReq := { port := d.port, session := d.session, seq := d.seq, macOk := d.macOk, unauth := d.unauth
                          len := d.lengthField, src := d.src }
    if m.dcpUp then m.dcpTaken req d.opcode 0 true (fun m _ => (m, none)) else m

/-- DCP_MALFORMED_DATAGRAM (R364, R367, R374). -/
def execDcpMalformedDatagram (d : BadDatagram) (s : State) : Host.Outcome State Fault Refusal :=
  onModule s (fun m =>
    if m.dcpHears = false ∨ d.fragmented then m else m.admitted (fun m => m.takeMalformed d))

end Sys2Proof.Machine
end

