-- ==== Sys2Proof/Machine/Commands.lean ====
section
/-! DEFINITION. Commands of groups 0x01, 0x04, 0x05, 0x08 and 0x09 (R383, R391, R392, R395, R396): the domain's state, strings
and bays, latches, switch and precharge channels, the journal and the alert map, the pair and the time of day. -/

namespace Sys2Proof.Machine

/-! ## Group 0x01 (R383) -/

/-- DOMAIN.STATUS (Table 15-11). -/
def execDomainStatus (req : DcpReq) (s : State) : Host.Outcome State Fault Refusal :=
  onModule s (fun m => m.dcpRequest req 0x0100 0 true (fun m _ => (m, some (stOk, 0, m.recStatus))))

/-- SERVICE is entered or left; the record of the change carries it to the follower (R375, log 49). -/
def Module.setService (m : Module) (on : Bool) : Module :=
  let old := m.domainState
  let m : Module := { m with dcp := { m.dcp with service := on } }
  m.jot .mgi eStateChange sevInfo scDomain 0xFFFFFFFF naCurrent ([old, m.domainState, 0xFF] ++ zeros 3 ++ le 2 0xFFFF)

/-- DOMAIN.SERVICE (R383): only with every bay DEAD or SERVICE. -/
def execDomainService (req : DcpReq) (s : State) : Host.Outcome State Fault Refusal :=
  onModule s (fun m => m.dcpRequest req 0x0101 0 true (fun m x =>
    if m.cfg.bays.all (fun b => decide ((m.bInst b).state = 0 ∨ (m.bInst b).state = 6)) then
      let m := m.setService true
      (m, some (stOk, 0, m.cmdResult scDomain 0xFFFF 0xFF 0 0xFFFF))
    else m.refuse x req.seq 0x0101 scDomain 0xFFFF 0xFF 0 0xFFFF))

/-- DOMAIN.RESUME (R383). -/
def execDomainResume (req : DcpReq) (s : State) : Host.Outcome State Fault Refusal :=
  onModule s (fun m => m.dcpRequest req 0x0102 0 true (fun m _ =>
    let m := m.setService false
    (m, some (stOk, 0, m.cmdResult scDomain 0xFFFF 0xFF 0 0xFFFF))))

/-- DOMAIN.RESTART (R383): the delay begins. -/
def execDomainRestart (req : DcpReq) (delayMs : Nat) (s : State) : Host.Outcome State Fault Refusal :=
  onModule s (fun m => m.dcpRequest req 0x0104 4 (decide (delayMs ≤ 10000)) (fun m _ =>
    ({ m with dcp := { m.dcp with restart := true } }, some (stOk, 0, []))))

/-- RESTART_DELAY_EXPIRE (R383): a leader hands over first when its partner can take over (log 78). -/
def execRestartDelayExpire (s : State) : Host.Outcome State Fault Refusal :=
  onBoot s (fun m =>
    if m.runs ∧ m.dcp.restart then
      if m.isPair && m.leads && m.partnerReady then
        Module.startHandover { m with dcp := { m.dcp with restart := false }, pair := { m.pair with then_ := 1 } }
      else m.restart
    else m)

/-! ## Event commands of group 0x04 (R391) -/

/-- An event command waits for the next verdict stage, which answers it. -/
def Module.queueEvent (m : Module) (req : DcpReq) (op ident : Nat) : Module :=
  m.dcpRequest req op 4 true (fun m x =>
    ({ m with dcp := { m.dcp with pend := m.dcp.pend ++
        [{ session := x.id, seq := req.seq, opcode := op, ident := ident, epoch := (m.isl.getD 0 {}).epoch }] } }, none))

/-- STRING.CLOSE. -/
def execStringClose (req : DcpReq) (string : Nat) (s : State) : Host.Outcome State Fault Refusal :=
  onModule s (fun m => m.queueEvent req 0x0400 string)

/-- STRING.OPEN; 0xFFFF is every present string. -/
def execStringOpen (req : DcpReq) (string : Nat) (s : State) : Host.Outcome State Fault Refusal :=
  onModule s (fun m => m.queueEvent req 0x0401 string)

/-- STRING.SERVICE. -/
def execStringService (req : DcpReq) (string : Nat) (s : State) : Host.Outcome State Fault Refusal :=
  onModule s (fun m => m.queueEvent req 0x0402 string)

/-- STRING.RELEASE. -/
def execStringRelease (req : DcpReq) (string : Nat) (s : State) : Host.Outcome State Fault Refusal :=
  onModule s (fun m => m.queueEvent req 0x0403 string)

/-- STRING.UNLOCK. -/
def execStringUnlock (req : DcpReq) (string : Nat) (s : State) : Host.Outcome State Fault Refusal :=
  onModule s (fun m => m.queueEvent req 0x0404 string)

/-- BAY.ENERGISE. -/
def execBayEnergise (req : DcpReq) (bay : Nat) (s : State) : Host.Outcome State Fault Refusal :=
  onModule s (fun m => m.queueEvent req 0x0410 bay)

/-- BAY.DRAIN. -/
def execBayDrain (req : DcpReq) (bay : Nat) (s : State) : Host.Outcome State Fault Refusal :=
  onModule s (fun m => m.queueEvent req 0x0411 bay)

/-- BAY.SERVICE. -/
def execBayService (req : DcpReq) (bay : Nat) (s : State) : Host.Outcome State Fault Refusal :=
  onModule s (fun m => m.queueEvent req 0x0412 bay)

/-- BAY.RELEASE. -/
def execBayRelease (req : DcpReq) (bay : Nat) (s : State) : Host.Outcome State Fault Refusal :=
  onModule s (fun m => m.queueEvent req 0x0413 bay)

/-! ## Direct commands of group 0x04 (R239, R286, R307, R308) -/

/-- The record of an accepted direct command, which carries it to the follower (log 75). -/
def Module.jotDirect (m : Module) (x : Session) (seq op st scope inst : Nat) (value : Int) (row : Nat) (result : List Byte) :
    Module :=
  m.jot .mgi eCommand sevInfo scope inst value (le 2 op ++ le 2 st ++ le 4 x.id ++ le 4 seq ++ padTo 8 result) row

/-- Latches that an acknowledgement reaches. -/
def Module.ackCount (m : Module) (row scope inst : Nat) : Nat :=
  ((m.ver.recs ++ m.ver.fast).filter (ackRec m.cfg.rules row scope inst)).length +
  (m.ver.outTrips.filter (fun (o : VKey × Rule × Curve × Curve × VRec) =>
    ackRec [(o.1.row, o.2.1)] row scope inst (o.1, o.2.2.2.2))).length

/-- LATCH.ACK (R239): OK with the count of latches newly acknowledged. -/
def execLatchAck (req : DcpReq) (row scope inst : Nat) (s : State) : Host.Outcome State Fault Refusal :=
  onModule s (fun m => m.dcpRequest req 0x0420 8 (decide (scope ≤ 4)) (fun m x =>
    let n := m.ackCount row scope inst
    let m := m.ackRows row scope inst
    (m.jotDirect x req.seq 0x0420 stOk scDomain inst scope row (m.cmdResult scDomain 0xFFFF 0xFF 0 row),
     some (stOk, 0, le 2 (sat16 n)))))

/-- A direct command that acts on a channel is done: ACCEPTED with the state after it, and its record. -/
def Module.directDone (m : Module) (x : Session) (seq op scope id inst : Nat) : Module × Option Answer :=
  let r := m.cmdResult scope id inst 0 0xFFFF
  (m.jotCommand eCommand sevInfo op stAccepted x.id seq scope id r, some (stAccepted, 0, r))

/-- What refuses SWITCH.SET: an UNUSED channel, a sequenced one whose bay is not in SERVICE, and ON for a latched one (R307,
R308). -/
def Module.switchRefuses (m : Module) (n : Nat) (on : Bool) : Bool :=
  decide ((m.swCfg n).load = .unused) || (on && decide ((m.swc n).state = 5)) ||
    (match m.seqBay n with
     | some b => decide ((m.bInst b).state ≠ 6)
     | none => false)

/-- SWITCH.SET (R307): the VSI owns the image and sends it to the SWI at once (R309). -/
def execSwitchSet (req : DcpReq) (chan state : Nat) (s : State) : Host.Outcome State Fault Refusal :=
  onModule s (fun m => m.dcpRequest req 0x0430 4 (decide (chan < 24 ∧ state ≤ 1)) (fun m x =>
    let on := decide (state = 1)
    if m.switchRefuses chan on then m.refuse x req.seq 0x0430 scSwitch chan (m.swc chan).state 0 0xFFFF
    else if m.swiServes && m.up .vsi then
      let m := (m.setImage chan on).applySw chan on
      m.directDone x req.seq 0x0430 scSwitch chan (m.swc chan).state
    else m.internal x req.seq 0x0430 scSwitch chan))

/-- SWITCH.RESET (R308): the latch of a channel, or of every channel (0xFF), clears. -/
def execSwitchReset (req : DcpReq) (chan : Nat) (s : State) : Host.Outcome State Fault Refusal :=
  onModule s (fun m => m.dcpRequest req 0x0431 4 (decide (chan < 24 ∨ chan = 255)) (fun m x =>
    let id := if chan = 255 then 0xFFFF else chan
    if chan < 24 ∧ (m.swCfg chan).load = .unused then m.refuse x req.seq 0x0431 scSwitch id (m.swc chan).state 0 0xFFFF
    else if m.swiServes then
      let m := if chan = 255 then m.eachSw Module.resetLatch else m.resetLatch chan
      m.directDone x req.seq 0x0431 scSwitch id (if chan = 255 then 0xFF else (m.swc chan).state)
    else m.internal x req.seq 0x0431 scSwitch id))

/-- PRECHARGE.RESET (R286): SHORT_COUNT clears and LOCKOUT is left for OFF; no retry delay ends. The run record carries it to
the follower. -/
def execPrechargeReset (req : DcpReq) (chan : Nat) (s : State) : Host.Outcome State Fault Refusal :=
  onModule s (fun m => m.dcpRequest req 0x0440 4 (decide (chan < 4)) (fun m x =>
    if m.up .pwi then
      let ch := m.pch chan
      let locked := decide (ch.state = 6)
      let m := m.putPch chan { ch with shortCount := 0, state := if locked then 0 else ch.state }
      let m := if m.isPair && !locked then m.emit (.pairRun chan (m.preRecord chan)) else m
      m.directDone x req.seq 0x0440 scPrecharge chan (m.pch chan).state
    else m.internal x req.seq 0x0440 scPrecharge chan))

/-! ## Group 0x05 (R392, R421, R422, R424, R425) -/

/-- Stored records of a series in the order of their numbers. -/
def Module.series (m : Module) (dom : Bool) : List JRec :=
  sortBy (fun (r : JRec) => (r.seq : Int)) ((m.jou.stored.map (·.2)).filter (fun r => decide (domSeq r.seq = dom)))

/-- JOURNAL.STATUS (Table 15-20). -/
def execJournalStatus (req : DcpReq) (s : State) : Host.Outcome State Fault Refusal :=
  onModule s (fun m => m.dcpRequest req 0x0500 0 true (fun m _ =>
    let seqs := (m.series true).map (·.seq)
    let unacked := (m.jou.stored.filter (fun e => isTrip e && !m.jou.acked e)).length
    (m, some (stOk, 0, le 8 ((greatestN seqs).getD 0) ++ le 8 ((leastN seqs).getD m.jou.domNext) ++ le 4 unacked ++
      le 4 m.jou.tripOver ++ le 4 m.jou.heldLost ++ zeros 4))))

/-- Records returned: those of the wanted severities, at most `count` of them, while they fit into `room` bytes. The second part
is the number at which the scan stopped, the third whether it stopped for want of room. -/
def journalScan (mask : Nat) : Nat → Nat → List JRec → List JRec × Option Nat × Bool
  | _, _, [] => ([], none, false)
  | count, room, r :: t =>
    if bitAt mask r.severity then
      match count with
      | 0 => ([], some r.seq, false)
      | n + 1 =>
        if room < 64 + r.payload.length then ([], some r.seq, true)
        else
          let x := journalScan mask n (room - (64 + r.payload.length)) t
          (r :: x.1, x.2)
    else journalScan mask count room t

/-- The JOURNAL.READ reply (R392, R422). -/
def Module.journalReply (m : Module) (fromSeq count mask : Nat) : Answer :=
  let dom := domSeq fromSeq
  let all := m.series dom
  let seqs := all.map (·.seq)
  let oldest := (leastN seqs).getD (if dom then m.jou.domNext else m.jou.locNext)
  let x := journalScan mask count 1384 (all.filter (fun r => fromSeq ≤ r.seq))
  let next := x.2.1.getD (max fromSeq ((greatestN seqs).elim 0 (· + 1)))
  let there := (seqs.filter (fun k => fromSeq ≤ k ∧ k < next)).length
  let gap := decide (fromSeq < oldest) || decide (there < next - fromSeq)
  (stOk, if x.2.2 then 8 else 0,
    le 8 oldest ++ le 8 next ++ le 2 x.1.length ++ [bitsOf [gap, x.2.2]] ++ zeros 5 ++ (x.1.map recBytes).flatten)

/-- JOURNAL.READ (R392, R422). -/
def execJournalRead (req : DcpReq) (fromSeq count sevMask : Nat) (s : State) : Host.Outcome State Fault Refusal :=
  onModule s (fun m => m.dcpRequest req 0x0501 12 (decide (1 ≤ count ∧ count ≤ 1024)) (fun m _ =>
    (m, some (m.journalReply fromSeq count sevMask))))

/-- TRIP records of the domain series from behind the mark up to a number (R421). -/
def Module.newlyAcked (m : Module) (upTo : Nat) : Nat :=
  ((m.series true).filter (fun r => decide (r.severity = sevTrip) && decide (r.seq ≤ upTo) &&
    (match m.jou.ackMark with | some k => decide (k < r.seq) | none => true))).length

/-- JOURNAL.ACK_ARCHIVED (R421): up to the newest domain record at most. -/
def execJournalAckArchived (req : DcpReq) (upTo : Nat) (s : State) : Host.Outcome State Fault Refusal :=
  onModule s (fun m => m.dcpRequest req 0x0502 8 (domSeq upTo) (fun m x =>
    if m.calOk = false then m.internal x req.seq 0x0502 scDomain 0xFFFF
    else
      match greatestN ((m.series true).map (·.seq)) with
      | none => (m, some (stOk, 0, le 4 0))
      | some newest =>
        let k := min upTo newest
        let n := m.newlyAcked k
        let m : Module := { m with jou := { m.jou with ackMark := some (max (m.jou.ackMark.getD 0) k) } }
        (m.jot .mgi eJournalAck sevInfo scDomain 0xFFFFFFFF naCurrent (le 8 k ++ le 4 n), some (stOk, 0, le 4 n))))

/-- ALERT.READ (Table 15-20). -/
def execAlertRead (req : DcpReq) (s : State) : Host.Outcome State Fault Refusal :=
  onModule s (fun m => m.dcpRequest req 0x0510 0 true (fun m _ =>
    (m, some (stOk, 0, bitmapBytes m.live ++ bitmapBytes m.al.sticky ++ bitmapBytes m.al.mask))))

/-- ALERT.CLEAR (R424): it takes effect at step 6 of the next verdict stage, in both modules of a pair. -/
def execAlertClear (req : DcpReq) (bits : Bitmap) (s : State) : Host.Outcome State Fault Refusal :=
  onModule s (fun m => m.dcpRequest req 0x0511 32 (bits.all (fun i => i < 256)) (fun m _ =>
    let m : Module := { m with al := { m.al with clearReq := addAll m.al.clearReq bits } }
    (m.jot .mgi eAlertClear sevInfo scDomain 0xFFFFFFFF naCurrent (bitmapBytes bits), some (stOk, 0, []))))

/-- ALERT.MASK (R425): it replaces every mask bit. -/
def execAlertMask (req : DcpReq) (bits : Bitmap) (s : State) : Host.Outcome State Fault Refusal :=
  onModule s (fun m => m.dcpRequest req 0x0512 32 (bits.all (fun i => i < 256)) (fun m _ =>
    let m : Module := { m with al := { m.al with mask := addAll [] bits } }
    (m.jot .mgi eAlertMask sevInfo scDomain 0xFFFFFFFF naCurrent (bitmapBytes bits), some (stOk, 0, []))))

/-! ## Group 0x08 (R395) -/

/-- PAIR.STATUS (Table 14-11). -/
def execPairStatus (req : DcpReq) (s : State) : Host.Outcome State Fault Refusal :=
  onModule s (fun m => m.dcpRequest req 0x0800 0 true (fun m _ => (m, some (stOk, 0, m.recPair))))

/-- PAIR.HANDOVER (R351, R395): the outcome is read in PAIR.STATUS. -/
def execPairHandover (req : DcpReq) (s : State) : Host.Outcome State Fault Refusal :=
  onModule s (fun m => m.dcpRequest req 0x0801 0 true (fun m x =>
    if m.linked && decide (m.pair.partnerRole = some .ready) then (m.startHandover, some (stAccepted, 0, []))
    else m.refuse x req.seq 0x0801 scPair 0xFFFF 0xFF 5 0xFFFF))

/-- PAIR.PARK (R359, R395): the lever must be out of LOCKED. A leader hands over first where its partner can take over. -/
def execPairPark (req : DcpReq) (s : State) : Host.Outcome State Fault Refusal :=
  onModule s (fun m => m.dcpRequest req 0x0802 0 true (fun m x =>
    if m.sup.lever = .locked then m.refuse x req.seq 0x0802 scPair 0xFFFF 0xFF 5 0xFFFF
    else if m.sup.parking ∨ m.sup.parked then (m, some (stAccepted, 0, []))
    else if m.isPair && m.leads && m.partnerReady then (m.startHandover, some (stAccepted, 0, []))
    else (m.beginPark, some (stAccepted, 0, []))))

/-- PAIR.RESYNC (R349, R395): a follower asks for the leader's state anew. -/
def execPairResync (req : DcpReq) (s : State) : Host.Outcome State Fault Refusal :=
  onModule s (fun m => m.dcpRequest req 0x0803 0 true (fun m x =>
    if m.follows then
      let m : Module := { m with pair := { m.pair with resync := { m.pair.resync with failed := false } } }
      (m.loseSync, some (stAccepted, 0, []))
    else m.refuse x req.seq 0x0803 scPair 0xFFFF 0xFF 0 0xFFFF))

/-! ## Group 0x09 (R396) -/

/-- SOURCE of TIME.STATUS. -/
def sourceCode : TimeSource → Nat
  | .ptp => 0 | .ppsHost => 1 | .ptpThenPps => 2

/-- ACTIVE of TIME.STATUS: none, ETH1, ETH2, the pair link or PPS_IN. -/
def Module.timeActive (m : Module) : Nat :=
  if m.follows then (if m.linked then 3 else 0)
  else match m.time.ptpPort with
    | some p => p + 1
    | none => if m.ppsSource && m.time.ppsSeen then 4 else 0

/-- Seconds in HOLDOVER (log 79). -/
def Module.holdoverS (m : Module) : Nat :=
  if m.time.state = .holdover then (m.time.now - m.time.heldAt) / 1000000000 else 0

/-- TIME.STATUS (Table 15-24). -/
def execTimeStatus (req : DcpReq) (s : State) : Host.Outcome State Fault Refusal :=
  onModule s (fun m => m.dcpRequest req 0x0900 0 true (fun m _ =>
    (m, some (stOk, 0, [timeCode m.time.state, sourceCode m.cfg.sweep.timeSource, m.timeActive, 0] ++ le 8 m.plant ++
      leI 4 (i32 (if m.follows then m.pair.partnerTime else m.time.servo)) ++ le 8 m.time.grandmaster ++
      le 4 m.holdoverS ++ zeros 4))))

/-- TIME.SET (R396): the value applies at the first PPS_IN edge at least 10 ms later. The reply carries TIME_STATE (R83). -/
def execTimeSet (req : DcpReq) (taiSeconds : Nat) (s : State) : Host.Outcome State Fault Refusal :=
  onModule s (fun m => m.dcpRequest req 0x0901 8 true (fun m x =>
    if m.cfg.sweep.timeSource = .ptp then m.refuse x req.seq 0x0901 scTime 0xFFFF 0xFF 0 0xFFFF
    else ({ m with time := { m.time with tod := some (taiSeconds, m.time.now) } },
          some (stOk, 0, [timeCode m.time.state]))))

end Sys2Proof.Machine
end

