-- ==== Sys2Proof/Machine/Diag.lean ====
section
/-! DEFINITION. Diagnostics (group 0x07, R394, R427): counters read and cleared, ring commands for the host, roll calls and the
reset of one island. -/

namespace Sys2Proof.Machine

/-! ## Counters (R121, R427) -/

/-- DIAG.PORT_COUNTERS: the counters of the ports named are returned and cleared. -/
def execDiagPortCounters (req : DcpReq) (firstPort count : Nat) (s : State) : Host.Outcome State Fault Refusal :=
  onModule s (fun m => m.dcpRequest req 0x0700 4 (decide (1 ≤ count ∧ firstPort + count ≤ 32)) (fun m _ =>
    let ps := (List.range count).map (· + firstPort)
    let payload := (ps.map (fun p => ((m.port p).counters.map (le 2)).flatten)).flatten
    let m := ps.foldl (fun m p => m.modPort p (fun q => { q with counters := List.replicate 12 0 })) m
    (m.satClear, some (stOk, 0, payload))))

/-- DIAG.MODULE_COUNTERS: returned and cleared. -/
def execDiagModuleCounters (req : DcpReq) (s : State) : Host.Outcome State Fault Refusal :=
  onModule s (fun m => m.dcpRequest req 0x0708 0 true (fun m _ =>
    let payload := (m.dcpCounters.map (le 2)).flatten
    ((m.setDcpCounters (fun _ => 0)).satClear, some (stOk, 0, payload))))

/-! ## Ring commands for the host (R116, R120, R121, R149) -/

/-- A request that sends ring commands: INTERNAL where the module can send none. -/
def Module.ringDiag (m : Module) (x : Session) (seq op : Nat) (run : Module → Module × Option Answer) : Module × Option Answer :=
  if m.acts && m.up .rgi then
    let r := run m
    (r.1.flushDiag, r.2)
  else m.internal x seq op scDomain 0xFFFF

/-- A worker of the map. -/
def Module.mapped (m : Module) (w : Wk) : Bool := (find m.cfg.workers w).isSome

/-- DIAG.WORKER_COUNTERS: COUNTERS_SNAP, then COUNTERS_READ. -/
def execDiagWorkerCounters (req : DcpReq) (ring hop : Nat) (s : State) : Host.Outcome State Fault Refusal :=
  onModule s (fun m => m.dcpRequest req 0x0701 4 (decide (ring < 32 ∧ 1 ≤ hop ∧ hop ≤ 256)) (fun m x =>
    if m.mapped (ring, hop) then
      m.ringDiag x req.seq 0x0701 (fun m =>
        ((m.waitRing x req.seq 0x0701 1 (ring * 512 + hop)).order (ring, hop) 0x17 [] (.diag x.id req.seq 0x0701), none))
    else (m, some (stNotFound, 0, []))))

/-- DIAG.RING_REJOIN (R116): answered when the rejoin has ended, with COMMAND_RESULT. A segment that is not broken, or whose ring
is rejoining, is STATE_REJECT (log 80). -/
def execDiagRingRejoin (req : DcpReq) (ring segment : Nat) (s : State) : Host.Outcome State Fault Refusal :=
  onModule s (fun m => m.dcpRequest req 0x0702 4 (decide (ring < 32 ∧ segment ≤ 256)) (fun m x =>
    if m.ringServed ring = false then (m, some (stNotFound, 0, []))
    else if m.cfg.ringW ring < segment then (m, some (stParamRange, 0, []))
    else if m.mayRejoin ring segment && m.partnerEndOk ring segment then
      m.ringDiag x req.seq 0x0702 (fun m =>
        ((m.waitRing x req.seq 0x0702 1 (ring * 512 + segment)).beginRejoin ring segment (some (x.id, req.seq)), none))
    else m.refuse x req.seq 0x0702 scDomain ring 0xFF 0 0xFFFF))

/-- DIAG.LATCH_CLEAR (R120): one worker, or every worker of the ring; the OR of the LATCH_MASKs. -/
def execDiagLatchClear (req : DcpReq) (ring hop : Nat) (s : State) : Host.Outcome State Fault Refusal :=
  onModule s (fun m => m.dcpRequest req 0x0703 4 (decide (ring < 32 ∧ hop ≤ 256)) (fun m x =>
    let ws := ((m.cfg.workersOf ring).map (·.1)).filter (fun (w : Wk) => decide (hop = 0 ∨ w.2 = hop))
    if ws = [] then (m, some (stNotFound, 0, []))
    else
      m.ringDiag x req.seq 0x0703 (fun m =>
        (ws.foldl (fun m w => m.order w 0x16 [] (.diag x.id req.seq 0x0703))
          (m.waitRing x req.seq 0x0703 ws.length (ring * 512 + hop)), none))))

/-- DIAG.OW_FORCE (R149): the pull is placed on the next sweep whose GEYSER has not left. -/
def execDiagOwForce (req : DcpReq) (ring pin hop : Nat) (s : State) : Host.Outcome State Fault Refusal :=
  onModule s (fun m => m.dcpRequest req 0x0704 4 (decide (ring < 32 ∧ pin ≤ 24 ∧ 1 ≤ hop ∧ hop ≤ 256)) (fun m x =>
    if m.mapped (ring, hop) && decide ((look {} m.cfg.workers (ring, hop) : WorkerEntry).typ = .dzc24) then
      m.ringDiag x req.seq 0x0704 (fun m =>
        ((m.waitRing x req.seq 0x0704 1 (ring * 512 + hop)).forcePull (ring, hop) pin (fun _ => .diag x.id req.seq 0x0704), none))
    else (m, some (stNotFound, 0, []))))

/-- DIAG.ROLL_CALL: roll call of both ends, without retraining. -/
def execDiagRollCall (req : DcpReq) (ring : Nat) (s : State) : Host.Outcome State Fault Refusal :=
  onModule s (fun m => m.dcpRequest req 0x0705 4 (decide (ring < 32)) (fun m x =>
    if m.ringServed ring then m.ringDiag x req.seq 0x0705 (fun m => (m.rollCall ring, some (stAccepted, 0, [])))
    else (m, some (stNotFound, 0, []))))

/-! ## Roll calls read (R102, R107) -/

/-- A ROLL_CALL slot (Table 04-13). -/
def rollBytes (s : SlotRx) : List Byte :=
  let b : RollBody := match s.body with | .roll b => b | _ => {}
  let head := [24, slotState s, s.cmdCount, b.typ % 16 + 16 * (b.format % 16)] ++ le 8 b.serial ++ le 4 b.fw ++ le 2 b.bootCount ++
    le 2 b.turnDelay ++ [b.links, 0]
  head ++ le 2 (crc16 head)

/-- Index of a roll call slot: ring × 512 + end × 256 + hop − 1, the hop counted from that end. -/
def Module.rollIndex (m : Module) (r : Nat) (k : Bool × Nat) : Nat := r * 512 + (if k.1 then 256 else 0) + m.hopFrom (r, k.2) k.1 - 1

/-- Every roll call slot by its index. -/
def Module.rollTable (m : Module) : List (Nat × SlotRx) :=
  m.cfg.rings.flatMap (fun r => (m.ring r).rollSlots.map (fun (p : (Bool × Nat) × SlotRx) => (m.rollIndex r p.1, p.2)))

/-- DIAG.ROLL_CALL_READ. -/
def execDiagRollCallRead (req : DcpReq) (first count : Nat) (s : State) : Host.Outcome State Fault Refusal :=
  onModule s (fun m => m.dcpRequest req 0x0706 8 true (fun m _ =>
    let t := m.rollTable
    (m, some (readReply m.sweep.j first count 24 16384 (sortBy (fun (i : Nat) => (i : Int)) (t.map (·.1)))
      (fun i => rollBytes (look {} t i))))))

/-! ## Island resets (R72) -/

/-- The islands that DIAG.ISLAND_RESET names, 1 to 7 (Table 15-22). -/
def diagIsland (n : Nat) : Island := [Island.rgi, .esi, .vsi, .pwi, .swi, .fbi, .pri].getD (n - 1) .pri

/-- DIAG.ISLAND_RESET: the reply leaves before the reset. -/
def execDiagIslandReset (req : DcpReq) (island : Nat) (s : State) : Host.Outcome State Fault Refusal :=
  onModule s (fun m => m.dcpRequest req 0x0707 1 (decide (1 ≤ island ∧ island ≤ 7)) (fun m x =>
    let m := m.answer x req.seq 0x0707 stOk 0 []
    let i := diagIsland island
    (if m.up i then m.resetIsland i 3 else m, none)))

end Sys2Proof.Machine
end

