-- ==== Sys2Proof/Machine/ConfigSets.lean ====
section
/-! DEFINITION. Configuration sets (group 0x03, R389, R441 to R444): loading, checking, activating, reverting and reading the
three slots. -/

namespace Sys2Proof.Machine


/-! ## Answers -/

/-- The PENDING slot rewritten. -/
def Module.modPending (m : Module) (f : SetSlot → SetSlot) : Module := { m with sets := { m.sets with pending := f m.sets.pending } }

/-- A slot in the wrong state refuses (R377): SCOPE 5, the slot and its state. -/
def Module.slotRefuses (m : Module) (x : Session) (seq op slot : Nat) (s : SetSlot) : Module × Option Answer :=
  m.refuse x seq op scConfig slot s.state 0 0xFFFF

/-- Another session holds PENDING for loading (R389). -/
def Module.heldByOther (m : Module) (x : Session) : Bool := decide (m.sets.holder.isSome ∧ m.sets.holder ≠ some x.id)

/-- A slot descriptor (R389). OWNER_SIGNED is 0 while no owner key is held (R442). -/
def Module.descriptor (m : Module) (slot : Nat) (s : SetSlot) : List Byte :=
  let signed := m.upd.ownerKey.isSome && (match s.content with | some c => c.ownerSigned | none => false)
  [slot, s.state] ++ le 2 s.format ++ le 4 s.size ++ le 4 s.received ++ [if signed then 1 else 0, 0, 0, 0] ++ le 8 s.setId ++
    le 4 s.actSweep ++ zeros 4

/-! ## Loading -/

/-- CONFIG.STATUS (R389). -/
def execConfigStatus (req : DcpReq) (s : State) : Host.Outcome State Fault Refusal :=
  onModule s (fun m => m.dcpRequest req 0x0300 0 true (fun m _ =>
    (m, some (stOk, 0, m.descriptor 0 m.sets.active ++ m.descriptor 1 m.sets.pending ++ m.descriptor 2 m.sets.previous ++
      checkBytes m.sets.check))))

/-- CONFIG.BEGIN (R389, Table 18-6): the holder's own restarts the load. -/
def execConfigBegin (req : DcpReq) (size format setId : Nat) (s : State) : Host.Outcome State Fault Refusal :=
  onModule s (fun m => m.dcpRequest req 0x0301 16 (decide (1 ≤ size ∧ size ≤ 0x00800000)) (fun m x =>
    if m.heldByOther x then (m, some (stBusy, 0, []))
    else
      let slot : SetSlot := { state := 1, format := format, size := size, setId := setId }
      ({ m with sets := { m.sets with pending := slot, holder := some x.id } }, some (stOk, 0, []))))

/-- CONFIG.BLOCK (R389): blocks arrive in any order and may repeat. -/
def execConfigBlock (req : DcpReq) (offset : Nat) (crcOk : Bool) (data : List Byte) (s : State) :
    Host.Outcome State Fault Refusal :=
  onModule s (fun m => m.dcpRequest req 0x0302 (12 + data.length) (decide (1 ≤ data.length ∧ data.length ≤ 1024)) (fun m x =>
    let p := m.sets.pending
    if m.heldByOther x then (m, some (stBusy, 0, []))
    else if m.sets.holder = none ∨ (p.state ≠ 1 ∧ p.state ≠ 2) then m.slotRefuses x req.seq 0x0302 1 p
    else if p.size < offset + data.length then (m, some (stParamRange, 0, []))
    else if crcOk = false then (m, some (stCrcError, 0, []))
    else
      let blocks := addBlock p.blocks offset data
      let got := bytesHeld blocks
      (m.modPending (fun p => { p with blocks := blocks, received := got, state := if got = p.size then 2 else 1 }),
       some (stOk, 0, []))))

/-- CONFIG.ABORT (R389, Table 18-6); its record empties the follower's copy (log 75). -/
def execConfigAbort (req : DcpReq) (s : State) : Host.Outcome State Fault Refusal :=
  onModule s (fun m => m.dcpRequest req 0x0306 0 true (fun m x =>
    if m.heldByOther x then (m, some (stBusy, 0, []))
    else
      let m : Module := { m with sets := { m.sets with pending := {}, holder := none } }
      (m.jotDirect x req.seq 0x0306 stOk scConfig 1 naCurrent 0xFFFF (m.cmdResult scConfig 1 0 0 0xFFFF), some (stOk, 0, []))))

/-- Bytes of a slot as CONFIG.READ returns them: a byte of a set still loading that no block has brought is a free value (log 81). -/
def Module.slotBytes (m : Module) (s : SetSlot) (offset length : Nat) : List Byte :=
  (List.range length).map (fun i => (heldByte s.blocks (offset + i)).getD (Config.freeValue (m.free + i) % 256))

/-- CONFIG.READ (R389). -/
def execConfigRead (req : DcpReq) (slot offset length : Nat) (s : State) : Host.Outcome State Fault Refusal :=
  onModule s (fun m => m.dcpRequest req 0x0307 12 (decide (slot ≤ 2 ∧ 1 ≤ length ∧ length ≤ 1024)) (fun m _ =>
    let x := if slot = 0 then m.sets.active else if slot = 1 then m.sets.pending else m.sets.previous
    if x.state = 0 then (m, some (stNotFound, 0, []))
    else if x.size < offset + length then (m, some (stParamRange, 0, []))
    else
      let data := m.slotBytes x offset length
      ({ m with free := m.free + length }, some (stOk, 0, le 4 (crc32c data) ++ data))))

/-! ## Checking (R389, R442, R444) -/

/-- CONFIG.CHECK: an incomplete set fails its first check; an empty, a checking and a scheduled slot refuse. -/
def execConfigCheck (req : DcpReq) (s : State) : Host.Outcome State Fault Refusal :=
  onModule s (fun m => m.dcpRequest req 0x0303 0 true (fun m x =>
    let p := m.sets.pending
    if p.state ∈ [1, 2, 4, 5] then (m.modPending (fun p => { p with state := 3 }), some (stAccepted, 0, []))
    else m.slotRefuses x req.seq 0x0303 1 p))

/-- CHECK_RESULT of the set in PENDING: SIZE and SET_ID are those of CONFIG.BEGIN and every byte has come (R442). -/
def Module.checkPending (m : Module) (l : LoadedSet) : CheckResult :=
  let p := m.sets.pending
  if p.received ≠ p.size ∨ l.cfg.size ≠ p.size ∨ l.cfg.setId ≠ p.setId then { result := stSignatureError } else m.checkLoaded l

/-- CONFIG_CHECK_DONE: the checks of the bytes in PENDING end. A leader streams the set to a READY partner, whose check comes out
alike (log 82). -/
def execConfigCheckDone (s : State) : Host.Outcome State Fault Refusal :=
  onModule s (fun m =>
    if m.runs ∧ m.sets.pending.state = 3 then
      let l := loadSet m.upd.ownerKey m.sets.pending.bytes
      let r := m.checkPending l
      let ok := decide (r.result = stOk)
      let m := m.modPending (fun p => { p with state := if ok then 4 else 5, format := l.cfg.format, content := some l.cfg })
      let m : Module := { m with sets := { m.sets with check := r } }
      if m.isPair && m.acts && m.linked && decide (m.pair.partnerRole = some .ready) then m.streamSet 1 m.sets.pending else m
    else m)

/-! ## Activation and revert (R443, R444, R465) -/

/-- The first sweep whose instant lies at least 1 s ahead. -/
def Module.sweepAhead (m : Module) : Nat :=
  let p := m.sweep.period * 1000000
  let t := m.time.now + 1000000000 - m.sweep.tj
  (m.sweep.j + (if p = 0 then 0 else (t + p - 1) / p)) % 4294967296

/-- ACT_SWEEP taken from a request: 0 is the first sweep at least 1 s ahead; one that has begun is out of range (log 83). -/
def Module.actSweepOf (m : Module) (act : Nat) : Option Nat :=
  if act = 0 then some m.sweepAhead else if sweepAfter act m.sweep.j then some act else none

/-- The set in PENDING takes effect; PENDING is empty. -/
def Module.takePending (m : Module) : Module :=
  let p := m.sets.pending
  let prev := m.shiftActive
  Module.takeSet { m with sets := { m.sets with pending := {}, holder := none } } p prev

/-- The set in PREVIOUS takes effect, and PREVIOUS holds the former ACTIVE set (Table 18-6). -/
def Module.takePrevious (m : Module) : Module :=
  let a := m.sets.active
  m.takeSet m.sets.previous (if a.state = 6 then { a with state := 4 } else a)

/-- The set of a slot names the domain configuration of the slot wiring (R17). One that does not is refused wherever it would
be put in force, with the status of a failed check (log 160). -/
def Module.slotFits (m : Module) (x : SetSlot) : Bool := m.fitsSlot (x.content.getD {})

/-- CONFIG.ACTIVATE (R389, R443): at once while no set is in force. -/
def execConfigActivate (req : DcpReq) (actSweep : Nat) (s : State) : Host.Outcome State Fault Refusal :=
  onModule s (fun m => m.dcpRequest req 0x0304 4 true (fun m x =>
    let p := m.sets.pending
    if p.state ≠ 4 then m.slotRefuses x req.seq 0x0304 1 p
    else if m.adopts p.format = false then (m, some (stSettingsIncompatible, 0, []))
    else if m.slotFits p = false then (m, some (stCheckFailed, 0, []))
    else match m.actSweepOf actSweep with
      | none => (m, some (stParamRange, 0, []))
      | some k =>
        let m := m.jotDirect x req.seq 0x0304 stOk scConfig 1 (k : Int) 0xFFFF (m.cmdResult scConfig 1 8 0 0xFFFF)
        if m.conf?.isNone then (m.takePending, some (stOk, 0, le 4 m.sweep.j))
        else (m.modPending (fun p => { p with state := 8, actSweep := k }), some (stOk, 0, le 4 k))))

/-- CONFIG.REVERT (R389, R443). -/
def execConfigRevert (req : DcpReq) (actSweep : Nat) (s : State) : Host.Outcome State Fault Refusal :=
  onModule s (fun m => m.dcpRequest req 0x0305 4 true (fun m x =>
    let p := m.sets.previous
    if p.state = 0 then m.slotRefuses x req.seq 0x0305 2 p
    else if m.adopts p.format = false then (m, some (stSettingsIncompatible, 0, []))
    else if m.slotFits p = false then (m, some (stCheckFailed, 0, []))
    else match m.actSweepOf actSweep with
      | none => (m, some (stParamRange, 0, []))
      | some k =>
        let m := m.jotDirect x req.seq 0x0305 stOk scConfig 2 (k : Int) 0xFFFF (m.cmdResult scConfig 2 p.state 0 0xFFFF)
        if m.conf?.isNone then (m.takePrevious, some (stOk, 0, le 4 m.sweep.j))
        else ({ m with sets := { m.sets with revertAt := some k } }, some (stOk, 0, le 4 k))))

/-- A sweep's boundary is that of the next sweep, or has passed. -/
def Module.boundaryDue (m : Module) (k : Nat) : Bool := !sweepAfter k ((m.sweep.j + 1) % 4294967296)

/-- R34 refuses an activation: the refusal is journalled. -/
def Module.mapRefused (m : Module) (setId : Nat) : Module := m.jotConfig sevInfo setId []

/-- PENDING reaches its ACT_SWEEP. -/
def Module.pendingDue (m : Module) : Module :=
  let p := m.sets.pending
  if p.state = 8 ∧ m.boundaryDue p.actSweep then
    if m.mapPermits (p.content.getD {}) ∧ m.slotFits p then m.takePending
    else (m.modPending (fun p => { p with state := 4 })).mapRefused p.setId
  else m

/-- A revert reaches its ACT_SWEEP. -/
def Module.revertDue (m : Module) : Module :=
  match m.sets.revertAt with
  | some k =>
    if m.boundaryDue k then
      if m.mapPermits (m.sets.previous.content.getD {}) ∧ m.slotFits m.sets.previous then m.takePrevious
      else Module.mapRefused { m with sets := { m.sets with revertAt := none } } m.sets.previous.setId
    else m
  | none => m

/-- SET_ACTIVATION (R34, R443, R444, R465): the boundary of ACT_SWEEP, on the module that leads and on a READY follower alike. -/
def execSetActivation (s : State) : Host.Outcome State Fault Refusal :=
  onModule s (fun m => if m.runs && (m.leads || decide (m.pair.role = .ready)) then m.pendingDue.revertDue else m)

end Sys2Proof.Machine
end

