-- ==== Sys2Proof/Machine/ScarabEvents.lean ====
section
/-! DEFINITION. Events between verdict stages that concern Scarab: delays, timeouts, polls and waits (R254 to R263, R271),
acknowledgements of the switch island and the PWI (R257), and the Carapace's report (R336). -/

namespace Sys2Proof.Machine

/-- The step an instance stands on, once its action has been issued. -/
def Module.standing (m : Module) (k : InstKey) : Option Step :=
  let i := m.inst k
  match i.step with
  | none => none
  | some n => if i.issued && decide (i.illegal ≠ 2) then some (look {} (m.seqOf k).steps n) else none

/-- The instance exists in the configuration in force. -/
def Module.hasInst (m : Module) (k : InstKey) : Bool := decide (k ∈ m.instKeys)

/-- SCARAB_DELAY_EXPIRE (R259). -/
def execScarabDelayExpire (inst : InstKey) (s : State) : Host.Outcome State Fault Refusal :=
  onModule s (fun m =>
    if m.scarabOn && m.hasInst inst then
      match m.standing inst with
      | some st => if st.kind = 6 then (m.advance inst true).scarabRun else m
      | none => m
    else m)

/-- The end of the fallback's 500 ms (R254): LOCKOUT while an auxiliary contact stays closed, else FAULT_OPEN. -/
def Module.fallbackEnd (m : Module) (k : InstKey) : Module :=
  match k with
  | .bay _ => m
  | .str s =>
    let d := (m.wk (m.cfg.dzsOf s)).dzs
    (m.endTemplate k).setState k (if d.contactors % 8 = 0 then 7 else 8) false

/-- SCARAB_STEP_TIMEOUT (R256, R254). -/
def execScarabStepTimeout (inst : InstKey) (s : State) : Host.Outcome State Fault Refusal :=
  onModule s (fun m =>
    if m.scarabOn && m.hasInst inst then
      if (m.inst inst).illegal = 2 then (m.fallbackEnd inst).scarabRun
      else
        match m.standing inst with
        | some st => if st.timeout ≠ 0 then (m.advance inst false).scarabRun else m
        | none => m
    else m)

/-- DZS_READ_POLL (R258): every 20 ms while the step waits on a DZS condition. V_MATCH is read once it has held on the
sweep data. -/
def execDzsReadPoll (string : Nat) (s : State) : Host.Outcome State Fault Refusal :=
  onModule s (fun m =>
    if m.scarabOn && m.hasInst (.str string) && m.waitsDzs (.str string) then m.readDzs string else m)

/-- INSERT_WAIT_EXPIRE (R263). -/
def execInsertWaitExpire (string : Nat) (s : State) : Host.Outcome State Fault Refusal :=
  onModule s (fun m =>
    let i := m.sInst string
    if m.scarabOn && m.hasInst (.str string) && decide (i.state = 2 ∧ m.cfg.seq.insertWaitMax ≠ 0) && i.step.isSome then
      ((m.jotDom .vsi eInsertTimeout sevInfo scString string).advance (.str string) false).scarabRun
    else m)

/-- RECOVER_DELAY_EXPIRE (R271). -/
def execRecoverDelayExpire (string : Nat) (s : State) : Host.Outcome State Fault Refusal :=
  onModule s (fun m =>
    let i := m.sInst string
    if m.scarabOn && m.hasInst (.str string) && decide (i.state = 7 ∧ i.step = none ∧ i.faults.length < m.cfg.seq.faultLimit) then
      (m.deliverAll (.str string) 5).1.scarabRun
    else m)

/-- BAY_EMPTY_EXPIRE (R255): a LIVE or DERATED bay has no included string. -/
def execBayEmptyExpire (bay : Nat) (s : State) : Host.Outcome State Fault Refusal :=
  onModule s (fun m =>
    let st := (m.bInst bay).state
    if m.scarabOn && m.hasInst (.bay bay) && decide ((st = 2 ∨ st = 3) ∧ m.included bay = []) then
      (m.deliverAll (.bay bay) 1).1.scarabRun
    else m)

/-- An acknowledgement reaches every instance whose step in flight waits for it. -/
def Module.acked (m : Module) (waits : InstKey → Step → Bool) (ok : Bool) : Module :=
  (m.instKeys.foldl (fun m k =>
    match m.standing k with
    | some st => if waits k st && decide ((m.inst k).result = 0) then m.modInst k (fun i => { i with result := if ok then 1 else 2 }) else m
    | none => m) m).scarabRun

/-- The SWI accepts what the image commands of a channel (R307, R308): not ON for a latched one, and nothing for an UNUSED one. -/
def Module.swAccepts (m : Module) (n : Nat) : Bool :=
  decide ((m.swCfg n).load ≠ .unused) && !(m.sw.image.getD n false && decide ((m.swc n).state = 5))

/-- SWITCH_COMMAND_ACK (R257, R308): the SWI answers a step's command. -/
def execSwitchCommandAck (chan : Nat) (s : State) : Host.Outcome State Fault Refusal :=
  onModule s (fun m =>
    if m.scarabOn && m.swiServes then
      m.acked (fun k st => st.kind = 3 && decide ((m.cfg.baySwitch.getD (m.bayOfKey k) []).getD st.operand 255 = chan))
        (m.swAccepts chan)
    else m)

/-- PRECHARGE_COMMAND_ACK (R257, R283): the answer that the PWI gave to a START or STOP reaches Scarab. -/
def execPrechargeCommandAck (chan : Nat) (s : State) : Host.Outcome State Fault Refusal :=
  onModule s (fun m =>
    match (m.pch chan).answer with
    | none => m
    | some ok =>
      let m : Module := { m with pre := modAt m.pre chan (fun ch => { ch with answer := none }) }
      if m.scarabOn then m.acked (fun k st => st.kind = 4 && decide (m.bayOfKey k = chan)) ok else m)

/-- The conditions the report carries (R336, Table 17-4). -/
def Module.reportConds (m : Module) : Module :=
  let r := m.rep
  let m := m.setCond (bitAt r.flags 0) .cpi cSealChanged
  let m := m.setCond (bitAt r.flags 1) .cpi cSealMismatch
  let m := m.setCond (bitAt r.flags 2) .cpi cCpxLost
  let m := m.setCond (bitAt r.flags 3) .cpi cKeyStuck
  (List.range 4).foldl (fun m b =>
    (m.setCond (r.degraded.getD b false) .cpi cBcsDegraded sevWarning scBay b).setCond (r.discrepancy.getD b false) .cpi
      cBcsDiscrepancy sevWarning scBay b) m

/-- CARAPACE_REPORT_RX (R336): the report is kept; TRIP and TRIP_RESET follow the trip in force. -/
def execCarapaceReportRx (s : State) : Host.Outcome State Fault Refusal :=
  onModule s (fun m =>
    if s.cara.state ≠ .off ∧ m.runs then
      let m : Module := { m with rep := s.cara.report }
      m.reportConds.tripEvents.scarabRun
    else m)

end Sys2Proof.Machine
end

