-- ==== Sys2Proof/Machine/Update.lean ====
section
/-! DEFINITION. Firmware updates (group 0x06, R393, R428 to R440, R449): transfer, verification, activation, installation by
Weevil, the trial of a new image, and the end of a SAFE_HOLD (R446). -/

namespace Sys2Proof.Machine

/-! ## Answers -/

/-- A request that does not fit the update state refuses with SCOPE 8 and that state (R430). -/
def Module.updRefuses (m : Module) (x : Session) (seq op hold : Nat) : Module × Option Answer :=
  m.refuse x seq op scUpdate 0xFFFF m.upd.state hold 0xFFFF

/-- The update state rewritten. -/
def Module.modUpd (m : Module) (f : UpdSt → UpdSt) : Module := { m with upd := f m.upd }

/-- STAGING discarded. -/
def UpdSt.discard (u : UpdSt) : UpdSt := { u with size := 0, version := 0, blocks := [], received := 0, staging := none, svc := false }

/-- UPDATE.STATUS (Table 15-21). -/
def Module.recUpdate (m : Module) : List Byte :=
  let u := m.upd
  let left := match u.trial with | some t => t.leftMs / 1000 | none => 0
  let boots := match u.trial with | some t => 3 - t.boots | none => 0
  [u.state, 0, 0, 0] ++ le 4 u.size ++ le 4 u.received ++ le 2 u.result ++ zeros 2 ++ le 4 u.version ++ le 8 u.actTime ++
    le 2 left ++ [boots, 0]

/-- UPDATE.STATUS. -/
def execUpdateStatus (req : DcpReq) (s : State) : Host.Outcome State Fault Refusal :=
  onModule s (fun m => m.dcpRequest req 0x0600 0 true (fun m _ => (m, some (stOk, 0, m.recUpdate))))

/-! ## Transfer (R430) -/

/-- Another session holds the transfer. -/
def Module.updHeldByOther (m : Module) (x : Session) : Bool := decide (m.upd.holder.isSome ∧ m.upd.holder ≠ some x.id)

/-- A transfer that has begun goes on, with what is held; any other starts afresh. -/
def UpdSt.begin_ (u : UpdSt) (size version holder : Nat) (svc : Bool) : UpdSt :=
  if u.state ≠ 0 ∧ u.size = size ∧ u.version = version then
    { u with state := 1, holder := some holder, svc := u.svc && svc, staging := none, result := stOk }
  else { u.discard with state := 1, size := size, version := version, holder := some holder, svc := svc, result := stOk }

/-- UPDATE.BEGIN. -/
def execUpdateBegin (req : DcpReq) (size version : Nat) (s : State) : Host.Outcome State Fault Refusal :=
  onModule s (fun m => m.dcpRequest req 0x0601 8 (decide (1 ≤ size ∧ size ≤ 0x04000000)) (fun m x =>
    if m.upd.state ∉ [0, 1, 3, 4] then m.updRefuses x req.seq 0x0601 0
    else if m.updHeldByOther x then (m, some (stBusy, 0, []))
    else (m.modUpd (fun u => u.begin_ size version x.id (decide (req.port = .svc))), some (stOk, 0, []))))

/-- UPDATE.BLOCK. -/
def execUpdateBlock (req : DcpReq) (offset : Nat) (crcOk : Bool) (data : List Byte) (s : State) :
    Host.Outcome State Fault Refusal :=
  onModule s (fun m => m.dcpRequest req 0x0602 (12 + data.length)
    (decide (1 ≤ data.length ∧ data.length ≤ 1024 ∧ offset + data.length ≤ 0x04000000)) (fun m x =>
    if m.updHeldByOther x then (m, some (stBusy, 0, []))
    else if m.upd.state ≠ 1 ∨ m.upd.holder = none then m.updRefuses x req.seq 0x0602 0
    else if m.upd.size < offset + data.length then (m, some (stParamRange, 0, []))
    else if crcOk = false then (m, some (stCrcError, 0, []))
    else
      (m.modUpd (fun u =>
        let blocks := addBlock u.blocks offset data
        { u with blocks := blocks, received := bytesHeld blocks, svc := u.svc && decide (req.port = .svc) }), some (stOk, 0, []))))

/-! ## Verification (R431, R432, R437, R449) -/

/-- UPDATE.VERIFY. -/
def execUpdateVerify (req : DcpReq) (s : State) : Host.Outcome State Fault Refusal :=
  onModule s (fun m => m.dcpRequest req 0x0603 0 true (fun m x =>
    if m.upd.state = 1 ∧ m.upd.received = m.upd.size then (m.modUpd (fun u => { u with state := 2 }), some (stAccepted, 0, []))
    else m.updRefuses x req.seq 0x0603 0))

/-- RESULT of the checks of R431: the first failure. RECOVERY checks no owner signature and takes no CARAPACE image. -/
def Module.verifyImage (m : Module) (i : ImageFacts) : Nat :=
  let u := m.upd
  let target := decide (i.target = 0) || (decide (i.target = 1) && !m.sup.recovery)
  if i.magicOk = false ∨ i.hdrVersion ≠ 1 ∨ target = false ∨ u.size ≠ 256 + i.bodySize + 128 ∨ u.version ≠ i.version then stParamRange
  else if i.hashOk = false ∨ i.vendorOk = false then stSignatureError
  else if m.sup.recovery = false ∧ u.ownerKey.isSome ∧ (i.ownerSigned = false ∨ i.ownerOk = false) then stSignatureError
  else if i.rollback < (if i.target = 1 then u.caraFloor else u.floor) then stSignatureError
  else stOk

/-- UPDATE_VERIFY_DONE (R431): the checks of the bytes in STAGING end. -/
def execUpdateVerifyDone (s : State) : Host.Outcome State Fault Refusal :=
  onModule s (fun m =>
    if m.sup.phase = .on ∧ m.upd.state = 2 then
      let image := readImage m.upd.ownerKey (assembled m.upd.blocks m.upd.size)
      let r := m.verifyImage image
      m.modUpd (fun u =>
        if r = stOk then { u with state := 3, result := r, staging := some image } else { u with state := 4, result := r, staging := none })
    else m)

/-- UPDATE.OWNER_KEY (R432): a KEY of zero removes the key. -/
def execUpdateOwnerKey (req : DcpReq) (key : Nat) (sigOk : Bool) (s : State) : Host.Outcome State Fault Refusal :=
  onModule s (fun m => m.dcpRequest req 0x0606 96 true (fun m x =>
    if sigOk = false then (m, some (stSignatureError, 0, []))
    else if m.calOk = false then m.internal x req.seq 0x0606 scUpdate 0xFFFF
    else (m.modUpd (fun u => { u with ownerKey := if key = 0 then none else some key }), some (stOk, 0, []))))

/-! ## Activation (R437 to R439, R449) -/

/-- A CARAPACE image may go to the CPI: it came on SVC, the cover is off, and the module is parked, or the single-module domain is
in SERVICE (R449). -/
def Module.carapaceMay (m : Module) : Bool :=
  m.upd.svc && m.sup.coverOff && (if m.isPair then decide (m.pair.role = .parked) else decide (m.domainState = 7))

/-- The update is SCHEDULED: 0, or less than 2 s ahead, is 2 s after receipt (R438). -/
def Module.schedule (m : Module) (actTime : Nat) : Module :=
  let soon := m.plant + 2000000000
  m.modUpd (fun u => { u with state := 5, actTime := max actTime soon, atOnce := decide (actTime ≤ soon) })

/-- RECOVERY writes the image to RUNNING, without a trial, and restarts (R437). -/
def Module.recoverImage (m : Module) : Module :=
  Module.restart (m.modUpd (fun u => { u with
    running := u.staging.getD u.running, trial := none, phase := 0, state := 0, result := stOk, bootFail := false }))

/-- UPDATE.ACTIVATE. -/
def execUpdateActivate (req : DcpReq) (actTime : Nat) (s : State) : Host.Outcome State Fault Refusal :=
  onBoot s (fun m => m.dcpRequest req 0x0604 8 true (fun m x =>
    if m.upd.state ≠ 3 then m.updRefuses x req.seq 0x0604 0
    else if m.sup.recovery then
      ((m.emit (.dcp req.port req.src 0 req.seq 0x0604 stOk 5 [])).recoverImage, none)
    else if (m.upd.staging.getD {}).target = 1 then
      if m.carapaceMay then (m.modUpd (fun u => { u with carapace := true, state := 0 }), some (stOk, 0, []))
      else m.updRefuses x req.seq 0x0604 0
    else if actTime ≠ 0 ∧ m.time.state = .unset then m.refuse x req.seq 0x0604 scTime 0xFFFF 0xFF 0 0xFFFF
    else if m.isPair && m.leads && !(m.linked && decide (m.pair.partnerRole = some .ready)) then m.updRefuses x req.seq 0x0604 5
    else (m.schedule actTime, some (stOk, 0, []))))

/-- What UPDATE_PREPARE changed is undone, and a handover that an install waited for is no longer followed by it. -/
def Module.unprepare (m : Module) : Module :=
  { m with
    ver := { m.ver with zeroed := if m.upd.prepared then m.sets.safeHold else m.ver.zeroed }
    upd := { m.upd with prepared := false }
    pair := { m.pair with then_ := if m.pair.then_ = 2 then 0 else m.pair.then_ } }

/-- UPDATE.ABORT: STAGING is discarded. -/
def execUpdateAbort (req : DcpReq) (s : State) : Host.Outcome State Fault Refusal :=
  onModule s (fun m => m.dcpRequest req 0x0605 0 true (fun m x =>
    if m.upd.state ∈ [1, 3, 4, 5] then
      ((m.unprepare.modUpd (fun u => { u.discard with state := 0, holder := none, actTime := 0, atOnce := false })), some (stOk, 0, []))
    else m.updRefuses x req.seq 0x0605 0))

/-- UPDATE_PREPARE (R438 step 1): 2 s before ACT_TIME, in a single-module domain. -/
def execUpdatePrepare (s : State) : Host.Outcome State Fault Refusal :=
  onModule s (fun m =>
    if m.runs ∧ m.isPair = false ∧ m.upd.state = 5 then
      let m := m.strNos.foldl (fun m s =>
        if decide (3 ≤ (m.sInst s).state) && decide ((m.sInst s).state ≤ 6) then m.grantLease s 120 else m) m
      { m with ver := { m.ver with zeroed := true }, upd := { m.upd with prepared := true } }
    else m)

/-- UPDATE_ACT_TIME (R438, R439): the install begins; a leader of a pair hands over first, and without a partner that can take over
it keeps leading. -/
def execUpdateActTime (s : State) : Host.Outcome State Fault Refusal :=
  onBoot s (fun m =>
    if m.runs ∧ m.upd.state = 5 then
      if m.isPair && m.leads then
        if m.partnerReady then Module.startHandover { m with pair := { m.pair with then_ := 2 } }
        else m.pulse .pri cHandoverFailed sevWarning
      else m.beginInstall
    else m)

/-! ## Installation (R433) -/

/-- The new image starts, on trial (R433 BOOT_NEW, R434). -/
def Module.bootNew (m : Module) : Module :=
  Module.startFirmware { m with
    sup := { m.sup with phase := .on }
    upd := { m.upd with phase := 3, trial := some {} } }

/-- INSTALL_PHASE_DONE (R433): COPY_RETREAT, then WRITE_RUNNING with its check of BODY_HASH; a copy that fails it is written
again (log 86). -/
def execInstallPhaseDone (hashOk : Bool) (s : State) : Host.Outcome State Fault Refusal :=
  onModule s (fun m =>
    if m.sup.phase = .weevil then
      if m.upd.phase = 1 then m.modUpd (fun u => { u with retreat := u.running, phase := 2 })
      else
        let m := m.modUpd (fun u => { u with running := { u.staging.getD u.running with hashOk := hashOk } })
        if hashOk then m.bootNew else m
    else m)

/-! ## The trial of an image (R434 to R436) -/

/-- What R435 asks of the state; that it has held for 60 s is the event's own assertion. -/
def Module.healthy (m : Module) : Bool :=
  m.isl.all (fun i => i.up && (match i.lastReset with | some t => decide (t < m.dcp.bootAt) | none => true)) &&
  decide (m.domainState ∈ [1, 2, 3, 4, 7]) &&
  (if m.isPair then
    decide (m.pair.role = .leader ∨ m.pair.role = .ready) &&
      (decide (m.pair.gen = m.upd.running.genOwn) || decide (m.pair.gen + 1 = m.upd.running.genOwn))
  else decide (m.sup.slot = .single))

/-- IMAGE_CONFIRM (R435): the trial ends, the rollback floor rises and UPDATE_EVENT is journalled. -/
def execImageConfirm (s : State) : Host.Outcome State Fault Refusal :=
  onModule s (fun m =>
    if m.runs ∧ m.upd.trial.isSome ∧ m.healthy ∧ m.calOk then
      let m := m.modUpd (fun u => { u with
        trial := none, floor := max u.floor u.running.rollback, state := 0, result := stOk })
      m.jotUpdate sevInfo m.upd.running.version stOk
    else m)

/-- TRIAL_EXPIRE (R436): the time or the attempts of the trial are used up; Weevil copies RETREAT back as the module restarts. -/
def execTrialExpire (s : State) : Host.Outcome State Fault Refusal :=
  onBoot s (fun m =>
    match m.upd.trial with
    | some t => if m.runs then Module.restart (m.modUpd (fun u => { u with trial := some { t with leftMs := 0 } })) else m
    | none => m)

/-- SAFE_HOLD_EXPIRE (R446): after 300 s every bay is drained and every string opened in order. -/
def execSafeHoldExpire (s : State) : Host.Outcome State Fault Refusal :=
  onModule s (fun m =>
    if m.runs ∧ m.sets.safeHold ∧ m.sets.safeLate = false then
      let m : Module := { m with sets := { m.sets with safeLate := true } }
      if m.scarabOn then
        let m := m.cfg.bays.foldl (fun m b => (m.deliverAll (.bay b) 1).1) m
        (m.strNos.foldl (fun m s => (m.deliverAll (.str s) 1).1) m).scarabRun
      else m
    else m)

end Sys2Proof.Machine
end

