-- ==== Sys2Proof/Machine/Dispatch.lean ====
section
/-! DEFINITION. One arm per command, each a direct call of its meaning. -/

namespace Sys2Proof.Machine

def exec (i : Instr) (s : State) : Host.Outcome State Fault Refusal :=
  match i with
  | .powerUp slotId1 slotId0 peerPresent jumper => Sys2Proof.Machine.execPowerUp slotId1 slotId0 peerPresent jumper s
  | .auxLowRaise => Sys2Proof.Machine.execAuxLowRaise s
  | .auxLowClear => Sys2Proof.Machine.execAuxLowClear s
  | .auxHighRaise => Sys2Proof.Machine.execAuxHighRaise s
  | .auxHighClear => Sys2Proof.Machine.execAuxHighClear s
  | .auxProtectOpen => Sys2Proof.Machine.execAuxProtectOpen s
  | .auxProtectReconnect => Sys2Proof.Machine.execAuxProtectReconnect s
  | .writeStop => Sys2Proof.Machine.execWriteStop s
  | .writeStopLift => Sys2Proof.Machine.execWriteStopLift s
  | .powerFail => Sys2Proof.Machine.execPowerFail s
  | .vswFeedDip feed => Sys2Proof.Machine.execVswFeedDip feed s
  | .vswFeedReturn feed => Sys2Proof.Machine.execVswFeedReturn feed s
  | .swiSupplyReset => Sys2Proof.Machine.execSwiSupplyReset s
  | .swiSupplyRestart => Sys2Proof.Machine.execSwiSupplyRestart s
  | .moduleHotChange boardT => Sys2Proof.Machine.execModuleHotChange boardT s
  | .slotChanged slotId1 slotId0 => Sys2Proof.Machine.execSlotChanged slotId1 slotId0 s
  | .leverLeaveLocked => Sys2Proof.Machine.execLeverLeaveLocked s
  | .ejectAssert => Sys2Proof.Machine.execEjectAssert s
  | .leverReachLocked => Sys2Proof.Machine.execLeverReachLocked s
  | .leverUnlocked => Sys2Proof.Machine.execLeverUnlocked s
  | .parkComplete => Sys2Proof.Machine.execParkComplete s
  | .peerPresentChange present => Sys2Proof.Machine.execPeerPresentChange present s
  | .peerEjectChange low => Sys2Proof.Machine.execPeerEjectChange low s
  | .carapaceSelfTestPass links bank tl => Sys2Proof.Machine.execCarapaceSelfTestPass links bank tl s
  | .carapaceSample raw => Sys2Proof.Machine.execCarapaceSample raw s
  | .carapaceMeanTick => Sys2Proof.Machine.execCarapaceMeanTick s
  | .bcsNoValid bay => Sys2Proof.Machine.execBcsNoValid bay s
  | .bcsDegradedExpire bay => Sys2Proof.Machine.execBcsDegradedExpire bay s
  | .bcsDiscrepancy bay => Sys2Proof.Machine.execBcsDiscrepancy bay s
  | .bcsModeLinkChange bay chan => Sys2Proof.Machine.execBcsModeLinkChange bay chan s
  | .toneLossTrip port => Sys2Proof.Machine.execToneLossTrip port s
  | .safetyChannelOpen input chan => Sys2Proof.Machine.execSafetyChannelOpen input chan s
  | .safetyDiscrepancy input => Sys2Proof.Machine.execSafetyDiscrepancy input s
  | .safetyTestPulse input out seenOnOther drawsLow => Sys2Proof.Machine.execSafetyTestPulse input out seenOnOther drawsLow s
  | .tripReqHigh => Sys2Proof.Machine.execTripReqHigh s
  | .tripOutputTest bay out opens conducts => Sys2Proof.Machine.execTripOutputTest bay out opens conducts s
  | .bankChange bank tl => Sys2Proof.Machine.execBankChange bank tl s
  | .keyReset bank tl => Sys2Proof.Machine.execKeyReset bank tl s
  | .keyStuck => Sys2Proof.Machine.execKeyStuck s
  | .keyReleaseStuck => Sys2Proof.Machine.execKeyReleaseStuck s
  | .cpiInternalFault => Sys2Proof.Machine.execCpiInternalFault s
  | .cpxFrameRx f => Sys2Proof.Machine.execCpxFrameRx f s
  | .cpxLost => Sys2Proof.Machine.execCpxLost s
  | .carapaceReportRx => Sys2Proof.Machine.execCarapaceReportRx s
  | .islandReset island cause => Sys2Proof.Machine.execIslandReset island cause s
  | .islandReturn island => Sys2Proof.Machine.execIslandReturn island s
  | .mgiOutageHandover => Sys2Proof.Machine.execMgiOutageHandover s
  | .queueOverrun queue => Sys2Proof.Machine.execQueueOverrun queue s
  | .timePulse island ticks => Sys2Proof.Machine.execTimePulse island ticks s
  | .timePulseLost island => Sys2Proof.Machine.execTimePulseLost island s
  | .ptpMessageRx eth domain msg => Sys2Proof.Machine.execPtpMessageRx eth domain msg s
  | .ppsInEdge offset => Sys2Proof.Machine.execPpsInEdge offset s
  | .timeLock => Sys2Proof.Machine.execTimeLock s
  | .timeSourceLost => Sys2Proof.Machine.execTimeSourceLost s
  | .holdoverExpire => Sys2Proof.Machine.execHoldoverExpire s
  | .pairTimeDisagree => Sys2Proof.Machine.execPairTimeDisagree s
  | .portLinkUp port => Sys2Proof.Machine.execPortLinkUp port s
  | .portLinkDown port => Sys2Proof.Machine.execPortLinkDown port s
  | .toneWindow port hasA hasB hasS codeErr => Sys2Proof.Machine.execToneWindow port hasA hasB hasS codeErr s
  | .collectingFrameRx port frame => Sys2Proof.Machine.execCollectingFrameRx port frame s
  | .replyFrameRx port reply => Sys2Proof.Machine.execReplyFrameRx port reply s
  | .probeReturn port hop roundTrip => Sys2Proof.Machine.execProbeReturn port hop roundTrip s
  | .turnedCommandRx port => Sys2Proof.Machine.execTurnedCommandRx port s
  | .noticeRx port notice => Sys2Proof.Machine.execNoticeRx port notice s
  | .replyTimeout ring hop => Sys2Proof.Machine.execReplyTimeout ring hop s
  | .rejoinStart ring segment => Sys2Proof.Machine.execRejoinStart ring segment s
  | .rejoinWatchExpire ring segment => Sys2Proof.Machine.execRejoinWatchExpire ring segment s
  | .quarantineExpire ring segment => Sys2Proof.Machine.execQuarantineExpire ring segment s
  | .partitionFix => Sys2Proof.Machine.execPartitionFix s
  | .geyserSend => Sys2Proof.Machine.execGeyserSend s
  | .sweepFrameSend => Sys2Proof.Machine.execSweepFrameSend s
  | .readoutClose => Sys2Proof.Machine.execReadoutClose s
  | .provisionalManifest => Sys2Proof.Machine.execProvisionalManifest s
  | .estimateComplete => Sys2Proof.Machine.execEstimateComplete s
  | .verdictStage => Sys2Proof.Machine.execVerdictStage s
  | .fastRowEval => Sys2Proof.Machine.execFastRowEval s
  | .heartbeatSend => Sys2Proof.Machine.execHeartbeatSend s
  | .scarabDelayExpire inst => Sys2Proof.Machine.execScarabDelayExpire inst s
  | .scarabStepTimeout inst => Sys2Proof.Machine.execScarabStepTimeout inst s
  | .dzsReadPoll string => Sys2Proof.Machine.execDzsReadPoll string s
  | .insertWaitExpire string => Sys2Proof.Machine.execInsertWaitExpire string s
  | .recoverDelayExpire string => Sys2Proof.Machine.execRecoverDelayExpire string s
  | .bayEmptyExpire bay => Sys2Proof.Machine.execBayEmptyExpire bay s
  | .switchCommandAck chan => Sys2Proof.Machine.execSwitchCommandAck chan s
  | .prechargeCommandAck chan => Sys2Proof.Machine.execPrechargeCommandAck chan s
  | .burstAbandon string => Sys2Proof.Machine.execBurstAbandon string s
  | .chargeMirrorRound => Sys2Proof.Machine.execChargeMirrorRound s
  | .impedanceMirrorRound => Sys2Proof.Machine.execImpedanceMirrorRound s
  | .capacityRecordWrite => Sys2Proof.Machine.execCapacityRecordWrite s
  | .dormantWakeRing port => Sys2Proof.Machine.execDormantWakeRing port s
  | .pcsDcReadyRise => Sys2Proof.Machine.execPcsDcReadyRise s
  | .pairLaneWake => Sys2Proof.Machine.execPairLaneWake s
  | .dormantSurveyExpire => Sys2Proof.Machine.execDormantSurveyExpire s
  | .prechargeStart chan vTarget => Sys2Proof.Machine.execPrechargeStart chan vTarget s
  | .prechargeStop chan => Sys2Proof.Machine.execPrechargeStop chan s
  | .sdmSample chan bitsOut bitsSrc => Sys2Proof.Machine.execSdmSample chan bitsOut bitsSrc s
  | .voutLatch => Sys2Proof.Machine.execVoutLatch s
  | .phaseCycle chan phase event current cycleNs => Sys2Proof.Machine.execPhaseCycle chan phase event current cycleNs s
  | .syncEdge periodNs => Sys2Proof.Machine.execSyncEdge periodNs s
  | .syncLost => Sys2Proof.Machine.execSyncLost s
  | .rotationBoundary chan => Sys2Proof.Machine.execRotationBoundary chan s
  | .fastLimit chan phase => Sys2Proof.Machine.execFastLimit chan phase s
  | .slowLimitTick chan means rms => Sys2Proof.Machine.execSlowLimitTick chan means rms s
  | .probeTimeout chan ms => Sys2Proof.Machine.execProbeTimeout chan ms s
  | .retryDelayExpire chan => Sys2Proof.Machine.execRetryDelayExpire chan s
  | .driverFault chan same => Sys2Proof.Machine.execDriverFault chan same s
  | .srcLow chan => Sys2Proof.Machine.execSrcLow chan s
  | .prechargeResume chan vOut => Sys2Proof.Machine.execPrechargeResume chan vOut s
  | .swRefresh source checkOk currents volts => Sys2Proof.Machine.execSwRefresh source checkOk currents volts s
  | .swWatchdogExpire => Sys2Proof.Machine.execSwWatchdogExpire s
  | .switchShortAttempt chan => Sys2Proof.Machine.execSwitchShortAttempt chan s
  | .shortGapExpire chan => Sys2Proof.Machine.execShortGapExpire chan s
  | .currentLimitExpire chan => Sys2Proof.Machine.execCurrentLimitExpire chan s
  | .overloadExpire chan => Sys2Proof.Machine.execOverloadExpire chan s
  | .blankingEnd chan inLimit => Sys2Proof.Machine.execBlankingEnd chan inLimit s
  | .junctionShutdown chan => Sys2Proof.Machine.execJunctionShutdown chan s
  | .junctionRestart chan => Sys2Proof.Machine.execJunctionRestart chan s
  | .groupDieLimit group dieT => Sys2Proof.Machine.execGroupDieLimit group dieT s
  | .groupDieResume group dieT => Sys2Proof.Machine.execGroupDieResume group dieT s
  | .pauseExpire chan => Sys2Proof.Machine.execPauseExpire chan s
  | .groupFeedOverload which means => Sys2Proof.Machine.execGroupFeedOverload which means s
  | .lampRetryStart chan => Sys2Proof.Machine.execLampRetryStart chan s
  | .warmupWindowExpire chan => Sys2Proof.Machine.execWarmupWindowExpire chan s
  | .turnOnComplete chan => Sys2Proof.Machine.execTurnOnComplete chan s
  | .drivePhaseEnd chan => Sys2Proof.Machine.execDrivePhaseEnd chan s
  | .openLoadOnExpire chan meanMa => Sys2Proof.Machine.execOpenLoadOnExpire chan meanMa s
  | .offStateTest chan upHigh downHigh => Sys2Proof.Machine.execOffStateTest chan upHigh downHigh s
  | .partnerChannelOn chan => Sys2Proof.Machine.execPartnerChannelOn chan s
  | .pairKeepaliveRx h k => Sys2Proof.Machine.execPairKeepaliveRx h k s
  | .pairRingFrameRx h port frame => Sys2Proof.Machine.execPairRingFrameRx h port frame s
  | .pairManifestRx h m => Sys2Proof.Machine.execPairManifestRx h m s
  | .pairTimeRx h offset => Sys2Proof.Machine.execPairTimeRx h offset s
  | .pairDigestRx h digest => Sys2Proof.Machine.execPairDigestRx h digest s
  | .pairScarabStepRx h inst img => Sys2Proof.Machine.execPairScarabStepRx h inst img s
  | .pairRunRecordRx h chan rec_ => Sys2Proof.Machine.execPairRunRecordRx h chan rec_ s
  | .pairSwitchImageRx h image currents => Sys2Proof.Machine.execPairSwitchImageRx h image currents s
  | .pairEndRequestRx h port frame departure => Sys2Proof.Machine.execPairEndRequestRx h port frame departure s
  | .pairJournalRx h rec_ => Sys2Proof.Machine.execPairJournalRx h rec_ s
  | .handoverOffer h sweep => Sys2Proof.Machine.execHandoverOffer h sweep s
  | .handoverAccept h sweep => Sys2Proof.Machine.execHandoverAccept h sweep s
  | .handoverDecline h sweep => Sys2Proof.Machine.execHandoverDecline h sweep s
  | .departRx h cause => Sys2Proof.Machine.execDepartRx h cause s
  | .stateChunkRx h block last img => Sys2Proof.Machine.execStateChunkRx h block last img s
  | .setChunkRx h slot offset data => Sys2Proof.Machine.execSetChunkRx h slot offset data s
  | .streamCtrlResync h genOwn => Sys2Proof.Machine.execStreamCtrlResync h genOwn s
  | .streamCtrlResend h blocks => Sys2Proof.Machine.execStreamCtrlResend h blocks s
  | .streamCtrlSet h slot => Sys2Proof.Machine.execStreamCtrlSet h slot s
  | .parkNoticeRx h => Sys2Proof.Machine.execParkNoticeRx h s
  | .pairLaneDown lane => Sys2Proof.Machine.execPairLaneDown lane s
  | .pairLinkSilent geysersSeen => Sys2Proof.Machine.execPairLinkSilent geysersSeen s
  | .splitRingSilence => Sys2Proof.Machine.execSplitRingSilence s
  | .failoverTakeover => Sys2Proof.Machine.execFailoverTakeover s
  | .handoverPoint => Sys2Proof.Machine.execHandoverPoint s
  | .leadTokenChange low => Sys2Proof.Machine.execLeadTokenChange low s
  | .tokenHoldExpire => Sys2Proof.Machine.execTokenHoldExpire s
  | .tokenFault => Sys2Proof.Machine.execTokenFault s
  | .pairBootTimeout => Sys2Proof.Machine.execPairBootTimeout s
  | .resyncRetryExpire => Sys2Proof.Machine.execResyncRetryExpire s
  | .canFrameRx ctl frame => Sys2Proof.Machine.execCanFrameRx ctl frame s
  | .canRxTimeout ctl obj => Sys2Proof.Machine.execCanRxTimeout ctl obj s
  | .canTxPeriod ctl obj => Sys2Proof.Machine.execCanTxPeriod ctl obj s
  | .canTxDone ctl obj mirrored => Sys2Proof.Machine.execCanTxDone ctl obj mirrored s
  | .canTxError ctl obj mirrored counted => Sys2Proof.Machine.execCanTxError ctl obj mirrored counted s
  | .busOffRecovery ctl => Sys2Proof.Machine.execBusOffRecovery ctl s
  | .journalWrite => Sys2Proof.Machine.execJournalWrite s
  | .sessionConfirmExpire session => Sys2Proof.Machine.execSessionConfirmExpire session s
  | .sessionIdleExpire session => Sys2Proof.Machine.execSessionIdleExpire session s
  | .streamSend stream dropPacket => Sys2Proof.Machine.execStreamSend stream dropPacket s
  | .sessionOpen req hostKeyId => Sys2Proof.Machine.execSessionOpen req hostKeyId s
  | .sessionConfirm req => Sys2Proof.Machine.execSessionConfirm req s
  | .sessionRekey req hostKeyId => Sys2Proof.Machine.execSessionRekey req hostKeyId s
  | .sessionClose req => Sys2Proof.Machine.execSessionClose req s
  | .sessionEcho req data => Sys2Proof.Machine.execSessionEcho req data s
  | .identityRead req => Sys2Proof.Machine.execIdentityRead req s
  | .hostkeyList req => Sys2Proof.Machine.execHostkeyList req s
  | .hostkeyAdd req key keyId privilege => Sys2Proof.Machine.execHostkeyAdd req key keyId privilege s
  | .hostkeyRemove req keyId => Sys2Proof.Machine.execHostkeyRemove req keyId s
  | .domainWake serial wakeTag => Sys2Proof.Machine.execDomainWake serial wakeTag s
  | .domainStatus req => Sys2Proof.Machine.execDomainStatus req s
  | .domainService req => Sys2Proof.Machine.execDomainService req s
  | .domainResume req => Sys2Proof.Machine.execDomainResume req s
  | .domainDormant req wakeTag => Sys2Proof.Machine.execDomainDormant req wakeTag s
  | .domainRestart req delayMs => Sys2Proof.Machine.execDomainRestart req delayMs s
  | .restartDelayExpire => Sys2Proof.Machine.execRestartDelayExpire s
  | .readCellSoc req first count => Sys2Proof.Machine.execReadCellSoc req first count s
  | .readCellImp req first count => Sys2Proof.Machine.execReadCellImp req first count s
  | .readCellCap req first count => Sys2Proof.Machine.execReadCellCap req first count s
  | .readWorker req first count => Sys2Proof.Machine.execReadWorker req first count s
  | .readStringSoc req first count => Sys2Proof.Machine.execReadStringSoc req first count s
  | .readStringState req first count => Sys2Proof.Machine.execReadStringState req first count s
  | .readBaySoc req first count => Sys2Proof.Machine.execReadBaySoc req first count s
  | .readBayState req first count => Sys2Proof.Machine.execReadBayState req first count s
  | .readLimit req first count => Sys2Proof.Machine.execReadLimit req first count s
  | .readRing req first count => Sys2Proof.Machine.execReadRing req first count s
  | .readPrecharge req first count => Sys2Proof.Machine.execReadPrecharge req first count s
  | .readSwitch req first count => Sys2Proof.Machine.execReadSwitch req first count s
  | .readCarapace req first count => Sys2Proof.Machine.execReadCarapace req first count s
  | .readPair req first count => Sys2Proof.Machine.execReadPair req first count s
  | .readBurst req string hop block tStep => Sys2Proof.Machine.execReadBurst req string hop block tStep s
  | .readBurstList req string => Sys2Proof.Machine.execReadBurstList req string s
  | .streamSubscribe req kind decimate sevMin first count destPort => Sys2Proof.Machine.execStreamSubscribe req kind decimate sevMin first count destPort s
  | .streamUnsubscribe req stream => Sys2Proof.Machine.execStreamUnsubscribe req stream s
  | .streamList req => Sys2Proof.Machine.execStreamList req s
  | .configStatus req => Sys2Proof.Machine.execConfigStatus req s
  | .configBegin req size format setId => Sys2Proof.Machine.execConfigBegin req size format setId s
  | .configBlock req offset crcOk data => Sys2Proof.Machine.execConfigBlock req offset crcOk data s
  | .configCheck req => Sys2Proof.Machine.execConfigCheck req s
  | .configCheckDone => Sys2Proof.Machine.execConfigCheckDone s
  | .configActivate req actSweep => Sys2Proof.Machine.execConfigActivate req actSweep s
  | .configRevert req actSweep => Sys2Proof.Machine.execConfigRevert req actSweep s
  | .configAbort req => Sys2Proof.Machine.execConfigAbort req s
  | .configRead req slot offset length => Sys2Proof.Machine.execConfigRead req slot offset length s
  | .setActivation => Sys2Proof.Machine.execSetActivation s
  | .stringClose req string => Sys2Proof.Machine.execStringClose req string s
  | .stringOpen req string => Sys2Proof.Machine.execStringOpen req string s
  | .stringService req string => Sys2Proof.Machine.execStringService req string s
  | .stringRelease req string => Sys2Proof.Machine.execStringRelease req string s
  | .stringUnlock req string => Sys2Proof.Machine.execStringUnlock req string s
  | .bayEnergise req bay => Sys2Proof.Machine.execBayEnergise req bay s
  | .bayDrain req bay => Sys2Proof.Machine.execBayDrain req bay s
  | .bayService req bay => Sys2Proof.Machine.execBayService req bay s
  | .bayRelease req bay => Sys2Proof.Machine.execBayRelease req bay s
  | .latchAck req row scope inst => Sys2Proof.Machine.execLatchAck req row scope inst s
  | .switchSet req chan state => Sys2Proof.Machine.execSwitchSet req chan state s
  | .switchReset req chan => Sys2Proof.Machine.execSwitchReset req chan s
  | .prechargeReset req chan => Sys2Proof.Machine.execPrechargeReset req chan s
  | .journalStatus req => Sys2Proof.Machine.execJournalStatus req s
  | .journalRead req fromSeq count sevMask => Sys2Proof.Machine.execJournalRead req fromSeq count sevMask s
  | .journalAckArchived req upTo => Sys2Proof.Machine.execJournalAckArchived req upTo s
  | .alertRead req => Sys2Proof.Machine.execAlertRead req s
  | .alertClear req bits => Sys2Proof.Machine.execAlertClear req bits s
  | .alertMask req bits => Sys2Proof.Machine.execAlertMask req bits s
  | .updateStatus req => Sys2Proof.Machine.execUpdateStatus req s
  | .updateBegin req size version => Sys2Proof.Machine.execUpdateBegin req size version s
  | .updateBlock req offset crcOk data => Sys2Proof.Machine.execUpdateBlock req offset crcOk data s
  | .updateVerify req => Sys2Proof.Machine.execUpdateVerify req s
  | .updateVerifyDone => Sys2Proof.Machine.execUpdateVerifyDone s
  | .updateActivate req actTime => Sys2Proof.Machine.execUpdateActivate req actTime s
  | .updateAbort req => Sys2Proof.Machine.execUpdateAbort req s
  | .updateOwnerKey req key sigOk => Sys2Proof.Machine.execUpdateOwnerKey req key sigOk s
  | .updatePrepare => Sys2Proof.Machine.execUpdatePrepare s
  | .updateActTime => Sys2Proof.Machine.execUpdateActTime s
  | .installPhaseDone hashOk => Sys2Proof.Machine.execInstallPhaseDone hashOk s
  | .imageConfirm => Sys2Proof.Machine.execImageConfirm s
  | .trialExpire => Sys2Proof.Machine.execTrialExpire s
  | .safeHoldExpire => Sys2Proof.Machine.execSafeHoldExpire s
  | .carapaceBankStart selfTestOk => Sys2Proof.Machine.execCarapaceBankStart selfTestOk s
  | .diagPortCounters req firstPort count => Sys2Proof.Machine.execDiagPortCounters req firstPort count s
  | .diagWorkerCounters req ring hop => Sys2Proof.Machine.execDiagWorkerCounters req ring hop s
  | .diagRingRejoin req ring segment => Sys2Proof.Machine.execDiagRingRejoin req ring segment s
  | .diagLatchClear req ring hop => Sys2Proof.Machine.execDiagLatchClear req ring hop s
  | .diagOwForce req ring pin hop => Sys2Proof.Machine.execDiagOwForce req ring pin hop s
  | .diagRollCall req ring => Sys2Proof.Machine.execDiagRollCall req ring s
  | .diagRollCallRead req first count => Sys2Proof.Machine.execDiagRollCallRead req first count s
  | .diagIslandReset req island => Sys2Proof.Machine.execDiagIslandReset req island s
  | .diagModuleCounters req => Sys2Proof.Machine.execDiagModuleCounters req s
  | .pairStatus req => Sys2Proof.Machine.execPairStatus req s
  | .pairHandover req => Sys2Proof.Machine.execPairHandover req s
  | .pairPark req => Sys2Proof.Machine.execPairPark req s
  | .pairResync req => Sys2Proof.Machine.execPairResync req s
  | .timeStatus req => Sys2Proof.Machine.execTimeStatus req s
  | .timeSet req taiSeconds => Sys2Proof.Machine.execTimeSet req taiSeconds s
  | .carapaceSupplyLoss => Sys2Proof.Machine.execCarapaceSupplyLoss s
  | .safetyChannelClose input chan => Sys2Proof.Machine.execSafetyChannelClose input chan s
  | .canRxError ctl recAfter => Sys2Proof.Machine.execCanRxError ctl recAfter s
  | .canProtocolException ctl => Sys2Proof.Machine.execCanProtocolException ctl s
  | .dcpMalformedDatagram d => Sys2Proof.Machine.execDcpMalformedDatagram d s
  | .pairFrameCrcError lane => Sys2Proof.Machine.execPairFrameCrcError lane s

end Sys2Proof.Machine
end

