-- ==== Sys2Proof/Machine/Tick.lean ====
section
/-! DEFINITION. What a step does when no command waits (log 10): one millisecond of the local timescale passes, with what the
spec ties to time itself and no row of the table carries. -/

namespace Sys2Proof.Machine


/-- The running time of a trial (R434). -/
def UpdSt.ran (u : UpdSt) : UpdSt :=
  { u with trial := u.trial.map (fun t => { t with leftMs := t.leftMs - 1 }) }

/-- The field bus island's handover of received frames to the MGI: each receive object is read (R401). -/
def CanCtl.handed (x : CanCtl) : CanCtl :=
  { x with rx := x.rx.map (fun (o : Nat × CanRxSt) => (o.1, { o.2 with taken := true, lost := false })) }

/-- Pair frames that follow a clock: KEEPALIVE and, from a leader, TIME every 10 ms (Table 14-4). -/
def Module.pairClock (m : Module) : Module :=
  if m.isPair && m.up .pri && decide (m.ms % 10 = 0) && decide (m.dorm.phase ≠ .dormant) then
    let m := m.sendKeepalive
    if m.acts then m.emit (.pairTime m.time.offset) else m
  else m

/-- What a running module does in a millisecond. -/
def Module.runMs (m : Module) : Module :=
  let m : Module := { m with
    upd := m.upd.ran
    pre := m.pre.map PreCh.rested
    can := if m.up .mgi && m.up .fbi then { m.can with ctl := m.can.ctl.map CanCtl.handed } else m.can }
  let m : Module := if m.up .mgi then Module.ptpClock { m with time := m.time.pps } else m
  m.sleep.wakeLate.authReview.pairClock.chargeRound.impedanceRound.scarabRun

/-- One idle millisecond. A module without supply stands still. -/
def Module.idle (m : Module) : Module :=
  if m.sup.phase = .off then m
  else
    let m : Module := { m with time := TimeUnit.slewed { m.time with now := m.time.now + 1000000 } }
    if m.runs then m.runMs else m

/-- The idle step: the Carapace keeps its own samples and clocks, which are commands. -/
def idle (s : State) : State := { s with m := s.m.idle }

end Sys2Proof.Machine
end

