-- ==== Sys2Proof/Safety.lean ====
section
/-! DEFINITION. What counts as a safe run, in the terms the claims use. -/

namespace Sys2Proof

open Machine

/-- A bay's trip outputs obey R319: neither is energised while the bay holds a latched trip. -/
def CaraBay.safe (x : Machine.CaraBay) : Prop := x.causes ≠ [] → x.out0 = false ∧ x.out1 = false

/-- The Carapace obeys R319: it has its four bays, a bay with a latched trip has both outputs de-energised, and
no output is energised outside RUN (self-test, internal fault, no supply) or while the slot code is invalid. -/
def Carapace.safe (c : Machine.Carapace) : Prop :=
  c.bays.length = 4 ∧ (∀ x ∈ c.bays, CaraBay.safe x) ∧
  (c.state ≠ .run ∨ c.slotInvalid = true → ∀ x ∈ c.bays, x.out0 = false ∧ x.out1 = false)

/-- The rest of the machine after a command of the Carapace alone: the queue is as it was, and of the module only the
pawl's memory of the lock stop moves, once the lock stop is withdrawn (R52). -/
def CaraOnly (s t : State) : Prop :=
  t.pending = s.pending ∧
  t.m = { s.m with sup := { s.m.sup with lockSeen := s.m.sup.lockSeen || t.cara.lockStop } }

/-- The Carapace is as it was but for what it keeps of its bays. -/
def BaysOnly (c d : Machine.Carapace) : Prop := d = { c with bays := d.bays } ∧ d.bays.length = c.bays.length

/-- The Carapace is as it was but for what it keeps of its bays and for wired input `k`. -/
def CaraKeeps (c d : Machine.Carapace) (k : Nat) : Prop :=
  d = { c with bays := d.bays, inputs := d.inputs } ∧ d.bays.length = c.bays.length ∧
  d.inputs.length = c.inputs.length ∧ ∀ j, j ≠ k → d.inputs.getD j {} = c.inputs.getD j {}

/-- A bay after a trip (R333): both outputs are de-energised, the cause is latched behind the causes held before, and
nothing else of the bay moves. -/
def CaraBay.tripped (x : Machine.CaraBay) (cause : Nat) : Machine.CaraBay :=
  { x with causes := addTo x.causes cause, out0 := false, out1 := false }

/-- A bay after both tests of R323: a mean beyond its limit for five milliseconds trips it with `kd` or `kc`. -/
def CaraBay.exceeded (x : Machine.CaraBay) (dis chg : Bool) (kd kc : Nat) : Machine.CaraBay :=
  let y := if dis then CaraBay.tripped x kd else x
  if chg then CaraBay.tripped y kc else y

/-- A bay after what wired input `k` calls for (R325, R326): the input's own cause where it counts as open, CROSS-SHORT where
one stands. -/
def CaraBay.wired (x : Machine.CaraBay) (i : Machine.SafeIn) (k : Nat) : Machine.CaraBay :=
  let y := if i.isOpen then CaraBay.tripped x (inputCause k) else x
  if i.isCross then CaraBay.tripped y 11 else y

/-- What a reset of the CPI does to a bay: outputs off, samples and counts lost, latches kept (R333). -/
def CaraBay.resets (x : Machine.CaraBay) : Machine.CaraBay :=
  { x with out0 := false, out1 := false, dis := [], chg := [], nDis := 0, nChg := 0, okRun := 0, agreeRun := 0 }

/-- Bay `b` goes from `c` to `d` by a trip with a cause, and every other bay is as it was. -/
def TripsBay (c d : Machine.Carapace) (b cause : Nat) : Prop :=
  d.bay b = CaraBay.tripped (c.bay b) cause ∧ ∀ b', b' ≠ b → d.bay b' = c.bay b'

/-- Every bay but `b` is as it was. -/
def OtherBays (c d : Machine.Carapace) (b : Nat) : Prop := ∀ b', b' ≠ b → d.bay b' = c.bay b'

/-- Command `i` completes from `s` in `t`, and neither the queue nor the Carapace moves. -/
def Answers (i : Instr) (s t : State) : Prop :=
  exec i s = .next t ∧ t.pending = s.pending ∧ t.cara = s.cara

/-- Command `i` completes with `n` as the module. Where that is a start of the module, the Carapace reads the slot code too
(R44); else it is as it was. -/
def Boots (i : Instr) (s : State) (n : Module) : Prop :=
  exec i s = .next { s with
    m := n, cara := if n.sup.bootNo = s.m.sup.bootNo then s.cara else s.cara.readSlot n.sup.slot }

/-- What a handover point does last (R358 step 4): the outputs of a parking module that does not lead end. -/
def pointDone (m : Module) : Module :=
  if m.sup.parking ∧ m.leads = false ∧ m.sup.outputsOff = false then m.parkPoint else m

/-- A frame has left an end of a ring: the own port where the end is the module's own, the partner's end by request where it is
not (R106). -/
def LeftEnd (m : Module) (r : Nat) (south : Bool) (f : EndFrame) : Prop :=
  (∀ p, m.ownPort r south = some p → Out.ring p f ∈ m.outbox) ∧
  (m.ownPort r south = none → Out.pairEnd r f (m.departure f) ∈ m.outbox)

/-- Of the module only the alert map, the journal and what has been sent may differ: everything else, every
other register, counter, queue and table, is as it was. -/
def JournalOnly (m n : Module) : Prop := n = { m with al := n.al, jou := n.jou, outbox := n.outbox }

/-- Precharge channel `c` goes from `m` to `n`: every other channel, and all of the module but the channels and
the journalling, is as it was. -/
def PreKeeps (c : Nat) (m n : Module) : Prop :=
  n = { m with pre := n.pre, al := n.al, jou := n.jou, outbox := n.outbox } ∧ ∀ d, d ≠ c → n.pch d = m.pch d

/-- Switch channel `c` goes from `m` to `n`: every other channel, and all of the module but the channels and the
journalling, is as it was. -/
def SwKeeps (c : Nat) (m n : Module) : Prop :=
  n = { m with sw := { m.sw with chans := n.sw.chans }, al := n.al, jou := n.jou, outbox := n.outbox } ∧
  ∀ d, d ≠ c → n.swc d = m.swc d

/-- The outputs of a precharge channel are low (Table 11-3). -/
def PreCh.outputsLow (ch : Machine.PreCh) : Prop :=
  ch.preEn = false ∧ ch.pwm = List.replicate 4 (false, false) ∧ ch.active = [] ∧ ch.iSet = 0

/-- A session as it stands once a valid request has named its reply address (R362, R370). -/
def dcpSession (x : Session) (req : DcpReq) : Session := { x with port := req.port, src := req.src, replaces := none }

/-- The module once a valid request of session `x` is counted (R374) and its SEQUENCE accepted (R367 step 6): what the
command's own effect then starts from. -/
def dcpTaken (m : Module) (x : Session) (req : DcpReq) : Module :=
  (m.tallied.authReview.heard x req).modSession x.id (accept req.seq)

/-- A request passes every step of R367 before its command's own rules: DCP is served, fewer than 2,000 requests came in
this second (R374), the session is known, the trailer is right, the number is new and below the rekey limit, and privilege,
role, domain state and length fit. -/
def Served (m : Module) (x : Session) (req : DcpReq) (op len : Nat) : Prop :=
  m.dcpUp = true ∧ m.thisSecond < 2000 ∧ m.session? req.session = some x ∧ req.unauth = false ∧ req.macOk = true ∧
  (x.confirmed = true ∨ op = 0x0002) ∧ x.replaces = none ∧ m.waitingOf x.id < 16 ∧ isNew x req.seq = true ∧
  req.seq < 0x80000000 ∧ opPriv op ≤ x.privilege ∧ m.roleRejects op = false ∧ m.stateAccepts op = true ∧ req.len = len

/-- Command `i`, a request of session `x`, completes with `n` as the module and a reply of that session. -/
def Replies (i : Instr) (s : State) (x : Session) (req : DcpReq) (op : Nat) (n : Module) (status flags : Nat)
    (payload : List Byte) : Prop :=
  exec i s = .next { s with m := n.answer (dcpSession x req) req.seq op status flags payload }

/-- The commands through which the Carapace's own side of the module, the supply, the lever, the port detectors
or the time pulse act on the Carapace, the restarts of the module, at which it reads the slot code (R44), and the loader of
R449 (R337): every other command leaves it alone. -/
def reachesCarapace : Instr → Bool
  | .powerUp _ _ _ _ | .carapaceSupplyLoss | .leverLeaveLocked | .leverReachLocked
  | .carapaceSelfTestPass _ _ _ | .carapaceSample _ | .carapaceMeanTick | .bcsNoValid _ | .bcsDegradedExpire _
  | .bcsDiscrepancy _ | .bcsModeLinkChange _ _ | .toneLossTrip _ | .safetyChannelOpen _ _
  | .safetyChannelClose _ _ | .safetyDiscrepancy _ | .safetyTestPulse _ _ _ _ | .tripReqHigh
  | .tripOutputTest _ _ _ _ | .bankChange _ _ | .keyReset _ _ | .keyStuck | .keyReleaseStuck
  | .cpiInternalFault | .cpxFrameRx _ | .cpxLost | .carapaceBankStart _
  | .toneWindow _ _ _ _ _ | .portLinkDown _ | .timePulse _ _ | .islandReset _ _ | .restartDelayExpire | .handoverPoint
  | .leadTokenChange _ | .updateActTime | .updateActivate _ _ | .trialExpire => true
  | _ => false

end Sys2Proof
end

