-- ==== Sys2Proof/Certificates/Slice0/Obligations.lean ====
section
/-! DEFINITION. The statements for the provers. -/

open Sys2Proof

/-- One step takes the command in front of the queue and runs it on the state with the queue's rest. -/
def Obligations.StepRunsFrontCommand : Prop :=
  ∀ (i : Instr) (rest : List Instr) (s : Machine.State), s.pending = i :: rest →
    Machine.step s = Machine.exec i { s with pending := rest }

/-- Every command completes in every state: no command faults, none is refused, and none touches the queue of those
that wait. -/
def Obligations.EveryCommandAnswers : Prop :=
  ∀ (i : Instr) (s : Machine.State), ∃ t, Machine.exec i s = .next t ∧ t.pending = s.pending

/-- On an empty queue a step only lets a millisecond of the local timescale pass for a module with supply (R75;
the model's choice, log 10): the queue stays empty, the Carapace is as it was, and a module without supply stands
still. -/
def Obligations.EmptyQueueIdles : Prop :=
  ∀ s : Machine.State, s.pending = [] → ∃ t, Machine.step s = .next t ∧ t.pending = [] ∧ t.cara = s.cara ∧
    (s.m.sup.phase = .off → t = s) ∧
    (s.m.sup.phase = .weevil → t.m = { s.m with time := t.m.time } ∧ t.m.time.now = s.m.time.now + 1000000)

/-- What the spec says of the machine without supply: factory switch bank (R330), no value in force, tones as
before any window, time UNSET (R83), role NONE (R339), no session, no set, and an empty queue. The other reset
values are the model's (log 20) and are not stated here. -/
def Obligations.ResetStands : Prop :=
  Machine.State.reset.pending = [] ∧
  Machine.State.reset.cara.bank = List.replicate 8 0 ∧ Machine.State.reset.cara.bankTl = 1 ∧
  Machine.State.reset.cara.own = none ∧
  (∀ b, b < 4 → (Machine.State.reset.cara.bay b).out0 = false ∧ (Machine.State.reset.cara.bay b).out1 = false) ∧
  Machine.State.reset.m.sup.phase = .off ∧ Machine.State.reset.m.time.state = .unset ∧
  Machine.State.reset.m.plant = 0 ∧ Machine.State.reset.m.pair.role = .none_ ∧
  Machine.State.reset.m.dcp.sessions = [] ∧ Machine.State.reset.m.jou.stored = [] ∧
  Machine.State.reset.m.sets.active.state = 0 ∧
  (∀ c, c < 4 → (Machine.State.reset.m.pch c).state = 0 ∧ (Machine.State.reset.m.pch c).preEn = false)
/-- R319 holds right after reset. -/
def Obligations.CarapaceSafeAtReset : Prop := Carapace.safe Machine.State.reset.cara

/-- R319 is kept by every step: neither output of a bay is energised while it holds a latched trip, nor in
self-test, after an internal fault, without supply, or while the slot code is invalid. -/
def Obligations.CarapaceSafeKeptByStep : Prop :=
  ∀ s t : Machine.State, Carapace.safe s.cara → Machine.step s = .next t → Carapace.safe t.cara

/-- R337: every command but those of the Carapace's own side, the supply, the lever, the port detectors, the
time pulse and the loader completes as a function of the rest of the module alone: it neither changes the Carapace
nor the queue. -/
def Obligations.ModuleCommandsLeaveCarapace : Prop :=
  ∀ i : Instr, reachesCarapace i = false → ∀ s : Machine.State, ∃ t,
    Machine.exec i s = .next t ∧ t.cara = s.cara ∧ t.pending = s.pending

/-- R337: a command that does not read a report of the Carapace does the same to the rest of the module whatever
the Carapace holds. -/
def Obligations.ModuleIgnoresCarapace : Prop :=
  ∀ i : Instr, reachesCarapace i = false → i ≠ .carapaceReportRx → ∀ (s : Machine.State) (c : Machine.Carapace) t u,
    Machine.exec i s = .next t → Machine.exec i { s with cara := c } = .next u → u.m = t.m

/-- R322, R324 to R327: no valid channel, a day of degradation, a port SILENT beyond T_TL and TRIP_REQ each latch
their cause on the bay, or on all bays, and de-energise both its outputs; no other bay changes. An open channel, a
discrepancy and a cross-short trip every bay for the E-stop and bay k for SI_k, with their own causes; a test pulse that
finds no cross-short, and an input that closes, trip nothing by themselves. Nothing else of the machine moves. -/
def Obligations.CarapaceTripsLatch : Prop :=
  (∀ s : Machine.State, s.cara.state = .run → s.cara.bays.length = 4 →
    (∀ b, b < 4 → (s.cara.bay b).chA.valid = false → (s.cara.bay b).chB.valid = false →
      ∃ t, Machine.exec (.bcsNoValid b) s = .next t ∧ CaraOnly s t ∧ BaysOnly s.cara t.cara ∧
        t.cara.bay b = CaraBay.tripped (s.cara.bay b) 8 ∧ OtherBays s.cara t.cara b) ∧
    (∀ b, b < 4 → (s.cara.bay b).degraded = true →
      ∃ t, Machine.exec (.bcsDegradedExpire b) s = .next t ∧ CaraOnly s t ∧ BaysOnly s.cara t.cara ∧
        t.cara.bay b = { CaraBay.tripped (s.cara.bay b) 8 with bcs24h := true } ∧ OtherBays s.cara t.cara b) ∧
    (∀ p, p < 32 → s.cara.tones.getD p .dead = .silent → s.cara.vals.tl ≠ 0 →
      ∃ t, Machine.exec (.toneLossTrip p) s = .next t ∧ CaraOnly s t ∧ BaysOnly s.cara t.cara ∧
        TripsBay s.cara t.cara (p / 8) 4) ∧
    (∀ p, s.cara.vals.tl = 0 → Machine.exec (.toneLossTrip p) s = .next s) ∧
    (s.m.ver.tripReq = true →
      ∃ t, Machine.exec .tripReqHigh s = .next t ∧ CaraOnly s t ∧ BaysOnly { s.cara with tripReq := true } t.cara ∧
        ∀ b, b < 4 → t.cara.bay b = CaraBay.tripped (s.cara.bay b) 7) ∧
    (s.m.ver.tripReq = false → Machine.exec .tripReqHigh s = .next s)) ∧
  (∀ s : Machine.State, s.cara.state = .run → s.cara.bays.length = 4 → s.cara.inputs.length = 5 → ∀ k, k < 5 →
    (∀ chan, ∃ t, Machine.exec (.safetyChannelOpen k chan) s = .next t ∧ CaraOnly s t ∧ CaraKeeps s.cara t.cara k ∧
      (let i := s.cara.inputs.getD k {}
       t.cara.inputs.getD k {} = { i with
        open1 := i.open1 || decide (chan = 0), open2 := i.open2 || decide (chan ≠ 0)
        bothSeen := i.bothSeen || ((i.open1 || decide (chan = 0)) && (i.open2 || decide (chan ≠ 0))) }) ∧
      (t.cara.inputs.getD k {}).isOpen = true ∧
      ∀ b, t.cara.bay b = if b ∈ Machine.inputBays k then
        CaraBay.wired (s.cara.bay b) (t.cara.inputs.getD k {}) k else s.cara.bay b) ∧
    ((s.cara.inputs.getD k {}).open1 ≠ (s.cara.inputs.getD k {}).open2 →
      ∃ t, Machine.exec (.safetyDiscrepancy k) s = .next t ∧ CaraOnly s t ∧ CaraKeeps s.cara t.cara k ∧
        t.cara.inputs.getD k {} = { s.cara.inputs.getD k {} with disc := true, bothSeen := false } ∧
        ∀ b, t.cara.bay b = if b ∈ Machine.inputBays k then
          CaraBay.wired (s.cara.bay b) (t.cara.inputs.getD k {}) k else s.cara.bay b) ∧
    ((s.cara.inputs.getD k {}).open1 = (s.cara.inputs.getD k {}).open2 →
      Machine.exec (.safetyDiscrepancy k) s = .next s) ∧
    (∀ out seen low, ∃ t, Machine.exec (.safetyTestPulse k out seen low) s = .next t ∧ CaraOnly s t ∧
      CaraKeeps s.cara t.cara k ∧
      (let i := s.cara.inputs.getD k {}
       t.cara.inputs.getD k {} =
        if out = 0 then { i with ossd1 := low && !i.open1, cross1 := seen && !(low && !i.open1) }
        else { i with ossd2 := low && !i.open2, cross2 := seen && !(low && !i.open2) }) ∧
      (seen = true → low = false → (t.cara.inputs.getD k {}).isCross = true) ∧
      ∀ b, t.cara.bay b = if b ∈ Machine.inputBays k then
        CaraBay.wired (s.cara.bay b) (t.cara.inputs.getD k {}) k else s.cara.bay b) ∧
    (∀ chan, ∃ t, Machine.exec (.safetyChannelClose k chan) s = .next t ∧ CaraOnly s t ∧ CaraKeeps s.cara t.cara k ∧
      t.cara.bays = s.cara.bays ∧
      (let i := s.cara.inputs.getD k {}
       let open1 := i.open1 && decide (chan ≠ 0)
       let open2 := i.open2 && decide (chan = 0)
       let clears := !open1 && !open2 && i.bothSeen
       t.cara.inputs.getD k {} = { i with
        open1 := open1, open2 := open2, disc := i.disc && !clears, bothSeen := i.bothSeen && !clears })))

/-- R320 to R322: the self-test finds the mode of each input from its link, and a link that changes afterwards faults
its input until the next self-test (R321); a sample is converted by the scale of its mode (Table 13-2) and kept as the
newest current of a channel that is in range and not faulted, and I_DIS and I_CHG are taken from the valid channels, both
at their maximum, and one of them marks the bay degraded; BCS_DISCREPANCY is reported without a trip. -/
def Obligations.BayCurrentChannels : Prop :=
  ∀ s : Machine.State, s.cara.bays.length = 4 →
    (∀ raw, s.cara.state = .run →
      ∃ t, Machine.exec (.carapaceSample raw) s = .next t ∧ CaraOnly s t ∧ BaysOnly s.cara t.cara ∧
        ∀ b, b < 4 → t.cara.bay b = (s.cara.bay b).take (raw.getD (2 * b) 0) (raw.getD (2 * b + 1) 0)) ∧
    (∀ (x : Machine.CaraBay) (p q : Int), ∃ y, x.take p q = y ∧ y.chA = x.chA.take p ∧ y.chB = x.chB.take q ∧
      y.causes = x.causes ∧ y.out0 = x.out0 ∧ y.out1 = x.out1 ∧
      (y.chA.valid = true → y.chB.valid = true → y.dis = (max (-y.chA.cur) (-y.chB.cur) :: x.dis).take 10 ∧
        y.chg = (max y.chA.cur y.chB.cur :: x.chg).take 10 ∧ y.okRun = x.okRun + 1) ∧
      (y.chA.valid = true → y.chB.valid = false → y.degraded = true ∧ y.okRun = 0 ∧
        y.dis = (-y.chA.cur :: x.dis).take 10 ∧ y.chg = (y.chA.cur :: x.chg).take 10) ∧
      (y.chA.valid = false → y.chB.valid = true → y.degraded = true ∧ y.okRun = 0 ∧
        y.dis = (-y.chB.cur :: x.dis).take 10 ∧ y.chg = (y.chB.cur :: x.chg).take 10) ∧
      (y.chA.valid = false → y.chB.valid = false → y.dis = [] ∧ y.chg = [] ∧ y.nDis = 0 ∧ y.nChg = 0)) ∧
    (∀ (ch : Machine.BcsChan) raw, ch.linked = false → ch.faulted = false →
      -11000000 ≤ raw → raw ≤ 11000000 → (ch.take raw).valid = true ∧ (ch.take raw).cur = raw * 5) ∧
    (∀ (ch : Machine.BcsChan) raw, ch.linked = true → ch.faulted = false → 3600000 ≤ raw → raw ≤ 21000000 →
      (ch.take raw).valid = true ∧ (ch.take raw).cur = (raw - 12000000) * 25 / 4) ∧
    (∀ (ch : Machine.BcsChan) raw, (ch.faulted = true → (ch.take raw).valid = false) ∧
      (ch.take raw).faulted = ch.faulted ∧ (ch.take raw).linked = ch.linked) ∧
    (∀ links bank tl, s.cara.state = .selfTest → ∃ t, Machine.exec (.carapaceSelfTestPass links bank tl) s = .next t ∧
      CaraOnly s t ∧ ∀ b, b < 4 →
        (t.cara.bay b).chA.linked = links.getD (2 * b) false ∧ (t.cara.bay b).chA.faulted = false ∧
        (t.cara.bay b).chB.linked = links.getD (2 * b + 1) false ∧ (t.cara.bay b).chB.faulted = false) ∧
    (∀ b chan, s.cara.state = .run → b < 4 →
      ∃ t, Machine.exec (.bcsModeLinkChange b chan) s = .next t ∧ CaraOnly s t ∧ BaysOnly s.cara t.cara ∧
        OtherBays s.cara t.cara b ∧
        t.cara.bay b =
          (if chan = 0 then
            { s.cara.bay b with chA := { (s.cara.bay b).chA with faulted := true, valid := false } }
          else { s.cara.bay b with chB := { (s.cara.bay b).chB with faulted := true, valid := false } })) ∧
    (∀ b, b < 4 → (s.cara.bay b).chA.valid = true → (s.cara.bay b).chB.valid = true →
      1000000 < ((s.cara.bay b).chA.cur - (s.cara.bay b).chB.cur).natAbs →
      ∃ t, Machine.exec (.bcsDiscrepancy b) s = .next t ∧ CaraOnly s t ∧ BaysOnly s.cara t.cara ∧
        OtherBays s.cara t.cara b ∧
        t.cara.bay b = { s.cara.bay b with discrepancy := true, agreeRun := 0 })

/-- R323: each millisecond a bay whose mean exceeds the limit in force counts on, and trips at the fifth in a row
with the cause of its direction, or DIRECTION where that direction is not permitted; R332: a CPX frame goes out. -/
def Obligations.MeanTickTripsAtFifth : Prop :=
  ∀ s : Machine.State, s.cara.state = .run → s.cara.bays.length = 4 →
    ∃ t, Machine.exec .carapaceMeanTick s = .next t ∧ CaraOnly s t ∧
      t.cara = { s.cara with
        bays := t.cara.bays, seq := (s.cara.seq + 1) % 65536
        sent := some {
          vals := s.cara.own.getD s.cara.bankVals, trips := t.cara.bays.map (fun x => decide (x.causes ≠ []))
          leverLocked := s.cara.locked, schedule := if s.cara.slotB then 1000 else 0
          seq := (s.cara.seq + 1) % 65536 } } ∧
      ∀ b, b < 4 →
        (let x := s.cara.bay b
         let nDis := if Machine.meanAbove x.dis (s.cara.limit b 0) then x.nDis + 1 else 0
         let nChg := if Machine.meanAbove x.chg (s.cara.limit b 1) then x.nChg + 1 else 0
         t.cara.bay b = CaraBay.exceeded { x with nDis := nDis, nChg := nChg } (decide (5 ≤ nDis)) (decide (5 ≤ nChg))
          (if s.cara.vals.codes.getD (2 * b) 0 = 0 then 3 else 1)
          (if s.cara.vals.codes.getD (2 * b + 1) 0 = 0 then 3 else 2)) ∧
        (∀ d, d < 2 → s.cara.limit b d = Machine.codeLimit (s.cara.vals.codes.getD (2 * b + d) 0) ∧
          (s.cara.vals.codes.getD (2 * b + d) 0 = 0 → s.cara.limit b d = 500000)) ∧
        ∀ (l : List Int) lim, l.length = 10 → (Machine.meanAbove l lim = true ↔ 10 * lim < Machine.sumI l)

/-- R331, R332, R334: a moved bank leaves the values in force and latches SEAL_CHANGED; a key reset adopts the bank
as it reads, clears SEAL_CHANGED and every latched trip whose cause is no longer present, trips a bay whose current exceeds
an adopted limit, and energises every bay that holds no trip; a CPX frame gives the partner's values, of which the lower
code of every field and the shorter enabled T_TL apply; CPX_LOST keeps the combined values; KEY_STUCK blocks the reset. -/
def Obligations.BankKeyAndCpx : Prop :=
  ∀ s : Machine.State, s.cara.state = .run →
    (∀ bank tl, ∃ t, Machine.exec (.bankChange bank tl) s = .next t ∧ t.pending = s.pending ∧
      t.m = { s.m with sup := { s.m.sup with coverOff := true } } ∧
      t.cara = { s.cara with bank := Machine.bankCodes bank, bankTl := tl % 4, sealChanged := t.cara.sealChanged } ∧
      t.cara.vals = (if s.cara.own = none then t.cara.vals else s.cara.vals) ∧
      (t.cara.sealChanged = true ↔ s.cara.sealChanged = true ∨
        ∃ v, s.cara.own = some v ∧ v ≠ { codes := Machine.bankCodes bank, tl := tl % 4 })) ∧
    (∀ bank tl, s.cara.keyStuck = false → s.cara.bays.length = 4 →
      ∃ t, Machine.exec (.keyReset bank tl) s = .next t ∧ t.pending = s.pending ∧
        t.m = { s.m with sup := { s.m.sup with
          coverOff := false, lockSeen := s.m.sup.lockSeen || t.cara.lockStop } } ∧
        t.cara = { s.cara with
          bank := Machine.bankCodes bank, bankTl := tl % 4
          own := some { codes := Machine.bankCodes bank, tl := tl % 4 }, sealChanged := false
          partner := if s.cara.cpxLost then none else s.cara.partner, tripReq := s.m.ver.tripReq
          bays := t.cara.bays } ∧
        ∀ b, b < 4 →
          (let c := { t.cara with bays := s.cara.bays }
           let left := (s.cara.bay b).causes.filter (fun k => c.present s.m.ver.tripReq b k)
           t.cara.bay b = CaraBay.exceeded
            { s.cara.bay b with
              causes := left, bcs24h := (s.cara.bay b).bcs24h && decide (8 ∈ left), dead0 := false, dead1 := false
              out0 := decide (s.cara.slotInvalid = false ∧ left = [])
              out1 := decide (s.cara.slotInvalid = false ∧ left = []) }
            (Machine.meanAbove (s.cara.bay b).dis (c.limit b 0)) (Machine.meanAbove (s.cara.bay b).chg (c.limit b 1))
            (if c.vals.codes.getD (2 * b) 0 = 0 then 3 else 1)
            (if c.vals.codes.getD (2 * b + 1) 0 = 0 then 3 else 2))) ∧
    (∀ bank tl, s.cara.keyStuck = true → Machine.exec (.keyReset bank tl) s = .next s) ∧
    (∃ t, Machine.exec .keyStuck s = .next t ∧ CaraOnly s t ∧ t.cara = { s.cara with keyStuck := true }) ∧
    (∃ t, Machine.exec .keyReleaseStuck s = .next t ∧ CaraOnly s t ∧ t.cara = { s.cara with keyStuck := false }) ∧
    (∀ f, ∃ t, Machine.exec (.cpxFrameRx f) s = .next t ∧ CaraOnly s t ∧
      t.cara = { s.cara with
        partner := some f.vals, partnerTrips := f.trips, partnerLocked := f.leverLocked, partnerSeq := f.seq % 65536
        partnerSched := f.schedule, cpxLost := false } ∧
      ∀ v, s.cara.own = some v →
        t.cara.vals = { codes := List.zipWith min v.codes f.vals.codes, tl := Machine.shorterTl v.tl f.vals.tl }) ∧
    (∃ t, Machine.exec .cpxLost s = .next t ∧ CaraOnly s t ∧ t.cara = { s.cara with cpxLost := true } ∧
      t.cara.vals = s.cara.vals)

/-- R46, R321, R328, R331, R333, R335, R449: a passed self-test finds the modes, adopts the bank where the memory is blank,
and energises both outputs of a bay exactly where no trip is latched, the slot code is valid and no wired input calls for a
trip; an input that stands open trips its bays. A failed output test, an internal fault, a loss of supply and the start of a
new Carapace bank de-energise outputs; the fault and the bank start latch CPI_FAULT for every bay, and no latched cause and
no value in force is lost. A new bank that starts is the bank in use, and one that fails its self-test three times is left
for the old one. -/
def Obligations.CarapaceEnergisesAndDeenergises : Prop :=
  (∀ (s : Machine.State) (links : List Bool) (bank tl : Nat), s.cara.state = .selfTest → s.cara.bays.length = 4 →
    ∃ t, Machine.exec (.carapaceSelfTestPass links bank tl) s = .next t ∧ CaraOnly s t ∧
      t.cara = { s.cara with
        state := .run, bank := Machine.bankCodes bank, bankTl := tl % 4, bankFails := 0
        own := some (s.cara.own.getD { codes := Machine.bankCodes bank, tl := tl % 4 })
        sealChanged := t.cara.sealChanged, bays := t.cara.bays } ∧
      (t.cara.sealChanged = true ↔ s.cara.sealChanged = true ∨
        ∃ v, s.cara.own = some v ∧ v ≠ { codes := Machine.bankCodes bank, tl := tl % 4 }) ∧
      (∀ b, b < 4 → ∃ y, y = { s.cara.bay b with
          chA := { (s.cara.bay b).chA with linked := links.getD (2 * b) false, faulted := false }
          chB := { (s.cara.bay b).chB with linked := links.getD (2 * b + 1) false, faulted := false }
          out0 := decide (s.cara.slotInvalid = false ∧ (s.cara.bay b).causes = [])
          out1 := decide (s.cara.slotInvalid = false ∧ (s.cara.bay b).causes = []) } ∧
        t.cara.bay b = { y with
          causes := (t.cara.bay b).causes, out0 := (t.cara.bay b).out0, out1 := (t.cara.bay b).out1 } ∧
        ((∀ i ∈ s.cara.inputs, i.isOpen = false ∧ i.isCross = false) → t.cara.bay b = y) ∧
        ∀ k, k < 5 → (s.cara.inputs.getD k {}).isOpen = true → b ∈ Machine.inputBays k →
          Machine.inputCause k ∈ (t.cara.bay b).causes ∧ (t.cara.bay b).out0 = false ∧ (t.cara.bay b).out1 = false)) ∧
  (∀ s : Machine.State, s.cara.bays.length = 4 →
    (∀ b out opens conducts, s.cara.state = .run → b < 4 →
      (if out = 0 then (s.cara.bay b).out0 else (s.cara.bay b).out1) = true →
      ∃ t, Machine.exec (.tripOutputTest b out opens conducts) s = .next t ∧ CaraOnly s t ∧
        BaysOnly { s.cara with tested := (s.cara.tested + 1) % 8 } t.cara ∧ OtherBays s.cara t.cara b ∧
        (opens = true → conducts = true → t.cara.bay b = s.cara.bay b) ∧
        (opens = false ∨ conducts = false → t.cara.bay b = CaraBay.tripped
          (if out = 0 then { s.cara.bay b with
            stuck0 := (s.cara.bay b).stuck0 || !opens, dead0 := (s.cara.bay b).dead0 || !conducts }
          else { s.cara.bay b with
            stuck1 := (s.cara.bay b).stuck1 || !opens, dead1 := (s.cara.bay b).dead1 || !conducts }) 10)) ∧
    (s.cara.state ≠ .off →
      ∃ t, Machine.exec .cpiInternalFault s = .next t ∧ CaraOnly s t ∧
        BaysOnly { s.cara with state := .selfTest, epoch := (s.cara.epoch + 1) % 256 } t.cara ∧
        ∀ b, b < 4 → t.cara.bay b = CaraBay.tripped (CaraBay.resets (s.cara.bay b)) 9) ∧
    (∃ t, Machine.exec .carapaceSupplyLoss s = .next t ∧ CaraOnly s t ∧ t.cara.permit = false ∧
      BaysOnly { s.cara with
        state := .off, keyStuck := false, cpxLost := false
        partnerTrips := List.replicate 4 false, tripReq := false } t.cara ∧
      ∀ b, b < 4 → t.cara.bay b = CaraBay.resets (s.cara.bay b)) ∧
    (∀ ok, s.m.upd.carapace = true → s.cara.state ≠ .off →
      ∃ t, Machine.exec (.carapaceBankStart ok) s = .next t ∧ t.pending = s.pending ∧
        BaysOnly { s.cara with
          state := .selfTest, epoch := (s.cara.epoch + 1) % 256, cpiBank := t.cara.cpiBank
          bankFails := t.cara.bankFails } t.cara ∧
        (∀ b, b < 4 → t.cara.bay b = CaraBay.tripped (CaraBay.resets (s.cara.bay b)) 9) ∧
        t.m = { s.m with upd := t.m.upd } ∧
        (s.cara.bankFails = 0 → t.cara.cpiBank = (s.cara.cpiBank + 1) % 2) ∧
        (ok = true → t.cara.bankFails = 0 ∧ (s.cara.bankFails ≠ 0 → t.cara.cpiBank = s.cara.cpiBank) ∧
          t.m.upd = { s.m.upd with
            carapace := false, caraFloor := max s.m.upd.caraFloor (s.m.upd.staging.getD {}).rollback
            caraVersion := (s.m.upd.staging.getD {}).version }) ∧
        (ok = false → s.cara.bankFails < 2 → t.cara.bankFails = s.cara.bankFails + 1 ∧ t.m = s.m) ∧
        (ok = false → s.cara.bankFails = 2 → t.cara.bankFails = 0 ∧ t.cara.cpiBank = (s.cara.cpiBank + 1) % 2 ∧
          t.m.upd = { s.m.upd with carapace := false })))

/-- R336: a running module keeps the newest report of its Carapace as the report stands, the conditions it carries follow its
flags, and TRIP and TRIP_RESET follow the trip it puts in force; a Carapace without supply reports nothing. -/
def Obligations.ReportIsCarapaceRecord : Prop :=
  (∀ c : Machine.Carapace, c.report.state = Machine.cpiCode c.state ∧
    c.report.causes = c.bays.map (fun x => x.causes.headD 0) ∧
    c.report.toneLoss = c.vals.tl + 4 * c.bankTl ∧
    c.report.limDis = (List.range 4).map (fun b => -(c.limit b 0)) ∧
    c.report.limChg = (List.range 4).map (fun b => c.limit b 1) ∧
    (c.report.bank = Machine.bankWord c.bank) ∧ c.report.tReport = c.pulse) ∧
  (∀ s : Machine.State,
    (s.cara.state ≠ .off → s.m.runs = true → ∃ k : Machine.Module, k = { s.m with rep := s.cara.report } ∧
      Machine.exec .carapaceReportRx s = .next { s with m := k.reportConds.tripEvents.scarabRun }) ∧
    (s.cara.state = .off ∨ s.m.runs = false → Machine.exec .carapaceReportRx s = .next s)) ∧
  (∀ m : Machine.Module, JournalOnly m m.reportConds ∧
    m.reportConds.holds Machine.cSealChanged Machine.scModule 0 = Machine.bitAt m.rep.flags 0 ∧
    m.reportConds.holds Machine.cSealMismatch Machine.scModule 0 = Machine.bitAt m.rep.flags 1 ∧
    m.reportConds.holds Machine.cCpxLost Machine.scModule 0 = Machine.bitAt m.rep.flags 2 ∧
    m.reportConds.holds Machine.cKeyStuck Machine.scModule 0 = Machine.bitAt m.rep.flags 3 ∧
    ∀ b, b < 4 →
      m.reportConds.holds Machine.cBcsDegraded Machine.scBay b = m.rep.degraded.getD b false ∧
      m.reportConds.holds Machine.cBcsDiscrepancy Machine.scBay b = m.rep.discrepancy.getD b false)

/-- R283, R286, R287, R291: a START accepted with the channel OFF and no retry delay left begins a run with PRE_EN
high, in PROBE at the floor current below V_PROBE and in RAMP from it, with MIN_PHASES phases; in RETRY_WAIT and PROBE it
takes the new V_TARGET, in RAMP and HOLD it goes on in the segment that V_OUT gives; a refused START is only answered and
journalled; a STOP puts every state but LOCKOUT to OFF with the outputs low; the end of the retry delay begins the
standing START's run. -/
def Obligations.PrechargeRunBegins : Prop :=
  (∀ (s : Machine.State) (c v : Nat), c < s.m.pre.length → s.m.up .pwi = true → s.m.leads = true →
    (s.m.preRefusal c v ≠ 0 → ∃ t, Answers (.prechargeStart c v) s t ∧ JournalOnly (s.m.preAnswer c false) t.m) ∧
    (s.m.preRefusal c v = 0 → (s.m.pch c).state = 0 → s.m.preRetryLeft c = 0 →
      ∃ t, Answers (.prechargeStart c v) s t ∧ PreKeeps c s.m t.m ∧
        (t.m.pch c).state = Machine.preSegment (s.m.preCfg c) v (s.m.pch c).vOut ∧
        (t.m.pch c).vTarget = v ∧ (t.m.pch c).preEn = true ∧ (t.m.pch c).stands = true ∧ (t.m.pch c).done = false ∧
        (t.m.pch c).probeAt = s.m.time.now ∧ (t.m.pch c).pwm = List.replicate 4 (false, false) ∧
        (t.m.pch c).answer = some true ∧ (t.m.pch c).shortCount = (s.m.pch c).shortCount ∧
        (t.m.pch c).active = if (s.m.preCfg c).shedEn then
          (List.range (s.m.preCfg c).phases).take (s.m.preCfg c).minPhases else List.range (s.m.preCfg c).phases) ∧
    (s.m.preRefusal c v = 0 → (s.m.pch c).state = 0 → 0 < s.m.preRetryLeft c →
      ∃ t, Answers (.prechargeStart c v) s t ∧ PreKeeps c s.m t.m ∧
        t.m.pch c = { s.m.pch c with
          state := 4, vTarget := v, stands := true, done := false, disabled := [], answer := some true
          stored := (t.m.pch c).stored }) ∧
    (s.m.preRefusal c v = 0 → (s.m.pch c).state = 1 ∨ (s.m.pch c).state = 4 →
      ∃ t, Answers (.prechargeStart c v) s t ∧ PreKeeps c s.m t.m ∧
        t.m.pch c = { s.m.pch c with
          vTarget := v, stands := true, done := false, disabled := [], answer := some true
          stored := (t.m.pch c).stored }) ∧
    (s.m.preRefusal c v = 0 → (s.m.pch c).state = 2 ∨ (s.m.pch c).state = 3 →
      ∃ t, Answers (.prechargeStart c v) s t ∧ PreKeeps c s.m t.m ∧
        t.m.pch c = { s.m.pch c with
          state := Machine.preSegment (s.m.preCfg c) v (s.m.pch c).vOut, probeAt := s.m.time.now
          vTarget := v, stands := true, done := false, disabled := [], answer := some true
          stored := (t.m.pch c).stored }) ∧
    (∃ t, Answers (.prechargeStop c) s t ∧ PreKeeps c s.m t.m ∧ (t.m.pch c).stands = false ∧
      (t.m.pch c).answer = some true ∧
      ((s.m.pch c).state = 6 → t.m.pch c = { s.m.pch c with
        stands := false, answer := some true, stored := (t.m.pch c).stored }) ∧
      ((s.m.pch c).state ≠ 6 → (t.m.pch c).state = 0 ∧ (t.m.pch c).done = false ∧ PreCh.outputsLow (t.m.pch c))) ∧
    ((s.m.pch c).state = 4 → (s.m.pch c).stands = true → s.m.preUsed c = true →
      Machine.exec (.retryDelayExpire c) s = .next { s with m := s.m.preBegin c }) ∧
    ((s.m.pch c).state = 4 → (s.m.pch c).stands = false → ∃ t, Answers (.retryDelayExpire c) s t ∧
      PreKeeps c s.m t.m ∧ t.m.pch c = { s.m.pch c with state := 0, stored := (t.m.pch c).stored })) ∧
  (∀ (m : Machine.Module) (c : Nat), c < m.pre.length → PreKeeps c m (m.preBegin c) ∧
    ((m.preBegin c).pch c).preEn = true ∧ ((m.preBegin c).pch c).vTarget = (m.pch c).vTarget ∧
    ((m.preBegin c).pch c).disabled = [] ∧ ((m.preBegin c).pch c).shortCount = (m.pch c).shortCount ∧
    ((m.preBegin c).pch c).pwm = List.replicate 4 (false, false) ∧
    (100 * (m.pch c).vOut < (((m.preCfg c).probePct * (m.pch c).vTarget : Nat) : Int) →
      ((m.preBegin c).pch c).state = 1 ∧ ((m.preBegin c).pch c).iSet = Machine.preFloor (m.preCfg c)) ∧
    ((((m.preCfg c).probePct * (m.pch c).vTarget : Nat) : Int) ≤ 100 * (m.pch c).vOut →
      ((m.preBegin c).pch c).state = 2 ∧ ((m.preBegin c).pch c).iSet = 0))

/-- R284, R286, R288, R290: the verdict of PROBE is SHORT at T_PROBE while the set current still equals the floor, and at
ten times T_PROBE in any case; a driver's fault and a low source are faults 4 and 6, and the sixteenth crossing of I_FAST
within 1 ms is a SHORT; a fault puts the outputs low; a SHORT counts and goes to RETRY_WAIT, or to LOCKOUT once the count
passes RETRY_MAX; another fault goes to FAULT; a SHORT found with a driver's fault is taken back. -/
def Obligations.PrechargeFaultsStop : Prop :=
  ∀ (s : Machine.State) (c : Nat), c < s.m.pre.length → s.m.up .pwi = true →
    (∀ f, PreKeeps c s.m (s.m.preFault c f) ∧ PreCh.outputsLow ((s.m.preFault c f).pch c) ∧
      ((s.m.preFault c f).pch c).fault = f ∧ ((s.m.preFault c f).pch c).done = false ∧
      (s.m.preFault c f).holds Machine.cPrechargeFault Machine.scPrecharge c = true ∧
      (f ≠ 1 → ((s.m.preFault c f).pch c).state = (if (s.m.pch c).state = 6 then 6 else 5) ∧
        ((s.m.preFault c f).pch c).shortCount = (s.m.pch c).shortCount)) ∧
    (((s.m.preFault c 1).pch c).shortCount = Machine.u8 ((s.m.pch c).shortCount + 1) ∧
      ((s.m.preFault c 1).pch c).state = (if (s.m.pch c).state = 6 ∨
        (s.m.preCfg c).retryMax < Machine.u8 ((s.m.pch c).shortCount + 1) then 6 else 4) ∧
      ((s.m.preFault c 1).pch c).lastShort = some s.m.time.now) ∧
    ((s.m.pch c).state = 1 → (s.m.pch c).preEn = true →
      ((s.m.pch c).iSet = Machine.preFloor (s.m.preCfg c) →
        Machine.exec (.probeTimeout c (s.m.preCfg c).tProbe) s = .next { s with m := s.m.preFault c 1 }) ∧
      (∀ ms, 10 * (s.m.preCfg c).tProbe ≤ ms →
        Machine.exec (.probeTimeout c ms) s = .next { s with m := s.m.preFault c 1 }) ∧
      (∀ ms, ms < 10 * (s.m.preCfg c).tProbe →
        ms ≠ (s.m.preCfg c).tProbe ∨ (s.m.pch c).iSet ≠ Machine.preFloor (s.m.preCfg c) →
        Machine.exec (.probeTimeout c ms) s = .next s)) ∧
    (s.m.leads = true → Machine.exec (.driverFault c false) s = .next { s with m := s.m.preFault c 4 } ∧
      ∃ t, Answers (.driverFault c true) s t ∧ PreKeeps c s.m t.m ∧ PreCh.outputsLow (t.m.pch c) ∧
        (t.m.pch c).fault = 4 ∧
        ∀ st n l p, (s.m.pch c).before = some (st, n, l, p) → (s.m.pch c).fault = 1 →
          (t.m.pch c).shortCount = n ∧ (t.m.pch c).lastShort = l ∧ (t.m.pch c).state = if st = 6 then 6 else 5) ∧
    ((s.m.pch c).driven = true → Machine.exec (.srcLow c) s = .next { s with m := s.m.preFault c 6 }) ∧
    (s.m.leads = true → ∀ h, ∃ t, Answers (.fastLimit c h) s t ∧ PreKeeps c s.m t.m ∧
      (t.m.pch c).fastCount = Machine.bump16 (s.m.pch c).fastCount ∧
      (h < 4 → h < (s.m.pch c).pwm.length → (t.m.pch c).pwm[h]? = some (false, false)) ∧
      (15 ≤ ((s.m.pch c).fastWin.filter (fun x => s.m.time.now < x + 1000000)).length →
        (t.m.pch c).fault = 1 ∧ PreCh.outputsLow (t.m.pch c)) ∧
      (((s.m.pch c).fastWin.filter (fun x => s.m.time.now < x + 1000000)).length < 15 →
        t.m.pch c = { s.m.pch c with
          fastCount := Machine.bump16 (s.m.pch c).fastCount, fastWin := (t.m.pch c).fastWin
          pwm := (t.m.pch c).pwm, legs := (t.m.pch c).legs } ∧
        (∀ g, g ≠ h → (t.m.pch c).pwm[g]? = (s.m.pch c).pwm[g]? ∧ (t.m.pch c).leg g = (s.m.pch c).leg g) ∧
        (h < (s.m.pch c).legs.length → ((t.m.pch c).leg h).off = true ∧ ((t.m.pch c).leg h).want = none)))

/-- R276 to R281, R284, R285, R287, R289, R292: a decimated sample and its regulation, the latch of V_OUT, a phase's
turn-on, peak, dead time and valley, the SYNC edge and its loss, the rotation, the slow limit and a resume. The outputs of a
phase are never both high. -/
def Obligations.PrechargeRegulation : Prop :=
  (∀ (s : Machine.State) (c : Nat), c < s.m.pre.length → s.m.up .pwi = true →
    (∀ a b, (s.m.pch c).driven = false → (s.m.pch c).state ≠ 4 →
      ∃ t, Answers (.sdmSample c a b) s t ∧ PreKeeps c s.m t.m ∧ t.m.pch c = { s.m.pch c with
        sdmOut := ((s.m.pch c).sdmOut.sample a).1, sdmSrc := ((s.m.pch c).sdmSrc.sample b).1, volts := true
        vOut := Machine.preVolts (s.m.preCfg c).scaleOut ((s.m.pch c).sdmOut.sample a).2.1
        vSrc := Machine.preVolts (s.m.preCfg c).scaleSrc ((s.m.pch c).sdmSrc.sample b).2.1
        validRun :=
          if Machine.preSenseBad (s.m.preCfg c).scaleOut (t.m.pch c).vOut ((s.m.pch c).sdmOut.sample a).2.2 ||
            Machine.preSenseBad (s.m.preCfg c).scaleSrc (t.m.pch c).vSrc ((s.m.pch c).sdmSrc.sample b).2.2
          then 0 else min 782 ((s.m.pch c).validRun + 1) }) ∧
    (∀ a b, (s.m.pch c).driven = true → Machine.exec (.sdmSample c a b) s = .next { s with
      m := Machine.Module.preRegulate
        { s.m with pre := Machine.modAt s.m.pre c (fun _ => ((s.m.pch c).sampled (s.m.preCfg c) a b).1) } c
        ((s.m.pch c).sampled (s.m.preCfg c) a b).2 }) ∧
    (∃ t, Answers .voutLatch s t ∧ t.m = { s.m with pre := t.m.pre, sweep := t.m.sweep } ∧
      t.m.pch c = { s.m.pch c with vLatch := (s.m.pch c).vOutField } ∧
      t.m.sweep = { s.m.sweep with
        vOutIn := s.m.sweep.vOutNow, vOutNow := s.m.pre.map Machine.PreCh.vOutField }) ∧
    (∀ p, ∃ t, Answers (.syncEdge p) s t ∧
      JournalOnly { s.m with pre := t.m.pre } t.m ∧ t.m.holds Machine.cSyncLost Machine.scModule 0 = false ∧
      t.m.pch c = { s.m.pch c with period := some p, syncLost := false, enabledSync := true }) ∧
    (∃ t, Answers .syncLost s t ∧ JournalOnly { s.m with pre := t.m.pre } t.m ∧
      t.m.pch c = { s.m.pch c with syncLost := true } ∧ t.m.holds Machine.cSyncLost Machine.scModule 0 = true) ∧
    ((s.m.pch c).driven = true → ∀ h, h ∈ (s.m.pch c).active → h < (s.m.pch c).pwm.length →
      h < (s.m.pch c).legs.length → ∀ i w,
      (∀ ev, ∃ t, Answers (.phaseCycle c h ev i w) s t ∧ PreKeeps c s.m t.m ∧
        (t.m.pch c).state = (s.m.pch c).state ∧ (t.m.pch c).iSet = (s.m.pch c).iSet ∧
        (t.m.pch c).active = (s.m.pch c).active ∧
        ((∀ x ∈ (s.m.pch c).pwm, x ≠ (true, true)) → (∀ l ∈ (s.m.pch c).legs, l.want ≠ some (true, true)) →
          (∀ x ∈ (t.m.pch c).pwm, x ≠ (true, true)) ∧ ∀ l ∈ (t.m.pch c).legs, l.want ≠ some (true, true))) ∧
      (∀ p, (s.m.pch c).slotAt (s.m.preCfg c) h = some p → ((s.m.pch c).leg h).want = none →
        (s.m.pch c).pwm.getD h (true, true) = (false, false) →
        ((s.m.pch c).leg h).inCycle = false ∨ ((s.m.pch c).leg h).off = true →
        ∃ t, Answers (.phaseCycle c h (.turnOn p) i w) s t ∧ PreKeeps c s.m t.m ∧
          (t.m.pch c).pwm = Machine.modAt (s.m.pch c).pwm h (fun _ => (true, false)) ∧
          (t.m.pch c).leg h = { (s.m.pch c).leg h with off := false, inCycle := true, late := false }) ∧
      (∀ p, (s.m.pch c).slotAt (s.m.preCfg c) h = some p → ((s.m.pch c).leg h).inCycle = true →
        ((s.m.pch c).leg h).off = false →
        ∃ t, Answers (.phaseCycle c h (.turnOn p) i w) s t ∧ PreKeeps c s.m t.m ∧
          (t.m.pch c).pwm = (s.m.pch c).pwm ∧ (t.m.pch c).leg h = { (s.m.pch c).leg h with late := true }) ∧
      (((s.m.pch c).leg h).inCycle = true → ((s.m.pch c).leg h).off = false → ((s.m.pch c).leg h).want = none →
        (s.m.pch c).pwm.getD h (true, true) = (true, false) →
        (s.m.pch c).share (s.m.preCfg c) h + (Machine.preBand (s.m.preCfg c) (s.m.pch c) h : Rat) / 2 ≤ (i : Rat) →
          ∃ t, Answers (.phaseCycle c h .peak i w) s t ∧ PreKeeps c s.m t.m ∧
            (t.m.pch c).pwm = Machine.modAt (s.m.pch c).pwm h (fun _ => (false, false)) ∧
            ((t.m.pch c).leg h).want = some (false, true)) ∧
      (∀ x ns, ((s.m.pch c).leg h).want = some x → 5 * (s.m.preCfg c).deadTime ≤ ns →
        ∃ t, Answers (.phaseCycle c h (.lowFor ns) i w) s t ∧ PreKeeps c s.m t.m ∧
          (t.m.pch c).pwm = Machine.modAt (s.m.pch c).pwm h (fun _ => x) ∧ ((t.m.pch c).leg h).want = none) ∧
      (((s.m.pch c).leg h).inCycle = true → ((s.m.pch c).leg h).off = false → ((s.m.pch c).leg h).late = false →
        (i : Rat) ≤ max 0 ((s.m.pch c).share (s.m.preCfg c) h -
          (Machine.preBand (s.m.preCfg c) (s.m.pch c) h : Rat) / 2) →
        ∃ t, Answers (.phaseCycle c h .valley i w) s t ∧ PreKeeps c s.m t.m ∧ ((t.m.pch c).leg h).inCycle = false ∧
          (t.m.pch c).band = Machine.modAt (s.m.pch c).band h (fun _ => Machine.clampI (s.m.preCfg c).bandMin
            (s.m.preCfg c).bandMax ((Machine.preBand (s.m.preCfg c) (s.m.pch c) h * w).tdiv
              (Machine.prePeriod (s.m.preCfg c) (s.m.pch c) : Int))))) ∧
    ((s.m.pch c).driven = true → ∃ t, Answers (.rotationBoundary c) s t ∧ PreKeeps c s.m t.m ∧
      t.m.pch c = (s.m.pch c).rotated (s.m.preCfg c) ∧ (t.m.pch c).state = (s.m.pch c).state ∧
      (t.m.pch c).rot = if (s.m.preCfg c).rotate = 0 then (s.m.pch c).rot else ((s.m.pch c).rot + 1) % 12) ∧
    (∀ means rms, (s.m.pch c).driven = false → ∃ t, Answers (.slowLimitTick c means rms) s t ∧ PreKeeps c s.m t.m ∧
      t.m.pch c = { s.m.pch c with
        acc := (s.m.pch c).acc.zipIdx.map
          (fun (p : Rat × Nat) => Machine.preAcc (s.m.preCfg c) p.1 (rms.getD p.2 0))
        current := means }) ∧
    (∀ means rms h, (s.m.pch c).driven = true → h ∈ (s.m.pch c).active → h < (s.m.pch c).acc.length →
      ((s.m.preCfg c).i2tMax : Rat) < Machine.preAcc (s.m.preCfg c) ((s.m.pch c).acc.getD h 0) (rms.getD h 0) →
      ∃ t, Answers (.slowLimitTick c means rms) s t ∧ PreKeeps c s.m t.m ∧
        h ∈ (t.m.pch c).disabled ∧ h ∉ (t.m.pch c).active) ∧
    (∀ v, s.m.leads = true → s.m.preUsed c = true → (s.m.pch c).switching = true → (s.m.pch c).preEn = false →
      ∃ t, Answers (.prechargeResume c v) s t ∧ PreKeeps c s.m t.m ∧ (t.m.pch c).preEn = true ∧
        (t.m.pch c).vOut = v ∧ (t.m.pch c).vTarget = (s.m.pch c).vTarget ∧
        (t.m.pch c).shortCount = (s.m.pch c).shortCount ∧
        (Machine.preSegment (s.m.preCfg c) (s.m.pch c).vTarget v = 2 →
          (s.m.pch c).vTarget ≤ v + (s.m.preCfg c).doneBand → (t.m.pch c).state = 3 ∧ (t.m.pch c).done = true) ∧
        (Machine.preSegment (s.m.preCfg c) (s.m.pch c).vTarget v = 1 →
          (t.m.pch c).state = 1 ∧ (t.m.pch c).done = false))) ∧
  (∀ (m : Machine.Module) (c : Nat), c < m.pre.length → (m.pch c).recent = [] → (m.pch c).full.length < 7813 →
    (m.pch c).disabled = [] →
    ((m.pch c).state = 1 → Machine.preBelow (m.preCfg c) (m.pch c).vTarget (m.pch c).vOut = true →
      PreKeeps c m (m.preRegulate c false) ∧ ((m.preRegulate c false).pch c).state = 1 ∧
      ((m.preRegulate c false).pch c).iSet = Machine.preProbe (m.preCfg c) (m.pch c).vTarget (m.pch c).vOut) ∧
    (((m.pch c).state = 1 ∧ Machine.preBelow (m.preCfg c) (m.pch c).vTarget (m.pch c).vOut = false) ∨
        (m.pch c).state = 2 ∨ (m.pch c).state = 3 →
      PreKeeps c m (m.preRegulate c false) ∧
      ((m.preRegulate c false).pch c).iSet = Machine.preRamp (m.preCfg c) (m.pch c).vTarget (m.pch c).vOut ∧
      (((m.pch c).vTarget : Int) - (m.preCfg c).doneBand ≤ (m.pch c).vOut →
        ((m.preRegulate c false).pch c).state = 3 ∧ ((m.preRegulate c false).pch c).done = true ∧
        ((m.preRegulate c false).pch c).shortCount = 0) ∧
      ((m.pch c).vOut < ((m.pch c).vTarget : Int) - (m.preCfg c).doneBand → (m.pch c).state ≠ 3 →
        ((m.preRegulate c false).pch c).state = 2)))
/-- R297 to R303, R308: in turn-on the drive phase and blanking end and turn-on completes in ON; the second attempt
after a short, a lamp's retry and a lamp's restart after its junction begin an attempt. A latch switches the output off,
keeps the commanded state and holds SWITCH_LATCHED; a second short latches SHORT, an overload in ON latches OVERLOAD, a
lamp's window LAMP_RETRY, 2 s PAUSED THERMAL; a first short waits for its second attempt and a hot junction for its
restart. -/
def Obligations.SwitchAttemptsAndLatches : Prop :=
  (∀ (s : Machine.State) (c : Nat), c < s.m.sw.chans.length →
    ((s.m.swc c).state = 1 →
      (((s.m.swCfg c).load ≠ .coil ∧ (s.m.swCfg c).load ≠ .motor) ∨ (s.m.swc c).driveDone = true →
        ∃ t, Answers (.turnOnComplete c) s t ∧ SwKeeps c s.m t.m ∧ t.m.swc c = { (s.m.swc c).calm with
          state := 2, shortNow := 0, driveDone := true }) ∧
      ((s.m.swCfg c).load = .coil ∨ (s.m.swCfg c).load = .motor → (s.m.swc c).driveDone = false →
        Machine.exec (.turnOnComplete c) s = .next s) ∧
      (∃ t, Answers (.drivePhaseEnd c) s t ∧ SwKeeps c s.m t.m ∧
        t.m.swc c = { s.m.swc c with driveDone := true }) ∧
      (∃ t, Answers (.blankingEnd c false) s t ∧ SwKeeps c s.m t.m ∧
        t.m.swc c = { s.m.swc c with blankOver := true, inLimit := false })) ∧
    ((s.m.swc c).state ≠ 1 → Machine.exec (.turnOnComplete c) s = .next s ∧
      Machine.exec (.drivePhaseEnd c) s = .next s ∧ ∀ b, Machine.exec (.blankingEnd c b) s = .next s) ∧
    ((s.m.swc c).state = 3 → s.m.dipped c = false → s.m.groupHot c = false →
      ((s.m.swc c).afterShort = true → ∃ t, Answers (.shortGapExpire c) s t ∧ SwKeeps c s.m t.m ∧
        t.m.swc c = (s.m.swc c).attempt s.m.ms) ∧
      ((s.m.swc c).afterShort = false → (s.m.swc c).afterThermal = false → (s.m.swCfg c).load = .lamp →
        (s.m.swc c).attempts < (s.m.swCfg c).lampRetries →
        ∃ t, Answers (.lampRetryStart c) s t ∧ SwKeeps c s.m t.m ∧
          t.m.swc c = { (s.m.swc c).attempt s.m.ms with attempts := (s.m.swc c).attempts + 1 }) ∧
      ((s.m.swc c).afterShort = false → (s.m.swc c).afterThermal = true →
        ((s.m.swc c).thermalOn = true ∨ (s.m.swCfg c).load ≠ .lamp →
          Machine.exec (.junctionRestart c) s = .next { s with m := s.m.latchSw c 4 }) ∧
        ((s.m.swc c).thermalOn = false → (s.m.swCfg c).load = .lamp →
          (s.m.swc c).attempts < (s.m.swCfg c).lampRetries →
          ∃ t, Answers (.junctionRestart c) s t ∧ SwKeeps c s.m t.m ∧
            t.m.swc c = { (s.m.swc c).attempt s.m.ms with attempts := (s.m.swc c).attempts + 1 })))) ∧
  (∀ (s : Machine.State) (c : Nat), c < s.m.sw.chans.length →
    (∀ k, SwKeeps c s.m (s.m.latchSw c k) ∧ ((s.m.latchSw c k).swc c).state = 5 ∧
      ((s.m.latchSw c k).swc c).cause = k ∧
      ((s.m.latchSw c k).swc c).commanded = (s.m.swc c).commanded ∧
      (s.m.latchSw c k).holds Machine.cSwitchLatched Machine.scSwitch c = true) ∧
    ((s.m.swc c).state = 1 ∨ (s.m.swc c).state = 2 →
      ((s.m.swc c).shortNow = 0 → s.m.dipped c = false → s.m.groupHot c = false →
        ∃ t, Answers (.switchShortAttempt c) s t ∧ SwKeeps c s.m t.m ∧
          (t.m.swc c).state = 3 ∧ (t.m.swc c).shortNow = 1 ∧ (t.m.swc c).afterShort = true ∧
          (t.m.swc c).shorts = Machine.bump8 (s.m.swc c).shorts) ∧
      ((s.m.swc c).shortNow ≠ 0 → ∃ t, Answers (.switchShortAttempt c) s t ∧ SwKeeps c s.m t.m ∧
        (t.m.swc c).state = 5 ∧ (t.m.swc c).cause = 1 ∧ (t.m.swc c).shorts = Machine.bump8 (s.m.swc c).shorts) ∧
      (s.m.dipped c = false → s.m.groupHot c = false →
        (s.m.swc c).state = 2 ∨ (s.m.swCfg c).load ≠ .lamp ∨ (s.m.swc c).attempts < (s.m.swCfg c).lampRetries →
        ∃ t, Answers (.junctionShutdown c) s t ∧ SwKeeps c s.m t.m ∧
          (t.m.swc c).state = 3 ∧ (t.m.swc c).afterThermal = true ∧
          (t.m.swc c).thermalOn = decide ((s.m.swc c).state = 2))) ∧
    ((s.m.swc c).state = 1 → (s.m.swCfg c).load = .lamp → (s.m.swCfg c).lampRetries ≤ (s.m.swc c).attempts →
      Machine.exec (.junctionShutdown c) s = .next { s with m := s.m.latchSw c 3 }) ∧
    ((s.m.swc c).state = 2 → Machine.exec (.currentLimitExpire c) s = .next { s with m := s.m.latchSw c 2 } ∧
      Machine.exec (.overloadExpire c) s = .next { s with m := s.m.latchSw c 2 }) ∧
    ((s.m.swc c).state = 1 → (s.m.swc c).blankOver = false →
      Machine.exec (.currentLimitExpire c) s = .next s ∧ Machine.exec (.overloadExpire c) s = .next s) ∧
    ((s.m.swc c).state = 1 → (s.m.swCfg c).load ≠ .lamp → (∃ t, Answers (.blankingEnd c true) s t ∧
      SwKeeps c s.m t.m ∧ (t.m.swc c).state = 5 ∧ (t.m.swc c).cause = 2) ∧
      ((s.m.swc c).blankOver = true → Machine.exec (.currentLimitExpire c) s = .next { s with m := s.m.latchSw c 2 } ∧
        Machine.exec (.overloadExpire c) s = .next { s with m := s.m.latchSw c 2 })) ∧
    ((s.m.swc c).state = 1 → (s.m.swCfg c).load = .lamp → s.m.dipped c = false → s.m.groupHot c = false →
      (s.m.swc c).attempts < (s.m.swCfg c).lampRetries → ∃ t, Answers (.blankingEnd c true) s t ∧
      SwKeeps c s.m t.m ∧ t.m.swc c = { (s.m.swc c).calm with state := 3, shortNow := 0 }) ∧
    ((s.m.swc c).state = 1 ∨ ((s.m.swc c).state = 3 ∧ (s.m.swc c).thermalOn = false) → (s.m.swCfg c).load = .lamp →
      Machine.exec (.warmupWindowExpire c) s = .next { s with m := s.m.latchSw c 3 }) ∧
    ((s.m.swc c).state = 4 → (s.m.swc c).dipPause = false →
      Machine.exec (.pauseExpire c) s = .next { s with m := s.m.latchSw c 4 }) ∧
    ((s.m.swc c).dipPause = true → Machine.exec (.pauseExpire c) s = .next s))

/-- R302: over the rating of a group, a feed or both, channels of it that drive their output, or did so within the mean and
wait (the reading of log 178), are latched (GROUP_OVERLOAD or FEED_OVERLOAD) by FAILSAFE OFF, HOLD, ON and from the highest
channel number down, until the means that are left fall within the rating, or none is left; within it nothing happens, and no
channel outside it moves. -/
def Obligations.SwitchShedding : Prop :=
  ∀ (s : Machine.State) (which : OverSet) (means : List Int), s.m.sw.chans.length = 24 →
    let chans := (List.range 24).filter (fun n =>
      match which with | .group g => n / 4 = g | .feed f => Machine.feedOf n = f | .both => true)
    let limit : Int := match which with | .group _ => 16000 | .feed _ => 32000 | .both => 48000
    let cause := match which with | .group _ => 5 | .feed _ => 6 | .both => 6
    let candidate := fun c => c ∈ chans ∧ ((s.m.swc c).state = 1 ∨ (s.m.swc c).state = 2 ∨
      (((s.m.swc c).state = 3 ∨ (s.m.swc c).state = 4) ∧ 0 < means.getD c 0))
    let rank := fun c => Machine.shedRank (s.m.sw.failsafe.getD c .off) * 24 + (23 - c)
    (Machine.sumI (chans.map (fun n => means.getD n 0)) ≤ limit →
      Machine.exec (.groupFeedOverload which means) s = .next s) ∧
    ∃ t, Answers (.groupFeedOverload which means) s t ∧
      t.m = { s.m with
        sw := { s.m.sw with chans := t.m.sw.chans }, al := t.m.al, jou := t.m.jou, outbox := t.m.outbox } ∧
      (∀ c, t.m.swc c ≠ s.m.swc c → candidate c ∧ t.m.swc c = { (s.m.swc c).calm with
        state := 5, cause := cause, shortNow := 0 }) ∧
      (∀ a b, candidate a → candidate b → rank a < rank b → (t.m.swc b).state = 5 → (t.m.swc a).state = 5) ∧
      (Machine.sumI ((chans.filter (fun c => (t.m.swc c).state ≠ 5 ∨ (s.m.swc c).state = 5)).map
          (fun n => means.getD n 0)) ≤ limit ∨
        ∀ c, candidate c → (t.m.swc c).state = 5)

/-- R49, R301, R310, R312: a dip pauses the channels of its feed with their commanded states kept and its return
continues them; a hot die pauses those of its group; the SWI's loss of supply and restart, and the watchdog, put
the channels into what was latched or their fail-safe states. -/
def Obligations.SwitchSupplyAndPauses : Prop :=
  ∀ s : Machine.State, s.m.sw.chans.length = 24 →
    (∀ f, f < s.m.sw.dip.length → ∃ t, Answers (.vswFeedDip f) s t ∧
      t.m = { s.m with sw := { s.m.sw with dip := t.m.sw.dip, chans := t.m.sw.chans } } ∧
      t.m.sw.dip.getD f false = true ∧
      ∀ c, c < 24 → (t.m.swc c).commanded = (s.m.swc c).commanded ∧
        (Machine.feedOf c ≠ f → t.m.swc c = s.m.swc c) ∧
        (Machine.feedOf c = f → ((s.m.swc c).state = 1 ∨ (s.m.swc c).state = 2 ∨ (s.m.swc c).state = 3) →
          (t.m.swc c).state = 4 ∧ (t.m.swc c).dipPause = true ∧
          ((s.m.swc c).state = 2 → (t.m.swc c).dipWasOn = true) ∧
          ((s.m.swc c).state ≠ 2 → (t.m.swc c).prior = some (s.m.swc c).state))) ∧
    (∀ f, f < s.m.sw.dip.length → ∃ t, Answers (.vswFeedReturn f) s t ∧
      t.m = { s.m with
        sw := { s.m.sw with dip := Machine.modAt s.m.sw.dip f (fun _ => false), chans := t.m.sw.chans }
        al := t.m.al, jou := t.m.jou, outbox := t.m.outbox } ∧
      ∀ c, c < 24 → (Machine.feedOf c ≠ f → t.m.swc c = s.m.swc c) ∧
        (Machine.feedOf c = f → (s.m.swc c).state = 4 → (s.m.swc c).dipPause = true → s.m.groupHot c = false →
          ((s.m.swc c).dipWasOn = false → (s.m.swc c).ready = false →
            (t.m.swc c).state = (s.m.swc c).prior.getD 1) ∧
          ((s.m.swc c).dipWasOn = true → s.m.follows = false → s.m.sup.outputsOff = false →
            (t.m.swc c).state = 1 ∧ (t.m.swc c).attempts = 0))) ∧
    (∀ g d, ∃ t, Answers (.groupDieLimit g d) s t ∧
      t.m = { s.m with sw := { s.m.sw with
        groupT := t.m.sw.groupT, groupHot := t.m.sw.groupHot, chans := t.m.sw.chans } } ∧
      (g < s.m.sw.groupHot.length → t.m.sw.groupHot.getD g false = true) ∧
      ∀ c, c < 24 → (c / 4 ≠ g → t.m.swc c = s.m.swc c) ∧
        (c / 4 = g → (s.m.swc c).state = 1 ∨ (s.m.swc c).state = 3 →
          t.m.swc c = { s.m.swc c with state := 4, prior := some (s.m.swc c).state, dipPause := false })) ∧
    (∀ g d, ∃ t, Answers (.groupDieResume g d) s t ∧
      t.m = { s.m with
        sw := { s.m.sw with
          groupT := Machine.modAt s.m.sw.groupT g (fun _ => d)
          groupHot := Machine.modAt s.m.sw.groupHot g (fun _ => false), chans := t.m.sw.chans }
        al := t.m.al, jou := t.m.jou, outbox := t.m.outbox } ∧
      ∀ c, c < 24 → (c / 4 ≠ g → t.m.swc c = s.m.swc c) ∧
        (c / 4 = g → s.m.dipped c = false → (s.m.swc c).state = 4 → (s.m.swc c).dipWasOn = false →
          (s.m.swc c).ready = false → (t.m.swc c).state = (s.m.swc c).prior.getD 1)) ∧
    (∃ t, Answers .swiSupplyReset s t ∧
      t.m = { s.m.modIsl .swi (fun i => { i with up := false, epoch := (i.epoch + 1) % 256 }) with
        sw := { s.m.sw with
          powered := false, noFeed := true, expired := false, suspended := false, chans := t.m.sw.chans } } ∧
      ∀ c, c < 24 → (t.m.swc c).state = (if (s.m.swc c).cause = 0 then 0 else 5) ∧
        (t.m.swc c).cause = (s.m.swc c).cause ∧ (t.m.swc c).commanded = (s.m.swc c).commanded) ∧
    (s.m.sw.powered = true → Machine.exec .swiSupplyRestart s = .next s) ∧
    (s.m.sw.powered = false → ∃ t, Answers .swiSupplyRestart s t ∧
      t.m = { s.m.modIsl .swi (fun i => { i with up := true }) with
        sw := { s.m.sw with powered := true, noFeed := false, chans := t.m.sw.chans }
        al := t.m.al, jou := t.m.jou, outbox := t.m.outbox } ∧
      ∀ c, c < 24 → (t.m.swc c).commanded = (s.m.swc c).commanded ∧
        ((s.m.swc c).state = 5 → (t.m.swc c).state = 5) ∧
        ((s.m.swc c).state = 0 → s.m.sw.failsafe.getD c .off = .off → (t.m.swc c).state = 0) ∧
        ((s.m.swc c).state = 0 → s.m.dipped c = false → s.m.groupHot c = false → s.m.sup.outputsOff = false →
          (s.m.sw.failsafe.getD c .off = .on ∨
            (s.m.sw.failsafe.getD c .off = .hold ∧ (s.m.swc c).commanded = true)) →
          (t.m.swc c).state = 1)) ∧
    (s.m.sw.powered = true → s.m.sw.suspended = false → ∃ t, Answers .swWatchdogExpire s t ∧
      t.m = { s.m with
        sw := { s.m.sw with expired := true, chans := t.m.sw.chans }
        al := t.m.al, jou := t.m.jou, outbox := t.m.outbox } ∧
      ∀ c, c < 24 → (t.m.swc c).failActive = true ∧ (t.m.swc c).commanded = (s.m.swc c).commanded ∧
        ((s.m.swc c).state ≠ 5 → s.m.sw.failsafe.getD c .off = .off → (t.m.swc c).state = 0) ∧
        ((s.m.swc c).state = 5 ∨ s.m.sw.failsafe.getD c .off = .hold → (t.m.swc c).state = (s.m.swc c).state)) ∧
    (s.m.sw.suspended = true → Machine.exec .swWatchdogExpire s = .next s)

/-- R305, R306, R308, R309, R313, R314: a refresh with a bad check does nothing, and one of the MGI leaves every state as it
was and answers the watchdog; the VSI's applies the image where a set is in force, and a latched channel refuses ON and keeps
its commanded state; the open-load tests raise and end their conditions; a follower's
commanded channel follows the leader's into ON. -/
def Obligations.SwitchRefreshAndTests : Prop :=
  ∀ s : Machine.State, s.m.sw.chans.length = 24 →
    (∀ f is vs, Machine.exec (.swRefresh f false is vs) s = .next s) ∧
    (∀ is vs, s.m.swiServes = true → s.m.up .mgi = true → ∃ t, Answers (.swRefresh .mgi true is vs) s t ∧
      t.m = { s.m with
        sw := { s.m.sw with expired := false, suspended := false, chans := t.m.sw.chans }, outbox := t.m.outbox } ∧
      ∀ c, c < 24 → t.m.swc c = { s.m.swc c with current := is.getD c (s.m.swc c).current, vOut := vs.getD c (s.m.swc c).vOut }) ∧
    (∀ is vs, s.m.swiServes = true → s.m.up .vsi = true → s.m.conf?.isSome = true → s.m.sup.slot ≠ .invalid →
      ∃ t, Answers (.swRefresh .vsi true is vs) s t ∧
      t.m = { s.m with
        sw := { s.m.sw with expired := false, suspended := false, chans := t.m.sw.chans }
        al := t.m.al, jou := t.m.jou, outbox := t.m.outbox } ∧
      ∀ c, c < 24 → (t.m.swc c).commanded =
          (if s.m.sw.image.getD c false = true ∧ (s.m.swc c).state = 5 then (s.m.swc c).commanded
          else s.m.sw.image.getD c false && decide ((s.m.swCfg c).load ≠ .unused)) ∧
        ((s.m.swc c).state = 5 → (s.m.swCfg c).load ≠ .unused → (t.m.swc c).state = 5) ∧
        (t.m.swc c).current = is.getD c (s.m.swc c).current ∧
        ((s.m.swc c).state ≠ 5 → s.m.sw.image.getD c false = false → (t.m.swc c).state = 0) ∧
        ((s.m.swc c).state = 0 → s.m.sw.image.getD c false = true → (s.m.swCfg c).load ≠ .unused →
          s.m.follows = false → s.m.sup.outputsOff = false → s.m.dipped c = false → s.m.groupHot c = false →
          (t.m.swc c).state = 1)) ∧
    (∀ c i, c < 24 → (s.m.swc c).state = 2 → (s.m.swCfg c).openOnEn = true → s.m.follows = false →
      ∃ t, Answers (.openLoadOnExpire c i) s t ∧ SwKeeps c s.m t.m ∧
        (let low := decide (i + (if s.m.isPair then s.m.sw.partnerCur.getD c 0 else 0) < ((s.m.swCfg c).iOpen : Int))
         t.m.swc c = { s.m.swc c with openOn := low } ∧ t.m.holds Machine.cOpenLoadOn Machine.scSwitch c = low)) ∧
    (∀ c, c < 24 → (s.m.swc c).state = 0 → (s.m.swCfg c).openOffEn = true → s.m.follows = false →
      (s.m.swc c).partnerOn = false →
      (∀ u d, (u = true ∨ d = false) → ∃ t, Answers (.offStateTest c u d) s t ∧ SwKeeps c s.m t.m ∧
        (t.m.swc c).offLast = (if u = false then 1 else if d = false then 2 else 3) ∧
        ((s.m.swc c).offLast ≠ (t.m.swc c).offLast →
          (t.m.swc c).offRun = 1 ∧ (t.m.swc c).openOff = (s.m.swc c).openOff ∧
          (t.m.swc c).shortSup = (s.m.swc c).shortSup)) ∧
      ((s.m.swc c).offLast = 1 → 2 ≤ (s.m.swc c).offRun → ∃ t, Answers (.offStateTest c false false) s t ∧
        SwKeeps c s.m t.m ∧ (t.m.swc c).openOff = false ∧ (t.m.swc c).shortSup = false ∧
        t.m.holds Machine.cOpenLoadOff Machine.scSwitch c = false ∧
        t.m.holds Machine.cShortToSupply Machine.scSwitch c = false) ∧
      ((s.m.swc c).offLast = 2 → 2 ≤ (s.m.swc c).offRun → ∃ t, Answers (.offStateTest c true false) s t ∧
        SwKeeps c s.m t.m ∧ (t.m.swc c).openOff = true ∧ t.m.holds Machine.cOpenLoadOff Machine.scSwitch c = true) ∧
      ((s.m.swc c).offLast = 3 → 2 ≤ (s.m.swc c).offRun → ∃ t, Answers (.offStateTest c true true) s t ∧
        SwKeeps c s.m t.m ∧ (t.m.swc c).shortSup = true ∧ t.m.holds Machine.cShortToSupply Machine.scSwitch c = true)) ∧
    (∀ c, c < 24 → s.m.follows = true → s.m.swiServes = true → (s.m.swc c).state = 0 →
      (s.m.swc c).commanded = true → (s.m.swCfg c).load ≠ .unused → s.m.sup.outputsOff = false →
      s.m.dipped c = false → ∃ t, Answers (.partnerChannelOn c) s t ∧ SwKeeps c s.m t.m ∧
        (t.m.swc c).state = 2 ∧ (t.m.swc c).partnerOn = true) ∧
    (∀ c, c < 24 → s.m.follows = false → ∃ t, Answers (.partnerChannelOn c) s t ∧ SwKeeps c s.m t.m ∧
      t.m.swc c = { s.m.swc c with partnerOn := true })
/-- R15, R37, R42, R46, R53, R54: the conditions of the supply, the board's temperature, the slot code and the lever
hold and end as their thresholds say, and nothing else but the journal and the alert map moves; the input protection, the
write stop, the partner's contacts and the eject line are kept as they read, and nothing else moves. -/
def Obligations.SupplyConditionsAndLines : Prop :=
  (∀ s : Machine.State, s.m.runs = true →
    (∃ t, Answers .auxLowRaise s t ∧ JournalOnly s.m t.m ∧ t.m.holds Machine.cAuxLow Machine.scModule 0 = true) ∧
    (∃ t, Answers .auxLowClear s t ∧ JournalOnly s.m t.m ∧ t.m.holds Machine.cAuxLow Machine.scModule 0 = false) ∧
    (∃ t, Answers .auxHighRaise s t ∧ JournalOnly s.m t.m ∧ t.m.holds Machine.cAuxHigh Machine.scModule 0 = true) ∧
    (∃ t, Answers .auxHighClear s t ∧ JournalOnly s.m t.m ∧ t.m.holds Machine.cAuxHigh Machine.scModule 0 = false) ∧
    (∀ d : Int, s.m.up .mgi = false → Machine.exec (.moduleHotChange d) s = .next { s with
      m := { s.m with sup := { s.m.sup with boardT := d } } }) ∧
    (∀ d : Int, s.m.up .mgi = true → ∃ t, Answers (.moduleHotChange d) s t ∧
      JournalOnly { s.m with sup := { s.m.sup with boardT := d } } t.m ∧
      (9500 < d → t.m.holds Machine.cModuleHot Machine.scModule 0 = true) ∧
      (d < 9000 → t.m.holds Machine.cModuleHot Machine.scModule 0 = false) ∧
      (9000 ≤ d → d ≤ 9500 →
        t.m.holds Machine.cModuleHot Machine.scModule 0 = s.m.holds Machine.cModuleHot Machine.scModule 0)) ∧
    (∀ a b, ∃ t, Answers (.slotChanged a b) s t ∧
      JournalOnly { s.m with sup := { s.m.sup with slotNow := Machine.slotOf a b } } t.m ∧
      (t.m.holds Machine.cSlotChanged Machine.scModule 0 = true ↔ Machine.slotOf a b ≠ s.m.sup.slot)) ∧
    (s.m.sup.lever ≠ .locked → ∃ t, Answers .leverUnlocked s t ∧ JournalOnly s.m t.m ∧
      t.m.holds Machine.cLeverUnlocked Machine.scModule 0 = true)) ∧
  (∀ s : Machine.State,
    Machine.exec .auxProtectOpen s = .next { s with m := { s.m with
      sup := { s.m.sup with protectOpen := decide (s.m.sup.phase ≠ .off) } } } ∧
    Machine.exec .auxProtectReconnect s = .next { s with m := { s.m with
      sup := { s.m.sup with protectOpen := false } } } ∧
    Machine.exec .writeStop s = .next { s with m := { s.m with sup := { s.m.sup with writeStop := true } } } ∧
    (∀ t, Machine.exec .writeStop s = .next t → t.m.calOk = false) ∧
    (∃ t, Answers .writeStopLift s t ∧ t.m.calOk = true ∧
      t.m = { s.m with
        sup := { s.m.sup with writeStop := false }, pre := t.m.pre, est := t.m.est, cal := t.m.cal } ∧
      (s.m.cal.capWait = [] → t.m.est = s.m.est ∧ t.m.cal = s.m.cal) ∧
      (s.m.runs = true → s.m.up .mgi = true →
        ∀ e ∈ s.m.cal.capWait, s.m.capReady e = true → e ∉ t.m.cal.capWait)) ∧
    (∀ low, Machine.exec (.peerEjectChange low) s = .next { s with m := { s.m with
      sup := { s.m.sup with peerEject := low } } }) ∧
    (∀ present, ∃ n : Machine.Module, n.sup = { s.m.sup with peerPresent := present } ∧
      n = { s.m with sup := n.sup, pair := { s.m.pair with
        partnerParking := s.m.pair.partnerParking && present } } ∧
      Machine.exec (.peerPresentChange present) s = .next { s with
        m := if s.m.runs then n.roleCheck.tripEvents.scarabRun else n }) ∧
    Machine.exec .ejectAssert s = .next { s with m := { s.m with
      sup := { s.m.sup with ejectLow := decide (s.m.sup.lever ≠ .locked ∧ s.m.sup.phase ≠ .off) } } })

/-- R15, R43, R46: POWER_UP of a module without supply reads the slot code and starts the Carapace's self-test with
every output as it was; the trip permit does not conduct. A module with supply is not powered up again. A power failure
ends with the module reset, every island down and nothing more to do until the supply returns; the Carapace takes no
part. -/
def Obligations.PowerUpAndFail : Prop :=
  ((Machine.slotOf false false = .single ∧ Machine.slotOf false true = .a ∧ Machine.slotOf true false = .b ∧
    Machine.slotOf true true = .invalid) ∧
  ∀ (s : Machine.State) (id1 id0 present jumper : Bool),
    (s.m.sup.phase ≠ .off → Machine.exec (.powerUp id1 id0 present jumper) s = .next s) ∧
    (s.m.sup.phase = .off → s.cara.state = .off →
      ∃ t, Machine.exec (.powerUp id1 id0 present jumper) s = .next t ∧ t.pending = s.pending ∧
        t.m = s.m.powerUp (Machine.slotOf id1 id0) present jumper ∧
        t.cara = { s.cara with
          state := .selfTest, epoch := 0, slotInvalid := decide (Machine.slotOf id1 id0 = .invalid)
          slotB := decide (Machine.slotOf id1 id0 = .b), locked := decide (s.m.sup.lever = .locked) } ∧
        t.cara.permit = false) ∧
    (s.m.sup.phase = .off → s.cara.state ≠ .off →
      Machine.exec (.powerUp id1 id0 present jumper) s = .next { s with
        cara := s.cara.readSlot (Machine.slotOf id1 id0)
        m := s.m.powerUp (Machine.slotOf id1 id0) present jumper })) ∧
  (∀ s : Machine.State,
    (s.m.sup.phase = .off → Machine.exec .powerFail s = .next s) ∧
    (s.m.sup.phase ≠ .off →
      ∃ t, Answers .powerFail s t ∧ t.m.sup.phase = .off ∧ (∀ x ∈ t.m.isl, x.up = false) ∧ t.m.runs = false ∧
        t.m.pair.role = .none_ ∧ t.m.dcp.sessions = [] ∧ t.m.dcp.keys = s.m.dcp.keys ∧
        t.m.sets.active.content = s.m.sets.active.content ∧ t.m.upd.running = s.m.upd.running ∧
        t.m.cal.capA = s.m.cal.capA ∧ t.m.cal.capB = s.m.cal.capB))

/-- R52, R53, R358, R359: the trip permit opens as the lever leaves LOCKED and may close as it reaches LOCKED, where EJECT_N is
released; nothing else of the Carapace moves, unless a parked module restarts. As the lever leaves LOCKED a leader hands over to
a partner that can take over or refuses the ejection, and every other module of a pair parks or refuses. PARK_COMPLETE switches
the outputs off, journals, gives up the role and withdraws the eject stop. -/
def Obligations.LeverMovesPermit : Prop :=
  ∀ s : Machine.State,
    (s.m.sup.lever = .locked → ∃ t n, Machine.exec .leverLeaveLocked s = .next t ∧ t.pending = s.pending ∧
      t.cara = { s.cara with locked := false } ∧ t.cara.permit = false ∧
      n = { s.m with sup := { s.m.sup with lever := .seated } } ∧
      (s.m.runs = false → t.m = n) ∧
      (s.m.runs = true → s.m.leads = true → s.m.isPair = true → s.m.partnerReady = true → t.m = n.startHandover ∧
        t.m.pair.wantHandover = true) ∧
      (s.m.runs = true → s.m.leads = true → s.m.isPair = false ∨ s.m.partnerReady = false →
        JournalOnly n t.m ∧ t.m.holds Machine.cEjectRefused Machine.scModule 0 = true) ∧
      (s.m.runs = true → s.m.leads = false → s.m.isPair = false → t.m = n) ∧
      (s.m.runs = true → s.m.follows = false → s.m.leads = false → s.m.isPair = true →
        JournalOnly { n with sup := { n.sup with parking := true } } t.m ∧ .pairPark ∈ t.m.outbox) ∧
      (s.m.runs = true → s.m.pair.role = .syncing → s.m.isPair = true →
        (s.m.servesSplit = true → JournalOnly n t.m ∧ t.m.holds Machine.cEjectRefused Machine.scModule 0 = true) ∧
        (s.m.servesSplit = false →
          JournalOnly { n with sup := { n.sup with parking := true } } t.m ∧ .pairPark ∈ t.m.outbox)) ∧
      (s.m.runs = true → s.m.pair.role = .ready → s.m.isPair = true → t.m = n.loseSync.followerPark)) ∧
    (s.m.sup.lever ≠ .locked → Machine.exec .leverLeaveLocked s = .next s) ∧
    (∃ t n, Machine.exec .leverReachLocked s = .next t ∧ t.pending = s.pending ∧
      n = { s.m with sup := { s.m.sup with lever := .locked, everLocked := true, ejectLow := false } } ∧
      t.cara = (if t.m.sup.bootNo = s.m.sup.bootNo then { s.cara with locked := true }
        else Machine.Carapace.readSlot { s.cara with locked := true } t.m.sup.slot) ∧
      (t.m.sup.bootNo = s.m.sup.bootNo →
        (t.cara.permit = true ↔ s.cara.state = .run ∧ s.cara.slotInvalid = false)) ∧
      (s.m.runs = false → t.m = n) ∧
      (s.m.runs = true → s.m.pair.role = .parked ∨ s.m.sup.parked = true → t.m = n.restart) ∧
      (s.m.runs = true → s.m.pair.role ≠ .parked → s.m.sup.parked = false →
        ∃ k, JournalOnly { n with
            sup := { n.sup with parking := false, outputsOff := false }
            pair := { n.pair with
              wantHandover := n.pair.wantHandover && decide (n.pair.offered.isSome ∨ n.pair.then_ ≠ 0) } } k ∧
          k.holds Machine.cEjectRefused Machine.scModule 0 = false ∧
          k.holds Machine.cLeverUnlocked Machine.scModule 0 = false ∧
          t.m = if s.m.follows then (k.enablePorts.askLeader).readyCheck else k.enablePorts.roleCheck)) ∧
    (s.m.runs = true → s.m.sup.parking = true → ∃ t n, Answers .parkComplete s t ∧
      n = Machine.Module.jot (if s.m.sup.outputsOff then s.m else s.m.parkPoint) .mgi Machine.ePark Machine.sevInfo
        Machine.scPair 0xFFFFFFFF ∧
      t.m = { (if s.m.leads then n.dropLead .parked else n.setRole .parked) with
        sup := { n.sup with parking := false, parked := true, ejectFree := true } } ∧
      t.m.sup.outputsOff = true ∧ t.m.pair.role = .parked ∧ t.m.sup.ejectStop = true) ∧
    (s.m.runs = false ∨ s.m.sup.parking = false → Machine.exec .parkComplete s = .next s)

/-- R70, R72, R73, Table 03-2: an island that resets alone goes down, its epoch advances modulo 256, its CAUSE is kept
and the reset is journalled; the CPI's reset is its internal fault; a second reset of two of MGI, RGI, ESI and VSI within a
second restarts the module. An island that returns runs again and takes up its work; a queue that overruns loses its newest
entry. -/
def Obligations.IslandResetAlone : Prop :=
  ∀ (s : Machine.State) (cause : ResetCause), s.m.runs = true → s.m.isl.length = 9 →
    (∀ i, i ≠ .cpi → s.m.up i = true → ∃ t, Machine.exec (.islandReset i cause) s = .next t ∧ t.pending = s.pending ∧
      t.m = s.m.resetIsland i (Machine.causeCode cause) ∧
      t.cara = (if t.m.sup.bootNo = s.m.sup.bootNo then s.cara else s.cara.readSlot t.m.sup.slot)) ∧
    (∀ i, i ≠ .cpi → s.m.up i = false → Machine.exec (.islandReset i cause) s = .next s) ∧
    (∀ i, ∃ n, JournalOnly (s.m.modIsl i (fun x => { x with
        up := false, epoch := (x.epoch + 1) % 256, lastReset := some s.m.time.now
        cause := Machine.causeCode cause })) n ∧ n.up i = false ∧
      s.m.resetIsland i (Machine.causeCode cause) = if n.doubleReset i then n.restart else n.islandDown i) ∧
    (s.m.up .swi = true → ∃ t, Answers (.islandReset .swi cause) s t ∧
      JournalOnly (s.m.modIsl .swi (fun x => { x with
        up := false, epoch := (x.epoch + 1) % 256, lastReset := some s.m.time.now
        cause := Machine.causeCode cause })) t.m ∧ t.m.up .swi = false) ∧
    (s.m.up .pri = true → ∃ t, Answers (.islandReset .pri cause) s t ∧ t.m.up .pri = false ∧
      t.m.pair.lanes = [false, false] ∧
      JournalOnly { s.m.modIsl .pri (fun x => { x with
        up := false, epoch := (x.epoch + 1) % 256, lastReset := some s.m.time.now
        cause := Machine.causeCode cause }) with pair := { s.m.pair with lanes := [false, false] } } t.m) ∧
    (s.cara.state ≠ .off → ∃ t, Machine.exec (.islandReset .cpi cause) s = .next t ∧
      t.cara = s.cara.internalFault ∧ t.pending = s.pending ∧
      t.m = s.m.resetIsland .cpi (Machine.causeCode cause)) ∧
    (∀ i, s.m.up i = false → ∃ n, n = s.m.modIsl i (fun x => { x with up := true }) ∧ n.up i = true ∧
      Machine.exec (.islandReturn i) s = .next { s with m := n.islandUp i } ∧
      (i ∈ [Island.pwi, .swi, .cpi, .fbi, .pri] → n.islandUp i = n) ∧
      (i = .rgi → n.islandUp i = n.cfg.rings.foldl Machine.Module.beginTraining n) ∧
      (i = .esi → n.islandUp i = if n.waitingManifests ≤ 8 then Machine.Module.replay n.waitingManifests n
        else n.replayGap) ∧
      (i = .vsi → n.islandUp i = n.vsiBack)) ∧
    (s.m.up .mgi = false → ∃ t, Answers (.islandReturn .mgi) s t ∧ t.m.up .mgi = true ∧ t.m.jou.holding = [] ∧
      ∀ r ∈ s.m.jou.queue ++ s.m.jou.holding, r.2.severity = Machine.sevTrip → r ∈ t.m.jou.queue) ∧
    (s.m.isPair = true → s.m.leads = true → s.m.up .mgi = false →
      ∃ t, Answers .mgiOutageHandover s t ∧ t.m.pair.wantHandover = true ∧
        t.m = { s.m with
          pair := { s.m.pair with wantHandover := true, offered := t.m.pair.offered }, outbox := t.m.outbox }) ∧
    (∀ q, ∃ t, Answers (.queueOverrun q) s t ∧
      (q = .rgiEsi → JournalOnly { s.m with sweep := { s.m.sweep with
        dropped := Machine.addTo s.m.sweep.dropped s.m.lastSweep } } t.m) ∧
      (q = .esiVsi → JournalOnly { s.m with sweep := { s.m.sweep with verdicts := s.m.sweep.estimated } } t.m) ∧
      (∀ p c, q = .control p c → JournalOnly (s.m.dropNewest p c) t.m))

/-- R75, R76, R78 to R80, R82 to R84: a time pulse ends TIME_PULSE_LOST and carries the plant time of the next one, by which an
island sets its counter and trims its rate; the Carapace takes the pulse on its one-way input; 100 missed pulses mark the
island's timestamps degraded. The time states of Table 03-6 and the corrections of plant time: an offset of at most 1 ms of the
active source is slewed out by at most 10 ns per ms, a larger one waits for a sweep boundary. PPS_OUT rises with the plant
second for 100 ms in LOCKED and HOLDOVER and is low otherwise. How the trim follows an offset is free (log 150). -/
def Obligations.TimePulsesAndStates : Prop :=
  (∀ s : Machine.State, s.m.runs = true → s.m.up .mgi = true → s.m.isl.length = 9 →
    (∀ n, Machine.exec (.timePulse .cpi n) s = .next { s with cara := { s.cara with pulse := s.m.plant } }) ∧
    (∀ i n, i ≠ .cpi → s.m.up i = true → ∃ t, Answers (.timePulse i n) s t ∧
      JournalOnly (s.m.modIsl i (fun x => x.pulsed s.m.pulseTime n)) t.m ∧
      t.m.holds Machine.cTimePulseLost Machine.scIsland (Machine.islandCode i) = false) ∧
    (∀ i, i ≠ .cpi → s.m.up i = true → ∃ t, Answers (.timePulseLost i) s t ∧
      JournalOnly (s.m.modIsl i (fun x => { x with degraded := true })) t.m ∧
      t.m.holds Machine.cTimePulseLost Machine.scIsland (Machine.islandCode i) = true)) ∧
  (∀ (x : Machine.IslandSt) (p n : Nat), x.pulsed p n = { x with
      counter := (x.pulsed p n).counter, trim := (x.pulsed p n).trim, nextPulse := p + 1000000, degraded := false } ∧
    (x.nextPulse = p → (x.pulsed p n).counter = p) ∧
    (x.nextPulse = p → x.counter ≠ 0 → x.counter < p → n ≠ 0 →
      (x.pulsed p n).trim * (n : Rat) = ((p - x.counter : Nat) : Rat))) ∧
  (∀ u : Machine.TimeUnit, u.pps = { u with ppsOut := u.pps.ppsOut, ppsEdge := u.pps.ppsEdge } ∧
    (u.pps.ppsOut = true → (u.state = .locked ∨ u.state = .holdover) ∧
      ((u.now : Int) + u.offset).toNat % 1000000000 < 100000000) ∧
    (u.state = .locked ∨ u.state = .holdover → Machine.secondOf ((u.now : Int) + u.offset) ≠ u.ppsEdge →
      ((u.now : Int) + u.offset).toNat % 1000000000 < 100000000 → u.pps.ppsOut = true) ∧
    (u.state = .unset ∨ u.state = .freerun → u.frac = 0 →
      u.slewed.offset = u.offset + Machine.clampI (-10) 10 u.slew ∧
      u.slewed.slew = u.slew - Machine.clampI (-10) 10 u.slew)) ∧
  (∀ s : Machine.State, s.m.runs = true → s.m.up .mgi = true →
    (s.m.time.state = .locked → Machine.exec .timeLock s = .next s) ∧
    (s.m.time.state ≠ .unset → s.m.time.state ≠ .locked → ∃ t, Answers .timeLock s t ∧
      JournalOnly { s.m with time := { s.m.time with
        state := .locked, lockedAt := s.m.time.now, sourceLost := false, lockWanted := false } } t.m ∧
      t.m.holds Machine.cTimeHoldover Machine.scModule 0 = false ∧
      t.m.holds Machine.cTimeFreerun Machine.scModule 0 = false) ∧
    (s.m.time.state = .unset → s.m.sweep.running = true → Machine.exec .timeLock s = .next { s with
      m := { s.m with time := { s.m.time with
        pendingStep := some (s.m.time.pendingStep.getD s.m.time.slew), lockWanted := true } } }) ∧
    (s.m.time.state = .unset → s.m.sweep.running = false → ∃ t, Answers .timeLock s t ∧ t.m.time.state = .locked ∧
      t.m.time.offset = s.m.time.offset + s.m.time.pendingStep.getD s.m.time.slew ∧ t.m.time.now = s.m.time.now) ∧
    (s.m.ppsSource = true ∨ s.m.time.ptpPort = none → s.m.follows = false → s.m.time.state = .locked →
      ∃ t, Answers .timeSourceLost s t ∧ JournalOnly { s.m with time := t.m.time } t.m ∧
      t.m.time.sourceLost = true ∧
      (s.m.time.lockedAt + 3600000000000 ≤ s.m.time.now → t.m.time.state = .holdover ∧
        t.m.holds Machine.cTimeHoldover Machine.scModule 0 = true) ∧
      (s.m.time.now < s.m.time.lockedAt + 3600000000000 → t.m.time.state = .freerun ∧ t.m.time.ppsOut = false ∧
        t.m.holds Machine.cTimeFreerun Machine.scModule 0 = true)) ∧
    (∀ p gm, s.m.ppsSource = false → s.m.time.ptpPort = some p → p < 2 →
      s.m.time.masters.getD (1 - p) none = some gm →
      Machine.exec .timeSourceLost s = .next { s with m := { s.m with time := { s.m.time with
        masters := Machine.modAt s.m.time.masters p (fun _ => none), ptpPort := some (1 - p), grandmaster := gm } } }) ∧
    (s.m.time.state = .holdover → ∃ t, Answers .holdoverExpire s t ∧
      JournalOnly { s.m with time := { s.m.time with state := .freerun, ppsOut := false } } t.m ∧
      t.m.holds Machine.cTimeFreerun Machine.scModule 0 = true) ∧
    (s.m.time.state ≠ .holdover → Machine.exec .holdoverExpire s = .next s) ∧
    (s.m.follows = true → ∃ t, Answers .pairTimeDisagree s t ∧ JournalOnly s.m t.m ∧
      t.m.holds Machine.cPairTimeDisagree Machine.scModule 0 = true) ∧
    (∀ eth dom msg, dom ≠ s.m.cfg.sweep.ptpDomain → Machine.exec (.ptpMessageRx eth dom msg) s = .next s) ∧
    (∀ eth gm better, ∃ t, Answers (.ptpMessageRx eth s.m.cfg.sweep.ptpDomain (.announce gm better)) s t ∧
      t.m = { s.m with time := { s.m.time with
        masters := Machine.modAt s.m.time.masters eth (fun _ => some gm), ptpPort := t.m.time.ptpPort
        grandmaster := t.m.time.grandmaster, sourceLost := t.m.time.sourceLost } } ∧
      (better = true ∨ s.m.time.ptpPort = none ∨ s.m.time.ptpPort = some eth →
        t.m.time.ptpPort = some eth ∧ t.m.time.grandmaster = gm) ∧
      (better = false → ∀ e, s.m.time.ptpPort = some e → e ≠ eth →
        t.m.time.ptpPort = some e ∧ t.m.time.grandmaster = s.m.time.grandmaster)) ∧
    (∀ eth ns d, s.m.time.ptpPort = some eth → d = ns - s.m.cfg.sweep.ptpAsymmetry.getD eth 0 →
      (s.m.follows = false → s.m.cfg.sweep.timeSource ≠ .ppsHost →
        (s.m.time.state ≠ .unset ∨ s.m.time.offset ≠ 0 → d.natAbs ≤ 1000000 →
          Machine.exec (.ptpMessageRx eth s.m.cfg.sweep.ptpDomain (.offset ns)) s =
            .next { s with m := { s.m with time := { s.m.time with
              servo := d, slew := d
              trim := Machine.clampI (-10000) 10000 (Config.servoTrim s.m.time.trim d) } } }) ∧
        (1000000 < d.natAbs → s.m.sweep.running = true →
          Machine.exec (.ptpMessageRx eth s.m.cfg.sweep.ptpDomain (.offset ns)) s =
            .next { s with m := { s.m with time := { s.m.time with
              servo := d, pendingStep := some d
              trim := Machine.clampI (-10000) 10000 (Config.servoTrim s.m.time.trim d) } } })) ∧
      (s.m.follows = true → d.natAbs ≤ 1000 →
        ∃ t, Answers (.ptpMessageRx eth s.m.cfg.sweep.ptpDomain (.offset ns)) s t ∧ JournalOnly s.m t.m ∧
          t.m.holds Machine.cPairTimeDisagree Machine.scModule 0 = false)) ∧
    (s.m.cfg.sweep.ptpMaster = true → s.m.time.ptpPort = none →
      Machine.exec (.ptpMessageRx 0 s.m.cfg.sweep.ptpDomain .delayReq) s =
        .next { s with m := s.m.emit (.ptp 0 s.m.cfg.sweep.ptpDomain .delayResp) }) ∧
    (∀ d, s.m.follows = false → s.m.ppsSource = true → s.m.time.tod = none →
      (s.m.time.todKnown = true ∧ s.m.time.offset ≠ 0) ∨ s.m.time.state ≠ .unset → d.natAbs ≤ 1000000 →
      Machine.exec (.ppsInEdge d) s = .next { s with m := { s.m with time := { s.m.time with
        ppsSeen := true, sourceLost := false, servo := d, slew := d
        trim := Machine.clampI (-10000) 10000 (Config.servoTrim s.m.time.trim d) } } }) ∧
    (∀ d sec heard, s.m.follows = false → s.m.ppsSource = true → s.m.time.tod = some (sec, heard) →
      heard + 10000000 ≤ s.m.time.now → s.m.sweep.running = true →
      1000000 < ((sec * 1000000000 : Nat) - ((s.m.time.now : Int) + s.m.time.offset)).natAbs →
      Machine.exec (.ppsInEdge d) s = .next { s with m := { s.m with time := { s.m.time with
        ppsSeen := true, sourceLost := false, tod := none, todKnown := true
        servo := (sec * 1000000000 : Nat) - ((s.m.time.now : Int) + s.m.time.offset)
        pendingStep := some ((sec * 1000000000 : Nat) - ((s.m.time.now : Int) + s.m.time.offset)) } } }) ∧
    (∀ d, s.m.follows = true ∨ s.m.ppsSource = false → Machine.exec (.ppsInEdge d) s = .next { s with
      m := { s.m with time := { s.m.time with ppsSeen := true } } }))

/-- R3, R4, R8: the bay of a ring, whatever is populated; where the two ends of a ring land, in a pair and in a
single-module domain, and a worker's hop from each end. -/
def Obligations.RingEndsAndHops : Prop :=
  ∀ (m : Machine.Module) (r : Nat),
    (m.isPair = true → bayOfRing m.isPair r = r * 4 / 32 ∧ m.ringCount = 32) ∧
    (m.isPair = false → bayOfRing m.isPair r = r * 4 / 16 ∧ m.ringCount = 16) ∧
    (m.sup.slot = .a → m.ownPort r false = some r ∧ m.ownPort r true = none) ∧
    (m.sup.slot = .b → m.ownPort r true = some r ∧ m.ownPort r false = none) ∧
    (m.sup.slot = .single → m.ownPort r false = some (2 * r) ∧ m.ownPort r true = some (2 * r + 1)) ∧
    (m.sup.slot ≠ .invalid → ∀ p south, p < 32 → m.ownPort r south = some p → m.endOfPort p = (r, south)) ∧
    (∀ h, 1 ≤ h → h ≤ m.cfg.ringW r →
      m.hopFrom (r, h) false = h ∧ m.hopFrom (r, h) true = m.cfg.ringW r - h + 1)

/-- R89, R119, R121, R324: the code violations of a window are counted; mixed windows change nothing else; two agreeing windows
change the state of a port, for the Carapace's detectors and, on a port in service, for the module's own. A link that goes
down makes the port DEAD. -/
def Obligations.ToneNeedsTwoWindows : Prop :=
  ∀ (s : Machine.State) (p : Nat) (a b c : Bool), p < 32 → s.cara.tones.length = 32 → s.cara.toneWins.length = 32 →
    s.m.ports.length = 32 →
    (Machine.windowClass a b c = none → Machine.exec (.toneWindow p a b c 0) s = .next s) ∧
    (Machine.windowClass true true false = some .tone ∧ Machine.windowClass false false true = some .silent) ∧
    (∀ n, Machine.windowClass a b c = none → s.m.rgiUp = true → s.m.portOn p = true → 0 < (s.m.port p).counters.length →
      (s.m.port p).counters.getD 0 0 ≤ 65535 →
      ∃ t, Answers (.toneWindow p a b c n) s t ∧ JournalOnly { s.m with ports := t.m.ports } t.m ∧
        (t.m.port p).counters.getD 0 0 = min 65535 ((s.m.port p).counters.getD 0 0 + n) ∧
        ∀ q, q ≠ p → t.m.port q = s.m.port q) ∧
    (∀ x, Machine.windowClass a b c = some x → s.cara.state ≠ .off →
      ∃ t, Machine.exec (.toneWindow p a b c 0) s = .next t ∧ t.pending = s.pending ∧
        t.cara = { s.cara with tones := t.cara.tones, toneWins := t.cara.toneWins } ∧
        t.cara.toneWins.getD p none = some x ∧
        t.cara.tones.getD p .dead =
          (if s.cara.toneWins.getD p none = some x then x else s.cara.tones.getD p .dead) ∧
        (∀ q, q ≠ p → t.cara.tones.getD q .dead = s.cara.tones.getD q .dead ∧
          t.cara.toneWins.getD q none = s.cara.toneWins.getD q none) ∧
        (s.m.rgiUp = true → s.m.portOn p = true → (s.m.port p).up = true →
          JournalOnly { s.m with ports := t.m.ports, free := t.m.free } t.m ∧
          (t.m.port p).lastWin = some x ∧
          (t.m.port p).tone = (if (s.m.port p).lastWin = some x then x else (s.m.port p).tone) ∧
          ∀ q, q ≠ p → t.m.port q = s.m.port q) ∧
        (s.m.rgiUp = false ∨ s.m.portOn p = false ∨ (s.m.port p).up = false → t.m = s.m)) ∧
    (∃ t, Machine.exec (.portLinkDown p) s = .next t ∧ t.pending = s.pending ∧
      t.cara = { s.cara with tones := t.cara.tones, toneWins := t.cara.toneWins } ∧
      t.cara.tones.getD p .silent = .dead ∧ t.cara.toneWins.getD p (some .tone) = none ∧
      (∀ q, q ≠ p → t.cara.tones.getD q .dead = s.cara.tones.getD q .dead) ∧
      (s.m.rgiUp = false ∨ s.m.portOn p = false ∨ (s.m.port p).up = false → t.m = s.m) ∧
      (s.m.rgiUp = true → s.m.portOn p = true → (s.m.port p).up = true →
        ∃ n, JournalOnly { s.m with ports := n.ports, free := n.free } n ∧ (n.port p).up = false ∧
          (n.port p).tone = .dead ∧ (n.port p).lastWin = none ∧ (∀ q, q ≠ p → n.port q = s.m.port q) ∧
          t.m = (if (n.ring (n.endOfPort p).1).trained then
            n.learnTurn (n.endOfPort p).1 (if (n.endOfPort p).2 then n.cfg.ringW (n.endOfPort p).1 else 1)
              (n.endOfPort p).2 else n).afterRing (n.endOfPort p).1))

/-- R21, R93, R95 to R99, R105, R114, R121: a port that the set does not enable takes no frame; a frame with a bad CRC or a
wrong hop count is only counted at its port and to its segment, and goes to the partner; a turned command is counted; a good
frame is counted, forwarded to the partner and taken. -/
def Obligations.RingFramesAtPorts : Prop :=
  ∀ (s : Machine.State) (p : Nat),
    (s.m.portOn p = false →
      (∀ f, Machine.exec (.collectingFrameRx p f) s = .next s) ∧ (∀ f, Machine.exec (.replyFrameRx p f) s = .next s) ∧
      (∀ f, Machine.exec (.noticeRx p f) s = .next s) ∧ Machine.exec (.turnedCommandRx p) s = .next s ∧
      Machine.exec (.portLinkUp p) s = .next s) ∧
    (s.m.rgiUp = true → s.m.portOn p = true →
      (∃ t, Answers (.turnedCommandRx p) s t ∧
        JournalOnly (s.m.modPort p (fun q => { q with counters := Machine.modAt q.counters 7 Machine.bump16 })) t.m) ∧
      (∀ f, Machine.exec (.collectingFrameRx p f) s = .next { s with
        m := ((s.m.countFrame p f).forward p (.collect f)).collected (s.m.endOfPort p).1 f }) ∧
      (∀ f : RingReply, ∃ n, n = (s.m.countCode p f.codeErr).forward p (.reply f) ∧
        JournalOnly { s.m with ports := n.ports } n ∧
        (f.crcOk = false → Machine.exec (.replyFrameRx p f) s = .next { s with m := (n.countPort p 1).portError p }) ∧
        (f.crcOk = true → f.hopCnt ≠ (f.hop + 255) % 256 ∨ f.hopCntN ≠ 255 - f.hopCnt →
          Machine.exec (.replyFrameRx p f) s = .next { s with m := n.countPort p 2 }) ∧
        (f.crcOk = true → f.hopCnt = (f.hop + 255) % 256 → f.hopCntN = 255 - f.hopCnt →
          ∃ k, k = (if f.status = 2 then n.countPort p 5 else if f.status = 1 then n.countPort p 6 else n) ∧
            Machine.exec (.replyFrameRx p f) s = .next { s with
              m := k.replied ((k.endOfPort p).1,
                Machine.northHop f.fromSouth (k.cfg.ringW (k.endOfPort p).1) f.hop) f })) ∧
      (∀ f : NoticeFrame, ∃ n, n = (s.m.countCode p f.codeErr).forward p (.notice f) ∧
        JournalOnly { s.m with ports := n.ports } n ∧
        (f.crcOk = false → Machine.exec (.noticeRx p f) s = .next { s with m := (n.countPort p 1).portError p }) ∧
        (f.crcOk = true → f.hopCntN ≠ 255 - f.hopCnt →
          Machine.exec (.noticeRx p f) s = .next { s with m := n.countPort p 2 }) ∧
        (f.crcOk = true → f.hopCntN = 255 - f.hopCnt → Machine.exec (.noticeRx p f) s = .next { s with
          m := ((n.countPort p 9).takeNotice (n.endOfPort p).1 (n.endOfPort p).2 f).afterRing (n.endOfPort p).1 })) ∧
      ((s.m.port p).up = true → Machine.exec (.portLinkUp p) s = .next s) ∧
      ((s.m.port p).up = false → ∃ n, n = s.m.modPort p (fun q => { q with up := true }) ∧
        Machine.exec (.portLinkUp p) s = .next { s with
          m := if (s.m.ring (s.m.endOfPort p).1).trained then n else n.beginTraining (s.m.endOfPort p).1 }))

/-- R91, R94, R97, R98: a leader has one counted command outstanding to a worker, with the counter after the last one; a second
command waits. A command unanswered for its timeout is sent again identically until it has been sent four times. -/
def Obligations.CountedCommands : Prop :=
  ∀ (m : Machine.Module) (w : Wk) (cmd : Machine.RingCmd), m.acts = true →
    ((m.wk w).outst = none → ∀ south hop, m.endOf w = some (south, hop) →
      ∃ f, f = .command cmd.opcode hop false (((m.wk w).c + 1) % 256) cmd.payload ∧
      ((m.sendCounted w cmd).wk w).outst =
        some { cmd := cmd, count := ((m.wk w).c + 1) % 256, fromSouth := south } ∧
      (m.sendCounted w cmd).outbox = (match m.ownPort w.1 south with
        | some p => .ring p f
        | none => .pairEnd w.1 f (m.departure f)) :: m.outbox) ∧
    (∀ o, (m.wk w).outst = some o →
      m.sendCounted w cmd = m.modWk w (fun x => { x with queue := x.queue ++ [cmd] })) ∧
    (∀ o, (m.wk w).outst = some o → o.reading = false → o.sends < 4 →
      ∃ f, f = .command o.cmd.opcode (m.hopFrom w o.fromSouth) false o.count o.cmd.payload ∧
      ((m.countedTimeout w o).wk w).outst = some { o with sends := o.sends + 1 } ∧
      (m.countedTimeout w o).outbox.head? = some (match m.ownPort w.1 o.fromSouth with
        | some p => .ring p f
        | none => .pairEnd w.1 f (m.departure f))) ∧
    (∀ s : Machine.State, s.m = m → m.rgiUp = true →
      (∀ o, (m.wk w).outst = some o → Machine.exec (.replyTimeout w.1 w.2) s =
        .next { s with m := (m.countedTimeout w o).afterRing w.1 }) ∧
      (∀ q rest, (m.wk w).outst = none → (m.wk w).queries = q :: rest →
        Machine.exec (.replyTimeout w.1 w.2) s = .next { s with m := (m.queryTimeout w q rest).afterRing w.1 }))

/-- R108, R116, R122: a probe's return, at an own port or at the partner's, is taken for the worker at its hop; a rejoin starts
only on a broken segment without a quarantine in force; the watch of a rejoin ends it; a quarantine's time makes the segment
eligible. -/
def Obligations.ProbesRejoinQuarantine : Prop :=
  ∀ s : Machine.State, s.m.rgiUp = true →
    (∀ p h d, s.m.portOn p = true ∨ (s.m.isPair = true ∧ 32 ≤ p) → 1 ≤ h → h ≤ s.m.cfg.ringW (s.m.endOfPort p).1 →
      Machine.exec (.probeReturn p h d) s = .next { s with
        m := (s.m.probeBack ((s.m.endOfPort p).1, Machine.northHop (s.m.endOfPort p).2
          (s.m.cfg.ringW (s.m.endOfPort p).1) h) (s.m.endOfPort p).2 d).afterRing (s.m.endOfPort p).1 }) ∧
    (∀ r g, s.m.segDown r g = false ∨ (s.m.ring r).rejoin ≠ none ∨
      ((s.m.seg r g).quarantined = true ∧ (s.m.seg r g).eligible = false) ∨ (s.m.seg r g).unstable = true →
      Machine.exec (.rejoinStart r g) s = .next s) ∧
    (∀ r g, s.m.acts = true → s.m.segDown r g = true → (s.m.ring r).rejoin = none →
      (s.m.seg r g).quarantined = false ∨ (s.m.seg r g).eligible = true → (s.m.seg r g).unstable = false →
      s.m.partnerEndOk r g = true →
      Machine.exec (.rejoinStart r g) s = .next { s with m := s.m.beginRejoin r g none }) ∧
    (∀ r j, (s.m.ring r).rejoin = some j → j.phase = 2 → ∃ t, Answers (.rejoinWatchExpire r j.segment) s t ∧
      t.m = { s.m with rings := t.m.rings } ∧ t.m.ring r = { s.m.ring r with rejoin := none } ∧
      ∀ r', r' ≠ r → t.m.ring r' = s.m.ring r') ∧
    (∀ r g, (s.m.seg r g).quarantined = true → ∃ t, Answers (.quarantineExpire r g) s t ∧
      t.m = { s.m with rings := t.m.rings } ∧ t.m.seg r g = { s.m.seg r g with eligible := true } ∧
      ∀ r', r' ≠ r → t.m.ring r' = s.m.ring r')

/-- R343, R344, R349, R354, R358: a valid frame of the partner brings its lane up and ends the silence of the link, and
in a follower the leader's frame carries the sweep index; a bad one is only counted; DEPART and PARK_NOTICE are kept; a
leader's KEEPALIVE lets a SYNCING follower ask for what it lacks and stand ready. Without a running PRI no frame is taken. -/
def Obligations.PairFramesHeard : Prop :=
  (∀ (m : Machine.Module) (h : PairHdr),
    (m.heardPair h).pair = { m.pair with
      lanes := Machine.modAt m.pair.lanes h.lane (fun _ => true), silent := false, lastValid := m.time.now
      bootWait := false, splitDone := false, noGeyser := false } ∧
    JournalOnly { m with pair := (m.heardPair h).pair, sweep := (m.heardPair h).sweep } (m.heardPair h) ∧
    (m.heardPair h).holds Machine.cPairLinkLost Machine.scModule 0 = false ∧
    (m.heardPair h).holds Machine.cPairLaneDown Machine.scModule h.lane = false ∧
    (h.role = .leader → m.follows = true → (m.heardPair h).sweep.j = h.sweep) ∧
    (h.role ≠ .leader ∨ m.follows = false → (m.heardPair h).sweep = m.sweep)) ∧
  ∀ (s : Machine.State) (h : PairHdr),
    (s.m.pairServes = true →
      (∀ cause, Machine.exec (.departRx h cause) s = .next { s with m := { s.m.heardPair h with
        pair := { (s.m.heardPair h).pair with depart := some cause } } }) ∧
      Machine.exec (.parkNoticeRx h) s = .next { s with m := { s.m.heardPair h with
        pair := { (s.m.heardPair h).pair with partnerParking := true } } } ∧
      (∀ lane, lane < 2 → ∃ t, Answers (.pairFrameCrcError lane) s t ∧
        JournalOnly { s.m with pair := { s.m.pair with laneCrc := Machine.bump16 s.m.pair.laneCrc } } t.m) ∧
      (∀ port f, s.m.up .rgi = true → Machine.exec (.pairRingFrameRx h port f) s = .next { s with
        m := (s.m.heardPair h).pairFrame port f }) ∧
      (∀ k, s.m.leads = true → s.m.holds Machine.cEjectRefused Machine.scModule 0 = false →
        ∃ t, Answers (.pairKeepaliveRx h k) s t ∧ t.m.pair.keep = k ∧ t.m.pair.partnerRole = some h.role ∧
          t.m.pair.silent = false ∧
          t.m.pair.partnerParking = (s.m.pair.partnerParking && !k.leverLocked) ∧
          JournalOnly { s.m with pair := t.m.pair } t.m) ∧
      (∀ k, s.m.follows = true → h.role = .leader → ∃ x : Machine.Module,
        x = Machine.Module.heardPair { s.m with pair := { s.m.pair with
          keep := k, partnerRole := some .leader, partnerParking := s.m.pair.partnerParking && !k.leverLocked } } h ∧
        Machine.exec (.pairKeepaliveRx h k) s = .next { s with m := x.askLeader.readyCheck }) ∧
      (∀ d, s.m.pair.digests = [] → Machine.exec (.pairDigestRx h d) s = .next { s with m := { s.m.heardPair h with
        pair := { (s.m.heardPair h).pair with
          depart := none, partnerDigest := some (h.sweep, d), lastDigest := some h.sweep } } })) ∧
    (s.m.pairServes = false →
      (∀ cause, Machine.exec (.departRx h cause) s = .next s) ∧ Machine.exec (.parkNoticeRx h) s = .next s ∧
      (∀ k, Machine.exec (.pairKeepaliveRx h k) s = .next s) ∧ (∀ d, Machine.exec (.pairDigestRx h d) s = .next s) ∧
      (∀ lane, Machine.exec (.pairFrameCrcError lane) s = .next s))

/-- R61, R82, R259, R292, R313, R314, R345, R417, R421, R425: what a follower takes from its leader: the time's offset, a
manifest (one that differs from its own provisional one costs it its standing), a Scarab instance, a precharge run, the switch
image, a frame for its own ring end, and journal records, of which a mask and an acknowledgement take effect. A leader keeps the
follower's currents, and takes the follower's own conditions into its map. -/
def Obligations.FollowerTakesFrames : Prop :=
  ∀ (s : Machine.State) (h : PairHdr),
    (s.m.pairServes = false → (∀ off, Machine.exec (.pairTimeRx h off) s = .next s) ∧
      (∀ man, Machine.exec (.pairManifestRx h man) s = .next s) ∧
      (∀ k img, Machine.exec (.pairScarabStepRx h k img) s = .next s) ∧
      (∀ c r, Machine.exec (.pairRunRecordRx h c r) s = .next s) ∧
      (∀ l cur, Machine.exec (.pairSwitchImageRx h l cur) s = .next s) ∧
      (∀ port f dep, Machine.exec (.pairEndRequestRx h port f dep) s = .next s) ∧
      (∀ r, Machine.exec (.pairJournalRx h r) s = .next s)) ∧
    (s.m.pairServes = true →
    let n := s.m.heardPair h
    (s.m.follows = true →
      (∀ off, off.natAbs ≤ 1000000 → s.m.time.state = .locked → s.m.up .mgi = true →
        Machine.exec (.pairTimeRx h off) s = .next { s with
          m := { n with time := { n.time with slew := off }, pair := { n.pair with partnerTime := off } } }) ∧
      (∀ man p, n.sweep.prov = some p → p.sweep = man.sweep → man.gen = s.m.pair.gen →
        Machine.exec (.pairManifestRx h man) s = .next { s with
          m := if Machine.sameManifest p man then { n with sweep := { n.sweep with prov := none } }
            else (Machine.Module.noteMissing { n with sweep := { n.sweep with prov := none } } man).loseSync }) ∧
      (∀ man, n.sweep.prov = none → man.gen = s.m.pair.gen →
        Machine.exec (.pairManifestRx h man) s = .next { s with
          m := if n.readoutOpen man.sweep then n.openManifest man else n }) ∧
      (∀ k img, (∀ st, img.step = some st →
          (Machine.look {} ((n.partnerWorks.takeStep h.sweep k img).seqOf k).steps st).kind ≠ 0xF) →
        ∃ t, Answers (.pairScarabStepRx h k img) s t ∧ t.m.inst k = img ∧
        (∀ k', k' ≠ k → t.m.inst k' = s.m.inst k') ∧
        t.m = { n with scarab := t.m.scarab, cal := t.m.cal, pair := t.m.pair } ∧ t.m.pair.depart = none ∧
        t.m.pair = { n.pair with depart := none, resync := t.m.pair.resync }) ∧
      (∀ k img st, img.step = some st →
          (Machine.look {} ((n.partnerWorks.takeStep h.sweep k img).seqOf k).steps st).kind = 0xF →
        Machine.exec (.pairScarabStepRx h k img) s = .next { s with
          m := ((n.partnerWorks.takeStep h.sweep k img).endTemplate k).limitReached k }) ∧
      (∀ c r, c < s.m.pre.length → ∃ t, Answers (.pairRunRecordRx h c r) s t ∧ (t.m.pch c).state = r.state ∧
        (t.m.pch c).vTarget = r.vTarget ∧ (t.m.pch c).record_ = r ∧ PreCh.outputsLow (t.m.pch c) ∧
        PreKeeps c { n with pair := { n.pair with depart := none } } t.m) ∧
      (∀ l cur, Machine.exec (.pairSwitchImageRx h (some l) cur) s = .next { s with
        m := Machine.Module.emit { n with sw := { n.sw with image := l } } (.refresh (some l)) }) ∧
      (∀ port f dep, Machine.exec (.pairEndRequestRx h port f dep) s = .next { s with
        m := if s.m.up .rgi = true ∧ (s.m.port port).up = true then n.emit (.ring port f) else n }) ∧
      (∀ r : JRec, h.role = .leader → r.code ≠ Machine.eAlertClear → r.code ≠ Machine.eJournalAck →
        r.code ≠ Machine.eStateChange → r.code ≠ Machine.eCommand → r.code ≠ Machine.eRingRejoined →
        r.code ≠ Machine.eDormant → ∃ t, Answers (.pairJournalRx h r) s t ∧ JournalOnly n t.m ∧
          r.seq < t.m.jou.domNext ∧ (s.m.up .mgi = true → n.jou.queue.length < 65536 → (true, r) ∈ t.m.jou.queue) ∧
          (r.code = Machine.eAlertMask → t.m.al.mask = Machine.bitmapSources r.payload) ∧
          (r.code ≠ Machine.eAlertMask → t.m.al.mask = n.al.mask)) ∧
      (∀ r : JRec, h.role = .leader →
        Machine.exec (.pairJournalRx h r) s = .next { s with m := (n.keepRecord r).applyJournal r })) ∧
    (s.m.leads = true →
      (∀ cur, Machine.exec (.pairSwitchImageRx h none cur) s = .next { s with
        m := { n with sw := { n.sw with partnerCur := cur } } }) ∧
      (∀ l cur, Machine.exec (.pairSwitchImageRx h (some l) cur) s = .next { s with m := n }) ∧
      (∀ r : JRec, h.role ≠ .leader → r.code < 0x80 → ∃ t, Answers (.pairJournalRx h r) s t ∧ JournalOnly n t.m ∧
        ((⟨r.code, r.scope, r.inst⟩ : Machine.Cond) ∈ t.m.al.partner ↔ r.fall = false) ∧
        (r.fall = false → r.code ∈ t.m.al.sticky)) ∧
      (∀ r : JRec, h.role ≠ .leader → 0x80 ≤ r.code →
        Machine.exec (.pairJournalRx h r) s = .next { s with m := n.enqueue false r })))


/-- R349, R350, R440, R444: blocks of a state snapshot are counted and the missing ones asked for; the complete image is
installed; the leader serves a snapshot of a shared generation, re-sends the blocks named and streams a set asked for;
the bytes of a set are gathered, and the whole set is checked and kept. -/
def Obligations.PairResynchronisation : Prop :=
  ∀ (s : Machine.State) (h : PairHdr), s.m.pairServes = true →
    let n := s.m.heardPair h
    (s.m.pair.role = .syncing → s.m.pair.resync.requested = true → ∀ b, ∃ k : Machine.Module,
      k = { n with pair := { n.pair with resync := s.m.pair.resync.count b } } ∧
      ((s.m.pair.resync.count b).lost ≠ [] →
        (∀ img, Machine.exec (.stateChunkRx h b false img) s = .next { s with m := k }) ∧
        (∀ img, Machine.exec (.stateChunkRx h b true img) s = .next { s with
          m := k.emit (.pairCtrl 1 0 0 (s.m.pair.resync.count b).lost) })) ∧
      ((s.m.pair.resync.count b).lost = [] → (∀ img, Machine.exec (.stateChunkRx h b true (some img)) s = .next { s with
        m := k.completeResync img }) ∧
        ((s.m.pair.resync.count b).next < Machine.imageCount → ∀ img,
          Machine.exec (.stateChunkRx h b false img) s = .next { s with m := k }))) ∧
    (s.m.pair.role ≠ .syncing → ∀ b last img, Machine.exec (.stateChunkRx h b last img) s = .next { s with m := n }) ∧
    (∀ r : Machine.Resync, ∀ b, b = r.next → r.lost = [] → (r.count b).lost = [] ∧ (r.count b).next = b + 1) ∧
    (∀ r : Machine.Resync, ∀ b c, r.next ≤ c → c < b → c ∈ (r.count b).lost) ∧
    (s.m.leads = true →
      (∀ g own, s.m.sharedGen g = some own → Machine.exec (.streamCtrlResync h g) s = .next { s with m := { n with
        pair := { n.pair with partnerGen := some g, equalRun := 0, gen := own, serve := true } } }) ∧
      (∀ g, s.m.sharedGen g = none → Machine.exec (.streamCtrlResync h g) s = .next { s with m := { n with
        pair := { n.pair with partnerGen := some g, equalRun := 0 } } }) ∧
      (∀ bs i, bs ≠ [] → s.m.pair.snap = some i →
        Machine.exec (.streamCtrlResend h bs) s = .next { s with m := n.emit (.pairState i) }) ∧
      (∀ slot, ∃ t, Answers (.streamCtrlSet h slot) s t ∧ t.m = { n with outbox := t.m.outbox } ∧
        ∃ sent, t.m.outbox = sent ++ n.outbox ∧ (∀ o ∈ sent, ∃ at_ data, o = .pairSet slot at_ data ∧ data.length ≤ 4096) ∧
          ∀ at_ data, Machine.Out.pairSet slot at_ data ∈ sent → data =
            (((if slot = 0 then s.m.sets.active else s.m.sets.pending).bytes).drop at_).take 4096)) ∧
    (s.m.leads = false → (∀ g, Machine.exec (.streamCtrlResync h g) s = .next { s with m := n }) ∧
      (∀ bs, Machine.exec (.streamCtrlResend h bs) s = .next { s with m := n }) ∧
      (∀ slot, Machine.exec (.streamCtrlSet h slot) s = .next { s with m := n })) ∧
    (s.m.follows = true → ∀ off data, ∃ held : List (Nat × List Byte),
      held = Machine.takeChunk s.m.sets.pending.blocks off data ∧
      (Machine.setSize? held = some (Machine.bytesHeld held) → Machine.exec (.setChunkRx h 1 off data) s = .next { s with
        m := n.takeStreamed (Machine.assembled held (Machine.bytesHeld held)) }) ∧
      (Machine.setSize? held ≠ some (Machine.bytesHeld held) → Machine.exec (.setChunkRx h 1 off data) s = .next { s with
        m := { n with sets := { n.sets with pending := {
          state := 1, size := (Machine.setSize? held).getD 0, blocks := held, received := Machine.bytesHeld held } } } })) ∧
    (s.m.follows = true → s.m.pair.setWanted = true → ∀ off data, ∃ held : List (Nat × List Byte),
      held = Machine.takeChunk s.m.pair.setBuf off data ∧
      (Machine.setSize? held = some (Machine.bytesHeld held) → Machine.exec (.setChunkRx h 0 off data) s = .next { s with
        m := Machine.Module.takeActive { n with pair := { n.pair with setBuf := [] } }
          (Machine.assembled held (Machine.bytesHeld held)) }) ∧
      (Machine.setSize? held ≠ some (Machine.bytesHeld held) → Machine.exec (.setChunkRx h 0 off data) s = .next { s with
        m := { n with pair := { n.pair with setBuf := held } } })) ∧
    (s.m.leads = true → ∀ slot off data, Machine.exec (.setChunkRx h slot off data) s = .next { s with m := n }) ∧
    (s.m.follows = true → s.m.pair.resync.failed = true → ∃ k : Machine.Module,
      k = { s.m with pair := { s.m.pair with resync := { s.m.pair.resync with failed := false } } } ∧
      Machine.exec .resyncRetryExpire s = .next { s with m := k.askState }) ∧
    (s.m.pair.resync.failed = false → Machine.exec .resyncRetryExpire s = .next s)


/-- R340 to R342, R344, R349, R351 to R358: a handover is offered, accepted or declined and completes at its point, on the old
leader and on the new one; one that found no ACCEPT is offered again; a failover needs the wire, the lever at LOCKED and a
departed or silent leader without its rings, and completes at its own point; the token's events end or begin the lead. A module
that takes the lead leads, and in slot A drives LEAD_TOKEN low. -/
def Obligations.LeadershipMoves : Prop :=
  (∀ m : Machine.Module, m.takeLead.pair.role = .leader ∧
    (m.sup.slot = .a → m.takeLead.pair.tokenLow = true ∧ m.takeLead.pair.driving = true)) ∧
  (∀ m : Machine.Module, m.mayTakeOver = true → m.follows = true ∧ m.wirePermits = true ∧ m.sup.lever = .locked ∧
    (m.pair.depart ≠ none ∨ (m.pair.silent = true ∧ m.ringEvidence = true))) ∧
  ∀ (s : Machine.State) (h : PairHdr), s.m.pairServes = true →
    let n := s.m.heardPair h
    (∀ k, s.m.pair.role = .ready → s.m.sup.lever = .locked → 2 ≤ s.m.pair.equalRun → s.m.pair.depart = none →
      n.activatesAt k = false → Machine.exec (.handoverOffer h k) s = .next { s with
        m := ({ n with pair := { n.pair with accepted := some k } } : Machine.Module).emit (.pairHandover 1 k) }) ∧
    (∀ k, s.m.pair.role = .syncing ∨ (s.m.leads = false ∧ (s.m.sup.lever ≠ .locked ∨ s.m.pair.equalRun < 2 ∨
        s.m.pair.depart ≠ none ∨ n.activatesAt k = true)) → Machine.exec (.handoverOffer h k) s = .next { s with
        m := ({ n with pair := { n.pair with accepted := none } } : Machine.Module).emit (.pairHandover 2 k) }) ∧
    (∀ k, s.m.leads = true → s.m.pair.offered = some k →
      Machine.exec (.handoverAccept h k) s = .next { s with
        m := { n with pair := { n.pair with offered := none, accepted := some k } } } ∧
      Machine.exec (.handoverDecline h k) s = .next { s with m := n.offerFailed k }) ∧
    (∀ k, s.m.leads = false ∨ s.m.pair.offered ≠ some k → Machine.exec (.handoverAccept h k) s = .next { s with m := n } ∧
      Machine.exec (.handoverDecline h k) s = .next { s with m := n }) ∧
    (s.m.leads = true → s.m.sup.parking = false →
      (∀ k, s.m.pair.accepted = some k → s.m.handoverDue k = true → s.m.pair.partnerRole = some .ready →
        s.m.pair.keep.leverLocked = true → Boots .handoverPoint s (pointDone s.m.giveLead)) ∧
      (∀ k, s.m.pair.accepted = some k → s.m.handoverDue k = true →
        s.m.pair.partnerRole ≠ some .ready ∨ s.m.pair.keep.leverLocked = false → ∃ x : Machine.Module,
          x = { s.m with pair := { s.m.pair with accepted := none } } ∧
          ∃ t, Answers .handoverPoint s t ∧ t.m = x.offerFailed k) ∧
      (∀ k, s.m.pair.accepted = none → s.m.pair.offered = some k → s.m.handoverDue k = true →
        ∃ t, Answers .handoverPoint s t ∧ t.m = s.m.offerFailed k) ∧
      (s.m.pair.accepted = none → s.m.pair.offered = none → s.m.pair.takeover = true →
        s.m.pair.takeAt + 1000000 ≤ s.m.time.now → Boots .handoverPoint s (pointDone s.m.takeoverPoint)) ∧
      (s.m.pair.accepted = none → s.m.pair.offered = none → s.m.pair.takeover = false →
        Machine.exec .handoverPoint s = .next s)) ∧
    (s.m.pair.role = .ready → ∀ k, s.m.pair.accepted = some k → s.m.handoverDue k = true → s.m.sup.lever = .locked →
      s.m.sup.slot = .a ∨ s.m.wireMine = true ∨ (s.m.pair.depart = none ∧ s.m.pair.silent = false) →
      Boots .handoverPoint s (pointDone s.m.gainLead)) ∧
    (s.m.follows = true → s.m.sup.parking = true → s.m.sup.outputsOff = false → s.m.pair.accepted = none →
      Machine.exec .handoverPoint s = .next { s with m := s.m.parkPoint }) ∧
    (s.m.mayTakeOver = true → Machine.exec .failoverTakeover s = .next { s with m := s.m.failover }) ∧
    (s.m.mayTakeOver = false → Machine.exec .failoverTakeover s = .next s) ∧
    (s.m.dorm.phase ≠ .dormant → ∀ lane, ∃ t, Answers (.pairLaneDown lane) s t ∧
      JournalOnly { s.m with pair := { s.m.pair with lanes := Machine.modAt s.m.pair.lanes lane (fun _ => false) } } t.m ∧
      t.m.holds Machine.cPairLaneDown Machine.scModule lane = true) ∧
    (s.m.dorm.phase ≠ .dormant → ∀ seen, s.m.leads = true → s.m.pair.resync.requested = false →
      Machine.exec (.pairLinkSilent seen) s = .next { s with
        m := { s.m with pair := { s.m.pair with silent := true, serve := false, noGeyser := decide (seen = []) } } }) ∧
    (s.m.dorm.phase ≠ .dormant → s.m.follows = true → ∃ k : Machine.Module,
      k = { s.m.abandonResync with pair := { s.m.abandonResync.pair with silent := true, serve := false } } ∧
      (∀ seen, seen ≠ [] → ∃ x : Machine.Module, x = { k with pair := { k.pair with noGeyser := false } } ∧
        Machine.exec (.pairLinkSilent seen) s = .next { s with
          m := ((if s.m.up .mgi then x.sourceGone else x).raise .pri Machine.cPairLinkLost).loseSync }) ∧
      ∃ x : Machine.Module, x = { k with pair := { k.pair with noGeyser := true } } ∧
        Machine.exec (.pairLinkSilent []) s = .next { s with m := if s.m.up .mgi then x.sourceGone else x }) ∧
    (s.m.dorm.phase = .dormant → (∀ lane, Machine.exec (.pairLaneDown lane) s = .next s) ∧
      ∀ seen, Machine.exec (.pairLinkSilent seen) s = .next s) ∧
    (s.m.pair.silent = true → Machine.exec .splitRingSilence s = .next { s with
      m := { s.m with pair := { s.m.pair with splitDone := true } } }) ∧
    (∀ low, s.m.pair.role ≠ .none_ → s.m.leads = false → Machine.exec (.leadTokenChange low) s = .next { s with
      m := { s.m with pair := { s.m.pair with tokenLow := low } } }) ∧
    (s.m.sup.slot = .b → s.m.leads = true → ∃ k : Machine.Module,
      k = { s.m with pair := { s.m.pair with tokenLow := true } } ∧
      (s.m.pair.accepted = none → Machine.exec (.leadTokenChange true) s = .next { s with m := k.deposed }) ∧
      (∀ x, s.m.pair.accepted = some x → Boots (.leadTokenChange true) s k.giveLead)) ∧
    (s.m.sup.slot = .a → s.m.leads = true → Machine.exec (.leadTokenChange false) s = .next { s with
      m := { s.m with pair := { s.m.pair with tokenLow := false, stopped := true } } }) ∧
    (s.m.sup.slot = .a → s.m.leads = true → s.m.pair.driving = true → Machine.exec (.leadTokenChange true) s = .next { s with
      m := { s.m with pair := { s.m.pair with tokenLow := true, stopped := false } } }) ∧
    (s.m.sup.slot = .a → s.m.leads = true → s.m.pair.driving = true → ∃ k, JournalOnly s.m k ∧
      k.holds Machine.cTokenFault Machine.scModule 0 = true ∧ Machine.exec .tokenFault s = .next { s with m := k.deposed }) ∧
    (s.m.pair.driving = false → Machine.exec .tokenFault s = .next s) ∧
    (s.m.sup.slot = .a → s.m.leads = true → s.m.pair.holdRun = true → ∃ k : Machine.Module,
      k = Machine.Module.emit { s.m with pair := { s.m.pair with driving := false, holdRun := false, tokenLow := false } }
        (.pairDepart 3) ∧
      (s.m.up .vsi = true → Machine.exec .tokenHoldExpire s = .next { s with m := k.deposed }) ∧
      (s.m.up .vsi = false → ∃ t, Answers .tokenHoldExpire s t ∧
        t.m = { k with pre := t.m.pre, pair := { k.pair with stopped := true } } ∧ ∀ ch ∈ t.m.pre, PreCh.outputsLow ch)) ∧
    (s.m.pair.holdRun = false → Machine.exec .tokenHoldExpire s = .next s) ∧
    (s.m.pair.role = .none_ → s.m.pair.silent = true → ∃ k : Machine.Module,
      k = { s.m with pair := { s.m.pair with bootWait := true } } ∧
      Machine.exec .pairBootTimeout s = .next { s with m := k.roleCheck }) ∧
    (s.m.pair.role ≠ .none_ → Machine.exec .pairBootTimeout s = .next s)

/-- R123, R124: GEYSER_SEND of the module that schedules advances the sweep index by one modulo 2^32, sets the sample
instant one period after the last, mirrors the index once it lies 10,000 sweeps past the mirrored one, and sends a GEYSER with
both instants and the index from every serving end of every ring; a new period begins on every ring. Without a rebuild that a
boot has asked for, nothing but the sweep pipeline, the rings and the outbox moves. A module that does not schedule sends
nothing. -/
def Obligations.GeyserAdvancesSweep : Prop :=
  ∀ s : Machine.State,
    (s.m.schedules = true → ∃ t, Answers .geyserSend s t ∧
      (s.m.est.due = false → t.m = { s.m with sweep := t.m.sweep, rings := t.m.rings, outbox := t.m.outbox }) ∧
      t.m.sweep = { s.m.sweep with
        j := (s.m.sweep.j + 1) % 4294967296, tj := s.m.nextInstant, owed := t.m.sweep.owed
        mirror := if 10000 ≤ Machine.sweepDiff ((s.m.sweep.j + 1) % 4294967296) s.m.sweep.mirror ∧ s.m.calOk = true
          then (s.m.sweep.j + 1) % 4294967296 else s.m.sweep.mirror } ∧
      (s.m.sweep.tj ≠ 0 → t.m.sweep.tj = s.m.sweep.tj + s.m.sweep.period * 1000000) ∧
      t.m.est.due = false ∧
      (s.m.up .rgi = true → s.m.est.due = false → ∀ r ∈ s.m.cfg.rings,
        (t.m.ring r).readN = false ∧ (t.m.ring r).readS = false ∧ (t.m.ring r).part = (s.m.ring r).part ∧
        ∀ e ∈ s.m.servingEnds r, LeftEnd t.m r e.1 (.command 0x01 0 false 0
          (Machine.le 8 (t.m.plantField t.m.sweep.tj) ++ Machine.le 8 (t.m.plantField (t.m.sweep.tj - 1000000)) ++
            Machine.le 4 t.m.sweep.j ++ Machine.zeros 4)))) ∧
    (s.m.schedules = false → Machine.exec .geyserSend s = .next s)


/-- R128, R269: while its readout is open, the SWEEP frames of the sweep before the newest leave every serving end with a slot
for every hop that the end serves, and HEARTBEATs with the index and LEASE_FLOOR leave the serving ends of a leader; of the rings
only what they count of frames sent moves, and nothing else but the outbox. -/
def Obligations.SweepFramesAndHeartbeats : Prop :=
  ∀ s : Machine.State,
    (s.m.schedules = true → s.m.up .rgi = true → s.m.readoutOpen s.m.lastSweep = true → ∃ t, Answers .sweepFrameSend s t ∧
      t.m = { s.m with rings := t.m.rings, outbox := t.m.outbox } ∧
      (∀ r, t.m.ring r = { s.m.ring r with
        frameTime := (t.m.ring r).frameTime, rereadSlots := (t.m.ring r).rereadSlots
        outN := (t.m.ring r).outN, outS := (t.m.ring r).outS }) ∧
      ∀ r ∈ s.m.cfg.rings, ∀ e ∈ s.m.servingEnds r, LeftEnd t.m r e.1 (.collect .sweep s.m.lastSweep
        ((List.range e.2).map (fun i => s.m.slotLenOf (r, if e.1 then s.m.cfg.ringW r - i else i + 1))))) ∧
    (s.m.runs = true → s.m.acts = true → s.m.up .rgi = true → s.m.up .vsi = true → s.m.conf? ≠ none →
      s.m.dorm.phase ≠ .dormant → ∃ t, Answers .heartbeatSend s t ∧ t.m = { s.m with outbox := t.m.outbox } ∧
        (∃ sent, t.m.outbox = sent ++ s.m.outbox) ∧
        ∀ r ∈ s.m.cfg.rings, ∀ e ∈ s.m.servingEnds r, LeftEnd t.m r e.1 (.command 0x21 0 false 0
          (Machine.le 4 s.m.sweep.j ++ Machine.le 2 s.m.cfg.seq.leaseFloor ++ Machine.zeros 2))) ∧
    (s.m.schedules = false → Machine.exec .sweepFrameSend s = .next s ∧ Machine.exec .readoutClose s = .next s) ∧
    (s.m.readoutOpen s.m.lastSweep = false → Machine.exec .sweepFrameSend s = .next s) ∧
    (s.m.acts = false → Machine.exec .heartbeatSend s = .next s)


/-- R127, R137, R138, R346: at readout close the manifest of the sweep before the newest holds the used slots and
everything placed in it since the last one; it is kept, and in a pair it goes to the follower. A manifest sets a used
worker's age to 0 and advances a missing one's, and STALE holds from age 3. A follower that is READY makes its
own provisional manifest, once. -/
def Obligations.ManifestsFixSlots : Prop :=
  ∀ s : Machine.State,
    (s.m.schedules = true → s.m.sweep.owed = [] → s.m.readoutOpen s.m.lastSweep = true →
      ∃ t man, Answers .readoutClose s t ∧ t.m.sweep.manifests.head? = some man ∧ man.sweep = s.m.lastSweep ∧
        man.used = s.m.usedSlots s.m.lastSweep ∧ man.bursts = s.m.sweep.burstsIn ∧ man.bal = s.m.sweep.balIn ∧
        man.vOut = s.m.sweep.vOutIn ∧ man.gen = s.m.pair.gen ∧ man.tGap = s.m.bootGaps s.m.lastSweep ∧
        man.dormant = s.m.dormantSpan s.m.lastSweep ∧ (man.dropped = true ↔ s.m.lastSweep ∈ s.m.sweep.dropped) ∧
        t.m = { s.m with
          workers := t.m.workers, bursts := t.m.bursts, rings := t.m.rings, sweep := t.m.sweep, al := t.m.al, jou := t.m.jou
          outbox := t.m.outbox, dorm := { s.m.dorm with bootEntry := none }, est := { s.m.est with gapPending := none } } ∧
        t.m.sweep = { s.m.sweep with
          burstsIn := [], balIn := [], dormIn := none, owed := [], dropped := t.m.sweep.dropped
          manifests := t.m.sweep.manifests, missedRun := t.m.sweep.missedRun } ∧
        (s.m.isPair = true → t.m.outbox.head? = some (.pairManifest man))) ∧
    (s.m.schedules = true → ∃ t, Answers .readoutClose s t ∧ t.m.sweep.owed = [] ∧
      ∀ r ∈ s.m.cfg.rings, (t.m.ring r).readN = false ∧ (t.m.ring r).readS = false) ∧
    (s.m.schedules = true → s.m.sweep.owed = [] → s.m.readoutOpen s.m.lastSweep = false →
      Machine.exec .readoutClose s = .next { s with m := s.m.closePeriod }) ∧
    (∀ (m : Machine.Module) (man : Manifest) (w : Wk),
      ((m.ageWorker man w).wk w).age = (if w ∈ man.used then 0 else Machine.bump8 (m.wk w).age) ∧
      (w ∈ man.used →
        (m.ageWorker man w).holds Machine.cStale Machine.scWorker (Machine.wkInst w) = false) ∧
      (w ∉ man.used → 3 ≤ Machine.bump8 (m.wk w).age →
        (m.ageWorker man w).holds Machine.cStale Machine.scWorker (Machine.wkInst w) = true)) ∧
    (s.m.runs = true → s.m.up .rgi = true → s.m.pair.role = .ready → s.m.readoutOpen s.m.lastSweep = true →
      s.m.sweep.prov = none → Machine.look [] s.m.sweep.accepted s.m.lastSweep ≠ [] →
      ∃ t man, Answers .provisionalManifest s t ∧ t.m.sweep.prov = some man ∧ man.sweep = s.m.lastSweep ∧
        man.used = s.m.usedSlots s.m.lastSweep ∧ man.bursts = [] ∧ man.bal = [] ∧ man.tGap = [] ∧ man.dormant = none ∧
        t.m = { s.m with
          workers := t.m.workers, bursts := t.m.bursts, sweep := t.m.sweep, al := t.m.al, jou := t.m.jou
          outbox := t.m.outbox } ∧
        t.m.sweep = { s.m.sweep with
          prov := some man, manifests := t.m.sweep.manifests, missedRun := t.m.sweep.missedRun }) ∧
    (s.m.pair.role ≠ .ready ∨ s.m.sweep.prov ≠ none → Machine.exec .provisionalManifest s = .next s)


/-- R84, R141: the partitions of every ring follow at the boundary while the ring interface runs, and a pending step of
plant time takes effect there: the offset moves by it, nothing is left to slew, every burst still open is shifted
with it, and a module that waits to leave UNSET is LOCKED. Without a set nothing is fixed. -/
def Obligations.BoundaryFixesPartitionAndTime : Prop :=
  ∀ s : Machine.State,
    (s.m.runs = true → s.m.conf? ≠ none → Machine.exec .partitionFix s = .next { s with
      m := (if s.m.up .rgi then s.m.cfg.rings.foldl Machine.Module.boundaryRing s.m else s.m).boundaryTime }) ∧
    (s.m.runs = false ∨ s.m.conf? = none → Machine.exec .partitionFix s = .next s) ∧
    (∀ (m : Machine.Module) r, ((m.fixPartition r).ring r).part = m.partitionOf r ∧
      ∀ r', r' ≠ r → (m.fixPartition r).ring r' = m.ring r') ∧
    (∀ m : Machine.Module, m.time.pendingStep = none → m.boundaryTime = m) ∧
    (∀ (m : Machine.Module) d, m.time.pendingStep = some d → ∃ k, JournalOnly { m with
      time := { m.time with
        offset := m.time.offset + d, pendingStep := none, slew := 0
        ppsEdge := ((m.time.now : Int) + (m.time.offset + d)).toNat / 1000000000 }
      bursts := m.bursts.map (fun (p : Nat × BurstSt) => (p.1, { p.2 with
        active := p.2.active.map (fun x => { x with tStep := ((x.tStep : Int) + d).toNat }) })) } k ∧
      (m.time.lockWanted = false → m.boundaryTime = k) ∧
      (m.time.lockWanted = true → JournalOnly { k with time := { k.time with
        state := .locked, lockedAt := m.time.now, sourceLost := false, lockWanted := false } } m.boundaryTime ∧
        m.boundaryTime.holds Machine.cTimeHoldover Machine.scModule 0 = false ∧
        m.boundaryTime.holds Machine.cTimeFreerun Machine.scModule 0 = false))

/-- R125, R147: an estimate is that of the oldest waiting manifest, complete when its sweep stands as the newest
estimated one; at a minute sweep of the period it was sampled under, a round of the charge mirror is due. A module that does not
serve the estimate, and one without a waiting manifest, changes nothing. A burst not complete 120 s after its step is released
and counted as abandoned, and BURST_ABANDONED holds. -/
def Obligations.EstimatesAndBursts : Prop :=
  (∀ s : Machine.State,
    (∀ man, s.m.estimates = true → s.m.nextManifest = some man → ∃ t, Answers .estimateComplete s t ∧
      t.m = s.m.estimateSweep man ∧ t.m.sweep.estimated = some man.sweep ∧ t.m.est.ready = true ∧
      (Machine.minuteSweep (s.m.periodOf man.sweep) man.sweep = true → t.m.cal.charge.due = true)) ∧
    (s.m.estimates = false ∨ s.m.nextManifest = none → Machine.exec .estimateComplete s = .next s)) ∧
  (∀ (s : Machine.State) (n : Nat), s.m.runs = true → s.m.up .rgi = true →
    ((s.m.burst n).active = none → Machine.exec (.burstAbandon n) s = .next s) ∧
    (∀ b, (s.m.burst n).active = some b → ∃ t, Answers (.burstAbandon n) s t ∧
      JournalOnly ((s.m.burstRelease n b).modBurst n (fun x => { x with
        active := none, abandonedN := x.abandonedN + 1 })) t.m ∧
      t.m.burst n = { s.m.burst n with active := none, abandonedN := (s.m.burst n).abandonedN + 1 } ∧
      (∀ n', n' ≠ n → t.m.burst n' = s.m.burst n') ∧
      t.m.holds Machine.cBurstAbandoned Machine.scString n = true))


/-- R193, R217, R220: a round of the charge or impedance mirror that is due begins, or goes on where the write stop interrupted
it, and is then no longer due; its words are written with the sequence advanced by one, and its header follows the last of them.
The write stop halts a round. A capacity record is written to both copies and no longer waits. Only Caldera, and the cell's
WRITE_PENDING, move. -/
def Obligations.CalderaRounds : Prop :=
  ∀ s : Machine.State,
    (s.m.mayMirror = true → s.m.cal.charge.due = true → Machine.exec .chargeMirrorRound s = .next { s with
      m := { s.m with cal := { s.m.cal with charge := { s.m.cal.charge with
        due := false, stopped := false, round := some (s.m.cal.charge.round.getD 0) } } } }) ∧
    (s.m.mayMirror = true → s.m.cal.impDue = true → Machine.exec .impedanceMirrorRound s = .next { s with
      m := { s.m with cal := { s.m.cal with
        impDue := false, impStopped := false, impRound := some (s.m.cal.impRound.getD 0) } } }) ∧
    (s.m.cal.charge.due = false → Machine.exec .chargeMirrorRound s = .next s) ∧
    (s.m.cal.impDue = false → Machine.exec .impedanceMirrorRound s = .next s) ∧
    (∀ (m : Machine.Module) n, m.cal.charge.round = some n → m.calOk = true → m.cal.charge.stopped = false →
      m.mayMirror = true → ∃ h : Machine.ChargeMirror,
        m.chargeRound = { m with cal := { m.cal with charge := h } } ∧
        (∀ x ∈ (m.chargeWords.drop n).take Machine.wordsPerMs,
          (x.1 = 0 → Machine.waiting (m.cell x.2) = false →
            Machine.look 0 h.cells x.2 = (m.mirCell (m.cal.charge.seq + 1) x.2).word) ∧
          (x.1 = 1 → Machine.look 0 h.strs x.2 = (m.mirStr (m.cal.charge.seq + 1) x.2).word)) ∧
        (n + Machine.wordsPerMs < m.chargeWords.length → h.round = some (n + Machine.wordsPerMs) ∧
          h.seq = m.cal.charge.seq ∧ h.setId = m.cal.charge.setId ∧ h.plant = m.cal.charge.plant) ∧
        (m.chargeWords.length ≤ n + Machine.wordsPerMs → h.round = none ∧ h.seq = m.cal.charge.seq + 1 ∧
          h.setId = m.sets.active.setId ∧ h.plant = m.plant)) ∧
    (∀ (m : Machine.Module) n, m.cal.charge.round = some n → m.calOk = false →
      m.chargeRound = { m with cal := { m.cal with charge := { m.cal.charge with stopped := true } } }) ∧
    (∀ (m : Machine.Module) n, m.cal.impRound = some n → m.calOk = true → m.cal.impStopped = false →
      m.mayMirror = true → ∃ c : Machine.Caldera, m.impedanceRound = { m with cal := c } ∧
        (∀ x ∈ (m.cfg.channels.drop n).take Machine.wordsPerMs,
          Machine.look 0 c.imp x.1 = (m.mirImp (m.cal.impSeq + 1) x.1).word) ∧
        (m.cfg.channels.length ≤ n + Machine.wordsPerMs → c = { m.cal with
          imp := c.imp, impRound := none, impSet := m.sets.active.setId, impSeq := m.cal.impSeq + 1 })) ∧
    (∀ e, s.m.runs = true → s.m.up .mgi = true → s.m.calOk = true → s.m.cal.capWait.find? s.m.capReady = some e →
      ∃ t, Answers .capacityRecordWrite s t ∧
        Machine.look [] t.m.cal.capA e = (s.m.capRecord e).bytes ∧ Machine.look [] t.m.cal.capB e = (s.m.capRecord e).bytes ∧
        e ∉ t.m.cal.capWait ∧ e ∉ t.m.cal.capExempt ∧ t.m.cell e = { s.m.cell e with writePending := false } ∧
        (∀ e', e' ≠ e → t.m.cell e' = s.m.cell e' ∧ Machine.look [] t.m.cal.capA e' = Machine.look [] s.m.cal.capA e' ∧
          Machine.look [] t.m.cal.capB e' = Machine.look [] s.m.cal.capB e') ∧
        t.m = { s.m with
          est := { s.m.est with cells := t.m.est.cells }
          cal := { s.m.cal with
            capA := t.m.cal.capA, capB := t.m.cal.capB, capHour := t.m.cal.capHour, capWait := t.m.cal.capWait
            capExempt := t.m.cal.capExempt } }) ∧
    (s.m.cal.capWait.find? s.m.capReady = none → Machine.exec .capacityRecordWrite s = .next s) ∧
    (s.m.calOk = false → Machine.exec .chargeMirrorRound s = .next s ∧ Machine.exec .impedanceMirrorRound s = .next s ∧
      Machine.exec .capacityRecordWrite s = .next s)


/-- R125, R232, R244, R245, R424: the verdict stage is that of the newest estimate, once; while no new estimate has come
limits are held and Scarab still steps. A fast evaluation is the leader's alone, and only a fast row that became active or
was released makes Scarab step and limits be published anew. Without a set, an island or a role nothing
is judged. ALERT.CLEAR takes effect in the stage: of the sticky bits asked for, those not live go, and no other. -/
def Obligations.VerdictStagesAndStickyBits : Prop :=
  (∀ s : Machine.State,
    (∀ k, s.m.judges = true → s.m.sweep.estimated = some k → s.m.sweep.verdicts ≠ some k →
      Machine.exec .verdictStage s = .next { s with m := s.m.stageSweep k }) ∧
    (∀ k, s.m.judges = true → s.m.sweep.estimated = some k → s.m.sweep.verdicts = some k →
      Machine.exec .verdictStage s = .next { s with m := s.m.stageHeld }) ∧
    (s.m.judges = true → s.m.sweep.estimated = none →
      Machine.exec .verdictStage s = .next { s with m := s.m.stageHeld }) ∧
    (s.m.judges = true → s.m.acts = true → ∃ x : Machine.Module, x = s.m.evalFast.driveTrip ∧
      (x.fastActive = s.m.fastActive → Machine.exec .fastRowEval s = .next { s with m := x.driveAlerts.writeNotes }) ∧
      (x.fastActive ≠ s.m.fastActive → Machine.exec .fastRowEval s = .next { s with
        m := ((((if x.scarabOn then x.deliverRequests else x).scarabRun).republish
          (x.ver.opens.map (fun (o : Nat × Bool) => o.1))).driveAlerts).writeNotes })) ∧
    (s.m.judges = false → Machine.exec .verdictStage s = .next s ∧ Machine.exec .fastRowEval s = .next s) ∧
    (s.m.acts = false → Machine.exec .fastRowEval s = .next s)) ∧
  (∀ (m : Machine.Module) (n : Nat),
    (n ∈ m.clearSticky.al.sticky ↔ n ∈ m.al.sticky ∧ (n ∉ m.al.clearReq ∨ n ∈ m.live)) ∧
    m.clearSticky.al.clearReq = [] ∧ m.clearSticky.al.conds = m.al.conds ∧ m.clearSticky.al.mask = m.al.mask ∧
    m.clearSticky = { m with al := m.clearSticky.al })

/-- R259: a step ends with success or failure, and its entry names the next step, which then starts anew; a delay's end
is success, a timeout failure. Instances that are not in the set, or stand on another kind of step, stay as they
are. -/
def Obligations.ScarabStepsAdvance : Prop :=
  (∀ (m : Machine.Module) (k : InstKey) (ok : Bool) (n : Nat), (m.inst k).step = some n →
    ((m.advance k ok).inst k).step = some (if ok then (Machine.look {} (m.seqOf k).steps n).success
      else (Machine.look {} (m.seqOf k).steps n).failure) ∧
    ((m.advance k ok).inst k).issued = false ∧ ((m.advance k ok).inst k).result = 0 ∧
    ((m.advance k ok).inst k).stepStart = m.ms ∧ ((m.advance k ok).inst k).state = (m.inst k).state) ∧
  ∀ (s : Machine.State) (k : InstKey), s.m.scarabOn = true → s.m.hasInst k = true →
    (∀ st, s.m.standing k = some st → st.kind = 6 →
      Machine.exec (.scarabDelayExpire k) s = .next { s with m := (s.m.advance k true).scarabRun }) ∧
    (∀ st, s.m.standing k = some st → st.kind ≠ 6 → Machine.exec (.scarabDelayExpire k) s = .next s) ∧
    ((s.m.inst k).illegal ≠ 2 → ∀ st, s.m.standing k = some st → st.timeout ≠ 0 →
      Machine.exec (.scarabStepTimeout k) s = .next { s with m := (s.m.advance k false).scarabRun }) ∧
    ((s.m.inst k).illegal = 2 →
      Machine.exec (.scarabStepTimeout k) s = .next { s with m := (s.m.fallbackEnd k).scarabRun }) ∧
    (∀ st, s.m.standing k = some st → st.timeout = 0 → Machine.exec (.scarabStepTimeout k) s = .next s) ∧
    (s.m.standing k = none → Machine.exec (.scarabDelayExpire k) s = .next s ∧
      ((s.m.inst k).illegal ≠ 2 → Machine.exec (.scarabStepTimeout k) s = .next s))

/-- R255, R257, R258, R263, R271: the timed events and acknowledgements of Scarab act on the instances that wait for
them: a poll reads the DZS-2 a step waits on, INSERT_WAIT_MAX fails the step of a WAITING string, the recover delay
raises RECOVER in FAULT_OPEN below FAULT_LIMIT, an empty LIVE or DERATED bay takes DRAIN, and an acknowledgement, of a switch
channel that is used and not latched or of the answer the PWI gave, reaches the steps that wait for it. -/
def Obligations.ScarabTimedEvents : Prop :=
  ∀ s : Machine.State, s.m.scarabOn = true →
    (∀ n, s.m.hasInst (.str n) = true → s.m.waitsDzs (.str n) = true →
      Machine.exec (.dzsReadPoll n) s = .next { s with m := s.m.readDzs n }) ∧
    (∀ n, s.m.hasInst (.str n) = true → s.m.waitsDzs (.str n) = false →
      Machine.exec (.dzsReadPoll n) s = .next s) ∧
    (∀ n k, s.m.hasInst (.str n) = true → (s.m.sInst n).state = 2 → s.m.cfg.seq.insertWaitMax ≠ 0 →
      (s.m.sInst n).step = some k → Machine.exec (.insertWaitExpire n) s = .next { s with
        m := ((s.m.jotDom .vsi Machine.eInsertTimeout Machine.sevInfo Machine.scString n).advance (.str n)
          false).scarabRun }) ∧
    (∀ n, (s.m.sInst n).state ≠ 2 → Machine.exec (.insertWaitExpire n) s = .next s) ∧
    (∀ n, s.m.hasInst (.str n) = true → (s.m.sInst n).state = 7 → (s.m.sInst n).step = none →
      (s.m.sInst n).faults.length < s.m.cfg.seq.faultLimit → Machine.exec (.recoverDelayExpire n) s = .next { s with
        m := (s.m.deliverAll (.str n) 5).1.scarabRun }) ∧
    (∀ n, s.m.cfg.seq.faultLimit ≤ (s.m.sInst n).faults.length →
      Machine.exec (.recoverDelayExpire n) s = .next s) ∧
    (∀ b, s.m.hasInst (.bay b) = true → (s.m.bInst b).state = 2 ∨ (s.m.bInst b).state = 3 → s.m.included b = [] →
      Machine.exec (.bayEmptyExpire b) s = .next { s with m := (s.m.deliverAll (.bay b) 1).1.scarabRun }) ∧
    (∀ b, s.m.included b ≠ [] → Machine.exec (.bayEmptyExpire b) s = .next s) ∧
    (∀ c, s.m.swiServes = true → Machine.exec (.switchCommandAck c) s = .next { s with
      m := s.m.acked (fun k st => st.kind = 3 &&
        decide ((s.m.cfg.baySwitch.getD (s.m.bayOfKey k) []).getD st.operand 255 = c))
        (decide ((s.m.swCfg c).load ≠ .unused) && !(s.m.sw.image.getD c false && decide ((s.m.swc c).state = 5))) }) ∧
    (∀ c, s.m.swiServes = false → Machine.exec (.switchCommandAck c) s = .next s) ∧
    (∀ c ok, (s.m.pch c).answer = some ok → ∃ x : Machine.Module,
      x = { s.m with pre := Machine.modAt s.m.pre c (fun ch => { ch with answer := none }) } ∧
      Machine.exec (.prechargeCommandAck c) s = .next { s with
        m := x.acked (fun k st => st.kind = 4 && decide (s.m.bayOfKey k = c)) ok }) ∧
    (∀ c, (s.m.pch c).answer = none → Machine.exec (.prechargeCommandAck c) s = .next s)

/-- R261, R256: an event starts the template whose entry the sequence table names, at that entry, with the event
kept, and starts nothing without an entry. -/
def Obligations.TemplatesStartAtEntry : Prop :=
  ∀ (m : Machine.Module) (k : InstKey) (ev ill : Nat),
    let entry := match k with
      | .str _ => m.cfg.seq.strEntry.getD ev 0xFFFF
      | .bay _ => m.cfg.seq.bayEntry.getD ev 0xFFFF
    (entry = 0xFFFF → m.startTemplate k ev ill = (m, false)) ∧
    (entry ≠ 0xFFFF → (m.startTemplate k ev ill).2 = true ∧
      ((m.startTemplate k ev ill).1.inst k).step = some entry ∧
      ((m.startTemplate k ev ill).1.inst k).event = some ev ∧
      ((m.startTemplate k ev ill).1.inst k).state = (m.inst k).state ∧
      ((m.startTemplate k ev ill).1.inst k).zeroHold = false)
/-- R165 to R170, R312, R382: a sleeping module wakes by the activity of an enabled ring port, by PCS_DC_READY, by its
pair lane, by the survey's period where one is set, and by DOMAIN.WAKE with its serial number and its WAKE_TAG; a
wake source in an entry aborts it. A wrong tag is counted only. The entry sends DORMANT_ENTER once its record is written, and
its end stops the schedule, closes the sessions and suspends the switch watchdog. -/
def Obligations.WakeSources : Prop :=
  ∀ s : Machine.State, s.m.runs = true →
    (∀ m : Machine.Module, m.runs = true →
      (m.dorm.phase = .dormant → m.wakeSource = m.wake false) ∧
      (m.dorm.phase = .entering → m.wakeSource = m.abortDormant ∧ m.abortDormant.dorm.phase = .awake ∧
        m.abortDormant.dorm.ringsEntered = []) ∧
      (m.dorm.phase = .awake ∨ m.dorm.phase = .waking →
        m.wakeSource = { m with dorm := { m.dorm with survey := false } })) ∧
    (∀ p, s.m.portOn p = true → Machine.exec (.dormantWakeRing p) s = .next { s with m := s.m.wakeSource }) ∧
    (∀ p, s.m.portOn p = false → Machine.exec (.dormantWakeRing p) s = .next s) ∧
    Machine.exec .pcsDcReadyRise s = .next { s with
      m := (Machine.Module.wakeSource { s.m with sup := { s.m.sup with dcReady := true } }).scarabRun } ∧
    (s.m.isPair = true → s.m.dorm.phase = .dormant →
      Machine.exec .pairLaneWake s = .next { s with m := s.m.wake false }) ∧
    (s.m.dorm.phase ≠ .dormant → Machine.exec .pairLaneWake s = .next s ∧
      Machine.exec .dormantSurveyExpire s = .next s) ∧
    (s.m.dorm.phase = .dormant → s.m.cfg.dorm.surveyH ≠ 0 →
      Machine.exec .dormantSurveyExpire s = .next { s with m := s.m.wake true }) ∧
    (∀ tag, s.m.dorm.phase = .dormant → Machine.exec (.domainWake s.m.sup.serial tag) s = .next { s with
      m := if tag = s.m.dorm.wakeTag then s.m.wake false else s.m.countDcp 4 }) ∧
    (∀ tag, s.m.dorm.phase = .awake → s.m.dorm.survey = false → Machine.exec (.domainWake s.m.sup.serial tag) s = .next s) ∧
    (s.m.dorm.phase = .entering → Machine.exec (.domainWake s.m.sup.serial s.m.dorm.wakeTag) s = .next { s with
      m := s.m.abortDormant }) ∧
    (∀ n tag, n ≠ s.m.sup.serial → Machine.exec (.domainWake n tag) s = .next s) ∧
    (s.m.dorm.phase = .entering →
      (s.m.entryWaits = true → s.m.sleep = s.m) ∧
      (s.m.entryWaits = false → s.m.dorm.ringsEntered = [] → s.m.cfg.rings ≠ [] →
        s.m.sleep.dorm = { s.m.dorm with ringsEntered := s.m.cfg.rings } ∧ s.m.sleep.sweep = s.m.sweep ∧
        (s.m.acts = true → ∀ r ∈ s.m.cfg.rings, ∀ e ∈ s.m.servingEnds r,
          LeftEnd s.m.sleep r e.1 (.command 0x50 0 false 0 s.m.dormantPayload))) ∧
      (s.m.entryWaits = false → s.m.dorm.ringsEntered ≠ [] ∨ s.m.cfg.rings = [] →
        s.m.sleep.dorm.phase = .dormant ∧ s.m.sleep.sweep.running = false ∧
        s.m.sleep.sw.suspended = true ∧ s.m.sleep.dcp.sessions = []))
/-- R367, R368, R374, R376 to R379: the order in which a request with a session is examined: past 2,000 requests in a second
it is counted and discarded; an unknown or unconfirmed session, and an unauthenticated request, are only counted; a wrong trailer
is counted as a failure; then come a repeated number, the waiting requests, the rekey limit, the opcode, privilege, role, domain
state, length and range. What passes runs, and its answer goes out under the session's keys; nothing but the session table, the
count of R374, the journal and the alert map has moved before it. -/
def Obligations.DcpRequestOrder : Prop :=
  ∀ (m : Machine.Module) (req : DcpReq) (op len : Nat) (inRange : Bool)
    (run : Machine.Module → Machine.Session → Machine.Module × Option Machine.Answer),
    (m.dcpUp = false → (m.sup.phase = .on → m.sup.recovery = false) → m.dcpRequest req op len inRange run = m) ∧
    (m.dcpUp = true → 2000 ≤ m.thisSecond → m.dcpRequest req op len inRange run = m.countDcp 6) ∧
    (m.dcpUp = true → m.thisSecond < 2000 →
      let a := m.tallied.authReview
      (m.session? req.session = none → m.dcpRequest req op len inRange run = a.countDcp 3) ∧
      ∀ x, m.session? req.session = some x →
        (req.unauth = true → m.dcpRequest req op len inRange run = a.countDcp 3) ∧
        (req.unauth = false → req.macOk = false → m.dcpRequest req op len inRange run = a.authFailed) ∧
        (req.unauth = false → req.macOk = true → x.confirmed = false → op ≠ 0x0002 →
          m.dcpRequest req op len inRange run = a.countDcp 3) ∧
        (x.replaces = none → dcpTaken m x req = { m with
          dcp := { m.dcp with
            sessions := (dcpTaken m x req).dcp.sessions, rateSec := m.ms / 1000, rateN := m.thisSecond + 1 }
          al := (dcpTaken m x req).al, jou := (dcpTaken m x req).jou, outbox := (dcpTaken m x req).outbox }) ∧
        (req.unauth = false → req.macOk = true → (x.confirmed = true ∨ op = 0x0002) → x.replaces = none →
          let n := dcpTaken m x req
          let y := dcpSession x req
          (Machine.isNew x req.seq = false → m.dcpRequest req op len inRange run =
            ((a.heard x req).countDcp 5).emit (.dcp y.port y.src y.id req.seq op Machine.stReplay
              (1 + Machine.rekeyDue y) (Machine.le 2 (Machine.origStatus y req.seq)))) ∧
          (Machine.isNew x req.seq = true → 16 ≤ m.waitingOf x.id → m.dcpRequest req op len inRange run =
            ((a.heard x req).countDcp 7).answer y req.seq op Machine.stBusy 0 []) ∧
          (m.waitingOf x.id < 16 → Machine.isNew x req.seq = true →
            (0x80000000 ≤ req.seq → op ≠ 0x0003 → op ≠ 0x0004 → m.dcpRequest req op len inRange run =
              n.answer y req.seq op Machine.stRekeyRequired 0 []) ∧
            (req.seq < 0x80000000 →
              (op ∉ Machine.definedOps → m.dcpRequest req op len inRange run =
                n.answer y req.seq op Machine.stBadOpcode 0 []) ∧
              (op ∈ Machine.definedOps →
                (x.privilege < Machine.opPriv op → m.dcpRequest req op len inRange run =
                  n.answer y req.seq op Machine.stPrivilege 0 []) ∧
                (Machine.opPriv op ≤ x.privilege → m.roleRejects op = true → m.dcpRequest req op len inRange run =
                  n.answer y req.seq op Machine.stRoleReject 0 m.rolePayload) ∧
                (Machine.opPriv op ≤ x.privilege → m.roleRejects op = false → m.stateAccepts op = false →
                  ∃ k, JournalOnly n k ∧ m.dcpRequest req op len inRange run =
                    k.answer y req.seq op Machine.stStateReject 0 (m.cmdResult 0 0xFFFF 0xFF 0 0xFFFF)) ∧
                (Machine.opPriv op ≤ x.privilege → m.roleRejects op = false → m.stateAccepts op = true →
                  (req.len ≠ len → m.dcpRequest req op len inRange run =
                    n.answer y req.seq op Machine.stParamLength 0 []) ∧
                  (req.len = len → inRange = false → m.dcpRequest req op len inRange run =
                    n.answer y req.seq op Machine.stParamRange 0 []) ∧
                  (req.len = len → inRange = true → m.dcpRequest req op len inRange run =
                    match (run n y).2 with
                    | some a => (run n y).1.answer y req.seq op a.1 a.2.1 a.2.2
                    | none => (run n y).1))))))) ∧
    (∀ (y : Machine.Session) st flags payload, ∃ l, m.answer y req.seq op st flags payload = { m with
      dcp := { m.dcp with sessions := l }
      outbox := .dcp y.port y.src y.id req.seq op st (1 + flags + Machine.rekeyDue ((m.session? y.id).getD y)) payload ::
        m.outbox })


/-- R364, R370 to R372: SESSION.OPEN without a session gives an enrolled key an unused number that waits for its
confirmation; CONFIRM, REKEY, CLOSE and ECHO; a session lapses unconfirmed or idle, and its subscriptions, deliveries and
transfers end with it. Datagrams that fail a step of R367 are counted, and those of steps 2 and 3 answered. -/
def Obligations.SessionsOpenAndClose : Prop :=
  ∀ (s : Machine.State) (req : DcpReq),
    (∀ keyId k, s.m.dcpUp = true → s.m.thisSecond < 2000 → req.unauth = true → req.session = 0 → req.len = 56 →
      s.m.key? keyId = some k → s.m.sessionsFull = false → ∃ t id, Answers (.sessionOpen req keyId) s t ∧
        t.m.dcp.sessions = s.m.dcp.sessions ++ [{
          id := id, keyId := k.keyId, privilege := k.privilege, port := req.port, src := req.src, confirmed := false }] ∧
        t.m = { s.m with
          free := s.m.free + 3, outbox := t.m.outbox, dcp := { s.m.tallied.dcp with sessions := t.m.dcp.sessions } } ∧
        t.m.outbox = .dcp req.port req.src id req.seq 0x0001 Machine.stOk 1 (s.m.openPayload id) :: s.m.outbox ∧
        (s.m.dcp.sessions.length < 32 → 1 ≤ id ∧ id ≤ 4294967295 ∧ s.m.session? id = none)) ∧
    (∀ x, Served s.m x req 0x0002 0 → Replies (.sessionConfirm req) s x req 0x0002
      ((dcpTaken s.m x req).modSession x.id (fun y => { y with confirmed := true })) Machine.stOk 0
      ([x.privilege, 0] ++ Machine.le 2 s.m.cfg.network.sessionIdle)) ∧
    (∀ x keyId k, Served s.m x req 0x0003 56 → s.m.key? keyId = some k → ∃ n, ∃ id : Nat,
      Replies (.sessionRekey req keyId) s x req 0x0003 n Machine.stOk 0 (s.m.openPayload id) ∧
      ∃ y ∈ n.dcp.sessions, y.id = id ∧ y.replaces = some x.id ∧ y.confirmed = true ∧ y.privilege = k.privilege) ∧
    (∀ x, Served s.m x req 0x0004 0 →
      Replies (.sessionClose req) s x req 0x0004 ((dcpTaken s.m x req).closeSession x.id) Machine.stOk 0 []) ∧
    (∀ x data, Served s.m x req 0x0005 data.length → data.length ≤ 1408 →
      Replies (.sessionEcho req data) s x req 0x0005 (dcpTaken s.m x req) Machine.stOk 0 data) ∧
    (∀ keyId, s.m.dcpUp = true → s.m.thisSecond < 2000 → req.unauth = true → req.session = 0 → req.len = 56 →
      (s.m.key? keyId = none → Machine.exec (.sessionOpen req keyId) s = .next { s with m := s.m.tallied.countDcp 4 }) ∧
      (∀ k, s.m.key? keyId = some k → s.m.sessionsFull = true → Machine.exec (.sessionOpen req keyId) s = .next { s with
        m := (s.m.tallied.countDcp 9).emit (.dcp req.port req.src 0 req.seq 0x0001 Machine.stSessionLimit 5 []) })) ∧
    (∀ id, s.m.session? id = none → Machine.exec (.sessionConfirmExpire id) s = .next s ∧
      Machine.exec (.sessionIdleExpire id) s = .next s) ∧
    (∀ id x, s.m.session? id = some x →
      (x.confirmed = false → Machine.exec (.sessionConfirmExpire id) s = .next { s with m := s.m.closeSession id }) ∧
      (x.confirmed = true → Machine.exec (.sessionConfirmExpire id) s = .next s) ∧
      Machine.exec (.sessionIdleExpire id) s = .next { s with m := s.m.closeSession id }) ∧
    (∀ (m : Machine.Module) id, (m.closeSession id).session? id = none ∧
      (∀ d ∈ (m.closeSession id).dcp.subs, d.session ≠ id) ∧ (∀ d ∈ (m.closeSession id).dcp.pend, d.session ≠ id) ∧
      (m.closeSession id).sets.holder ≠ some id ∧ (m.closeSession id).upd.holder ≠ some id ∧
      ∀ id', id' ≠ id → (m.closeSession id).session? id' = m.session? id') ∧
    (∀ d : BadDatagram, s.m.dcpHears = false ∨ d.fragmented = true → Machine.exec (.dcpMalformedDatagram d) s = .next s) ∧
    (∀ d : BadDatagram, s.m.dcpHears = true → d.fragmented = false →
      (2000 ≤ s.m.thisSecond → Machine.exec (.dcpMalformedDatagram d) s = .next { s with m := s.m.countDcp 6 }) ∧
      (s.m.thisSecond < 2000 →
        (d.size < 36 ∨ d.magicOk = false →
          Machine.exec (.dcpMalformedDatagram d) s = .next { s with m := s.m.tallied.countDcp 0 }) ∧
        (36 ≤ d.size → d.magicOk = true → 1408 < d.lengthField ∨ d.size ≠ 36 + d.lengthField →
          Machine.exec (.dcpMalformedDatagram d) s = .next { s with m := s.m.tallied.lengthError d }) ∧
        (36 ≤ d.size → d.magicOk = true → d.lengthField ≤ 1408 → d.size = 36 + d.lengthField →
          d.version ≠ 1 ∨ d.status ≠ 0 ∨ d.reservedOk = false ∨ d.replyOrStream = true →
          Machine.exec (.dcpMalformedDatagram d) s = .next { s with
            m := (s.m.tallied.countDcp 2).emit
              (.dcp d.port d.src d.session d.seq d.opcode Machine.stHeaderError 5 [1]) })))

/-- R371, R380, R381: IDENTITY.READ and HOSTKEY.LIST answer their records; the first key, which must carry ADMIN, is
enrolled without a session on SVC; ADD enrols or replaces a key, REMOVE takes it away and closes its sessions, and a list
without ADMIN or with more than 16 keys is refused with PARAM_RANGE. -/
def Obligations.IdentityAndHostKeys : Prop :=
  ∀ (s : Machine.State) (req : DcpReq),
    (∀ x, Served s.m x req 0x0010 0 → Replies (.identityRead req) s x req 0x0010 (dcpTaken s.m x req) Machine.stOk 0
      s.m.recIdentity) ∧
    (∀ x, Served s.m x req 0x0011 0 → Replies (.hostkeyList req) s x req 0x0011 (dcpTaken s.m x req) Machine.stOk 0
      ([s.m.dcp.keys.length, 0, 0, 0] ++
        (s.m.dcp.keys.map (fun k => Machine.le 32 k.key ++ [k.privilege] ++ Machine.zeros 7)).flatten)) ∧
    (∀ key keyId, s.m.dcpUp = true → s.m.thisSecond < 2000 → s.m.calOk = true → s.m.stateAccepts 0x0012 = true →
      req.unauth = true → req.session = 0 → req.port = .svc → s.m.dcp.keys = [] → req.len = 36 →
      Machine.exec (.hostkeyAdd req key keyId 2) s = .next { s with
        m := ({ s.m with dcp := { s.m.tallied.dcp with keys := [{ key := key, keyId := keyId, privilege := 2 }] } } :
          Machine.Module).emit (.dcp .svc req.src 0 req.seq 0x0012 Machine.stOk 5 [0]) } ∧
      ∀ p, p ≠ 2 → Machine.exec (.hostkeyAdd req key keyId p) s = .next { s with
        m := s.m.tallied.emit (.dcp .svc req.src 0 req.seq 0x0012 Machine.stParamRange 5 []) }) ∧
    (∀ x key keyId p, Served s.m x req 0x0012 36 → p ≤ 2 → s.m.calOk = true →
      let l := Machine.addKey s.m.dcp.keys { key := key, keyId := keyId, privilege := p }
      (l.length ≤ 16 → Machine.hasAdmin l = true → Replies (.hostkeyAdd req key keyId p) s x req 0x0012
        { dcpTaken s.m x req with dcp := { (dcpTaken s.m x req).dcp with keys := l } } Machine.stOk 0
        [Machine.keyIndex l keyId]) ∧
      (16 < l.length ∨ Machine.hasAdmin l = false → Replies (.hostkeyAdd req key keyId p) s x req 0x0012
        (dcpTaken s.m x req) Machine.stParamRange 0 [])) ∧
    (∀ x keyId k, Served s.m x req 0x0013 8 → s.m.calOk = true → s.m.key? keyId = some k →
      Machine.hasAdmin (s.m.dcp.keys.filter (fun j => j.keyId ≠ keyId)) = true →
      ∃ n, Replies (.hostkeyRemove req keyId) s x req 0x0013 n Machine.stOk 0 [] ∧ n.key? keyId = none ∧
        n.dcp.keys = s.m.dcp.keys.filter (fun j => j.keyId ≠ keyId) ∧ ∀ y ∈ n.dcp.sessions, y.keyId ≠ keyId)
/-- R168, R375, R383: DOMAIN.STATUS answers its record; SERVICE is entered with every bay DEAD or in SERVICE and left by
RESUME; DORMANT enters where it may; RESTART begins its delay, whose end restarts the module, after a handover where its
partner can take over. -/
def Obligations.DomainCommands : Prop :=
  ∀ (s : Machine.State) (req : DcpReq),
    (∀ x, let n := dcpTaken s.m x req
      (Served s.m x req 0x0100 0 →
        Replies (.domainStatus req) s x req 0x0100 n Machine.stOk 0 n.recStatus) ∧
      (Served s.m x req 0x0101 0 →
        ((∀ b ∈ s.m.cfg.bays, (s.m.bInst b).state = 0 ∨ (s.m.bInst b).state = 6) →
          Replies (.domainService req) s x req 0x0101 (n.setService true) Machine.stOk 0
            ((n.setService true).cmdResult Machine.scDomain 0xFFFF 0xFF 0 0xFFFF) ∧
          (n.setService true).dcp.service = true ∧
          JournalOnly { n with dcp := { n.dcp with service := true } } (n.setService true)) ∧
        ((∃ b ∈ s.m.cfg.bays, (s.m.bInst b).state ≠ 0 ∧ (s.m.bInst b).state ≠ 6) →
          ∃ k, JournalOnly n k ∧ Replies (.domainService req) s x req 0x0101 k Machine.stStateReject 0
            (n.cmdResult Machine.scDomain 0xFFFF 0xFF 0 0xFFFF))) ∧
      (Served s.m x req 0x0102 0 →
        Replies (.domainResume req) s x req 0x0102 (n.setService false) Machine.stOk 0
          ((n.setService false).cmdResult Machine.scDomain 0xFFFF 0xFF 0 0xFFFF) ∧
        (n.setService false).dcp.service = false) ∧
      (∀ tag, tag < 2 ^ 128 → Served s.m x req 0x0103 16 → s.m.mayDormant = true →
        ∃ k, k = (n.clearAll .rgi Machine.cDormantWorkerFault).enterDormant tag ∧
          Replies (.domainDormant req tag) s x req 0x0103 k Machine.stOk 0
            (k.cmdResult Machine.scDomain 0xFFFF 0xFF 0 0xFFFF)) ∧
      (∀ d, d ≤ 10000 → Served s.m x req 0x0104 4 → Replies (.domainRestart req d) s x req 0x0104
        { n with dcp := { n.dcp with restart := true } } Machine.stOk 0 [])) ∧
    (s.m.runs = true → s.m.dcp.restart = true →
      (s.m.isPair = false ∨ s.m.leads = false ∨ s.m.partnerReady = false →
        Boots .restartDelayExpire s s.m.restart) ∧
      (s.m.isPair = true → s.m.acts = true → s.m.partnerReady = true → s.m.pair.offered = none →
        s.m.pair.accepted = none → ∃ t, Answers .restartDelayExpire s t ∧ t.m.dcp.restart = false ∧
          t.m.pair.then_ = 1 ∧ t.m.pair.offered = some s.m.nextHandover ∧
          t.m.outbox = .pairHandover 0 s.m.nextHandover :: s.m.outbox)) ∧
    (s.m.dcp.restart = false → Machine.exec .restartDelayExpire s = .next s)

/-- R384 to R386, Table 15-12: a data read answers the records present in its index range, in order, and the index from
which the scan goes on; a count of 0 and a first index beyond the index space are PARAM_RANGE. A burst is found by its
t_step, or the newest of the string with t_step 0; one that is not archived is NOT_FOUND. -/
def Obligations.DataReads : Prop :=
  ∀ (s : Machine.State) (req : DcpReq) (x : Machine.Session),
    let n := dcpTaken s.m x req
    (∀ p ∈ ([(.readCellSoc, 0x0201), (.readCellImp, 0x0202), (.readCellCap, 0x0203), (.readWorker, 0x0204),
          (.readStringSoc, 0x0205), (.readStringState, 0x0206), (.readBaySoc, 0x0207), (.readBayState, 0x0208),
          (.readLimit, 0x0209), (.readRing, 0x020A), (.readPrecharge, 0x020B), (.readSwitch, 0x020C),
          (.readCarapace, 0x020D), (.readPair, 0x020E)] : List ((DcpReq → Nat → Nat → Instr) × Nat)),
      ∀ first count, Served s.m x req p.2 8 → Replies (p.1 req first count) s x req p.2 n
        (n.dataRead p.2 first count).1 (n.dataRead p.2 first count).2.1 (n.dataRead p.2 first count).2.2) ∧
    (∀ (sweep first count size range : Nat) (present : List Nat) (rec : Nat → List Byte),
      (count = 0 ∨ range ≤ first →
        Machine.readReply sweep first count size range present rec = (Machine.stParamRange, 0, [])) ∧
      (0 < count → first < range → ∃ (ids : List Nat) (next : Nat) (more : Bool),
        Machine.readReply sweep first count size range present rec =
          (Machine.stOk, if more then 8 else 0, Machine.le 4 sweep ++ Machine.le 4 first ++
            Machine.le 2 (Machine.sat16 ((if more then next else min (first + count) range) - first)) ++
            Machine.le 2 ids.length ++
            Machine.le 4 (if more ∨ first + count < range then next else Machine.naU32) ++
            (ids.map (fun i => Machine.le 4 i ++ rec i)).flatten) ∧
        ids <+: present.filter (fun i => first ≤ i && i < min (first + count) range) ∧
        ids.length ≤ 1392 / (4 + size) ∧
        (more = true → ids.length = 1392 / (4 + size) ∧
          (present.filter (fun i => first ≤ i && i < min (first + count) range))[ids.length]? = some next) ∧
        (more = false → ids = present.filter (fun i => first ≤ i && i < min (first + count) range) ∧
          next = min (first + count) range))) ∧
    (∀ str, str < 512 → Served s.m x req 0x0210 2 →
      Replies (.readBurstList req str) s x req 0x0210 n Machine.stOk 0
        (Machine.le 2 ((s.m.archived str).take 64).length ++ Machine.zeros 6 ++
          (((s.m.archived str).take 64).map (fun b => Machine.le 8 b.tStep)).flatten)) ∧
    (∀ str hop block tStep, str < 512 → 1 ≤ hop → hop ≤ 256 → block < 24 → Served s.m x req 0x020F 16 →
      ((∀ b ∈ s.m.archived str, b.tStep ≠ tStep) → tStep ≠ 0 →
        Replies (.readBurst req str hop block tStep) s x req 0x020F n Machine.stNotFound 0 []) ∧
      (∀ b data, (s.m.archived str).head? = some b → Machine.find b.blocks (hop, block) = some data →
        Replies (.readBurst req str hop block 0) s x req 0x020F n Machine.stOk 0
          (Machine.le 8 b.tStep ++ [Machine.bitsOf [true, decide (b.skipped ≠ [])]] ++ Machine.zeros 7 ++
            Machine.blockBytes (Machine.look {} s.m.cfg.workers ((s.m.cfg.str str).ring, hop) : WorkerEntry).typ data)))

/-- R387, R388: a subscription within the limits of its session, its module and STREAM_BUDGET is kept with its RATE,
one beyond them is BUSY; it ends by its number in its own session, and LIST answers the session's own; a packet dropped
to keep within the budget is counted and the subscription is marked. -/
def Obligations.StreamCommands : Prop :=
  ∀ (s : Machine.State) (req : DcpReq),
    (∀ x kind decimate sev first count dest, Served s.m x req 0x0220 16 → 1 ≤ kind → kind ≤ 9 →
      (6 < kind ∨ (1 ≤ decimate ∧ decimate ≤ 255)) → (kind ≠ 7 ∨ sev ≤ 4) →
      (¬ (2 ≤ kind ∧ kind ≤ 6) ∨ (count ≠ 0 ∧ first < (s.m.readTable (Machine.kindOp kind)).2.1)) →
      let n := dcpTaken s.m x req
      let rate := n.streamRate kind (max 1 decimate) first count
      let full := 4 ≤ (s.m.dcp.subs.filter (fun d => d.session = x.id)).length ∨ 16 ≤ s.m.dcp.subs.length ∨
        s.m.cfg.network.streamBudget * 1000 < rate + (s.m.dcp.subs.map (·.rate)).foldl (· + ·) 0
      (full → Replies (.streamSubscribe req kind decimate sev first count dest) s x req 0x0220 n Machine.stBusy 0 []) ∧
      (¬ full → ∃ d : Machine.Subscr,
        d = { id := s.m.dcp.nextSub, session := x.id, kind := kind, decimate := decimate, sevMin := sev, first := first
              count := count, destPort := dest, rate := rate, dst := req.src / 65536 * 65536 + dest % 65536
              sentDom := s.m.newestSeq true, sentLoc := s.m.newestSeq false } ∧
        Replies (.streamSubscribe req kind decimate sev first count dest) s x req 0x0220 { n with dcp := { n.dcp with
          nextSub := s.m.dcp.nextSub % 65535 + 1, subs := s.m.dcp.subs ++ [d] } } Machine.stOk 0
          (Machine.le 2 s.m.dcp.nextSub ++ Machine.zeros 2 ++ Machine.le 4 rate))) ∧
    (∀ x id, Served s.m x req 0x0221 2 → let n := dcpTaken s.m x req
      ((∃ d ∈ s.m.dcp.subs, d.id = id ∧ d.session = x.id) → ∃ k, k = { n with dcp := { n.dcp with subs := k.dcp.subs } } ∧
        (∀ d, d ∈ k.dcp.subs ↔ d ∈ s.m.dcp.subs ∧ ¬ (d.id = id ∧ d.session = x.id)) ∧
        Replies (.streamUnsubscribe req id) s x req 0x0221 k Machine.stOk 0 []) ∧
      ((¬ ∃ d ∈ s.m.dcp.subs, d.id = id ∧ d.session = x.id) →
        Replies (.streamUnsubscribe req id) s x req 0x0221 n Machine.stNotFound 0 [])) ∧
    (∀ x, Served s.m x req 0x0222 0 → let l := s.m.dcp.subs.filter (fun d => d.session = x.id)
      Replies (.streamList req) s x req 0x0222 (dcpTaken s.m x req) Machine.stOk 0
        ([l.length, 0, 0, 0] ++
          (l.map (fun d => Machine.le 2 d.id ++ Machine.zeros 2 ++ Machine.subBytes d)).flatten)) ∧
    (∀ id d, s.m.dcp.subs.find? (fun d => d.id = id) = some d → s.m.dcpUp = true → s.m.pair.role ≠ .syncing →
      (∃ k : Machine.Module, k = ((List.range (s.m.streamParts d).length).zip (s.m.streamParts d)).foldl
          (fun m p => m.sendPart d (s.m.streamParts d).length p) s.m ∧
        Machine.exec (.streamSend id false) s = .next { s with m := { k with dcp := { k.dcp with
          subs := k.dcp.subs.map (fun y => if y.id = id then
            { y with sentDom := k.newestSeq true, sentLoc := k.newestSeq false } else y) } } }) ∧
      (∃ t, Answers (.streamSend id true) s t ∧ t.m.dcp.streamDrop = Machine.bump16 s.m.dcp.streamDrop ∧
        (∀ e ∈ t.m.dcp.subs, e.id = id → e.dropped = true) ∧ t.m.dcp.sessions = s.m.dcp.sessions)) ∧
    (∀ id b, s.m.dcp.subs.find? (fun d => d.id = id) = none ∨ s.m.dcpUp = false →
      Machine.exec (.streamSend id b) s = .next s) ∧
    (∀ (m : Machine.Module) (d : Machine.Subscr) (x : Machine.Session) parts (p : Nat × List Byte),
      m.session? d.session = some x → x.streamSeq + 1 < 0x80000000 → ∃ o, (m.sendPart d parts p).outbox = o :: m.outbox ∧
        ∃ flags, o = .stream d.dst x.id d.id (0x0230 + d.kind) (x.streamSeq + 1) flags
          (Machine.le 2 d.id ++ Machine.le 2 p.1 ++ Machine.le 2 parts ++ Machine.zeros 2 ++ p.2))
/-- R389, R442 to R444, Table 18-6: BEGIN empties PENDING and holds it for its session; blocks arrive in any order and
complete the set once every byte is there; CHECK begins a check, whose end leaves the set CHECKED or REJECTED; ACTIVATE
and REVERT schedule a set, or take it at once while none is in force; ABORT empties PENDING; READ returns what a slot holds. -/
def Obligations.ConfigurationCommands : Prop :=
  ∀ (s : Machine.State) (req : DcpReq) (x : Machine.Session),
    let n := dcpTaken s.m x req
    let p := s.m.sets.pending
    (Served s.m x req 0x0300 0 → Replies (.configStatus req) s x req 0x0300 n Machine.stOk 0
      (s.m.descriptor 0 s.m.sets.active ++ s.m.descriptor 1 p ++ s.m.descriptor 2 s.m.sets.previous ++
        Machine.checkBytes s.m.sets.check)) ∧
    (∀ size fmt id, 1 ≤ size → size ≤ 0x00800000 → Served s.m x req 0x0301 16 →
      (s.m.heldByOther x = true → Replies (.configBegin req size fmt id) s x req 0x0301 n Machine.stBusy 0 []) ∧
      (s.m.heldByOther x = false → Replies (.configBegin req size fmt id) s x req 0x0301 { n with sets := { n.sets with
        pending := { state := 1, format := fmt, size := size, setId := id }, holder := some x.id } } Machine.stOk 0 [])) ∧
    (∀ off data, 1 ≤ data.length → data.length ≤ 1024 → Served s.m x req 0x0302 (12 + data.length) →
      s.m.sets.holder = some x.id → (p.state = 1 ∨ p.state = 2) → off + data.length ≤ p.size →
      Replies (.configBlock req off false data) s x req 0x0302 n Machine.stCrcError 0 [] ∧
      ∃ q : Machine.SetSlot, q = { p with blocks := Machine.addBlock p.blocks off data, received := q.received, state := q.state } ∧
        q.received = Machine.bytesHeld q.blocks ∧
        q.state = (if q.received = p.size then 2 else 1) ∧
        Replies (.configBlock req off true data) s x req 0x0302 (n.modPending (fun _ => q)) Machine.stOk 0 []) ∧
    (Served s.m x req 0x0303 0 →
      (p.state ∈ [1, 2, 4, 5] → Replies (.configCheck req) s x req 0x0303
        (n.modPending (fun q => { q with state := 3 })) Machine.stAccepted 0 []) ∧
      (p.state ∉ [1, 2, 4, 5] → ∃ k, JournalOnly n k ∧ Replies (.configCheck req) s x req 0x0303 k Machine.stStateReject 0
        (n.cmdResult Machine.scConfig 1 p.state 0 0xFFFF))) ∧
    (s.m.runs = true → p.state = 3 → ∃ (l : Machine.LoadedSet) (k : Machine.Module),
      l = Machine.loadSet s.m.upd.ownerKey (Machine.assembled p.blocks p.size) ∧
      k = { s.m with sets := { s.m.sets with
        check := s.m.checkPending l
        pending := { p with state := if (s.m.checkPending l).result = Machine.stOk then 4 else 5
                            format := l.cfg.format, content := some l.cfg } } } ∧
      (s.m.isPair = false ∨ s.m.acts = false ∨ s.m.linked = false ∨ s.m.pair.partnerRole ≠ some .ready →
        Machine.exec .configCheckDone s = .next { s with m := k }) ∧
      (s.m.isPair = true → s.m.acts = true → s.m.linked = true → s.m.pair.partnerRole = some .ready →
        Machine.exec .configCheckDone s = .next { s with m := k.streamSet 1 k.sets.pending })) ∧
    (p.state ≠ 3 → Machine.exec .configCheckDone s = .next s) ∧
    (∀ (m : Machine.Module) (l : Machine.LoadedSet), m.sets.pending.received ≠ m.sets.pending.size ∨
      l.cfg.size ≠ m.sets.pending.size ∨ l.cfg.setId ≠ m.sets.pending.setId →
      (m.checkPending l).result = Machine.stSignatureError) ∧
    (∀ k, Served s.m x req 0x0304 4 →
      (p.state ≠ 4 → ∃ j, JournalOnly n j ∧ Replies (.configActivate req k) s x req 0x0304 j Machine.stStateReject 0
        (n.cmdResult Machine.scConfig 1 p.state 0 0xFFFF)) ∧
      (p.state = 4 → s.m.adopts p.format = false →
        Replies (.configActivate req k) s x req 0x0304 n Machine.stSettingsIncompatible 0 []) ∧
      (p.state = 4 → s.m.adopts p.format = true → s.m.slotFits p = false →
        Replies (.configActivate req k) s x req 0x0304 n Machine.stCheckFailed 0 [])) ∧
    (∀ k, s.m.actSweepOf k ≠ none → Served s.m x req 0x0304 4 → p.state = 4 → s.m.adopts p.format = true →
      s.m.slotFits p = true →
      (s.m.conf? ≠ none → ∃ j act, JournalOnly n j ∧ s.m.actSweepOf k = some act ∧
        Replies (.configActivate req k) s x req 0x0304 (j.modPending (fun q => { q with state := 8, actSweep := act }))
          Machine.stOk 0 (Machine.le 4 act)) ∧
      (s.m.conf? = none → ∃ j, JournalOnly n j ∧ Replies (.configActivate req k) s x req 0x0304 j.takePending
        Machine.stOk 0 (Machine.le 4 s.m.sweep.j))) ∧
    (∀ k, s.m.actSweepOf k ≠ none → Served s.m x req 0x0305 4 → s.m.sets.previous.state ≠ 0 →
      s.m.adopts s.m.sets.previous.format = true → s.m.slotFits s.m.sets.previous = true →
      (s.m.conf? ≠ none → ∃ j act, JournalOnly n j ∧ s.m.actSweepOf k = some act ∧
        Replies (.configRevert req k) s x req 0x0305 { j with sets := { j.sets with revertAt := some act } }
          Machine.stOk 0 (Machine.le 4 act)) ∧
      (s.m.conf? = none → ∃ j, JournalOnly n j ∧ Replies (.configRevert req k) s x req 0x0305 j.takePrevious
        Machine.stOk 0 (Machine.le 4 s.m.sweep.j))) ∧
    (Served s.m x req 0x0306 0 → s.m.heldByOther x = false → ∃ j,
      JournalOnly { n with sets := { n.sets with pending := {}, holder := none } } j ∧
      Replies (.configAbort req) s x req 0x0306 j Machine.stOk 0 []) ∧
    (∀ slot off len, slot ≤ 2 → 1 ≤ len → len ≤ 1024 → Served s.m x req 0x0307 12 → ∃ y : Machine.SetSlot,
      y = (if slot = 0 then s.m.sets.active else if slot = 1 then p else s.m.sets.previous) ∧
      (y.state = 0 → Replies (.configRead req slot off len) s x req 0x0307 n Machine.stNotFound 0 []) ∧
      (y.state ≠ 0 → y.size < off + len → Replies (.configRead req slot off len) s x req 0x0307 n Machine.stParamRange 0 []) ∧
      (y.state ≠ 0 → off + len ≤ y.size →
        Replies (.configRead req slot off len) s x req 0x0307 { n with free := s.m.free + len } Machine.stOk 0
          (Machine.le 4 (Machine.crc32c (s.m.slotBytes y off len)) ++ s.m.slotBytes y off len) ∧
        ∀ i b, i < len → Machine.heldByte y.blocks (off + i) = some b → (s.m.slotBytes y off len)[i]? = some b)) ∧
    (s.m.runs = true → s.m.leads = true ∨ s.m.pair.role = .ready →
      Machine.exec .setActivation s = .next { s with m := s.m.pendingDue.revertDue }) ∧
    (s.m.leads = false → s.m.pair.role ≠ .ready → Machine.exec .setActivation s = .next s) ∧
    (p.state = 8 → s.m.boundaryDue p.actSweep = true →
      (s.m.mapPermits (p.content.getD {}) = true → s.m.slotFits p = true → s.m.pendingDue = s.m.takePending) ∧
      (s.m.mapPermits (p.content.getD {}) = false ∨ s.m.slotFits p = false →
        JournalOnly { s.m with sets := { s.m.sets with pending := { p with state := 4 } } } s.m.pendingDue)) ∧
    (p.state ≠ 8 ∨ s.m.boundaryDue p.actSweep = false → s.m.pendingDue = s.m) ∧
    (∀ k, s.m.sets.revertAt = some k →
      (s.m.boundaryDue k = false → s.m.revertDue = s.m) ∧
      (s.m.boundaryDue k = true → s.m.mapPermits (s.m.sets.previous.content.getD {}) = true →
        s.m.slotFits s.m.sets.previous = true → s.m.revertDue = s.m.takePrevious)) ∧
    (s.m.sets.revertAt = none → s.m.revertDue = s.m)

/-- R429 to R432, R437, R438: the transfer, verification and scheduling of an image through the states of Table 15-21, the
owner key, and ABORT. -/
def Obligations.UpdateTransfer : Prop :=
  ∀ (s : Machine.State) (req : DcpReq) (x : Machine.Session),
    let n := dcpTaken s.m x req
    let u := s.m.upd
    (Served s.m x req 0x0600 0 → Replies (.updateStatus req) s x req 0x0600 n Machine.stOk 0 s.m.recUpdate) ∧
    (∀ size v, 1 ≤ size → size ≤ 0x04000000 → Served s.m x req 0x0601 8 → u.state ∈ [0, 1, 3, 4] →
      s.m.updHeldByOther x = false → ∃ k : Machine.UpdSt, Replies (.updateBegin req size v) s x req 0x0601 { n with upd := k }
        Machine.stOk 0 [] ∧ k.state = 1 ∧ k.size = size ∧ k.version = v ∧ k.holder = some x.id ∧ k.staging = none ∧
        (u.state ≠ 0 → u.size = size → u.version = v → k.blocks = u.blocks ∧ k.received = u.received) ∧
        (u.state = 0 ∨ u.size ≠ size ∨ u.version ≠ v → k.blocks = [] ∧ k.received = 0)) ∧
    (∀ off data, 1 ≤ data.length → data.length ≤ 1024 → off + data.length ≤ u.size → u.size ≤ 0x04000000 →
      Served s.m x req 0x0602 (12 + data.length) → u.state = 1 → u.holder = some x.id →
      Replies (.updateBlock req off false data) s x req 0x0602 n Machine.stCrcError 0 [] ∧
      ∃ k : Machine.UpdSt, k = { u with
          blocks := Machine.addBlock u.blocks off data, received := Machine.bytesHeld (Machine.addBlock u.blocks off data)
          svc := u.svc && decide (req.port = .svc) } ∧
        Replies (.updateBlock req off true data) s x req 0x0602 { n with upd := k } Machine.stOk 0 []) ∧
    (Served s.m x req 0x0603 0 →
      (u.state = 1 → u.received = u.size → Replies (.updateVerify req) s x req 0x0603
        { n with upd := { u with state := 2 } } Machine.stAccepted 0 []) ∧
      (u.state ≠ 1 ∨ u.received ≠ u.size → ∃ k, JournalOnly n k ∧ Replies (.updateVerify req) s x req 0x0603 k
        Machine.stStateReject 0 (n.cmdResult Machine.scUpdate 0xFFFF u.state 0 0xFFFF))) ∧
    (s.m.sup.phase = .on → u.state = 2 → ∃ i, i = Machine.readImage u.ownerKey (Machine.assembled u.blocks u.size) ∧
      Machine.exec .updateVerifyDone s = .next { s with m := { s.m with upd := { u with
        state := if s.m.verifyImage i = Machine.stOk then 3 else 4, result := s.m.verifyImage i
        staging := if s.m.verifyImage i = Machine.stOk then some i else none } } }) ∧
    (u.state ≠ 2 → Machine.exec .updateVerifyDone s = .next s) ∧
    (∀ i : ImageFacts, s.m.sup.recovery = false → u.ownerKey ≠ none → i.ownerSigned = false →
      s.m.verifyImage i ≠ Machine.stOk) ∧
    (∀ i : ImageFacts, i.target = 0 → i.rollback < u.floor → s.m.verifyImage i ≠ Machine.stOk) ∧
    (∀ act, Served s.m x req 0x0604 8 → s.m.sup.recovery = false → u.state = 3 → (u.staging.getD {}).target ≠ 1 →
      (act = 0 ∨ s.m.time.state ≠ .unset) →
      (s.m.isPair = false ∨ s.m.leads = false ∨ (s.m.linked = true ∧ s.m.pair.partnerRole = some .ready)) →
      ∃ k : Machine.UpdSt, k = { u with state := 5, actTime := k.actTime, atOnce := k.atOnce } ∧
        k.actTime = max act (s.m.plant + 2000000000) ∧
        Replies (.updateActivate req act) s x req 0x0604 { n with upd := k } Machine.stOk 0 []) ∧
    (∀ act, Served s.m x req 0x0604 8 → s.m.sup.recovery = false → u.state = 3 → (u.staging.getD {}).target = 1 →
      (s.m.carapaceMay = true → Replies (.updateActivate req act) s x req 0x0604
        { n with upd := { u with carapace := true, state := 0 } } Machine.stOk 0 []) ∧
      (s.m.carapaceMay = false → ∃ j, JournalOnly n j ∧ Replies (.updateActivate req act) s x req 0x0604 j
        Machine.stStateReject 0 (n.cmdResult Machine.scUpdate 0xFFFF 3 0 0xFFFF))) ∧
    (∀ act, s.m.sup.phase = .on → s.m.sup.recovery = true → u.state = 3 → req.port = .eth1 → req.unauth = true →
      req.session = 0 → req.len = 8 → ∃ k : Machine.Module,
        k = s.m.emit (.dcp .eth1 req.src 0 req.seq 0x0604 Machine.stOk 5 []) ∧
        Boots (.updateActivate req act) s k.recoverImage) ∧
    (Served s.m x req 0x0605 0 → u.state ∈ [1, 3, 4, 5] → ∃ k, Replies (.updateAbort req) s x req 0x0605 k Machine.stOk 0 [] ∧
      k.upd.state = 0 ∧ k.upd.staging = none ∧ k.upd.holder = none ∧ k.upd.received = 0 ∧
      k = { n with upd := k.upd, ver := k.ver, pair := k.pair }) ∧
    (∀ key, Served s.m x req 0x0606 96 →
      Replies (.updateOwnerKey req key false) s x req 0x0606 n Machine.stSignatureError 0 [] ∧
      (s.m.calOk = true → Replies (.updateOwnerKey req key true) s x req 0x0606
        { n with upd := { u with ownerKey := if key = 0 then none else some key } } Machine.stOk 0 []))

/-- R433 to R436, R438, R446: before ACT_TIME limits are 0; at ACT_TIME a module without a pair installs; Weevil copies
RETREAT, writes RUNNING and starts the new image on trial; the trial ends confirmed, with the rollback floor raised, or in a
restart; after 300 s a SAFE_HOLD is late. -/
def Obligations.UpdateInstall : Prop :=
  ∀ s : Machine.State,
    (s.m.runs = true → s.m.isPair = false → s.m.upd.state = 5 → ∃ k : Machine.Module,
      k = s.m.strNos.foldl (fun m n =>
        if 3 ≤ (m.sInst n).state ∧ (m.sInst n).state ≤ 6 then m.grantLease n 120 else m) s.m ∧
      Machine.exec .updatePrepare s = .next { s with m := { k with
        ver := { k.ver with zeroed := true }, upd := { k.upd with prepared := true } } } ∧ k.upd = s.m.upd) ∧
    (s.m.isPair = true ∨ s.m.upd.state ≠ 5 → Machine.exec .updatePrepare s = .next s) ∧
    (s.m.runs = true → s.m.upd.state = 5 → s.m.isPair = false ∨ s.m.leads = false →
      Boots .updateActTime s s.m.beginInstall) ∧
    (s.m.runs = true → s.m.upd.state = 5 → s.m.isPair = true → s.m.leads = true → s.m.partnerReady = true →
      ∃ k : Machine.Module, k = { s.m with pair := { s.m.pair with then_ := 2 } } ∧
        Machine.exec .updateActTime s = .next { s with m := k.startHandover }) ∧
    (s.m.runs = true → s.m.upd.state = 5 → s.m.isPair = true → s.m.leads = true → s.m.partnerReady = false →
      ∃ t, Answers .updateActTime s t ∧ JournalOnly s.m t.m) ∧
    (∀ ok, s.m.sup.phase = .weevil → s.m.upd.phase = 1 → Machine.exec (.installPhaseDone ok) s = .next { s with
      m := { s.m with upd := { s.m.upd with retreat := s.m.upd.running, phase := 2 } } }) ∧
    (s.m.sup.phase = .weevil → s.m.upd.phase ≠ 1 →
      Machine.exec (.installPhaseDone false) s = .next { s with m := { s.m with
        upd := { s.m.upd with running := { s.m.upd.staging.getD s.m.upd.running with hashOk := false } } } } ∧
      ∃ n : Machine.Module, n = { s.m with
          upd := { s.m.upd with running := { s.m.upd.staging.getD s.m.upd.running with hashOk := true } } } ∧
        Machine.exec (.installPhaseDone true) s = .next { s with m := n.bootNew }) ∧
    (s.m.runs = true → s.m.upd.trial ≠ none → s.m.healthy = true → s.m.calOk = true → ∃ t, Answers .imageConfirm s t ∧
      JournalOnly { s.m with upd := { s.m.upd with
        trial := none, floor := max s.m.upd.floor s.m.upd.running.rollback, state := 0, result := Machine.stOk } } t.m) ∧
    (s.m.upd.trial = none ∨ s.m.healthy = false → Machine.exec .imageConfirm s = .next s) ∧
    (∀ tr, s.m.upd.trial = some tr → s.m.runs = true → ∃ n : Machine.Module,
      n = { s.m with upd := { s.m.upd with trial := some { tr with leftMs := 0 } } } ∧
      Boots .trialExpire s n.restart) ∧
    (s.m.upd.trial = none → Machine.exec .trialExpire s = .next s) ∧
    (s.m.runs = true → s.m.sets.safeHold = true → s.m.sets.safeLate = false → s.m.scarabOn = false →
      Machine.exec .safeHoldExpire s = .next { s with m := { s.m with sets := { s.m.sets with safeLate := true } } }) ∧
    (s.m.sets.safeHold = false → Machine.exec .safeHoldExpire s = .next s)
/-- R239, R286, R307, R308, R391: an event command on a string or a bay waits for the next verdict stage without a
reply; LATCH.ACK acknowledges at once with the count of latches; SWITCH.SET and SWITCH.RESET act on the image and the
latches, and refuse what R307 and R308 exclude; PRECHARGE.RESET clears SHORT_COUNT and leaves LOCKOUT for OFF. -/
def Obligations.StringBayAndDirectCommands : Prop :=
  ∀ (s : Machine.State) (req : DcpReq) (x : Machine.Session),
    let n := dcpTaken s.m x req
    (∀ p ∈ ([(.stringClose, 0x0400), (.stringOpen, 0x0401), (.stringService, 0x0402), (.stringRelease, 0x0403),
          (.stringUnlock, 0x0404), (.bayEnergise, 0x0410), (.bayDrain, 0x0411), (.bayService, 0x0412),
          (.bayRelease, 0x0413)] : List ((DcpReq → Nat → Instr) × Nat)),
      ∀ id, Served s.m x req p.2 4 → ∃ d : Machine.PendCmd, d.session = x.id ∧ d.seq = req.seq ∧ d.opcode = p.2 ∧
        d.ident = id ∧ Machine.exec (p.1 req id) s = .next { s with m := { n with
          dcp := { n.dcp with pend := s.m.dcp.pend ++ [d] } } }) ∧
    (∀ row scope inst, scope ≤ 4 → Served s.m x req 0x0420 8 → ∃ k, JournalOnly (n.ackRows row scope inst) k ∧
      Replies (.latchAck req row scope inst) s x req 0x0420 k Machine.stOk 0
        (Machine.le 2 (Machine.sat16 (s.m.ackCount row scope inst)))) ∧
    (∀ (m : Machine.Module) row scope inst, (m.ackRows row scope inst).ackCount row scope inst = 0 ∧
      m.ackRows row scope inst = { m with ver := { m.ver with
        recs := (m.ackRows row scope inst).ver.recs, fast := (m.ackRows row scope inst).ver.fast
        outTrips := (m.ackRows row scope inst).ver.outTrips } }) ∧
    (∀ c st, c < 24 → st ≤ 1 → Served s.m x req 0x0430 4 →
      (s.m.switchRefuses c (decide (st = 1)) = true → ∃ k, JournalOnly n k ∧
        Replies (.switchSet req c st) s x req 0x0430 k Machine.stStateReject 0
          (n.cmdResult Machine.scSwitch c (s.m.swc c).state 0 0xFFFF)) ∧
      (s.m.switchRefuses c (decide (st = 1)) = false → s.m.swiServes = true → s.m.up .vsi = true →
        ∃ j k, j = (n.setImage c (decide (st = 1))).applySw c (decide (st = 1)) ∧ JournalOnly j k ∧
          Replies (.switchSet req c st) s x req 0x0430 k Machine.stAccepted 0
            (j.cmdResult Machine.scSwitch c (j.swc c).state 0 0xFFFF))) ∧
    (∀ (m : Machine.Module) c, ((m.swCfg c).load = .unused → ∀ on, m.switchRefuses c on = true) ∧
      ((m.swc c).state = 5 → m.switchRefuses c true = true) ∧
      (∀ b, m.seqBay c = some b → (m.bInst b).state ≠ 6 → ∀ on, m.switchRefuses c on = true)) ∧
    (∀ c, c < 24 → Served s.m x req 0x0431 4 → (s.m.swCfg c).load ≠ .unused → s.m.swiServes = true →
      ∃ k, JournalOnly (n.resetLatch c) k ∧ Replies (.switchReset req c) s x req 0x0431 k Machine.stAccepted 0
        ((n.resetLatch c).cmdResult Machine.scSwitch c ((n.resetLatch c).swc c).state 0 0xFFFF)) ∧
    (∀ (m : Machine.Module) c, c < m.sw.chans.length → (m.swc c).state = 5 →
      SwKeeps c m (m.resetLatch c) ∧ ((m.resetLatch c).swc c).shorts = 0 ∧ ((m.resetLatch c).swc c).cause = 0 ∧
      (m.resetLatch c).holds Machine.cSwitchLatched Machine.scSwitch c = false ∧
      ((m.swc c).commanded = false → ((m.resetLatch c).swc c).state = 0)) ∧
    (∀ c, c < 4 → c < s.m.pre.length → Served s.m x req 0x0440 4 → s.m.up .pwi = true → ∃ k, PreKeeps c n k ∧
      (k.pch c).shortCount = 0 ∧
      (k.pch c).state = (if (s.m.pch c).state = 6 then 0 else (s.m.pch c).state) ∧
      Replies (.prechargeReset req c) s x req 0x0440 k Machine.stAccepted 0
        (n.cmdResult Machine.scPrecharge c (k.pch c).state 0 0xFFFF))

/-- R351, R359, R392, R395, R396, R421, R422, R424, R425: the journal and its acknowledgement, the alert map, the pair and
the time of day, as their commands read and change them. -/
def Obligations.JournalAlertPairTimeCommands : Prop :=
  ∀ (s : Machine.State) (req : DcpReq) (x : Machine.Session),
    let n := dcpTaken s.m x req
    (Served s.m x req 0x0500 0 → ∃ unacked, Replies (.journalStatus req) s x req 0x0500 n Machine.stOk 0
      (Machine.le 8 ((Machine.greatestN ((n.series true).map (·.seq))).getD 0) ++
        Machine.le 8 ((Machine.leastN ((n.series true).map (·.seq))).getD n.jou.domNext) ++ Machine.le 4 unacked ++
        Machine.le 4 n.jou.tripOver ++ Machine.le 4 n.jou.heldLost ++ Machine.zeros 4) ∧
      (unacked = 0 ↔ ∀ e ∈ n.jou.stored, e.2.severity = Machine.sevTrip → n.jou.acked e = true)) ∧
    (∀ seq count mask, 1 ≤ count → count ≤ 1024 → Served s.m x req 0x0501 12 →
      Replies (.journalRead req seq count mask) s x req 0x0501 n (n.journalReply seq count mask).1
        (n.journalReply seq count mask).2.1 (n.journalReply seq count mask).2.2) ∧
    (∀ upTo newest, upTo < 2 ^ 63 → Served s.m x req 0x0502 8 → s.m.calOk = true →
      Machine.greatestN ((n.series true).map (·.seq)) = some newest → ∃ k,
        JournalOnly n k ∧ k.jou.ackMark = some (max (n.jou.ackMark.getD 0) (min upTo newest)) ∧
        k.jou.stored = n.jou.stored ∧
        Replies (.journalAckArchived req upTo) s x req 0x0502 k Machine.stOk 0
          (Machine.le 4 (n.newlyAcked (min upTo newest)))) ∧
    (∀ upTo, upTo < 2 ^ 63 → Served s.m x req 0x0502 8 → s.m.calOk = true → n.series true = [] →
      Replies (.journalAckArchived req upTo) s x req 0x0502 n Machine.stOk 0 (Machine.le 4 0)) ∧
    (Served s.m x req 0x0510 0 → Replies (.alertRead req) s x req 0x0510 n Machine.stOk 0
      (Machine.bitmapBytes n.live ++ Machine.bitmapBytes n.al.sticky ++ Machine.bitmapBytes n.al.mask)) ∧
    (∀ bits : Bitmap, (∀ i ∈ bits, i < 256) → Served s.m x req 0x0511 32 → ∃ k, JournalOnly n k ∧
      (∀ i, i ∈ k.al.clearReq ↔ i ∈ n.al.clearReq ∨ i ∈ bits) ∧ k.al.mask = n.al.mask ∧
      (∀ i ∈ n.al.sticky, i ∈ k.al.sticky) ∧ Replies (.alertClear req bits) s x req 0x0511 k Machine.stOk 0 []) ∧
    (∀ bits : Bitmap, (∀ i ∈ bits, i < 256) → Served s.m x req 0x0512 32 → ∃ k, JournalOnly n k ∧
      (∀ i, i ∈ k.al.mask ↔ i ∈ bits) ∧ Replies (.alertMask req bits) s x req 0x0512 k Machine.stOk 0 []) ∧
    (Served s.m x req 0x0800 0 → Replies (.pairStatus req) s x req 0x0800 n Machine.stOk 0 n.recPair) ∧
    (Served s.m x req 0x0801 0 →
      (s.m.linked = true → s.m.pair.partnerRole = some .ready →
        Replies (.pairHandover req) s x req 0x0801 n.startHandover Machine.stAccepted 0 []) ∧
      (s.m.linked = false ∨ s.m.pair.partnerRole ≠ some .ready → ∃ k, JournalOnly n k ∧ Replies (.pairHandover req) s x req 0x0801 k Machine.stStateReject 0
        (n.cmdResult Machine.scPair 0xFFFF 0xFF 5 0xFFFF))) ∧
    (Served s.m x req 0x0802 0 →
      (s.m.sup.lever = .locked → ∃ k, JournalOnly n k ∧ Replies (.pairPark req) s x req 0x0802 k Machine.stStateReject 0
        (n.cmdResult Machine.scPair 0xFFFF 0xFF 5 0xFFFF)) ∧
      (s.m.sup.lever ≠ .locked → s.m.sup.parking = true ∨ s.m.sup.parked = true →
        Replies (.pairPark req) s x req 0x0802 n Machine.stAccepted 0 []) ∧
      (s.m.sup.lever ≠ .locked → s.m.sup.parking = false → s.m.sup.parked = false →
        (s.m.isPair = true → s.m.leads = true → s.m.partnerReady = true →
          Replies (.pairPark req) s x req 0x0802 n.startHandover Machine.stAccepted 0 []) ∧
        (s.m.isPair = false ∨ s.m.leads = false ∨ s.m.partnerReady = false →
          Replies (.pairPark req) s x req 0x0802 n.beginPark Machine.stAccepted 0 []))) ∧
    (∀ m : Machine.Module, m.beginPark.sup = { m.sup with parking := true } ∧
      JournalOnly { m with sup := { m.sup with parking := true } } m.beginPark ∧
      m.beginPark.holds Machine.cEjectRefused Machine.scModule 0 = false ∧
      (m.isPair = true → m.beginPark.outbox.head? = some .pairPark)) ∧
    (Served s.m x req 0x0803 0 →
      (s.m.follows = true → Replies (.pairResync req) s x req 0x0803 (Machine.Module.loseSync
        { n with pair := { n.pair with resync := { n.pair.resync with failed := false } } }) Machine.stAccepted 0 []) ∧
      (s.m.follows = false → ∃ k, JournalOnly n k ∧ Replies (.pairResync req) s x req 0x0803 k Machine.stStateReject 0
        (n.cmdResult Machine.scPair 0xFFFF 0xFF 0 0xFFFF))) ∧
    (∀ m : Machine.Module, m.follows = true → m.loseSync.pair.role = .syncing ∧ m.loseSync.pair.equalRun = 0 ∧
      m.loseSync.pair.accepted = none ∧ m.loseSync.sweep.prov = none) ∧
    (Served s.m x req 0x0900 0 → Replies (.timeStatus req) s x req 0x0900 n Machine.stOk 0
      ([Machine.timeCode s.m.time.state, Machine.sourceCode s.m.cfg.sweep.timeSource, s.m.timeActive, 0] ++
        Machine.le 8 s.m.plant ++ Machine.leI 4 (Machine.i32 (if s.m.follows then s.m.pair.partnerTime else s.m.time.servo)) ++
        Machine.le 8 s.m.time.grandmaster ++ Machine.le 4 s.m.holdoverS ++ Machine.zeros 4)) ∧
    (∀ sec, Served s.m x req 0x0901 8 →
      (s.m.cfg.sweep.timeSource ≠ .ptp → Replies (.timeSet req sec) s x req 0x0901
        { n with time := { n.time with tod := some (sec, s.m.time.now) } } Machine.stOk 0
        [Machine.timeCode s.m.time.state]) ∧
      (s.m.cfg.sweep.timeSource = .ptp → ∃ k, JournalOnly n k ∧ Replies (.timeSet req sec) s x req 0x0901 k
        Machine.stStateReject 0 (n.cmdResult Machine.scTime 0xFFFF 0xFF 0 0xFFFF)))

/-- R116, R120, R121, R149, R394, R427: counters are returned and cleared; a ring command for the host goes out and its
reply waits; a worker or ring that is not in the map is NOT_FOUND; an island resets after its reply. -/
def Obligations.DiagnosticCommands : Prop :=
  ∀ (s : Machine.State) (req : DcpReq) (x : Machine.Session),
    let n := dcpTaken s.m x req
    (∀ first count, 1 ≤ count → first + count ≤ 32 → s.m.ports.length = 32 → Served s.m x req 0x0700 4 → ∃ k,
      Replies (.diagPortCounters req first count) s x req 0x0700 k Machine.stOk 0
        (((List.range count).map (fun i =>
          ((s.m.port (i + first)).counters.map (Machine.le 2)).flatten)).flatten) ∧
      JournalOnly { n with ports := k.ports } k ∧
      ∀ p, (first ≤ p → p < first + count → k.port p = { s.m.port p with counters := List.replicate 12 0 }) ∧
        (p < first ∨ first + count ≤ p → k.port p = s.m.port p)) ∧
    (Served s.m x req 0x0708 0 → ∃ k, Replies (.diagModuleCounters req) s x req 0x0708 k Machine.stOk 0
      ((n.dcpCounters.map (Machine.le 2)).flatten) ∧ k.dcpCounters = List.replicate 10 0 ∧
      JournalOnly (n.setDcpCounters (fun _ => 0)) k) ∧
    (s.m.acts = true → s.m.up .rgi = true →
      (∀ r h, r < 32 → 1 ≤ h → h ≤ 256 → s.m.mapped (r, h) = true → Served s.m x req 0x0701 4 →
        Machine.exec (.diagWorkerCounters req r h) s = .next { s with
          m := ((n.waitRing (dcpSession x req) req.seq 0x0701 1 (r * 512 + h)).order (r, h) 0x17 []
            (.diag x.id req.seq 0x0701)).flushDiag }) ∧
      (∀ r g, r < 32 → g ≤ s.m.cfg.ringW r → s.m.cfg.ringW r ≤ 256 → s.m.ringServed r = true →
        s.m.mayRejoin r g = true → s.m.partnerEndOk r g = true → Served s.m x req 0x0702 4 →
        Machine.exec (.diagRingRejoin req r g) s = .next { s with
          m := ((n.waitRing (dcpSession x req) req.seq 0x0702 1 (r * 512 + g)).beginRejoin r g
            (some (x.id, req.seq))).flushDiag }) ∧
      (∀ r h, r < 32 → h ≤ 256 → Served s.m x req 0x0703 4 →
        let ws := ((s.m.cfg.workersOf r).map (·.1)).filter (fun (w : Wk) => decide (h = 0 ∨ w.2 = h))
        (ws ≠ [] → Machine.exec (.diagLatchClear req r h) s = .next { s with
          m := (ws.foldl (fun m w => m.order w 0x16 [] (.diag x.id req.seq 0x0703))
            (n.waitRing (dcpSession x req) req.seq 0x0703 ws.length (r * 512 + h))).flushDiag }) ∧
        (ws = [] → Replies (.diagLatchClear req r h) s x req 0x0703 n Machine.stNotFound 0 [])) ∧
      (∀ r pin h, r < 32 → pin ≤ 24 → 1 ≤ h → h ≤ 256 → s.m.mapped (r, h) = true →
        (Machine.look {} s.m.cfg.workers (r, h) : WorkerEntry).typ = .dzc24 → Served s.m x req 0x0704 4 →
        Machine.exec (.diagOwForce req r pin h) s = .next { s with
          m := ((n.waitRing (dcpSession x req) req.seq 0x0704 1 (r * 512 + h)).forcePull (r, h) pin
            (fun _ => .diag x.id req.seq 0x0704)).flushDiag }) ∧
      (∀ r, r < 32 → s.m.ringServed r = true → Served s.m x req 0x0705 4 →
        Replies (.diagRollCall req r) s x req 0x0705 (n.rollCall r).flushDiag Machine.stAccepted 0 [])) ∧
    (∀ r h, r < 32 → 1 ≤ h → h ≤ 256 → s.m.mapped (r, h) = false → Served s.m x req 0x0701 4 →
      Replies (.diagWorkerCounters req r h) s x req 0x0701 n Machine.stNotFound 0 []) ∧
    (∀ first count, Served s.m x req 0x0706 8 → ∃ a : Machine.Answer,
      a = Machine.readReply s.m.sweep.j first count 24 16384
        (Machine.sortBy (fun (i : Nat) => (i : Int)) (s.m.rollTable.map (·.1)))
        (fun i => Machine.rollBytes (Machine.look {} s.m.rollTable i)) ∧
      Replies (.diagRollCallRead req first count) s x req 0x0706 n a.1 a.2.1 a.2.2) ∧
    (∀ i, 1 ≤ i → i ≤ 7 → Served s.m x req 0x0707 1 → ∃ k,
      k = n.answer (dcpSession x req) req.seq 0x0707 Machine.stOk 0 [] ∧
      Machine.exec (.diagIslandReset req i) s = .next { s with
        m := if s.m.up (Machine.diagIsland i) then k.resetIsland (Machine.diagIsland i) 3 else k })
/-- R397, R400 to R402, R404, R406, R407, R412: a receive object keeps the frame it takes, marks an untaken one as lost
and times out; a frame that no object takes is counted; a period makes a transmit object pending and a free controller
sends; the end of a transmission falls TEC by 1, an error that counts raises it by 8 and repeats the frame up to its retry
limit; bus
off recovers error active; a receive error sets REC and a protocol exception is counted. -/
def Obligations.CanControllers : Prop :=
  ∀ (s : Machine.State) (c : Nat), c < s.m.can.ctl.length →
    (∀ f, s.m.canHears c = true → (s.m.canCtl c).offBus = false → f.remote = false → (s.m.canCtl c).rec_ ≤ 127 →
      (s.m.canCtl c).tec ≤ 127 → (s.m.canCtl c).err = .active →
      (s.m.rxMatch c f = none → ∃ t, Answers (.canFrameRx c f) s t ∧ JournalOnly { s.m with can := t.m.can } t.m ∧
        t.m.canCtl c = { s.m.canCtl c with
          rec_ := (s.m.canCtl c).rec_ - 1, nRxOk := Machine.bump16 (s.m.canCtl c).nRxOk
          nRxUn := Machine.bump16 (s.m.canCtl c).nRxUn, stamp := s.m.canClock f.sofNs }) ∧
      (∀ obj cfg, s.m.rxMatch c f = some (obj, cfg) → ∃ t, Answers (.canFrameRx c f) s t ∧
        JournalOnly { s.m with can := t.m.can } t.m ∧
        t.m.canCtl c = { s.m.canCtl c with
          rec_ := (s.m.canCtl c).rec_ - 1, nRxOk := Machine.bump16 (s.m.canCtl c).nRxOk, stamp := s.m.canClock f.sofNs
          rx := (t.m.canCtl c).rx } ∧
        Machine.look {} (t.m.canCtl c).rx obj =
          { frame := some f, stamp := s.m.canClock f.sofNs, lost := !(Machine.look {} (s.m.canCtl c).rx obj).taken
            taken := false, timedOut := false } ∧
        ∀ o, o ≠ obj → Machine.look {} (t.m.canCtl c).rx o = Machine.look {} (s.m.canCtl c).rx o)) ∧
    (∀ f, f.remote = true ∨ s.m.canHears c = false → Machine.exec (.canFrameRx c f) s = .next s) ∧
    (∀ obj cfg, Machine.find (s.m.canCfg c).rx obj = some cfg → s.m.canHears c = true →
      obj ∉ (s.m.canCtl c).badRx → cfg.timeoutAlert = true → 0 < cfg.timeout → ∃ t, Answers (.canRxTimeout c obj) s t ∧
        JournalOnly { s.m with can := t.m.can } t.m ∧
        t.m.canCtl c = { s.m.canCtl c with rx := (t.m.canCtl c).rx } ∧
        (t.m.canCtl c).rx = Machine.put (s.m.canCtl c).rx obj
          { Machine.look {} (s.m.canCtl c).rx obj with timedOut := true } ∧
        cfg.alert ∈ t.m.al.sticky ∧
        t.m.holds Machine.cCanRxTimeout Machine.scCan (Machine.canInst c obj) = true) ∧
    (∀ obj x, s.m.canTx? c obj = some x → s.m.canNormal c = true →
      ∃ t, Answers (.canTxPeriod c obj) s t ∧
        (∃ q ∈ (t.m.canCtl c).pend, q = { s.m.canFrameOf obj x false with begun := q.begun }) ∧
        (∀ q ∈ (t.m.canCtl c).pend, q.obj = obj → q.mirrored = false →
          q = { s.m.canFrameOf obj x false with begun := q.begun }) ∧
        ((s.m.canCtl c).offBus = false → (s.m.canCtl c).cur = none → (t.m.canCtl c).cur ≠ none) ∧
        (Machine.limitKind x = false → t.m = { s.m with can := t.m.can, outbox := t.m.outbox }) ∧
        JournalOnly { s.m with can := t.m.can } t.m) ∧
    (∀ obj, s.m.canTx? c obj = none → Machine.exec (.canTxPeriod c obj) s = .next s) ∧
    (∀ p, (s.m.canCtl c).cur = some p → (s.m.canCtl c).tec ≤ 100 → (s.m.canCtl c).rec_ ≤ 100 →
      (s.m.canCtl c).err = .active →
      let goes : Prop := ((s.m.canTx? (Machine.canOwner c p) p.obj).getD {}).retryLimit ≤ p.retries ∧
        ∃ q ∈ (s.m.canCtl c).pend, Machine.samePend p q = true ∧ q.begun = true
      (∃ t, Answers (.canTxDone c p.obj p.mirrored) s t ∧ JournalOnly { s.m with can := t.m.can } t.m ∧
        (t.m.canCtl c).tec = (s.m.canCtl c).tec - 1 ∧ (t.m.canCtl c).rec_ = (s.m.canCtl c).rec_ ∧
        (t.m.canCtl c).nTxOk = Machine.bump16 (s.m.canCtl c).nTxOk ∧
        ((∀ q ∈ (s.m.canCtl c).pend, Machine.samePend p q = true → q.begun = true) →
          ∀ q ∈ (t.m.canCtl c).pend, Machine.samePend p q = false) ∧
        t.m.holds Machine.cTxAbandoned Machine.scCan (Machine.canInst (Machine.canOwner c p) p.obj) = false) ∧
      (∀ counted, goes → ∃ t, Answers (.canTxError c p.obj p.mirrored counted) s t ∧
        JournalOnly { s.m with can := t.m.can } t.m ∧
        (t.m.canCtl c).tec = (s.m.canCtl c).tec + (if counted then 8 else 0) ∧
        (t.m.canCtl c).nTxFail = Machine.bump16 (s.m.canCtl c).nTxFail ∧
        t.m.holds Machine.cTxAbandoned Machine.scCan (Machine.canInst (Machine.canOwner c p) p.obj) = true) ∧
      (∀ counted, ¬ goes → ∃ t, Answers (.canTxError c p.obj p.mirrored counted) s t ∧
        JournalOnly { s.m with can := t.m.can } t.m ∧
        (t.m.canCtl c).tec = (s.m.canCtl c).tec + (if counted then 8 else 0) ∧
        (t.m.canCtl c).nTxFail = Machine.bump16 (s.m.canCtl c).nTxFail ∧
        ∀ q ∈ (s.m.canCtl c).pend, Machine.samePend p q = true → q.begun = true → ∃ q' ∈ (t.m.canCtl c).pend,
          q' = { q with retries := q.retries + 1, begun := q'.begun })) ∧
    (∀ p obj b, (s.m.canCtl c).cur = some p → p.obj ≠ obj ∨ p.mirrored ≠ b →
      Machine.exec (.canTxDone c obj b) s = .next s ∧ ∀ k, Machine.exec (.canTxError c obj b k) s = .next s) ∧
    ((s.m.canCtl c).cur = none → ∀ obj b, Machine.exec (.canTxDone c obj b) s = .next s ∧
      ∀ k, Machine.exec (.canTxError c obj b k) s = .next s) ∧
    ((s.m.canCtl c).err = .busOff → s.m.canHears c = true → ∃ t, Answers (.busOffRecovery c) s t ∧
      JournalOnly { s.m with can := t.m.can } t.m ∧
      (t.m.canCtl c).err = .active ∧ (t.m.canCtl c).tec = 0 ∧ (t.m.canCtl c).rec_ = 0) ∧
    ((s.m.canCtl c).err ≠ .busOff → Machine.exec (.busOffRecovery c) s = .next s) ∧
    (∀ r, s.m.canHears c = true → (s.m.canCtl c).offBus = false → (s.m.canCtl c).tec ≤ 255 →
      ∃ t, Answers (.canRxError c r) s t ∧ (t.m.canCtl c).rec_ = r ∧
        (t.m.canCtl c).err = (if 128 ≤ (s.m.canCtl c).tec ∨ 128 ≤ r then .passive else .active) ∧
        JournalOnly { s.m with can := t.m.can } t.m) ∧
    (s.m.canHears c = true → ∃ t, Answers (.canProtocolException c) s t ∧
      t.m.canCtl c = { s.m.canCtl c with nPex := Machine.bump16 (s.m.canCtl c).nPex } ∧
      JournalOnly { s.m with can := t.m.can } t.m)

/-- R417, R419, R420: JOURNAL_WRITE stores the oldest waiting record: the leader gives it the next number of the domain
series, any other module one of its local series and at most ALARM, and a record received keeps its own; a record of a
section with room is stored behind those there. Without a waiting record, with no full counter, nothing changes. -/
def Obligations.JournalWriteStores : Prop :=
  (∀ (m : Machine.Module) (keeps : Bool) (r : JRec),
    (m.number true r = (m, r)) ∧
    (m.leads = true → (m.number false r).2 = { r with seq := m.jou.domNext } ∧
      (m.number false r).1.jou = { m.jou with domNext := m.jou.domNext + 1 } ∧
      (m.isPair = true → (m.number false r).1.outbox = .pairJournal { r with seq := m.jou.domNext } :: m.outbox)) ∧
    (m.leads = false → (m.number false r).2 = { r with
        seq := m.jou.locNext, severity := min r.severity Machine.sevAlarm } ∧
      (m.number false r).1 = { m with jou := { m.jou with locNext := m.jou.locNext + 1 } }) ∧
    (JournalOnly m (m.number keeps r).1)) ∧
  (∀ s : Machine.State, s.m.runs = false ∨ s.m.up .mgi = false → Machine.exec .journalWrite s = .next s) ∧
  ∀ s : Machine.State, s.m.runs = true → s.m.up .mgi = true →
    (s.m.jou.queue = [] → s.m.jou.dropped ≠ 0xFFFF → s.m.jou.tripOver ≠ 0xFFFF →
      Machine.exec .journalWrite s = .next s) ∧
    (∀ keeps r rest, s.m.jou.queue = (keeps, r) :: rest → s.m.jou.dropped ≠ 0xFFFF → s.m.jou.tripOver ≠ 0xFFFF →
      rest.length < 65535 →
      (s.m.jou.stored.filter (fun e => decide (e.1 = min (s.m.number keeps r).2.severity 4))).length <
        Machine.sectionSlots (min (s.m.number keeps r).2.severity 4) →
      ∃ t, Answers .journalWrite s t ∧ JournalOnly s.m t.m ∧
        t.m.jou.stored = s.m.jou.stored ++ [(min (s.m.number keeps r).2.severity 4,
          { (s.m.number keeps r).2 with borrowed := false })] ∧
        rest <+: t.m.jou.queue ∧
        t.m.holds Machine.cJournalQueueFull Machine.scModule 0 = false)
end

