-- ==== Sys2Proof/Laws/Lists.lean ====
section
/-! SUPPORT. What the table and list helpers of Machine/Operands.lean do. -/

namespace Sys2Proof.Machine

@[simp] theorem modAt_length {α : Type} (l : List α) (i : Nat) (f : α → α) : (modAt l i f).length = l.length := by
  induction l generalizing i with
  | nil => rfl
  | cons x t ih => cases i <;> simp [modAt, ih]

theorem modAt_getD {α : Type} (l : List α) (i j : Nat) (f : α → α) (d : α) :
    (modAt l i f).getD j d = if i = j ∧ i < l.length then f (l.getD j d) else l.getD j d := by
  induction l generalizing i j with
  | nil => simp [modAt]
  | cons x t ih =>
    cases i <;> cases j <;> simp [modAt]
    simpa using ih _ _

theorem modAt_getD_same {α : Type} (l : List α) (i : Nat) (f : α → α) (d : α) (h : i < l.length) :
    (modAt l i f).getD i d = f (l.getD i d) := by rw [modAt_getD, if_pos ⟨rfl, h⟩]

theorem modAt_getD_other {α : Type} (l : List α) (i j : Nat) (f : α → α) (d : α) (h : i ≠ j) :
    (modAt l i f).getD j d = l.getD j d := by rw [modAt_getD, if_neg (fun g => h g.1)]

@[simp] theorem modAt_getElem? {α : Type} (l : List α) (i j : Nat) (f : α → α) :
    (modAt l i f)[j]? = if i = j then l[j]?.map f else l[j]? := by
  induction l generalizing i j with
  | nil => simp [modAt]
  | cons x t ih => cases i <;> cases j <;> simp [modAt, ih]

theorem modAt_forall {α : Type} {P : α → Prop} {l : List α} {i : Nat} {f : α → α} (h : ∀ x ∈ l, P x)
    (hf : ∀ x, P x → P (f x)) : ∀ x ∈ modAt l i f, P x := by
  induction l generalizing i with
  | nil => simp [modAt]
  | cons x t ih =>
    intro y hy
    cases i with
    | zero =>
      rcases List.mem_cons.1 hy with rfl | hy
      · exact hf _ (h _ (by simp))
      · exact h _ (by simp [hy])
    | succ i =>
      rcases List.mem_cons.1 hy with rfl | hy
      · exact h _ (by simp)
      · exact ih (fun z hz => h z (by simp [hz])) _ hy

@[simp] theorem look_put_same {κ α : Type} [DecidableEq κ] (d : α) (l : List (κ × α)) (k : κ) (v : α) :
    look d (put l k v) k = v := by
  induction l with
  | nil => simp [put, look]
  | cons p t ih => by_cases h : p.1 = k <;> simp [put, look, h, ih]

@[simp] theorem look_put_other {κ α : Type} [DecidableEq κ] (d : α) (l : List (κ × α)) (k k' : κ) (v : α)
    (h : k ≠ k') : look d (put l k v) k' = look d l k' := by
  induction l with
  | nil => simp [put, look, h]
  | cons p t ih =>
    by_cases hp : p.1 = k
    · subst hp; simp [put, look, h]
    · have e : put (p :: t) k v = p :: put t k v := by simp [put, hp]
      rw [e]
      by_cases hq : p.1 = k' <;> simp [look, hq, ih]

theorem mem_addTo {α : Type} [DecidableEq α] (l : List α) (x y : α) : y ∈ addTo l x ↔ y ∈ l ∨ y = x := by
  unfold addTo
  split
  · constructor
    · exact Or.inl
    · rintro (h | rfl) <;> assumption
  · simp

theorem mem_addAll {α : Type} [DecidableEq α] (l xs : List α) (x : α) : x ∈ addAll l xs ↔ x ∈ l ∨ x ∈ xs := by
  unfold addAll
  induction xs generalizing l with
  | nil => simp
  | cons y ys ih =>
    rw [List.foldl_cons, ih, mem_addTo, List.mem_cons]
    tauto

@[simp] theorem addTo_twice {α : Type} [DecidableEq α] (l : List α) (x : α) :
    addTo (addTo l x) x = addTo l x := by
  have h : x ∈ addTo l x := (mem_addTo l x x).2 (Or.inr rfl)
  generalize addTo l x = q at h ⊢
  simp [addTo, h]

theorem addTo_prefix {α : Type} [DecidableEq α] (l : List α) (x : α) : l <+: addTo l x := by
  unfold addTo
  split
  · exact List.prefix_rfl
  · exact List.prefix_append _ _

theorem mem_dropFrom {α : Type} [DecidableEq α] (l : List α) (x y : α) : y ∈ dropFrom l x ↔ y ∈ l ∧ y ≠ x := by
  simp [dropFrom]

end Sys2Proof.Machine
end

