-- ==== Sys2Proof/Laws/Alerts.lean ====
section
/-! SUPPORT. What journalling a record and raising or ending a condition do: nothing but the alert map, the
journal and the outbox moves, and the condition holds, or no longer holds, afterwards. -/

namespace Sys2Proof

open Machine

theorem JournalOnly.refl (m : Module) : JournalOnly m m := rfl

theorem JournalOnly.trans {a b c : Module} (h : JournalOnly a b) (g : JournalOnly b c) : JournalOnly a c := by
  unfold JournalOnly at *
  rw [g, h]

theorem JournalOnly.of_fields {m : Module} (al : Alerts) (jou : Journal) (outbox : List Out) :
    JournalOnly m { m with al := al, jou := jou, outbox := outbox } := rfl

/-- A field that is not journalling is as it was. -/
theorem JournalOnly.field {m n : Module} {α : Type} (f : Module → α) (h : JournalOnly m n)
    (hf : ∀ m al jou outbox, f { m with al := al, jou := jou, outbox := outbox } = f m) : f n = f m := by
  rw [h, hf]

namespace Machine

theorem Module.emit_only (m : Module) (o : Out) : JournalOnly m (m.emit o) := rfl

theorem Module.enqueue_only (m : Module) (k : Bool) (r : JRec) : JournalOnly m (m.enqueue k r) := by
  unfold Module.enqueue
  split
  · split <;> rfl
  · split <;> rfl

theorem Module.jot_only (m : Module) (src : Island) (code sev scope inst : Nat) (v : Int) (p : List Byte)
    (row alert : Nat) : JournalOnly m (m.jot src code sev scope inst v p row alert) :=
  Module.enqueue_only _ _ _

theorem Module.jotCond_only (m : Module) (src : Island) (code sev scope inst : Nat) (v : Int) (p : List Byte)
    (fall : Bool) : JournalOnly m (m.jotCond src code sev scope inst v p fall) := by
  unfold Module.jotCond
  dsimp only
  split
  · split
    · exact (Module.enqueue_only _ _ _).trans (Module.emit_only _ _)
    · split
      · exact Module.enqueue_only _ _ _
      · rfl
  · exact Module.enqueue_only _ _ _

theorem Module.raise_only (m : Module) (src : Island) (code sev scope inst : Nat) (v : Int) (p : List Byte) :
    JournalOnly m (m.raise src code sev scope inst v p) := by
  unfold Module.raise
  split
  · rfl
  · exact JournalOnly.trans (JournalOnly.of_fields _ m.jou m.outbox) (Module.jotCond_only _ _ _ _ _ _ _ _ _)

theorem Module.clear_only (m : Module) (src : Island) (code scope inst : Nat) :
    JournalOnly m (m.clear src code scope inst) := by
  unfold Module.clear
  split
  · exact JournalOnly.trans (JournalOnly.of_fields _ m.jou m.outbox) (Module.jotCond_only _ _ _ _ _ _ _ _ _)
  · rfl

theorem Module.setCond_only (m : Module) (on : Bool) (src : Island) (code sev scope inst : Nat) (v : Int) :
    JournalOnly m (m.setCond on src code sev scope inst v) := by
  unfold Module.setCond
  split
  · exact Module.raise_only _ _ _ _ _ _ _ _
  · exact Module.clear_only _ _ _ _ _

/-- Queueing a record loses no condition. -/
theorem Module.enqueue_conds (m : Module) (k : Bool) (r : JRec) :
    ∀ c ∈ m.al.conds, c ∈ (m.enqueue k r).al.conds := by
  intro c hc
  unfold Module.enqueue
  split
  · split
    · exact (mem_addTo _ _ _).2 (Or.inl hc)
    · exact hc
  · split <;> exact hc

/-- Queueing a record raises nothing but JOURNAL_QUEUE_FULL. -/
theorem Module.enqueue_new (m : Module) (k : Bool) (r : JRec) :
    ∀ c ∈ (m.enqueue k r).al.conds, c ∈ m.al.conds ∨ c.code = cJournalQueueFull := by
  intro c hc
  unfold Module.enqueue at hc
  split at hc
  · split at hc
    · rcases (mem_addTo _ _ _).1 hc with h | h
      · exact Or.inl h
      · exact Or.inr (by rw [h])
    · exact Or.inl hc
  · split at hc <;> exact Or.inl hc

theorem Module.jotCond_conds (m : Module) (src : Island) (code sev scope inst : Nat) (v : Int) (p : List Byte)
    (fall : Bool) : ∀ c ∈ m.al.conds, c ∈ (m.jotCond src code sev scope inst v p fall).al.conds := by
  unfold Module.jotCond
  dsimp only
  split
  · split
    · exact Module.enqueue_conds _ _ _
    · split
      · exact Module.enqueue_conds _ _ _
      · exact fun _ h => h
  · exact Module.enqueue_conds _ _ _

theorem Module.jotCond_new (m : Module) (src : Island) (code sev scope inst : Nat) (v : Int) (p : List Byte)
    (fall : Bool) : ∀ c ∈ (m.jotCond src code sev scope inst v p fall).al.conds,
      c ∈ m.al.conds ∨ c.code = cJournalQueueFull := by
  unfold Module.jotCond
  dsimp only
  split
  · split
    · exact Module.enqueue_new _ _ _
    · split
      · exact Module.enqueue_new _ _ _
      · exact fun _ h => Or.inl h
  · exact Module.enqueue_new _ _ _

/-- A raised condition holds (R416). -/
theorem Module.raise_holds (m : Module) (src : Island) (code sev scope inst : Nat) (v : Int) (p : List Byte) :
    (m.raise src code sev scope inst v p).holds code scope inst = true := by
  have hi : (m.raise src code sev scope inst v p).instOf code inst = m.instOf code inst := by
    rw [Module.raise_only m src code sev scope inst v p]
    rfl
  unfold Module.holds
  rw [hi]
  by_cases h : m.holds code scope inst
  · have e : m.raise src code sev scope inst v p = m := by simp [Module.raise, h]
    rw [e]
    exact h
  · have e : m.raise src code sev scope inst v p =
        Module.jotCond { m with al := { m.al with
          conds := m.al.conds ++ [Cond.mk code scope (m.instOf code inst)], sticky := addTo m.al.sticky code } }
          src code sev scope (m.instOf code inst) v p false := by
      simp [Module.raise, h]
    rw [e, List.any_eq_true]
    refine ⟨Cond.mk code scope (m.instOf code inst), Module.jotCond_conds _ _ _ _ _ _ _ _ _ _ ?_, ?_⟩ <;> simp

/-- An ended condition does not hold (R416); JOURNAL_QUEUE_FULL may rise through its own FALL record. -/
theorem Module.clear_holds (m : Module) (src : Island) (code scope inst : Nat) (hc : code ≠ cJournalQueueFull) :
    (m.clear src code scope inst).holds code scope inst = false := by
  have hi : (m.clear src code scope inst).instOf code inst = m.instOf code inst := by
    rw [Module.clear_only m src code scope inst]
    rfl
  by_cases h : m.holds code scope inst
  · have e : m.clear src code scope inst =
        Module.jotCond { m with al := { m.al with
          conds := dropFrom m.al.conds (Cond.mk code scope (m.instOf code inst)) } }
          src code sevTrace scope (m.instOf code inst) naCurrent [] true := by
      simp [Module.clear, h]
    unfold Module.holds
    rw [hi, Bool.eq_false_iff]
    intro g
    rw [e, List.any_eq_true] at g
    obtain ⟨c, hm, hq⟩ := g
    simp only [Bool.and_eq_true, decide_eq_true_eq] at hq
    rcases Module.jotCond_new _ _ _ _ _ _ _ _ _ c hm with k | k
    · have := ((mem_dropFrom _ _ _).1 k).2
      apply this
      cases c
      simp_all
    · exact hc (hq.1.1 ▸ k)
  · have : m.clear src code scope inst = m := by simp [Module.clear, h]
    rw [this]
    simpa using h

/-- What queueing, raising or ending a condition keeps of the alert map: conditions of another code hold as before,
except that JOURNAL_QUEUE_FULL may rise. -/
theorem Module.holds_of_conds {m n : Module} (h : JournalOnly m n) (code scope inst : Nat)
    (hc : ∀ c : Cond, c.code = code → (c ∈ n.al.conds ↔ c ∈ m.al.conds)) :
    n.holds code scope inst = m.holds code scope inst := by
  have hi : n.instOf code inst = m.instOf code inst := by rw [h]; rfl
  unfold Module.holds
  rw [hi, Bool.eq_iff_iff, List.any_eq_true, List.any_eq_true]
  refine exists_congr fun c => ?_
  simp only [Bool.and_eq_true, decide_eq_true_eq]
  exact ⟨fun g => ⟨(hc c g.2.1.1).1 g.1, g.2⟩, fun g => ⟨(hc c g.2.1.1).2 g.1, g.2⟩⟩

theorem Module.raise_other (m : Module) (src : Island) (code sev scope inst : Nat) (v : Int) (p : List Byte)
    (code' scope' inst' : Nat) (hc : code' ≠ code) (hf : code' ≠ cJournalQueueFull) :
    (m.raise src code sev scope inst v p).holds code' scope' inst' = m.holds code' scope' inst' := by
  refine Module.holds_of_conds (Module.raise_only _ _ _ _ _ _ _ _) _ _ _ fun c hcc => ?_
  unfold Module.raise
  split
  · rfl
  · refine ⟨fun g => ?_, fun g => Module.jotCond_conds _ _ _ _ _ _ _ _ _ _ (by simp [g])⟩
    rcases Module.jotCond_new _ _ _ _ _ _ _ _ _ c g with k | k
    · rcases List.mem_append.1 k with k | k
      · exact k
      · rw [List.mem_singleton] at k
        exact absurd (hcc.symm.trans (by rw [k])) hc
    · exact absurd (hcc.symm.trans k) hf

theorem Module.clear_other (m : Module) (src : Island) (code scope inst : Nat) (code' scope' inst' : Nat)
    (hc : code' ≠ code) (hf : code' ≠ cJournalQueueFull) :
    (m.clear src code scope inst).holds code' scope' inst' = m.holds code' scope' inst' := by
  refine Module.holds_of_conds (Module.clear_only _ _ _ _ _) _ _ _ fun c hcc => ?_
  unfold Module.clear
  split
  · have hne : c ≠ Cond.mk code scope (m.instOf code inst) := fun g => hc (hcc.symm.trans (by rw [g]))
    refine ⟨fun g => ?_, fun g => Module.jotCond_conds _ _ _ _ _ _ _ _ _ _ ((mem_dropFrom _ _ _).2 ⟨g, hne⟩)⟩
    rcases Module.jotCond_new _ _ _ _ _ _ _ _ _ c g with k | k
    · exact ((mem_dropFrom _ _ _).1 k).1
    · exact absurd (hcc.symm.trans k) hf
  · rfl

end Machine

end Sys2Proof
end

