-- ==== Sys2Proof/Laws/Carapace.lean ====
section
/-! SUPPORT. What the shared operations of the Carapace do. -/

namespace Sys2Proof.Machine

@[simp] theorem Carapace.modBay_length (c : Carapace) (b : Nat) (f : CaraBay → CaraBay) :
    (c.modBay b f).bays.length = c.bays.length := by simp [Carapace.modBay]

theorem Carapace.modBay_bay (c : Carapace) (b b' : Nat) (f : CaraBay → CaraBay) :
    (c.modBay b f).bay b' = if b = b' ∧ b < c.bays.length then f (c.bay b') else c.bay b' :=
  modAt_getD _ _ _ _ _

@[simp] theorem Carapace.modBay_state (c : Carapace) (b : Nat) (f : CaraBay → CaraBay) :
    (c.modBay b f).state = c.state := rfl

@[simp] theorem Carapace.modBay_slotInvalid (c : Carapace) (b : Nat) (f : CaraBay → CaraBay) :
    (c.modBay b f).slotInvalid = c.slotInvalid := rfl

/-- A trip changes nothing but the bays. -/
theorem Carapace.trip_keeps (c : Carapace) (b k : Nat) : c.trip b k = { c with bays := (c.trip b k).bays } := by
  unfold Carapace.trip
  split <;> rfl

@[simp] theorem Carapace.trip_state (c : Carapace) (b k : Nat) : (c.trip b k).state = c.state := by
  rw [Carapace.trip_keeps]

@[simp] theorem Carapace.trip_length (c : Carapace) (b k : Nat) : (c.trip b k).bays.length = c.bays.length := by
  unfold Carapace.trip
  split <;> simp

/-- Everything a trip does to a bay: in RUN bay `b` takes the cause behind its earlier ones and de-energises. -/
theorem Carapace.trip_bay (c : Carapace) (b b' k : Nat) (h : c.state = .run) :
    (c.trip b k).bay b' =
      if b = b' ∧ b < c.bays.length then
        { c.bay b' with causes := addTo (c.bay b').causes k, out0 := false, out1 := false }
      else c.bay b' := by
  simp [Carapace.trip, h, Carapace.modBay_bay]

/-- Changing only bays, twice, changes only bays. -/
theorem Carapace.bays_trans {c d e : Carapace} (h : d = { c with bays := d.bays })
    (g : e = { d with bays := e.bays }) : e = { c with bays := e.bays } := by
  cases c
  cases d
  cases e
  simp_all

/-- Several bays tripped with one cause change nothing but bays. -/
theorem Carapace.trips_keeps (l : List Nat) (c : Carapace) (k : Nat) :
    l.foldl (fun c b => c.trip b k) c = { c with bays := (l.foldl (fun c b => c.trip b k) c).bays } := by
  induction l generalizing c with
  | nil => rfl
  | cons b t ih => exact Carapace.bays_trans (Carapace.trip_keeps c b k) (ih _)

/-- Everything a trip of several bays does to a bay. -/
theorem Carapace.trips_bay (l : List Nat) (c : Carapace) (k b : Nat) (h : c.state = .run) (hb : b < c.bays.length) :
    (l.foldl (fun c b => c.trip b k) c).bay b =
      if b ∈ l then { c.bay b with causes := addTo (c.bay b).causes k, out0 := false, out1 := false }
      else c.bay b := by
  induction l generalizing c with
  | nil => simp
  | cons a t ih =>
    have e := ih (c.trip a k) (by simp [h]) (by simp [hb])
    rw [List.foldl_cons, e, Carapace.trip_bay _ _ _ _ h]
    by_cases hab : a = b
    · subst hab
      by_cases ht : a ∈ t <;> simp [hb, ht]
    · have : b ≠ a := fun g => hab g.symm
      simp [hab, this]

end Sys2Proof.Machine
end

