-- ==== Sys2Proof/Laws/State.lean ====
section
/-! SUPPORT. What each update of one part of the module leaves as it was: one lemma per update and field, and one per
update and named view, so that no proof unfolds an update of the record. -/

namespace Sys2Proof.Machine

variable (s : State) (m : Module) (c : Carapace)

/-! ### emit -/

@[simp] theorem Module.emit_sup (o : Out) : (m.emit o).sup = m.sup := rfl
@[simp] theorem Module.emit_isl (o : Out) : (m.emit o).isl = m.isl := rfl
@[simp] theorem Module.emit_time (o : Out) : (m.emit o).time = m.time := rfl
@[simp] theorem Module.emit_rep (o : Out) : (m.emit o).rep = m.rep := rfl
@[simp] theorem Module.emit_ports (o : Out) : (m.emit o).ports = m.ports := rfl
@[simp] theorem Module.emit_rings (o : Out) : (m.emit o).rings = m.rings := rfl
@[simp] theorem Module.emit_workers (o : Out) : (m.emit o).workers = m.workers := rfl
@[simp] theorem Module.emit_sweep (o : Out) : (m.emit o).sweep = m.sweep := rfl
@[simp] theorem Module.emit_bursts (o : Out) : (m.emit o).bursts = m.bursts := rfl
@[simp] theorem Module.emit_dorm (o : Out) : (m.emit o).dorm = m.dorm := rfl
@[simp] theorem Module.emit_cal (o : Out) : (m.emit o).cal = m.cal := rfl
@[simp] theorem Module.emit_est (o : Out) : (m.emit o).est = m.est := rfl
@[simp] theorem Module.emit_ver (o : Out) : (m.emit o).ver = m.ver := rfl
@[simp] theorem Module.emit_scarab (o : Out) : (m.emit o).scarab = m.scarab := rfl
@[simp] theorem Module.emit_pre (o : Out) : (m.emit o).pre = m.pre := rfl
@[simp] theorem Module.emit_sw (o : Out) : (m.emit o).sw = m.sw := rfl
@[simp] theorem Module.emit_pair (o : Out) : (m.emit o).pair = m.pair := rfl
@[simp] theorem Module.emit_dcp (o : Out) : (m.emit o).dcp = m.dcp := rfl
@[simp] theorem Module.emit_can (o : Out) : (m.emit o).can = m.can := rfl
@[simp] theorem Module.emit_jou (o : Out) : (m.emit o).jou = m.jou := rfl
@[simp] theorem Module.emit_al (o : Out) : (m.emit o).al = m.al := rfl
@[simp] theorem Module.emit_sets (o : Out) : (m.emit o).sets = m.sets := rfl
@[simp] theorem Module.emit_upd (o : Out) : (m.emit o).upd = m.upd := rfl
@[simp] theorem Module.emit_free (o : Out) : (m.emit o).free = m.free := rfl
@[simp] theorem Module.emit_cfg (o : Out) : (m.emit o).cfg = m.cfg := rfl
@[simp] theorem Module.emit_isPair (o : Out) : (m.emit o).isPair = m.isPair := rfl
@[simp] theorem Module.emit_runs (o : Out) : (m.emit o).runs = m.runs := rfl
@[simp] theorem Module.emit_leads (o : Out) : (m.emit o).leads = m.leads := rfl
@[simp] theorem Module.emit_follows (o : Out) : (m.emit o).follows = m.follows := rfl
@[simp] theorem Module.emit_acts (o : Out) : (m.emit o).acts = m.acts := rfl
@[simp] theorem Module.emit_plant (o : Out) : (m.emit o).plant = m.plant := rfl
@[simp] theorem Module.emit_up (o : Out) (i : Island) : (m.emit o).up i = m.up i := rfl

/-! ### modIsl -/

@[simp] theorem Module.modIsl_sup (i : Island) (f : IslandSt → IslandSt) : (m.modIsl i f).sup = m.sup := rfl
@[simp] theorem Module.modIsl_time (i : Island) (f : IslandSt → IslandSt) : (m.modIsl i f).time = m.time := rfl
@[simp] theorem Module.modIsl_rep (i : Island) (f : IslandSt → IslandSt) : (m.modIsl i f).rep = m.rep := rfl
@[simp] theorem Module.modIsl_ports (i : Island) (f : IslandSt → IslandSt) : (m.modIsl i f).ports = m.ports := rfl
@[simp] theorem Module.modIsl_rings (i : Island) (f : IslandSt → IslandSt) : (m.modIsl i f).rings = m.rings := rfl
@[simp] theorem Module.modIsl_workers (i : Island) (f : IslandSt → IslandSt) : (m.modIsl i f).workers = m.workers := rfl
@[simp] theorem Module.modIsl_sweep (i : Island) (f : IslandSt → IslandSt) : (m.modIsl i f).sweep = m.sweep := rfl
@[simp] theorem Module.modIsl_bursts (i : Island) (f : IslandSt → IslandSt) : (m.modIsl i f).bursts = m.bursts := rfl
@[simp] theorem Module.modIsl_dorm (i : Island) (f : IslandSt → IslandSt) : (m.modIsl i f).dorm = m.dorm := rfl
@[simp] theorem Module.modIsl_cal (i : Island) (f : IslandSt → IslandSt) : (m.modIsl i f).cal = m.cal := rfl
@[simp] theorem Module.modIsl_est (i : Island) (f : IslandSt → IslandSt) : (m.modIsl i f).est = m.est := rfl
@[simp] theorem Module.modIsl_ver (i : Island) (f : IslandSt → IslandSt) : (m.modIsl i f).ver = m.ver := rfl
@[simp] theorem Module.modIsl_scarab (i : Island) (f : IslandSt → IslandSt) : (m.modIsl i f).scarab = m.scarab := rfl
@[simp] theorem Module.modIsl_pre (i : Island) (f : IslandSt → IslandSt) : (m.modIsl i f).pre = m.pre := rfl
@[simp] theorem Module.modIsl_sw (i : Island) (f : IslandSt → IslandSt) : (m.modIsl i f).sw = m.sw := rfl
@[simp] theorem Module.modIsl_pair (i : Island) (f : IslandSt → IslandSt) : (m.modIsl i f).pair = m.pair := rfl
@[simp] theorem Module.modIsl_dcp (i : Island) (f : IslandSt → IslandSt) : (m.modIsl i f).dcp = m.dcp := rfl
@[simp] theorem Module.modIsl_can (i : Island) (f : IslandSt → IslandSt) : (m.modIsl i f).can = m.can := rfl
@[simp] theorem Module.modIsl_jou (i : Island) (f : IslandSt → IslandSt) : (m.modIsl i f).jou = m.jou := rfl
@[simp] theorem Module.modIsl_al (i : Island) (f : IslandSt → IslandSt) : (m.modIsl i f).al = m.al := rfl
@[simp] theorem Module.modIsl_sets (i : Island) (f : IslandSt → IslandSt) : (m.modIsl i f).sets = m.sets := rfl
@[simp] theorem Module.modIsl_upd (i : Island) (f : IslandSt → IslandSt) : (m.modIsl i f).upd = m.upd := rfl
@[simp] theorem Module.modIsl_free (i : Island) (f : IslandSt → IslandSt) : (m.modIsl i f).free = m.free := rfl
@[simp] theorem Module.modIsl_outbox (i : Island) (f : IslandSt → IslandSt) : (m.modIsl i f).outbox = m.outbox := rfl
@[simp] theorem Module.modIsl_cfg (i : Island) (f : IslandSt → IslandSt) : (m.modIsl i f).cfg = m.cfg := rfl
@[simp] theorem Module.modIsl_isPair (i : Island) (f : IslandSt → IslandSt) : (m.modIsl i f).isPair = m.isPair := rfl
@[simp] theorem Module.modIsl_runs (i : Island) (f : IslandSt → IslandSt) : (m.modIsl i f).runs = m.runs := rfl
@[simp] theorem Module.modIsl_leads (i : Island) (f : IslandSt → IslandSt) : (m.modIsl i f).leads = m.leads := rfl
@[simp] theorem Module.modIsl_follows (i : Island) (f : IslandSt → IslandSt) : (m.modIsl i f).follows = m.follows := rfl
@[simp] theorem Module.modIsl_acts (i : Island) (f : IslandSt → IslandSt) : (m.modIsl i f).acts = m.acts := rfl
@[simp] theorem Module.modIsl_plant (i : Island) (f : IslandSt → IslandSt) : (m.modIsl i f).plant = m.plant := rfl

/-! ### modWk -/

@[simp] theorem Module.modWk_sup (w : Wk) (f : WorkerSt → WorkerSt) : (m.modWk w f).sup = m.sup := rfl
@[simp] theorem Module.modWk_isl (w : Wk) (f : WorkerSt → WorkerSt) : (m.modWk w f).isl = m.isl := rfl
@[simp] theorem Module.modWk_time (w : Wk) (f : WorkerSt → WorkerSt) : (m.modWk w f).time = m.time := rfl
@[simp] theorem Module.modWk_rep (w : Wk) (f : WorkerSt → WorkerSt) : (m.modWk w f).rep = m.rep := rfl
@[simp] theorem Module.modWk_ports (w : Wk) (f : WorkerSt → WorkerSt) : (m.modWk w f).ports = m.ports := rfl
@[simp] theorem Module.modWk_rings (w : Wk) (f : WorkerSt → WorkerSt) : (m.modWk w f).rings = m.rings := rfl
@[simp] theorem Module.modWk_sweep (w : Wk) (f : WorkerSt → WorkerSt) : (m.modWk w f).sweep = m.sweep := rfl
@[simp] theorem Module.modWk_bursts (w : Wk) (f : WorkerSt → WorkerSt) : (m.modWk w f).bursts = m.bursts := rfl
@[simp] theorem Module.modWk_dorm (w : Wk) (f : WorkerSt → WorkerSt) : (m.modWk w f).dorm = m.dorm := rfl
@[simp] theorem Module.modWk_cal (w : Wk) (f : WorkerSt → WorkerSt) : (m.modWk w f).cal = m.cal := rfl
@[simp] theorem Module.modWk_est (w : Wk) (f : WorkerSt → WorkerSt) : (m.modWk w f).est = m.est := rfl
@[simp] theorem Module.modWk_ver (w : Wk) (f : WorkerSt → WorkerSt) : (m.modWk w f).ver = m.ver := rfl
@[simp] theorem Module.modWk_scarab (w : Wk) (f : WorkerSt → WorkerSt) : (m.modWk w f).scarab = m.scarab := rfl
@[simp] theorem Module.modWk_pre (w : Wk) (f : WorkerSt → WorkerSt) : (m.modWk w f).pre = m.pre := rfl
@[simp] theorem Module.modWk_sw (w : Wk) (f : WorkerSt → WorkerSt) : (m.modWk w f).sw = m.sw := rfl
@[simp] theorem Module.modWk_pair (w : Wk) (f : WorkerSt → WorkerSt) : (m.modWk w f).pair = m.pair := rfl
@[simp] theorem Module.modWk_dcp (w : Wk) (f : WorkerSt → WorkerSt) : (m.modWk w f).dcp = m.dcp := rfl
@[simp] theorem Module.modWk_can (w : Wk) (f : WorkerSt → WorkerSt) : (m.modWk w f).can = m.can := rfl
@[simp] theorem Module.modWk_jou (w : Wk) (f : WorkerSt → WorkerSt) : (m.modWk w f).jou = m.jou := rfl
@[simp] theorem Module.modWk_al (w : Wk) (f : WorkerSt → WorkerSt) : (m.modWk w f).al = m.al := rfl
@[simp] theorem Module.modWk_sets (w : Wk) (f : WorkerSt → WorkerSt) : (m.modWk w f).sets = m.sets := rfl
@[simp] theorem Module.modWk_upd (w : Wk) (f : WorkerSt → WorkerSt) : (m.modWk w f).upd = m.upd := rfl
@[simp] theorem Module.modWk_free (w : Wk) (f : WorkerSt → WorkerSt) : (m.modWk w f).free = m.free := rfl
@[simp] theorem Module.modWk_outbox (w : Wk) (f : WorkerSt → WorkerSt) : (m.modWk w f).outbox = m.outbox := rfl
@[simp] theorem Module.modWk_cfg (w : Wk) (f : WorkerSt → WorkerSt) : (m.modWk w f).cfg = m.cfg := rfl
@[simp] theorem Module.modWk_isPair (w : Wk) (f : WorkerSt → WorkerSt) : (m.modWk w f).isPair = m.isPair := rfl
@[simp] theorem Module.modWk_runs (w : Wk) (f : WorkerSt → WorkerSt) : (m.modWk w f).runs = m.runs := rfl
@[simp] theorem Module.modWk_leads (w : Wk) (f : WorkerSt → WorkerSt) : (m.modWk w f).leads = m.leads := rfl
@[simp] theorem Module.modWk_follows (w : Wk) (f : WorkerSt → WorkerSt) : (m.modWk w f).follows = m.follows := rfl
@[simp] theorem Module.modWk_acts (w : Wk) (f : WorkerSt → WorkerSt) : (m.modWk w f).acts = m.acts := rfl
@[simp] theorem Module.modWk_plant (w : Wk) (f : WorkerSt → WorkerSt) : (m.modWk w f).plant = m.plant := rfl
@[simp] theorem Module.modWk_up (w : Wk) (f : WorkerSt → WorkerSt) (i : Island) : (m.modWk w f).up i = m.up i := rfl

/-! ### modRing -/

@[simp] theorem Module.modRing_sup (r : Nat) (f : RingSt → RingSt) : (m.modRing r f).sup = m.sup := rfl
@[simp] theorem Module.modRing_isl (r : Nat) (f : RingSt → RingSt) : (m.modRing r f).isl = m.isl := rfl
@[simp] theorem Module.modRing_time (r : Nat) (f : RingSt → RingSt) : (m.modRing r f).time = m.time := rfl
@[simp] theorem Module.modRing_rep (r : Nat) (f : RingSt → RingSt) : (m.modRing r f).rep = m.rep := rfl
@[simp] theorem Module.modRing_ports (r : Nat) (f : RingSt → RingSt) : (m.modRing r f).ports = m.ports := rfl
@[simp] theorem Module.modRing_workers (r : Nat) (f : RingSt → RingSt) : (m.modRing r f).workers = m.workers := rfl
@[simp] theorem Module.modRing_sweep (r : Nat) (f : RingSt → RingSt) : (m.modRing r f).sweep = m.sweep := rfl
@[simp] theorem Module.modRing_bursts (r : Nat) (f : RingSt → RingSt) : (m.modRing r f).bursts = m.bursts := rfl
@[simp] theorem Module.modRing_dorm (r : Nat) (f : RingSt → RingSt) : (m.modRing r f).dorm = m.dorm := rfl
@[simp] theorem Module.modRing_cal (r : Nat) (f : RingSt → RingSt) : (m.modRing r f).cal = m.cal := rfl
@[simp] theorem Module.modRing_est (r : Nat) (f : RingSt → RingSt) : (m.modRing r f).est = m.est := rfl
@[simp] theorem Module.modRing_ver (r : Nat) (f : RingSt → RingSt) : (m.modRing r f).ver = m.ver := rfl
@[simp] theorem Module.modRing_scarab (r : Nat) (f : RingSt → RingSt) : (m.modRing r f).scarab = m.scarab := rfl
@[simp] theorem Module.modRing_pre (r : Nat) (f : RingSt → RingSt) : (m.modRing r f).pre = m.pre := rfl
@[simp] theorem Module.modRing_sw (r : Nat) (f : RingSt → RingSt) : (m.modRing r f).sw = m.sw := rfl
@[simp] theorem Module.modRing_pair (r : Nat) (f : RingSt → RingSt) : (m.modRing r f).pair = m.pair := rfl
@[simp] theorem Module.modRing_dcp (r : Nat) (f : RingSt → RingSt) : (m.modRing r f).dcp = m.dcp := rfl
@[simp] theorem Module.modRing_can (r : Nat) (f : RingSt → RingSt) : (m.modRing r f).can = m.can := rfl
@[simp] theorem Module.modRing_jou (r : Nat) (f : RingSt → RingSt) : (m.modRing r f).jou = m.jou := rfl
@[simp] theorem Module.modRing_al (r : Nat) (f : RingSt → RingSt) : (m.modRing r f).al = m.al := rfl
@[simp] theorem Module.modRing_sets (r : Nat) (f : RingSt → RingSt) : (m.modRing r f).sets = m.sets := rfl
@[simp] theorem Module.modRing_upd (r : Nat) (f : RingSt → RingSt) : (m.modRing r f).upd = m.upd := rfl
@[simp] theorem Module.modRing_free (r : Nat) (f : RingSt → RingSt) : (m.modRing r f).free = m.free := rfl
@[simp] theorem Module.modRing_outbox (r : Nat) (f : RingSt → RingSt) : (m.modRing r f).outbox = m.outbox := rfl
@[simp] theorem Module.modRing_cfg (r : Nat) (f : RingSt → RingSt) : (m.modRing r f).cfg = m.cfg := rfl
@[simp] theorem Module.modRing_isPair (r : Nat) (f : RingSt → RingSt) : (m.modRing r f).isPair = m.isPair := rfl
@[simp] theorem Module.modRing_runs (r : Nat) (f : RingSt → RingSt) : (m.modRing r f).runs = m.runs := rfl
@[simp] theorem Module.modRing_leads (r : Nat) (f : RingSt → RingSt) : (m.modRing r f).leads = m.leads := rfl
@[simp] theorem Module.modRing_follows (r : Nat) (f : RingSt → RingSt) : (m.modRing r f).follows = m.follows := rfl
@[simp] theorem Module.modRing_acts (r : Nat) (f : RingSt → RingSt) : (m.modRing r f).acts = m.acts := rfl
@[simp] theorem Module.modRing_plant (r : Nat) (f : RingSt → RingSt) : (m.modRing r f).plant = m.plant := rfl
@[simp] theorem Module.modRing_up (r : Nat) (f : RingSt → RingSt) (i : Island) : (m.modRing r f).up i = m.up i := rfl

/-! ### modPort -/

@[simp] theorem Module.modPort_sup (p : Nat) (f : PortSt → PortSt) : (m.modPort p f).sup = m.sup := rfl
@[simp] theorem Module.modPort_isl (p : Nat) (f : PortSt → PortSt) : (m.modPort p f).isl = m.isl := rfl
@[simp] theorem Module.modPort_time (p : Nat) (f : PortSt → PortSt) : (m.modPort p f).time = m.time := rfl
@[simp] theorem Module.modPort_rep (p : Nat) (f : PortSt → PortSt) : (m.modPort p f).rep = m.rep := rfl
@[simp] theorem Module.modPort_rings (p : Nat) (f : PortSt → PortSt) : (m.modPort p f).rings = m.rings := rfl
@[simp] theorem Module.modPort_workers (p : Nat) (f : PortSt → PortSt) : (m.modPort p f).workers = m.workers := rfl
@[simp] theorem Module.modPort_sweep (p : Nat) (f : PortSt → PortSt) : (m.modPort p f).sweep = m.sweep := rfl
@[simp] theorem Module.modPort_bursts (p : Nat) (f : PortSt → PortSt) : (m.modPort p f).bursts = m.bursts := rfl
@[simp] theorem Module.modPort_dorm (p : Nat) (f : PortSt → PortSt) : (m.modPort p f).dorm = m.dorm := rfl
@[simp] theorem Module.modPort_cal (p : Nat) (f : PortSt → PortSt) : (m.modPort p f).cal = m.cal := rfl
@[simp] theorem Module.modPort_est (p : Nat) (f : PortSt → PortSt) : (m.modPort p f).est = m.est := rfl
@[simp] theorem Module.modPort_ver (p : Nat) (f : PortSt → PortSt) : (m.modPort p f).ver = m.ver := rfl
@[simp] theorem Module.modPort_scarab (p : Nat) (f : PortSt → PortSt) : (m.modPort p f).scarab = m.scarab := rfl
@[simp] theorem Module.modPort_pre (p : Nat) (f : PortSt → PortSt) : (m.modPort p f).pre = m.pre := rfl
@[simp] theorem Module.modPort_sw (p : Nat) (f : PortSt → PortSt) : (m.modPort p f).sw = m.sw := rfl
@[simp] theorem Module.modPort_pair (p : Nat) (f : PortSt → PortSt) : (m.modPort p f).pair = m.pair := rfl
@[simp] theorem Module.modPort_dcp (p : Nat) (f : PortSt → PortSt) : (m.modPort p f).dcp = m.dcp := rfl
@[simp] theorem Module.modPort_can (p : Nat) (f : PortSt → PortSt) : (m.modPort p f).can = m.can := rfl
@[simp] theorem Module.modPort_jou (p : Nat) (f : PortSt → PortSt) : (m.modPort p f).jou = m.jou := rfl
@[simp] theorem Module.modPort_al (p : Nat) (f : PortSt → PortSt) : (m.modPort p f).al = m.al := rfl
@[simp] theorem Module.modPort_sets (p : Nat) (f : PortSt → PortSt) : (m.modPort p f).sets = m.sets := rfl
@[simp] theorem Module.modPort_upd (p : Nat) (f : PortSt → PortSt) : (m.modPort p f).upd = m.upd := rfl
@[simp] theorem Module.modPort_free (p : Nat) (f : PortSt → PortSt) : (m.modPort p f).free = m.free := rfl
@[simp] theorem Module.modPort_outbox (p : Nat) (f : PortSt → PortSt) : (m.modPort p f).outbox = m.outbox := rfl
@[simp] theorem Module.modPort_cfg (p : Nat) (f : PortSt → PortSt) : (m.modPort p f).cfg = m.cfg := rfl
@[simp] theorem Module.modPort_isPair (p : Nat) (f : PortSt → PortSt) : (m.modPort p f).isPair = m.isPair := rfl
@[simp] theorem Module.modPort_runs (p : Nat) (f : PortSt → PortSt) : (m.modPort p f).runs = m.runs := rfl
@[simp] theorem Module.modPort_leads (p : Nat) (f : PortSt → PortSt) : (m.modPort p f).leads = m.leads := rfl
@[simp] theorem Module.modPort_follows (p : Nat) (f : PortSt → PortSt) : (m.modPort p f).follows = m.follows := rfl
@[simp] theorem Module.modPort_acts (p : Nat) (f : PortSt → PortSt) : (m.modPort p f).acts = m.acts := rfl
@[simp] theorem Module.modPort_plant (p : Nat) (f : PortSt → PortSt) : (m.modPort p f).plant = m.plant := rfl
@[simp] theorem Module.modPort_up (p : Nat) (f : PortSt → PortSt) (i : Island) : (m.modPort p f).up i = m.up i := rfl

/-! ### modStrE -/

@[simp] theorem Module.modStrE_sup (n : Nat) (f : StrEst → StrEst) : (m.modStrE n f).sup = m.sup := rfl
@[simp] theorem Module.modStrE_isl (n : Nat) (f : StrEst → StrEst) : (m.modStrE n f).isl = m.isl := rfl
@[simp] theorem Module.modStrE_time (n : Nat) (f : StrEst → StrEst) : (m.modStrE n f).time = m.time := rfl
@[simp] theorem Module.modStrE_rep (n : Nat) (f : StrEst → StrEst) : (m.modStrE n f).rep = m.rep := rfl
@[simp] theorem Module.modStrE_ports (n : Nat) (f : StrEst → StrEst) : (m.modStrE n f).ports = m.ports := rfl
@[simp] theorem Module.modStrE_rings (n : Nat) (f : StrEst → StrEst) : (m.modStrE n f).rings = m.rings := rfl
@[simp] theorem Module.modStrE_workers (n : Nat) (f : StrEst → StrEst) : (m.modStrE n f).workers = m.workers := rfl
@[simp] theorem Module.modStrE_sweep (n : Nat) (f : StrEst → StrEst) : (m.modStrE n f).sweep = m.sweep := rfl
@[simp] theorem Module.modStrE_bursts (n : Nat) (f : StrEst → StrEst) : (m.modStrE n f).bursts = m.bursts := rfl
@[simp] theorem Module.modStrE_dorm (n : Nat) (f : StrEst → StrEst) : (m.modStrE n f).dorm = m.dorm := rfl
@[simp] theorem Module.modStrE_cal (n : Nat) (f : StrEst → StrEst) : (m.modStrE n f).cal = m.cal := rfl
@[simp] theorem Module.modStrE_ver (n : Nat) (f : StrEst → StrEst) : (m.modStrE n f).ver = m.ver := rfl
@[simp] theorem Module.modStrE_scarab (n : Nat) (f : StrEst → StrEst) : (m.modStrE n f).scarab = m.scarab := rfl
@[simp] theorem Module.modStrE_pre (n : Nat) (f : StrEst → StrEst) : (m.modStrE n f).pre = m.pre := rfl
@[simp] theorem Module.modStrE_sw (n : Nat) (f : StrEst → StrEst) : (m.modStrE n f).sw = m.sw := rfl
@[simp] theorem Module.modStrE_pair (n : Nat) (f : StrEst → StrEst) : (m.modStrE n f).pair = m.pair := rfl
@[simp] theorem Module.modStrE_dcp (n : Nat) (f : StrEst → StrEst) : (m.modStrE n f).dcp = m.dcp := rfl
@[simp] theorem Module.modStrE_can (n : Nat) (f : StrEst → StrEst) : (m.modStrE n f).can = m.can := rfl
@[simp] theorem Module.modStrE_jou (n : Nat) (f : StrEst → StrEst) : (m.modStrE n f).jou = m.jou := rfl
@[simp] theorem Module.modStrE_al (n : Nat) (f : StrEst → StrEst) : (m.modStrE n f).al = m.al := rfl
@[simp] theorem Module.modStrE_sets (n : Nat) (f : StrEst → StrEst) : (m.modStrE n f).sets = m.sets := rfl
@[simp] theorem Module.modStrE_upd (n : Nat) (f : StrEst → StrEst) : (m.modStrE n f).upd = m.upd := rfl
@[simp] theorem Module.modStrE_free (n : Nat) (f : StrEst → StrEst) : (m.modStrE n f).free = m.free := rfl
@[simp] theorem Module.modStrE_outbox (n : Nat) (f : StrEst → StrEst) : (m.modStrE n f).outbox = m.outbox := rfl
@[simp] theorem Module.modStrE_cfg (n : Nat) (f : StrEst → StrEst) : (m.modStrE n f).cfg = m.cfg := rfl
@[simp] theorem Module.modStrE_isPair (n : Nat) (f : StrEst → StrEst) : (m.modStrE n f).isPair = m.isPair := rfl
@[simp] theorem Module.modStrE_runs (n : Nat) (f : StrEst → StrEst) : (m.modStrE n f).runs = m.runs := rfl
@[simp] theorem Module.modStrE_leads (n : Nat) (f : StrEst → StrEst) : (m.modStrE n f).leads = m.leads := rfl
@[simp] theorem Module.modStrE_follows (n : Nat) (f : StrEst → StrEst) : (m.modStrE n f).follows = m.follows := rfl
@[simp] theorem Module.modStrE_acts (n : Nat) (f : StrEst → StrEst) : (m.modStrE n f).acts = m.acts := rfl
@[simp] theorem Module.modStrE_plant (n : Nat) (f : StrEst → StrEst) : (m.modStrE n f).plant = m.plant := rfl
@[simp] theorem Module.modStrE_up (n : Nat) (f : StrEst → StrEst) (i : Island) : (m.modStrE n f).up i = m.up i := rfl

/-! ### modBayE -/

@[simp] theorem Module.modBayE_sup (b : Nat) (f : BayEst → BayEst) : (m.modBayE b f).sup = m.sup := rfl
@[simp] theorem Module.modBayE_isl (b : Nat) (f : BayEst → BayEst) : (m.modBayE b f).isl = m.isl := rfl
@[simp] theorem Module.modBayE_time (b : Nat) (f : BayEst → BayEst) : (m.modBayE b f).time = m.time := rfl
@[simp] theorem Module.modBayE_rep (b : Nat) (f : BayEst → BayEst) : (m.modBayE b f).rep = m.rep := rfl
@[simp] theorem Module.modBayE_ports (b : Nat) (f : BayEst → BayEst) : (m.modBayE b f).ports = m.ports := rfl
@[simp] theorem Module.modBayE_rings (b : Nat) (f : BayEst → BayEst) : (m.modBayE b f).rings = m.rings := rfl
@[simp] theorem Module.modBayE_workers (b : Nat) (f : BayEst → BayEst) : (m.modBayE b f).workers = m.workers := rfl
@[simp] theorem Module.modBayE_sweep (b : Nat) (f : BayEst → BayEst) : (m.modBayE b f).sweep = m.sweep := rfl
@[simp] theorem Module.modBayE_bursts (b : Nat) (f : BayEst → BayEst) : (m.modBayE b f).bursts = m.bursts := rfl
@[simp] theorem Module.modBayE_dorm (b : Nat) (f : BayEst → BayEst) : (m.modBayE b f).dorm = m.dorm := rfl
@[simp] theorem Module.modBayE_cal (b : Nat) (f : BayEst → BayEst) : (m.modBayE b f).cal = m.cal := rfl
@[simp] theorem Module.modBayE_ver (b : Nat) (f : BayEst → BayEst) : (m.modBayE b f).ver = m.ver := rfl
@[simp] theorem Module.modBayE_scarab (b : Nat) (f : BayEst → BayEst) : (m.modBayE b f).scarab = m.scarab := rfl
@[simp] theorem Module.modBayE_pre (b : Nat) (f : BayEst → BayEst) : (m.modBayE b f).pre = m.pre := rfl
@[simp] theorem Module.modBayE_sw (b : Nat) (f : BayEst → BayEst) : (m.modBayE b f).sw = m.sw := rfl
@[simp] theorem Module.modBayE_pair (b : Nat) (f : BayEst → BayEst) : (m.modBayE b f).pair = m.pair := rfl
@[simp] theorem Module.modBayE_dcp (b : Nat) (f : BayEst → BayEst) : (m.modBayE b f).dcp = m.dcp := rfl
@[simp] theorem Module.modBayE_can (b : Nat) (f : BayEst → BayEst) : (m.modBayE b f).can = m.can := rfl
@[simp] theorem Module.modBayE_jou (b : Nat) (f : BayEst → BayEst) : (m.modBayE b f).jou = m.jou := rfl
@[simp] theorem Module.modBayE_al (b : Nat) (f : BayEst → BayEst) : (m.modBayE b f).al = m.al := rfl
@[simp] theorem Module.modBayE_sets (b : Nat) (f : BayEst → BayEst) : (m.modBayE b f).sets = m.sets := rfl
@[simp] theorem Module.modBayE_upd (b : Nat) (f : BayEst → BayEst) : (m.modBayE b f).upd = m.upd := rfl
@[simp] theorem Module.modBayE_free (b : Nat) (f : BayEst → BayEst) : (m.modBayE b f).free = m.free := rfl
@[simp] theorem Module.modBayE_outbox (b : Nat) (f : BayEst → BayEst) : (m.modBayE b f).outbox = m.outbox := rfl
@[simp] theorem Module.modBayE_cfg (b : Nat) (f : BayEst → BayEst) : (m.modBayE b f).cfg = m.cfg := rfl
@[simp] theorem Module.modBayE_isPair (b : Nat) (f : BayEst → BayEst) : (m.modBayE b f).isPair = m.isPair := rfl
@[simp] theorem Module.modBayE_runs (b : Nat) (f : BayEst → BayEst) : (m.modBayE b f).runs = m.runs := rfl
@[simp] theorem Module.modBayE_leads (b : Nat) (f : BayEst → BayEst) : (m.modBayE b f).leads = m.leads := rfl
@[simp] theorem Module.modBayE_follows (b : Nat) (f : BayEst → BayEst) : (m.modBayE b f).follows = m.follows := rfl
@[simp] theorem Module.modBayE_acts (b : Nat) (f : BayEst → BayEst) : (m.modBayE b f).acts = m.acts := rfl
@[simp] theorem Module.modBayE_plant (b : Nat) (f : BayEst → BayEst) : (m.modBayE b f).plant = m.plant := rfl
@[simp] theorem Module.modBayE_up (b : Nat) (f : BayEst → BayEst) (i : Island) : (m.modBayE b f).up i = m.up i := rfl

/-! ### modCell -/

@[simp] theorem Module.modCell_sup (e : Nat) (f : CellSt → CellSt) : (m.modCell e f).sup = m.sup := rfl
@[simp] theorem Module.modCell_isl (e : Nat) (f : CellSt → CellSt) : (m.modCell e f).isl = m.isl := rfl
@[simp] theorem Module.modCell_time (e : Nat) (f : CellSt → CellSt) : (m.modCell e f).time = m.time := rfl
@[simp] theorem Module.modCell_rep (e : Nat) (f : CellSt → CellSt) : (m.modCell e f).rep = m.rep := rfl
@[simp] theorem Module.modCell_ports (e : Nat) (f : CellSt → CellSt) : (m.modCell e f).ports = m.ports := rfl
@[simp] theorem Module.modCell_rings (e : Nat) (f : CellSt → CellSt) : (m.modCell e f).rings = m.rings := rfl
@[simp] theorem Module.modCell_workers (e : Nat) (f : CellSt → CellSt) : (m.modCell e f).workers = m.workers := rfl
@[simp] theorem Module.modCell_sweep (e : Nat) (f : CellSt → CellSt) : (m.modCell e f).sweep = m.sweep := rfl
@[simp] theorem Module.modCell_bursts (e : Nat) (f : CellSt → CellSt) : (m.modCell e f).bursts = m.bursts := rfl
@[simp] theorem Module.modCell_dorm (e : Nat) (f : CellSt → CellSt) : (m.modCell e f).dorm = m.dorm := rfl
@[simp] theorem Module.modCell_cal (e : Nat) (f : CellSt → CellSt) : (m.modCell e f).cal = m.cal := rfl
@[simp] theorem Module.modCell_ver (e : Nat) (f : CellSt → CellSt) : (m.modCell e f).ver = m.ver := rfl
@[simp] theorem Module.modCell_scarab (e : Nat) (f : CellSt → CellSt) : (m.modCell e f).scarab = m.scarab := rfl
@[simp] theorem Module.modCell_pre (e : Nat) (f : CellSt → CellSt) : (m.modCell e f).pre = m.pre := rfl
@[simp] theorem Module.modCell_sw (e : Nat) (f : CellSt → CellSt) : (m.modCell e f).sw = m.sw := rfl
@[simp] theorem Module.modCell_pair (e : Nat) (f : CellSt → CellSt) : (m.modCell e f).pair = m.pair := rfl
@[simp] theorem Module.modCell_dcp (e : Nat) (f : CellSt → CellSt) : (m.modCell e f).dcp = m.dcp := rfl
@[simp] theorem Module.modCell_can (e : Nat) (f : CellSt → CellSt) : (m.modCell e f).can = m.can := rfl
@[simp] theorem Module.modCell_jou (e : Nat) (f : CellSt → CellSt) : (m.modCell e f).jou = m.jou := rfl
@[simp] theorem Module.modCell_al (e : Nat) (f : CellSt → CellSt) : (m.modCell e f).al = m.al := rfl
@[simp] theorem Module.modCell_sets (e : Nat) (f : CellSt → CellSt) : (m.modCell e f).sets = m.sets := rfl
@[simp] theorem Module.modCell_upd (e : Nat) (f : CellSt → CellSt) : (m.modCell e f).upd = m.upd := rfl
@[simp] theorem Module.modCell_free (e : Nat) (f : CellSt → CellSt) : (m.modCell e f).free = m.free := rfl
@[simp] theorem Module.modCell_outbox (e : Nat) (f : CellSt → CellSt) : (m.modCell e f).outbox = m.outbox := rfl
@[simp] theorem Module.modCell_cfg (e : Nat) (f : CellSt → CellSt) : (m.modCell e f).cfg = m.cfg := rfl
@[simp] theorem Module.modCell_isPair (e : Nat) (f : CellSt → CellSt) : (m.modCell e f).isPair = m.isPair := rfl
@[simp] theorem Module.modCell_runs (e : Nat) (f : CellSt → CellSt) : (m.modCell e f).runs = m.runs := rfl
@[simp] theorem Module.modCell_leads (e : Nat) (f : CellSt → CellSt) : (m.modCell e f).leads = m.leads := rfl
@[simp] theorem Module.modCell_follows (e : Nat) (f : CellSt → CellSt) : (m.modCell e f).follows = m.follows := rfl
@[simp] theorem Module.modCell_acts (e : Nat) (f : CellSt → CellSt) : (m.modCell e f).acts = m.acts := rfl
@[simp] theorem Module.modCell_plant (e : Nat) (f : CellSt → CellSt) : (m.modCell e f).plant = m.plant := rfl
@[simp] theorem Module.modCell_up (e : Nat) (f : CellSt → CellSt) (i : Island) : (m.modCell e f).up i = m.up i := rfl

/-! ### modSession -/

@[simp] theorem Module.modSession_sup (id : Nat) (f : Session → Session) : (m.modSession id f).sup = m.sup := rfl
@[simp] theorem Module.modSession_isl (id : Nat) (f : Session → Session) : (m.modSession id f).isl = m.isl := rfl
@[simp] theorem Module.modSession_time (id : Nat) (f : Session → Session) : (m.modSession id f).time = m.time := rfl
@[simp] theorem Module.modSession_rep (id : Nat) (f : Session → Session) : (m.modSession id f).rep = m.rep := rfl
@[simp] theorem Module.modSession_ports (id : Nat) (f : Session → Session) : (m.modSession id f).ports = m.ports := rfl
@[simp] theorem Module.modSession_rings (id : Nat) (f : Session → Session) : (m.modSession id f).rings = m.rings := rfl
@[simp] theorem Module.modSession_workers (id : Nat) (f : Session → Session) : (m.modSession id f).workers = m.workers := rfl
@[simp] theorem Module.modSession_sweep (id : Nat) (f : Session → Session) : (m.modSession id f).sweep = m.sweep := rfl
@[simp] theorem Module.modSession_bursts (id : Nat) (f : Session → Session) : (m.modSession id f).bursts = m.bursts := rfl
@[simp] theorem Module.modSession_dorm (id : Nat) (f : Session → Session) : (m.modSession id f).dorm = m.dorm := rfl
@[simp] theorem Module.modSession_cal (id : Nat) (f : Session → Session) : (m.modSession id f).cal = m.cal := rfl
@[simp] theorem Module.modSession_est (id : Nat) (f : Session → Session) : (m.modSession id f).est = m.est := rfl
@[simp] theorem Module.modSession_ver (id : Nat) (f : Session → Session) : (m.modSession id f).ver = m.ver := rfl
@[simp] theorem Module.modSession_scarab (id : Nat) (f : Session → Session) : (m.modSession id f).scarab = m.scarab := rfl
@[simp] theorem Module.modSession_pre (id : Nat) (f : Session → Session) : (m.modSession id f).pre = m.pre := rfl
@[simp] theorem Module.modSession_sw (id : Nat) (f : Session → Session) : (m.modSession id f).sw = m.sw := rfl
@[simp] theorem Module.modSession_pair (id : Nat) (f : Session → Session) : (m.modSession id f).pair = m.pair := rfl
@[simp] theorem Module.modSession_can (id : Nat) (f : Session → Session) : (m.modSession id f).can = m.can := rfl
@[simp] theorem Module.modSession_jou (id : Nat) (f : Session → Session) : (m.modSession id f).jou = m.jou := rfl
@[simp] theorem Module.modSession_al (id : Nat) (f : Session → Session) : (m.modSession id f).al = m.al := rfl
@[simp] theorem Module.modSession_sets (id : Nat) (f : Session → Session) : (m.modSession id f).sets = m.sets := rfl
@[simp] theorem Module.modSession_upd (id : Nat) (f : Session → Session) : (m.modSession id f).upd = m.upd := rfl
@[simp] theorem Module.modSession_free (id : Nat) (f : Session → Session) : (m.modSession id f).free = m.free := rfl
@[simp] theorem Module.modSession_outbox (id : Nat) (f : Session → Session) : (m.modSession id f).outbox = m.outbox := rfl
@[simp] theorem Module.modSession_cfg (id : Nat) (f : Session → Session) : (m.modSession id f).cfg = m.cfg := rfl
@[simp] theorem Module.modSession_isPair (id : Nat) (f : Session → Session) : (m.modSession id f).isPair = m.isPair := rfl
@[simp] theorem Module.modSession_runs (id : Nat) (f : Session → Session) : (m.modSession id f).runs = m.runs := rfl
@[simp] theorem Module.modSession_leads (id : Nat) (f : Session → Session) : (m.modSession id f).leads = m.leads := rfl
@[simp] theorem Module.modSession_follows (id : Nat) (f : Session → Session) : (m.modSession id f).follows = m.follows := rfl
@[simp] theorem Module.modSession_acts (id : Nat) (f : Session → Session) : (m.modSession id f).acts = m.acts := rfl
@[simp] theorem Module.modSession_plant (id : Nat) (f : Session → Session) : (m.modSession id f).plant = m.plant := rfl
@[simp] theorem Module.modSession_up (id : Nat) (f : Session → Session) (i : Island) : (m.modSession id f).up i = m.up i := rfl

/-! ### modPending -/

@[simp] theorem Module.modPending_sup (f : SetSlot → SetSlot) : (m.modPending f).sup = m.sup := rfl
@[simp] theorem Module.modPending_isl (f : SetSlot → SetSlot) : (m.modPending f).isl = m.isl := rfl
@[simp] theorem Module.modPending_time (f : SetSlot → SetSlot) : (m.modPending f).time = m.time := rfl
@[simp] theorem Module.modPending_rep (f : SetSlot → SetSlot) : (m.modPending f).rep = m.rep := rfl
@[simp] theorem Module.modPending_ports (f : SetSlot → SetSlot) : (m.modPending f).ports = m.ports := rfl
@[simp] theorem Module.modPending_rings (f : SetSlot → SetSlot) : (m.modPending f).rings = m.rings := rfl
@[simp] theorem Module.modPending_workers (f : SetSlot → SetSlot) : (m.modPending f).workers = m.workers := rfl
@[simp] theorem Module.modPending_sweep (f : SetSlot → SetSlot) : (m.modPending f).sweep = m.sweep := rfl
@[simp] theorem Module.modPending_bursts (f : SetSlot → SetSlot) : (m.modPending f).bursts = m.bursts := rfl
@[simp] theorem Module.modPending_dorm (f : SetSlot → SetSlot) : (m.modPending f).dorm = m.dorm := rfl
@[simp] theorem Module.modPending_cal (f : SetSlot → SetSlot) : (m.modPending f).cal = m.cal := rfl
@[simp] theorem Module.modPending_est (f : SetSlot → SetSlot) : (m.modPending f).est = m.est := rfl
@[simp] theorem Module.modPending_ver (f : SetSlot → SetSlot) : (m.modPending f).ver = m.ver := rfl
@[simp] theorem Module.modPending_scarab (f : SetSlot → SetSlot) : (m.modPending f).scarab = m.scarab := rfl
@[simp] theorem Module.modPending_pre (f : SetSlot → SetSlot) : (m.modPending f).pre = m.pre := rfl
@[simp] theorem Module.modPending_sw (f : SetSlot → SetSlot) : (m.modPending f).sw = m.sw := rfl
@[simp] theorem Module.modPending_pair (f : SetSlot → SetSlot) : (m.modPending f).pair = m.pair := rfl
@[simp] theorem Module.modPending_dcp (f : SetSlot → SetSlot) : (m.modPending f).dcp = m.dcp := rfl
@[simp] theorem Module.modPending_can (f : SetSlot → SetSlot) : (m.modPending f).can = m.can := rfl
@[simp] theorem Module.modPending_jou (f : SetSlot → SetSlot) : (m.modPending f).jou = m.jou := rfl
@[simp] theorem Module.modPending_al (f : SetSlot → SetSlot) : (m.modPending f).al = m.al := rfl
@[simp] theorem Module.modPending_upd (f : SetSlot → SetSlot) : (m.modPending f).upd = m.upd := rfl
@[simp] theorem Module.modPending_free (f : SetSlot → SetSlot) : (m.modPending f).free = m.free := rfl
@[simp] theorem Module.modPending_outbox (f : SetSlot → SetSlot) : (m.modPending f).outbox = m.outbox := rfl
@[simp] theorem Module.modPending_cfg (f : SetSlot → SetSlot) : (m.modPending f).cfg = m.cfg := rfl
@[simp] theorem Module.modPending_isPair (f : SetSlot → SetSlot) : (m.modPending f).isPair = m.isPair := rfl
@[simp] theorem Module.modPending_runs (f : SetSlot → SetSlot) : (m.modPending f).runs = m.runs := rfl
@[simp] theorem Module.modPending_leads (f : SetSlot → SetSlot) : (m.modPending f).leads = m.leads := rfl
@[simp] theorem Module.modPending_follows (f : SetSlot → SetSlot) : (m.modPending f).follows = m.follows := rfl
@[simp] theorem Module.modPending_acts (f : SetSlot → SetSlot) : (m.modPending f).acts = m.acts := rfl
@[simp] theorem Module.modPending_plant (f : SetSlot → SetSlot) : (m.modPending f).plant = m.plant := rfl
@[simp] theorem Module.modPending_up (f : SetSlot → SetSlot) (i : Island) : (m.modPending f).up i = m.up i := rfl

/-! ### modUpd -/

@[simp] theorem Module.modUpd_sup (f : UpdSt → UpdSt) : (m.modUpd f).sup = m.sup := rfl
@[simp] theorem Module.modUpd_isl (f : UpdSt → UpdSt) : (m.modUpd f).isl = m.isl := rfl
@[simp] theorem Module.modUpd_time (f : UpdSt → UpdSt) : (m.modUpd f).time = m.time := rfl
@[simp] theorem Module.modUpd_rep (f : UpdSt → UpdSt) : (m.modUpd f).rep = m.rep := rfl
@[simp] theorem Module.modUpd_ports (f : UpdSt → UpdSt) : (m.modUpd f).ports = m.ports := rfl
@[simp] theorem Module.modUpd_rings (f : UpdSt → UpdSt) : (m.modUpd f).rings = m.rings := rfl
@[simp] theorem Module.modUpd_workers (f : UpdSt → UpdSt) : (m.modUpd f).workers = m.workers := rfl
@[simp] theorem Module.modUpd_sweep (f : UpdSt → UpdSt) : (m.modUpd f).sweep = m.sweep := rfl
@[simp] theorem Module.modUpd_bursts (f : UpdSt → UpdSt) : (m.modUpd f).bursts = m.bursts := rfl
@[simp] theorem Module.modUpd_dorm (f : UpdSt → UpdSt) : (m.modUpd f).dorm = m.dorm := rfl
@[simp] theorem Module.modUpd_cal (f : UpdSt → UpdSt) : (m.modUpd f).cal = m.cal := rfl
@[simp] theorem Module.modUpd_est (f : UpdSt → UpdSt) : (m.modUpd f).est = m.est := rfl
@[simp] theorem Module.modUpd_ver (f : UpdSt → UpdSt) : (m.modUpd f).ver = m.ver := rfl
@[simp] theorem Module.modUpd_scarab (f : UpdSt → UpdSt) : (m.modUpd f).scarab = m.scarab := rfl
@[simp] theorem Module.modUpd_pre (f : UpdSt → UpdSt) : (m.modUpd f).pre = m.pre := rfl
@[simp] theorem Module.modUpd_sw (f : UpdSt → UpdSt) : (m.modUpd f).sw = m.sw := rfl
@[simp] theorem Module.modUpd_pair (f : UpdSt → UpdSt) : (m.modUpd f).pair = m.pair := rfl
@[simp] theorem Module.modUpd_dcp (f : UpdSt → UpdSt) : (m.modUpd f).dcp = m.dcp := rfl
@[simp] theorem Module.modUpd_can (f : UpdSt → UpdSt) : (m.modUpd f).can = m.can := rfl
@[simp] theorem Module.modUpd_jou (f : UpdSt → UpdSt) : (m.modUpd f).jou = m.jou := rfl
@[simp] theorem Module.modUpd_al (f : UpdSt → UpdSt) : (m.modUpd f).al = m.al := rfl
@[simp] theorem Module.modUpd_sets (f : UpdSt → UpdSt) : (m.modUpd f).sets = m.sets := rfl
@[simp] theorem Module.modUpd_free (f : UpdSt → UpdSt) : (m.modUpd f).free = m.free := rfl
@[simp] theorem Module.modUpd_outbox (f : UpdSt → UpdSt) : (m.modUpd f).outbox = m.outbox := rfl
@[simp] theorem Module.modUpd_cfg (f : UpdSt → UpdSt) : (m.modUpd f).cfg = m.cfg := rfl
@[simp] theorem Module.modUpd_isPair (f : UpdSt → UpdSt) : (m.modUpd f).isPair = m.isPair := rfl
@[simp] theorem Module.modUpd_runs (f : UpdSt → UpdSt) : (m.modUpd f).runs = m.runs := rfl
@[simp] theorem Module.modUpd_leads (f : UpdSt → UpdSt) : (m.modUpd f).leads = m.leads := rfl
@[simp] theorem Module.modUpd_follows (f : UpdSt → UpdSt) : (m.modUpd f).follows = m.follows := rfl
@[simp] theorem Module.modUpd_acts (f : UpdSt → UpdSt) : (m.modUpd f).acts = m.acts := rfl
@[simp] theorem Module.modUpd_plant (f : UpdSt → UpdSt) : (m.modUpd f).plant = m.plant := rfl
@[simp] theorem Module.modUpd_up (f : UpdSt → UpdSt) (i : Island) : (m.modUpd f).up i = m.up i := rfl

/-! ### modSw -/

@[simp] theorem Module.modSw_sup (n : Nat) (f : SwCh → SwCh) : (m.modSw n f).sup = m.sup := rfl
@[simp] theorem Module.modSw_isl (n : Nat) (f : SwCh → SwCh) : (m.modSw n f).isl = m.isl := rfl
@[simp] theorem Module.modSw_time (n : Nat) (f : SwCh → SwCh) : (m.modSw n f).time = m.time := rfl
@[simp] theorem Module.modSw_rep (n : Nat) (f : SwCh → SwCh) : (m.modSw n f).rep = m.rep := rfl
@[simp] theorem Module.modSw_ports (n : Nat) (f : SwCh → SwCh) : (m.modSw n f).ports = m.ports := rfl
@[simp] theorem Module.modSw_rings (n : Nat) (f : SwCh → SwCh) : (m.modSw n f).rings = m.rings := rfl
@[simp] theorem Module.modSw_workers (n : Nat) (f : SwCh → SwCh) : (m.modSw n f).workers = m.workers := rfl
@[simp] theorem Module.modSw_sweep (n : Nat) (f : SwCh → SwCh) : (m.modSw n f).sweep = m.sweep := rfl
@[simp] theorem Module.modSw_bursts (n : Nat) (f : SwCh → SwCh) : (m.modSw n f).bursts = m.bursts := rfl
@[simp] theorem Module.modSw_dorm (n : Nat) (f : SwCh → SwCh) : (m.modSw n f).dorm = m.dorm := rfl
@[simp] theorem Module.modSw_cal (n : Nat) (f : SwCh → SwCh) : (m.modSw n f).cal = m.cal := rfl
@[simp] theorem Module.modSw_est (n : Nat) (f : SwCh → SwCh) : (m.modSw n f).est = m.est := rfl
@[simp] theorem Module.modSw_ver (n : Nat) (f : SwCh → SwCh) : (m.modSw n f).ver = m.ver := rfl
@[simp] theorem Module.modSw_scarab (n : Nat) (f : SwCh → SwCh) : (m.modSw n f).scarab = m.scarab := rfl
@[simp] theorem Module.modSw_pre (n : Nat) (f : SwCh → SwCh) : (m.modSw n f).pre = m.pre := rfl
@[simp] theorem Module.modSw_pair (n : Nat) (f : SwCh → SwCh) : (m.modSw n f).pair = m.pair := rfl
@[simp] theorem Module.modSw_dcp (n : Nat) (f : SwCh → SwCh) : (m.modSw n f).dcp = m.dcp := rfl
@[simp] theorem Module.modSw_can (n : Nat) (f : SwCh → SwCh) : (m.modSw n f).can = m.can := rfl
@[simp] theorem Module.modSw_jou (n : Nat) (f : SwCh → SwCh) : (m.modSw n f).jou = m.jou := rfl
@[simp] theorem Module.modSw_al (n : Nat) (f : SwCh → SwCh) : (m.modSw n f).al = m.al := rfl
@[simp] theorem Module.modSw_sets (n : Nat) (f : SwCh → SwCh) : (m.modSw n f).sets = m.sets := rfl
@[simp] theorem Module.modSw_upd (n : Nat) (f : SwCh → SwCh) : (m.modSw n f).upd = m.upd := rfl
@[simp] theorem Module.modSw_free (n : Nat) (f : SwCh → SwCh) : (m.modSw n f).free = m.free := rfl
@[simp] theorem Module.modSw_outbox (n : Nat) (f : SwCh → SwCh) : (m.modSw n f).outbox = m.outbox := rfl
@[simp] theorem Module.modSw_cfg (n : Nat) (f : SwCh → SwCh) : (m.modSw n f).cfg = m.cfg := rfl
@[simp] theorem Module.modSw_isPair (n : Nat) (f : SwCh → SwCh) : (m.modSw n f).isPair = m.isPair := rfl
@[simp] theorem Module.modSw_runs (n : Nat) (f : SwCh → SwCh) : (m.modSw n f).runs = m.runs := rfl
@[simp] theorem Module.modSw_leads (n : Nat) (f : SwCh → SwCh) : (m.modSw n f).leads = m.leads := rfl
@[simp] theorem Module.modSw_follows (n : Nat) (f : SwCh → SwCh) : (m.modSw n f).follows = m.follows := rfl
@[simp] theorem Module.modSw_acts (n : Nat) (f : SwCh → SwCh) : (m.modSw n f).acts = m.acts := rfl
@[simp] theorem Module.modSw_plant (n : Nat) (f : SwCh → SwCh) : (m.modSw n f).plant = m.plant := rfl
@[simp] theorem Module.modSw_up (n : Nat) (f : SwCh → SwCh) (i : Island) : (m.modSw n f).up i = m.up i := rfl

/-! ### modCan -/

@[simp] theorem Module.modCan_sup (c : Nat) (f : CanCtl → CanCtl) : (m.modCan c f).sup = m.sup := rfl
@[simp] theorem Module.modCan_isl (c : Nat) (f : CanCtl → CanCtl) : (m.modCan c f).isl = m.isl := rfl
@[simp] theorem Module.modCan_time (c : Nat) (f : CanCtl → CanCtl) : (m.modCan c f).time = m.time := rfl
@[simp] theorem Module.modCan_rep (c : Nat) (f : CanCtl → CanCtl) : (m.modCan c f).rep = m.rep := rfl
@[simp] theorem Module.modCan_ports (c : Nat) (f : CanCtl → CanCtl) : (m.modCan c f).ports = m.ports := rfl
@[simp] theorem Module.modCan_rings (c : Nat) (f : CanCtl → CanCtl) : (m.modCan c f).rings = m.rings := rfl
@[simp] theorem Module.modCan_workers (c : Nat) (f : CanCtl → CanCtl) : (m.modCan c f).workers = m.workers := rfl
@[simp] theorem Module.modCan_sweep (c : Nat) (f : CanCtl → CanCtl) : (m.modCan c f).sweep = m.sweep := rfl
@[simp] theorem Module.modCan_bursts (c : Nat) (f : CanCtl → CanCtl) : (m.modCan c f).bursts = m.bursts := rfl
@[simp] theorem Module.modCan_dorm (c : Nat) (f : CanCtl → CanCtl) : (m.modCan c f).dorm = m.dorm := rfl
@[simp] theorem Module.modCan_cal (c : Nat) (f : CanCtl → CanCtl) : (m.modCan c f).cal = m.cal := rfl
@[simp] theorem Module.modCan_est (c : Nat) (f : CanCtl → CanCtl) : (m.modCan c f).est = m.est := rfl
@[simp] theorem Module.modCan_ver (c : Nat) (f : CanCtl → CanCtl) : (m.modCan c f).ver = m.ver := rfl
@[simp] theorem Module.modCan_scarab (c : Nat) (f : CanCtl → CanCtl) : (m.modCan c f).scarab = m.scarab := rfl
@[simp] theorem Module.modCan_pre (c : Nat) (f : CanCtl → CanCtl) : (m.modCan c f).pre = m.pre := rfl
@[simp] theorem Module.modCan_sw (c : Nat) (f : CanCtl → CanCtl) : (m.modCan c f).sw = m.sw := rfl
@[simp] theorem Module.modCan_pair (c : Nat) (f : CanCtl → CanCtl) : (m.modCan c f).pair = m.pair := rfl
@[simp] theorem Module.modCan_dcp (c : Nat) (f : CanCtl → CanCtl) : (m.modCan c f).dcp = m.dcp := rfl
@[simp] theorem Module.modCan_jou (c : Nat) (f : CanCtl → CanCtl) : (m.modCan c f).jou = m.jou := rfl
@[simp] theorem Module.modCan_al (c : Nat) (f : CanCtl → CanCtl) : (m.modCan c f).al = m.al := rfl
@[simp] theorem Module.modCan_sets (c : Nat) (f : CanCtl → CanCtl) : (m.modCan c f).sets = m.sets := rfl
@[simp] theorem Module.modCan_upd (c : Nat) (f : CanCtl → CanCtl) : (m.modCan c f).upd = m.upd := rfl
@[simp] theorem Module.modCan_free (c : Nat) (f : CanCtl → CanCtl) : (m.modCan c f).free = m.free := rfl
@[simp] theorem Module.modCan_outbox (c : Nat) (f : CanCtl → CanCtl) : (m.modCan c f).outbox = m.outbox := rfl
@[simp] theorem Module.modCan_cfg (c : Nat) (f : CanCtl → CanCtl) : (m.modCan c f).cfg = m.cfg := rfl
@[simp] theorem Module.modCan_isPair (c : Nat) (f : CanCtl → CanCtl) : (m.modCan c f).isPair = m.isPair := rfl
@[simp] theorem Module.modCan_runs (c : Nat) (f : CanCtl → CanCtl) : (m.modCan c f).runs = m.runs := rfl
@[simp] theorem Module.modCan_leads (c : Nat) (f : CanCtl → CanCtl) : (m.modCan c f).leads = m.leads := rfl
@[simp] theorem Module.modCan_follows (c : Nat) (f : CanCtl → CanCtl) : (m.modCan c f).follows = m.follows := rfl
@[simp] theorem Module.modCan_acts (c : Nat) (f : CanCtl → CanCtl) : (m.modCan c f).acts = m.acts := rfl
@[simp] theorem Module.modCan_plant (c : Nat) (f : CanCtl → CanCtl) : (m.modCan c f).plant = m.plant := rfl
@[simp] theorem Module.modCan_up (c : Nat) (f : CanCtl → CanCtl) (i : Island) : (m.modCan c f).up i = m.up i := rfl

/-! ### modBurst -/

@[simp] theorem Module.modBurst_sup (n : Nat) (f : BurstSt → BurstSt) : (m.modBurst n f).sup = m.sup := rfl
@[simp] theorem Module.modBurst_isl (n : Nat) (f : BurstSt → BurstSt) : (m.modBurst n f).isl = m.isl := rfl
@[simp] theorem Module.modBurst_time (n : Nat) (f : BurstSt → BurstSt) : (m.modBurst n f).time = m.time := rfl
@[simp] theorem Module.modBurst_rep (n : Nat) (f : BurstSt → BurstSt) : (m.modBurst n f).rep = m.rep := rfl
@[simp] theorem Module.modBurst_ports (n : Nat) (f : BurstSt → BurstSt) : (m.modBurst n f).ports = m.ports := rfl
@[simp] theorem Module.modBurst_rings (n : Nat) (f : BurstSt → BurstSt) : (m.modBurst n f).rings = m.rings := rfl
@[simp] theorem Module.modBurst_workers (n : Nat) (f : BurstSt → BurstSt) : (m.modBurst n f).workers = m.workers := rfl
@[simp] theorem Module.modBurst_sweep (n : Nat) (f : BurstSt → BurstSt) : (m.modBurst n f).sweep = m.sweep := rfl
@[simp] theorem Module.modBurst_dorm (n : Nat) (f : BurstSt → BurstSt) : (m.modBurst n f).dorm = m.dorm := rfl
@[simp] theorem Module.modBurst_cal (n : Nat) (f : BurstSt → BurstSt) : (m.modBurst n f).cal = m.cal := rfl
@[simp] theorem Module.modBurst_est (n : Nat) (f : BurstSt → BurstSt) : (m.modBurst n f).est = m.est := rfl
@[simp] theorem Module.modBurst_ver (n : Nat) (f : BurstSt → BurstSt) : (m.modBurst n f).ver = m.ver := rfl
@[simp] theorem Module.modBurst_scarab (n : Nat) (f : BurstSt → BurstSt) : (m.modBurst n f).scarab = m.scarab := rfl
@[simp] theorem Module.modBurst_pre (n : Nat) (f : BurstSt → BurstSt) : (m.modBurst n f).pre = m.pre := rfl
@[simp] theorem Module.modBurst_sw (n : Nat) (f : BurstSt → BurstSt) : (m.modBurst n f).sw = m.sw := rfl
@[simp] theorem Module.modBurst_pair (n : Nat) (f : BurstSt → BurstSt) : (m.modBurst n f).pair = m.pair := rfl
@[simp] theorem Module.modBurst_dcp (n : Nat) (f : BurstSt → BurstSt) : (m.modBurst n f).dcp = m.dcp := rfl
@[simp] theorem Module.modBurst_can (n : Nat) (f : BurstSt → BurstSt) : (m.modBurst n f).can = m.can := rfl
@[simp] theorem Module.modBurst_jou (n : Nat) (f : BurstSt → BurstSt) : (m.modBurst n f).jou = m.jou := rfl
@[simp] theorem Module.modBurst_al (n : Nat) (f : BurstSt → BurstSt) : (m.modBurst n f).al = m.al := rfl
@[simp] theorem Module.modBurst_sets (n : Nat) (f : BurstSt → BurstSt) : (m.modBurst n f).sets = m.sets := rfl
@[simp] theorem Module.modBurst_upd (n : Nat) (f : BurstSt → BurstSt) : (m.modBurst n f).upd = m.upd := rfl
@[simp] theorem Module.modBurst_free (n : Nat) (f : BurstSt → BurstSt) : (m.modBurst n f).free = m.free := rfl
@[simp] theorem Module.modBurst_outbox (n : Nat) (f : BurstSt → BurstSt) : (m.modBurst n f).outbox = m.outbox := rfl
@[simp] theorem Module.modBurst_cfg (n : Nat) (f : BurstSt → BurstSt) : (m.modBurst n f).cfg = m.cfg := rfl
@[simp] theorem Module.modBurst_isPair (n : Nat) (f : BurstSt → BurstSt) : (m.modBurst n f).isPair = m.isPair := rfl
@[simp] theorem Module.modBurst_runs (n : Nat) (f : BurstSt → BurstSt) : (m.modBurst n f).runs = m.runs := rfl
@[simp] theorem Module.modBurst_leads (n : Nat) (f : BurstSt → BurstSt) : (m.modBurst n f).leads = m.leads := rfl
@[simp] theorem Module.modBurst_follows (n : Nat) (f : BurstSt → BurstSt) : (m.modBurst n f).follows = m.follows := rfl
@[simp] theorem Module.modBurst_acts (n : Nat) (f : BurstSt → BurstSt) : (m.modBurst n f).acts = m.acts := rfl
@[simp] theorem Module.modBurst_plant (n : Nat) (f : BurstSt → BurstSt) : (m.modBurst n f).plant = m.plant := rfl
@[simp] theorem Module.modBurst_up (n : Nat) (f : BurstSt → BurstSt) (i : Island) : (m.modBurst n f).up i = m.up i := rfl

/-! ### A bay of the Carapace -/

@[simp] theorem Carapace.modBay_epoch (b : Nat) (f : CaraBay → CaraBay) : (c.modBay b f).epoch = c.epoch := rfl
@[simp] theorem Carapace.modBay_slotB (b : Nat) (f : CaraBay → CaraBay) : (c.modBay b f).slotB = c.slotB := rfl
@[simp] theorem Carapace.modBay_locked (b : Nat) (f : CaraBay → CaraBay) : (c.modBay b f).locked = c.locked := rfl
@[simp] theorem Carapace.modBay_bank (b : Nat) (f : CaraBay → CaraBay) : (c.modBay b f).bank = c.bank := rfl
@[simp] theorem Carapace.modBay_bankTl (b : Nat) (f : CaraBay → CaraBay) : (c.modBay b f).bankTl = c.bankTl := rfl
@[simp] theorem Carapace.modBay_own (b : Nat) (f : CaraBay → CaraBay) : (c.modBay b f).own = c.own := rfl
@[simp] theorem Carapace.modBay_partner (b : Nat) (f : CaraBay → CaraBay) : (c.modBay b f).partner = c.partner := rfl
@[simp] theorem Carapace.modBay_partnerTrips (b : Nat) (f : CaraBay → CaraBay) : (c.modBay b f).partnerTrips = c.partnerTrips := rfl
@[simp] theorem Carapace.modBay_partnerLocked (b : Nat) (f : CaraBay → CaraBay) : (c.modBay b f).partnerLocked = c.partnerLocked := rfl
@[simp] theorem Carapace.modBay_partnerSeq (b : Nat) (f : CaraBay → CaraBay) : (c.modBay b f).partnerSeq = c.partnerSeq := rfl
@[simp] theorem Carapace.modBay_partnerSched (b : Nat) (f : CaraBay → CaraBay) : (c.modBay b f).partnerSched = c.partnerSched := rfl
@[simp] theorem Carapace.modBay_cpxLost (b : Nat) (f : CaraBay → CaraBay) : (c.modBay b f).cpxLost = c.cpxLost := rfl
@[simp] theorem Carapace.modBay_seq (b : Nat) (f : CaraBay → CaraBay) : (c.modBay b f).seq = c.seq := rfl
@[simp] theorem Carapace.modBay_sealChanged (b : Nat) (f : CaraBay → CaraBay) : (c.modBay b f).sealChanged = c.sealChanged := rfl
@[simp] theorem Carapace.modBay_keyStuck (b : Nat) (f : CaraBay → CaraBay) : (c.modBay b f).keyStuck = c.keyStuck := rfl
@[simp] theorem Carapace.modBay_inputs (b : Nat) (f : CaraBay → CaraBay) : (c.modBay b f).inputs = c.inputs := rfl
@[simp] theorem Carapace.modBay_tones (b : Nat) (f : CaraBay → CaraBay) : (c.modBay b f).tones = c.tones := rfl
@[simp] theorem Carapace.modBay_toneWins (b : Nat) (f : CaraBay → CaraBay) : (c.modBay b f).toneWins = c.toneWins := rfl
@[simp] theorem Carapace.modBay_tripReq (b : Nat) (f : CaraBay → CaraBay) : (c.modBay b f).tripReq = c.tripReq := rfl
@[simp] theorem Carapace.modBay_tested (b : Nat) (f : CaraBay → CaraBay) : (c.modBay b f).tested = c.tested := rfl
@[simp] theorem Carapace.modBay_cpiBank (b : Nat) (f : CaraBay → CaraBay) : (c.modBay b f).cpiBank = c.cpiBank := rfl
@[simp] theorem Carapace.modBay_bankFails (b : Nat) (f : CaraBay → CaraBay) : (c.modBay b f).bankFails = c.bankFails := rfl
@[simp] theorem Carapace.modBay_pulse (b : Nat) (f : CaraBay → CaraBay) : (c.modBay b f).pulse = c.pulse := rfl
@[simp] theorem Carapace.modBay_sent (b : Nat) (f : CaraBay → CaraBay) : (c.modBay b f).sent = c.sent := rfl

/-! ### The ways a command ends -/

/-- A command on the module alone answers a next state with the queue and the Carapace as they were. -/
theorem onModule_eq (f : Module → Module) : onModule s f = .next { s with m := f s.m } := rfl

/-- Of the machine a command on the Carapace alone leaves the queue, and all of the module but LOCK_SEEN (R52). -/
theorem caraNext_only {t : State} (h : caraNext s c = .next t) : CaraOnly s t := by
  cases h
  refine ⟨rfl, ?_⟩
  cases hl : c.lockStop <;> simp [Module.noteLock, hl]

end Sys2Proof.Machine
end

