-- ==== Sys2Proof/Laws/Dcp.lean ====
section
/-! SUPPORT. What the common steps of R367 do to the module before a request's own effect: only the session table, the
journal and the alert map move, and nothing that decides about the request is touched. -/

namespace Sys2Proof

open Machine

/-- Of the module only the session table, the count of R374, the alert map, the journal and the outbox may differ. -/
def SessOnly (m n : Module) : Prop := n = { m with
  dcp := { m.dcp with sessions := n.dcp.sessions, rateSec := n.dcp.rateSec, rateN := n.dcp.rateN }, al := n.al, jou := n.jou, outbox := n.outbox }

theorem SessOnly.of_only {m n : Module} (h : JournalOnly m n) : SessOnly m n := by
  have e : n.dcp = m.dcp := by rw [h]
  unfold SessOnly
  rw [e]
  exact h

theorem SessOnly.trans {a b c : Module} (h : SessOnly a b) (g : SessOnly b c) : SessOnly a c := by
  unfold SessOnly at *
  rw [g, h]

/-- A view of the module that reads none of the parts that may move is as it was. -/
theorem SessOnly.field {m n : Module} {α : Type} (f : Module → α) (h : SessOnly m n)
    (hf : ∀ m l a b al jou outbox,
      f { m with dcp := { m.dcp with sessions := l, rateSec := a, rateN := b }, al := al, jou := jou, outbox := outbox } = f m) : f n = f m := by
  rw [h, hf]

namespace Machine

theorem Module.authReview_only (m : Module) : JournalOnly m m.authReview := by
  unfold Module.authReview
  split
  · exact Module.clear_only _ _ _ _ _
  · rfl

theorem Module.tallied_only (m : Module) : SessOnly m m.tallied := rfl

theorem Module.modSession_only (m : Module) (id : Nat) (f : Session → Session) : SessOnly m (m.modSession id f) := rfl

/-- A session that replaces no other only takes the reply address of the request (R370). -/
theorem Module.heard_eq (m : Module) (x : Session) (req : DcpReq) (h : x.replaces = none) :
    m.heard x req = m.modSession x.id (fun y => { y with port := req.port, src := req.src, replaces := none }) := by
  unfold Module.heard
  rw [h]

/-- The session found under a number carries it. -/
theorem Module.session_id {m : Module} {id : Nat} {x : Session} (h : m.session? id = some x) : x.id = id := by
  have e := List.find?_some h
  simpa using e

theorem sessions_find_map (l : List Session) (id : Nat) (f : Session → Session) (hf : ∀ y, (f y).id = y.id) (x : Session)
    (h : l.find? (fun y => decide (y.id = id)) = some x) :
    (l.map (fun y => if y.id = id then f y else y)).find? (fun y => decide (y.id = id)) = some (f x) := by
  induction l with
  | nil => simp at h
  | cons a t ih =>
    simp only [List.find?_cons, List.map_cons] at h ⊢
    by_cases e : a.id = id
    · simp only [e, decide_true, if_true] at h ⊢
      obtain rfl : a = x := by simpa using h
      simp [hf, e]
    · simp only [e, decide_false, if_false] at h ⊢
      exact ih h

/-- A rewritten session is found under its number. -/
theorem Module.session_mod (m : Module) (id : Nat) (f : Session → Session) (hf : ∀ y, (f y).id = y.id) (x : Session)
    (h : m.session? id = some x) : (m.modSession id f).session? id = some (f x) :=
  sessions_find_map _ _ _ hf _ h

theorem Module.session_only {m n : Module} (h : JournalOnly m n) (id : Nat) : n.session? id = m.session? id := by
  rw [h]
  rfl

end Machine

/-- After the accepted SEQUENCE only the session table, the journal and the alert map have moved (R367). -/
theorem dcpTaken_only (m : Module) (x : Session) (req : DcpReq) (h : x.replaces = none) : SessOnly m (dcpTaken m x req) := by
  unfold dcpTaken
  rw [Module.heard_eq _ _ _ h]
  exact ((m.tallied_only.trans (SessOnly.of_only m.tallied.authReview_only)).trans (Module.modSession_only _ _ _)).trans
    (Module.modSession_only _ _ _)

/-- The session of a valid request stands with its reply address. -/
theorem heard_session (m : Module) (x : Session) (req : DcpReq) (h : x.replaces = none) (hx : m.session? req.session = some x) :
    (m.tallied.authReview.heard x req).session? x.id = some (dcpSession x req) := by
  rw [Module.heard_eq _ _ _ h]
  have e := Module.session_id hx
  refine Module.session_mod (f := fun y => { y with port := req.port, src := req.src, replaces := none }) _ _
    (fun _ => rfl) x ?_
  rw [Module.session_only m.tallied.authReview_only, e]
  exact hx

theorem SessOnly.roleRejects {m n : Module} (h : SessOnly m n) (op : Nat) : n.roleRejects op = m.roleRejects op := by
  rw [h]
  rfl

theorem SessOnly.stateAccepts {m n : Module} (h : SessOnly m n) (op : Nat) : n.stateAccepts op = m.stateAccepts op := by
  rw [h]
  rfl

theorem SessOnly.rolePayload {m n : Module} (h : SessOnly m n) : n.rolePayload = m.rolePayload := by
  rw [h]
  rfl

theorem SessOnly.cmdResult {m n : Module} (h : SessOnly m n) (a b c d e : Nat) :
    n.cmdResult a b c d e = m.cmdResult a b c d e := by
  rw [h]
  rfl

theorem SessOnly.waitingOf {m n : Module} (h : SessOnly m n) (a : Nat) : n.waitingOf a = m.waitingOf a := by
  rw [h]
  rfl

/-- A request that passes the common steps of R367 runs on the module after its SEQUENCE was accepted, and what it answers
goes out under its session. -/
theorem dcpRequest_served {m : Module} {x : Session} {req : DcpReq} {op len : Nat} (h : Served m x req op len)
    (hop : op ∈ definedOps) (run : Module → Session → Module × Option Answer) :
    m.dcpRequest req op len true run =
      match (run (dcpTaken m x req) (dcpSession x req)).2 with
      | some a => (run (dcpTaken m x req) (dcpSession x req)).1.answer (dcpSession x req) req.seq op a.1 a.2.1 a.2.2
      | none => (run (dcpTaken m x req) (dcpSession x req)).1 := by
  obtain ⟨hu, hrate, hx, hua, hmac, hconf, hrep, hw, hnew, hseq, hpriv, hrole, hst, hlen⟩ := h
  have h0 : ¬ (m.sup.phase = .on ∧ m.sup.recovery = true) := by
    rintro ⟨_, b⟩
    simp [Module.dcpUp, Module.runs, b] at hu
  have hc : ¬ (x.confirmed = false ∧ op ≠ 2) := by
    rintro ⟨a, b⟩
    rcases hconf with h | h
    · rw [h] at a
      simp at a
    · exact b h
  have hso : SessOnly m (dcpTaken m x req) := dcpTaken_only _ _ _ hrep
  have hw' : (m.tallied.authReview.heard x req).waitingOf x.id = m.waitingOf x.id := by
    rw [Module.heard_eq _ _ _ hrep]
    exact ((Module.modSession_only _ _ _).waitingOf _).trans
      (((SessOnly.of_only m.tallied.authReview_only).waitingOf _).trans (m.tallied_only.waitingOf _))
  have hs : m.tallied.authReview.session? req.session = some x := by
    rw [Module.session_only m.tallied.authReview_only]
    exact hx
  unfold Module.dcpRequest
  rw [if_neg h0, if_neg (by simp [hu])]
  unfold Module.admitted
  rw [if_neg (by omega)]
  unfold Module.dcpTaken
  simp only [hs]
  rw [if_neg (by simp [hua]), if_neg (by simp [hmac]), if_neg hc]
  simp only [heard_session m x req hrep hx, Option.getD_some]
  have hid : (dcpSession x req).id = x.id := rfl
  have hn : isNew (dcpSession x req) req.seq = isNew x req.seq := rfl
  have hk : (m.tallied.authReview.heard x req).modSession x.id (accept req.seq) = dcpTaken m x req := rfl
  rw [hid, hw', hn, if_neg (by simp [hnew]), if_neg (by omega), hk]
  unfold Module.serve
  have na : ¬ (2147483648 ≤ req.seq ∧ op ≠ 3 ∧ op ≠ 4) := by omega
  have nc : ¬ (dcpSession x req).privilege < opPriv op := by
    show ¬ x.privilege < _
    omega
  simp only [na, if_false, hop, not_true_eq_false, nc, hso.roleRejects, hrole, hso.stateAccepts, hst, hlen, ne_eq,
    Bool.false_eq_true, Bool.true_eq_false]
  all_goals rfl

/-- A command that is such a request completes with what its own effect answers. -/
theorem replies_of {i : Instr} {s : State} {x : Session} {req : DcpReq} {op len : Nat}
    {run : Module → Session → Module × Option Answer} {n : Module} {st fl : Nat} {pl : List Byte}
    (h : Served s.m x req op len) (hop : op ∈ definedOps)
    (he : exec i s = .next { s with m := s.m.dcpRequest req op len true run })
    (hr : run (dcpTaken s.m x req) (dcpSession x req) = (n, some (st, fl, pl))) :
    Replies i s x req op n st fl pl := by
  unfold Replies
  rw [he, dcpRequest_served h hop, hr]

end Sys2Proof
end

