-- ==== Sys2Proof/Laws/Pair.lean ====
section
/-! SUPPORT. What a valid frame of the partner does before its own effect: the link counts as heard, a follower takes
the sweep index of its leader, and nothing else moves but the journalling. -/

namespace Sys2Proof.Machine

theorem Module.adoptSweep_eq (m : Module) (k : Nat) :
    m.adoptSweep k = { m with sweep := (m.adoptSweep k).sweep } := by
  unfold Module.adoptSweep
  split
  · dsimp only
    split <;> rfl
  · rfl

theorem Module.adoptSweep_holds (m : Module) (k code scope inst : Nat) :
    (m.adoptSweep k).holds code scope inst = m.holds code scope inst := by
  rw [Module.adoptSweep_eq]
  rfl

theorem Module.heardPair_eq (m : Module) (h : PairHdr) : m.heardPair h = { m with
    pair := { m.pair with
      lanes := modAt m.pair.lanes h.lane (fun _ => true), silent := false, lastValid := m.time.now
      bootWait := false, splitDone := false, noGeyser := false }
    sweep := (m.heardPair h).sweep
    al := (m.heardPair h).al, jou := (m.heardPair h).jou, outbox := (m.heardPair h).outbox } := by
  have hc : JournalOnly m ((m.clear .pri cPairLaneDown scModule h.lane).clear .pri cPairLinkLost) :=
    (Module.clear_only _ _ _ _ _).trans (Module.clear_only _ _ _ _ _)
  unfold Module.heardPair
  dsimp only
  generalize ((m.clear .pri cPairLaneDown scModule h.lane).clear .pri cPairLinkLost) = c at *
  split
  · rw [Module.adoptSweep_eq, hc]
  · rw [hc]

theorem Module.heardPair_pair (m : Module) (h : PairHdr) : (m.heardPair h).pair = { m.pair with
    lanes := modAt m.pair.lanes h.lane (fun _ => true), silent := false, lastValid := m.time.now
    bootWait := false, splitDone := false, noGeyser := false } := by
  rw [Module.heardPair_eq]

/-- A field that is neither of the pair link, nor of the sweep, nor of journalling, is as it was. -/
theorem Module.heardPair_field {α : Type} (f : Module → α) (m : Module) (h : PairHdr)
    (hf : ∀ m pair sweep al jou outbox,
      f { m with pair := pair, sweep := sweep, al := al, jou := jou, outbox := outbox } = f m) :
    f (m.heardPair h) = f m := by
  rw [Module.heardPair_eq, hf]

theorem Module.heardPair_only (m : Module) (h : PairHdr) :
    JournalOnly { m with pair := (m.heardPair h).pair, sweep := (m.heardPair h).sweep } (m.heardPair h) := by
  have e := Module.heardPair_eq m h
  rw [← Module.heardPair_pair m h] at e
  exact e

theorem Module.heardPair_role (m : Module) (h : PairHdr) : (m.heardPair h).pair.role = m.pair.role := by
  rw [Module.heardPair_pair]

theorem Module.heardPair_leads (m : Module) (h : PairHdr) : (m.heardPair h).leads = m.leads := by
  simp only [Module.leads, Module.heardPair_role]

theorem Module.heardPair_follows (m : Module) (h : PairHdr) : (m.heardPair h).follows = m.follows := by
  simp only [Module.follows, Module.heardPair_role]

theorem Module.heardPair_up (m : Module) (h : PairHdr) (i : Island) : (m.heardPair h).up i = m.up i :=
  Module.heardPair_field (fun m => m.up i) m h fun _ _ _ _ _ _ => rfl

/-- The sweep moves only where a follower hears its leader (R123). -/
theorem Module.heardPair_sweep (m : Module) (h : PairHdr) (hn : h.role ≠ .leader ∨ m.follows = false) :
    (m.heardPair h).sweep = m.sweep := by
  have hc : JournalOnly m ((m.clear .pri cPairLaneDown scModule h.lane).clear .pri cPairLinkLost) :=
    (Module.clear_only _ _ _ _ _).trans (Module.clear_only _ _ _ _ _)
  unfold Module.heardPair
  dsimp only
  generalize ((m.clear .pri cPairLaneDown scModule h.lane).clear .pri cPairLinkLost) = c at *
  have f : c.follows = m.follows := by
    rw [hc]
    rfl
  rcases hn with a | a
  · rw [if_neg a, hc]
  · split
    · unfold Module.adoptSweep
      have f2 : ({ c with pair := { c.pair with
          lanes := modAt c.pair.lanes h.lane (fun _ => true), silent := false, lastValid := c.time.now
          bootWait := false, splitDone := false, noGeyser := false } } : Module).follows = c.follows := rfl
      rw [f2, f, a, hc]
      rfl
    · rw [hc]

/-- Conditions but those of the link hold as before. -/
theorem Module.heardPair_holds (m : Module) (h : PairHdr) (code scope inst : Nat) (h1 : code ≠ cPairLaneDown)
    (h2 : code ≠ cPairLinkLost) (h3 : code ≠ cJournalQueueFull) :
    (m.heardPair h).holds code scope inst = m.holds code scope inst := by
  have e : ((m.clear .pri cPairLaneDown scModule h.lane).clear .pri cPairLinkLost).holds code scope inst =
      m.holds code scope inst := by
    rw [Module.clear_other _ _ _ _ _ _ _ _ h2 h3, Module.clear_other _ _ _ _ _ _ _ _ h1 h3]
  unfold Module.heardPair
  dsimp only
  split
  · rw [Module.adoptSweep_holds]
    exact e
  · exact e

end Sys2Proof.Machine
end

