-- ==== Sys2Proof/Laws/Precharge.lean ====
section
/-! SUPPORT. What putting a precharge channel does: the channel stands as put but for its Caldera word, every other
channel is as it was, and of the rest of the module only journalling moves. -/

namespace Sys2Proof

open Machine

theorem JournalOnly.pre {m n : Module} (h : JournalOnly m n) : n.pre = m.pre := by rw [h]

theorem PreKeeps.of_only {m n : Module} {c : Nat} (h : JournalOnly m n) : PreKeeps c m n := by
  refine ⟨?_, fun d _ => ?_⟩
  · rw [JournalOnly.pre h]
    exact h
  · simp only [Module.pch, JournalOnly.pre h]

theorem PreKeeps.refl (m : Module) (c : Nat) : PreKeeps c m m := .of_only (.refl _)

theorem PreKeeps.trans {a b c : Module} {k : Nat} (h : PreKeeps k a b) (g : PreKeeps k b c) : PreKeeps k a c := by
  obtain ⟨h1, h2⟩ := h
  obtain ⟨g1, g2⟩ := g
  refine ⟨?_, fun d hd => (g2 d hd).trans (h2 d hd)⟩
  rw [g1, h1]

theorem PreKeeps.of_mod (m : Module) (c : Nat) (f : PreCh → PreCh) : PreKeeps c m { m with pre := modAt m.pre c f } := by
  refine ⟨rfl, fun d hd => ?_⟩
  simp only [Module.pch]
  rw [modAt_getD]
  simp
  intro h
  exact absurd h.symm hd

namespace Machine

theorem Module.pch_mod (m : Module) (c : Nat) (f : PreCh → PreCh) (h : c < m.pre.length) :
    ({ m with pre := modAt m.pre c f } : Module).pch c = f (m.pch c) := by
  simp only [Module.pch]
  rw [modAt_getD]
  simp [h]

/-- The channel with its Caldera word, which is written unless the write stop holds (R286). -/
def PreCh.withWord (ch : PreCh) (m : Module) : PreCh :=
  if m.calOk then { ch with stored := (ch.shortCount, decide (ch.state = 6), ch.lastShortPlant) } else ch

theorem PreCh.withWord_eq (ch : PreCh) (m : Module) : ch.withWord m = { ch with stored := (ch.withWord m).stored } := by
  unfold PreCh.withWord
  split <;> rfl

theorem Module.putPch_spec (m : Module) (c : Nat) (ch : PreCh) (h : c < m.pre.length) :
    JournalOnly { m with pre := modAt m.pre c (fun _ => ch.withWord m) } (m.putPch c ch) ∧
    (m.putPch c ch).pch c = ch.withWord m ∧ PreKeeps c m (m.putPch c ch) := by
  have k : JournalOnly { m with pre := modAt m.pre c (fun _ => ch.withWord m) } (m.putPch c ch) := by
    unfold Module.putPch
    dsimp only
    rw [← PreCh.withWord]
    generalize ({ m with pre := modAt m.pre c (fun _ => ch.withWord m) } : Module) = n
    have ends : ∀ (n : Module) (p : Prop) [Decidable p] x y z, JournalOnly n (if p then n.clear x y z c else n) := by
      intro n p _ x y z
      split
      · exact Module.clear_only _ _ _ _ _
      · rfl
    have keeps : ∀ (n : Module) (p : Prop) [Decidable p] x y z, JournalOnly n (if p then n else n.clear x y z c) := by
      intro n p _ x y z
      split
      · rfl
      · exact Module.clear_only _ _ _ _ _
    have sent : ∀ {a b : Module} (p : Prop) [Decidable p] o, JournalOnly a b → JournalOnly a (if p then b.emit o else b) := by
      intro a b p _ o hh
      split
      · exact hh.trans (Module.emit_only _ _)
      · exact hh
    have k2 := (ends n ((ch.withWord m).state < 4) .pwi cPrechargeFault scPrecharge).trans
      (keeps _ ((ch.withWord m).state = 6) .pwi cPrechargeLockout scPrecharge)
    by_cases h4 : (ch.withWord m).state < 4 <;> by_cases h6 : (ch.withWord m).state = 6 <;>
      simp only [h4, h6, if_true, if_false] at k2 ⊢ <;> exact sent _ _ k2
  refine ⟨k, ?_, ?_⟩
  · rw [Module.pch, JournalOnly.pre k]
    exact Module.pch_mod m c _ h
  · exact (PreKeeps.of_mod m c _).trans (.of_only k)

theorem Module.putPch_preCfg (m : Module) (c d : Nat) (ch : PreCh) (h : c < m.pre.length) :
    (m.putPch c ch).preCfg d = m.preCfg d := by
  rw [(Module.putPch_spec m c ch h).1]
  rfl

theorem Module.putPch_length (m : Module) (c : Nat) (ch : PreCh) (h : c < m.pre.length) :
    c < (m.putPch c ch).pre.length := by
  rw [JournalOnly.pre (Module.putPch_spec m c ch h).1]
  simpa [modAt_length] using h

end Machine
end Sys2Proof
end

