-- ==== Sys2Proof/Laws/Switch.lean ====
section
/-! SUPPORT. What each operation on one switch channel does: that channel goes to a value computed from itself and
from what the module holds beside the channels, and every other channel, and all but the journalling, is as it was.
`eachSw_swc` lifts this to the operations that go through all the channels. -/

namespace Sys2Proof

open Machine

/-- Channel `n` goes to `ch'`, and nothing else moves but the journalling. -/
def SwStep (n : Nat) (m m' : Module) (ch' : SwCh) : Prop :=
  SwKeeps n m m' ∧ m'.sw.chans.length = m.sw.chans.length ∧ (n < m.sw.chans.length → m'.swc n = ch')

/-- Two modules differ at most in their switch channels and their journalling. -/
def SwSame (m n : Module) : Prop :=
  n = { m with sw := { m.sw with chans := n.sw.chans }, al := n.al, jou := n.jou, outbox := n.outbox }

theorem SwSame.refl (m : Module) : SwSame m m := rfl

theorem SwSame.trans {a b c : Module} (h : SwSame a b) (g : SwSame b c) : SwSame a c := by
  unfold SwSame at *
  rw [g, h]

theorem JournalOnly.swSame {m n : Module} (h : JournalOnly m n) : SwSame m n := by
  unfold SwSame
  rw [h]

theorem JournalOnly.swChans {m n : Module} (h : JournalOnly m n) : n.sw.chans = m.sw.chans := by rw [h]

theorem SwKeeps.same {c : Nat} {m n : Module} (h : SwKeeps c m n) : SwSame m n := h.1

theorem SwKeeps.refl (c : Nat) (m : Module) : SwKeeps c m m := ⟨rfl, fun _ _ => rfl⟩

theorem SwKeeps.trans {k : Nat} {a b c : Module} (h : SwKeeps k a b) (g : SwKeeps k b c) : SwKeeps k a c :=
  ⟨SwSame.trans h.1 g.1, fun d hd => (g.2 d hd).trans (h.2 d hd)⟩

theorem SwKeeps.of_only {c : Nat} {m n : Module} (h : JournalOnly m n) : SwKeeps c m n :=
  ⟨h.swSame, fun d _ => by simp only [Module.swc, h.swChans]⟩

theorem SwStep.refl (n : Nat) (m : Module) : SwStep n m m (m.swc n) := ⟨.refl _ _, rfl, fun _ => rfl⟩

theorem SwStep.trans {n : Nat} {a b c : Module} {x y : SwCh} (h : SwStep n a b x) (g : SwStep n b c y) :
    SwStep n a c y :=
  ⟨h.1.trans g.1, g.2.1.trans h.2.1, fun hn => g.2.2 (h.2.1 ▸ hn)⟩

theorem SwStep.only {n : Nat} {a b c : Module} {x : SwCh} (h : SwStep n a b x) (g : JournalOnly b c) :
    SwStep n a c x :=
  ⟨h.1.trans (.of_only g), by rw [g.swChans, h.2.1], fun hn => by
    rw [← h.2.2 hn]
    simp only [Module.swc, g.swChans]⟩

namespace Machine

theorem Module.swc_mod (m : Module) (n : Nat) (f : SwCh → SwCh) (h : n < m.sw.chans.length) :
    (m.modSw n f).swc n = f (m.swc n) := by
  simp only [Module.swc, Module.modSw]
  rw [modAt_getD]
  simp [h]

theorem Module.modSw_step (m : Module) (n : Nat) (f : SwCh → SwCh) : SwStep n m (m.modSw n f) (f (m.swc n)) := by
  refine ⟨⟨rfl, fun d hd => ?_⟩, by simp [Module.modSw], m.swc_mod n f⟩
  simp only [Module.swc, Module.modSw]
  rw [modAt_getD, if_neg (fun h => hd h.1.symm)]

/-- A channel after a latch (R308). -/
def SwCh.latched (ch : SwCh) (cause : Nat) : SwCh := { ch.calm with state := 5, cause := cause, shortNow := 0 }

/-- A channel after a turn-on begins (R297). -/
def SwCh.turnedOn (ch : SwCh) (m : Module) (n : Nat) : SwCh :=
  if m.sup.outputsOff then ch else m.hold n { ch.attempt m.ms with attempts := 0, shortNow := 0 }

/-- A channel after an attempt of a lamp ends without a short (R303). -/
def SwCh.lampOver (ch : SwCh) (m : Module) (n : Nat) : SwCh :=
  if (m.swCfg n).lampRetries ≤ ch.attempts then ch.latched 3
  else m.hold n { ch.calm with state := 3, shortNow := 0 }

/-- A channel after a cut-off (R299). -/
def SwCh.cut (ch : SwCh) (m : Module) (n : Nat) : SwCh :=
  if (m.swCfg n).load = .lamp ∧ ch.state = 1 then ch.lampOver m n else ch.latched 2

/-- A channel after a counted attempt begins (R303). -/
def SwCh.counted (ch : SwCh) (m : Module) (n : Nat) : SwCh :=
  if (m.swCfg n).lampRetries ≤ ch.attempts then ch.latched 3
  else m.hold n { ch.attempt m.ms with attempts := ch.attempts + 1 }

/-- A channel after the restart it waited for (R298, R300, R303). -/
def SwCh.reattempted (ch : SwCh) (m : Module) (n : Nat) : SwCh :=
  if ch.afterShort then m.hold n (ch.attempt m.ms)
  else if ch.afterThermal ∧ (ch.thermalOn ∨ (m.swCfg n).load ≠ .lamp) then ch.latched 4
  else ch.counted m n

/-- A channel once what it waits for has come. -/
def SwCh.came (ch : SwCh) (m : Module) (n : Nat) : SwCh :=
  if ch.state = 3 then ch.reattempted m n
  else if ch.state = 4 ∧ ch.prior = some 3 then { ch with ready := true }
  else ch

/-- A channel after its pause ends (R301, R312). -/
def SwCh.unpaused (ch : SwCh) (m : Module) (n : Nat) : SwCh :=
  if ch.state ≠ 4 ∨ ch.dipWasOn then ch
  else
    let on : SwCh := { ch with state := ch.prior.getD 1, prior := none, dipPause := false }
    if ch.ready then on.reattempted m n else on

/-- What a channel does about the state it was told (R307 to R309, R314). -/
def SwCh.obeyed (ch : SwCh) (m : Module) (n : Nat) (on : Bool) : SwCh :=
  if (m.swCfg n).load = .unused then ch.off
  else if ch.state = 5 then ch
  else if m.sup.outputsOff then ch.off
  else if on = false then ch.off
  else if m.follows then
    if ch.state = 0 ∨ ch.state = 1 ∨ ch.state = 3 then
      if ch.partnerOn then
        if m.dipped n then { ch.calm with state := 4, dipWasOn := true, dipPause := true }
        else { ch.calm with state := 2 }
      else ch.off
    else ch
  else if ch.state = 0 then ch.turnedOn m n
  else ch

/-- A channel after a commanded state is applied (R307 to R309, R314). -/
def SwCh.applied (ch : SwCh) (m : Module) (n : Nat) (on : Bool) : SwCh := (ch.told m n on).obeyed m n on

/-- A channel after its stored fail-safe state is taken (R310). -/
def SwCh.failed (ch : SwCh) (m : Module) (n : Nat) : SwCh :=
  let ch := { ch with failActive := true }
  if ch.state = 5 then ch
  else
    match m.sw.failsafe.getD n .off with
    | .off => ch.off
    | .on => if ch.state = 0 then ch.turnedOn m n else ch
    | .hold => ch

theorem Module.latchSw_step (m : Module) (n cause : Nat) :
    SwStep n m (m.latchSw n cause) ((m.swc n).latched cause) :=
  (m.modSw_step n _).only (Module.raise_only _ _ _ _ _ _ _ _)

theorem Module.latchSw_holds (m : Module) (n cause : Nat) :
    (m.latchSw n cause).holds cSwitchLatched scSwitch n = true := Module.raise_holds _ _ _ _ _ _ _ _

theorem Module.turnOn_step (m : Module) (n : Nat) : SwStep n m (m.turnOn n) ((m.swc n).turnedOn m n) := by
  unfold Module.turnOn SwCh.turnedOn
  split
  · exact .refl _ _
  · exact m.modSw_step n _

theorem Module.lampAgain_step (m : Module) (n : Nat) : SwStep n m (m.lampAgain n) ((m.swc n).lampOver m n) := by
  unfold Module.lampAgain SwCh.lampOver
  dsimp only
  split
  · exact m.latchSw_step n _
  · exact m.modSw_step n _

theorem Module.cutOff_step (m : Module) (n : Nat) : SwStep n m (m.cutOff n) ((m.swc n).cut m n) := by
  unfold Module.cutOff SwCh.cut
  split
  · exact m.lampAgain_step n
  · exact m.latchSw_step n _

theorem Module.countedAttempt_step (m : Module) (n : Nat) :
    SwStep n m (m.countedAttempt n) ((m.swc n).counted m n) := by
  unfold Module.countedAttempt SwCh.counted
  dsimp only
  split
  · exact m.latchSw_step n _
  · exact m.modSw_step n _

theorem Module.restartSw_step (m : Module) (n : Nat) : SwStep n m (m.restartSw n) ((m.swc n).reattempted m n) := by
  unfold Module.restartSw SwCh.reattempted
  dsimp only
  split
  · exact m.modSw_step n _
  · split
    · exact m.latchSw_step n _
    · exact m.countedAttempt_step n

theorem Module.cameSw_step (m : Module) (n : Nat) : SwStep n m (m.cameSw n) ((m.swc n).came m n) := by
  unfold Module.cameSw SwCh.came
  split
  · exact m.restartSw_step n
  · split
    · exact m.modSw_step n _
    · exact .refl _ _

/-- The second of two operations on one channel: what it computes from the module is what it computes from the
module before the first. -/
theorem SwStep.next {n : Nat} {a b c : Module} {x : SwCh} {g : SwCh → Module → SwCh} (h : SwStep n a b x)
    (k : SwStep n b c (g (b.swc n) b)) (hg : ∀ y, g y b = g y a) : SwStep n a c (g x a) := by
  refine ⟨h.1.trans k.1, k.2.1.trans h.2.1, fun hn => ?_⟩
  rw [k.2.2 (h.2.1 ▸ hn), h.2.2 hn, hg]

theorem SwCh.turnedOn_same {m m' : Module} (h : SwSame m m') (ch : SwCh) (n : Nat) :
    ch.turnedOn m' n = ch.turnedOn m n := by rw [h]; rfl

theorem SwCh.reattempted_same {m m' : Module} (h : SwSame m m') (ch : SwCh) (n : Nat) :
    ch.reattempted m' n = ch.reattempted m n := by rw [h]; rfl

theorem SwCh.unpaused_same {m m' : Module} (h : SwSame m m') (ch : SwCh) (n : Nat) :
    ch.unpaused m' n = ch.unpaused m n := by rw [h]; rfl

theorem SwCh.applied_same {m m' : Module} (h : SwSame m m') (ch : SwCh) (n : Nat) (on : Bool) :
    ch.applied m' n on = ch.applied m n on := by rw [h]; rfl

theorem SwCh.failed_same {m m' : Module} (h : SwSame m m') (ch : SwCh) (n : Nat) :
    ch.failed m' n = ch.failed m n := by rw [h]; rfl

theorem Module.unpause_step (m : Module) (n : Nat) :
    SwStep n m (m.unpause n) ((m.swc n).unpaused m n) := by
  unfold Module.unpause SwCh.unpaused
  dsimp only
  split
  · exact .refl _ _
  · have k := m.modSw_step n (fun ch => { ch with state := ch.prior.getD 1, prior := none, dipPause := false })
    split
    · exact SwStep.next k (g := fun y b => y.reattempted b n) (Module.restartSw_step _ n)
        (fun y => SwCh.reattempted_same k.1.same y n)
    · exact k

theorem Module.applySw_step (m : Module) (n : Nat) (on : Bool) (hn : n < m.sw.chans.length) :
    SwStep n m (m.applySw n on) ((m.swc n).applied m n on) := by
  unfold Module.applySw SwCh.applied SwCh.obeyed
  dsimp only
  generalize hf : (fun ch : SwCh => ch.told m n on) = f
  have ef : (m.swc n).told m n on = f (m.swc n) := by rw [← hf]
  have k := m.modSw_step n f
  have e : (m.modSw n f).swc n = f (m.swc n) := m.swc_mod n f hn
  have chg : ∀ g : SwCh → SwCh, SwStep n m ((m.modSw n f).modSw n g) (g (f (m.swc n))) := fun g => by
    have := k.trans ((m.modSw n f).modSw_step n g)
    rwa [e] at this
  have cfg : (m.modSw n f).swCfg n = m.swCfg n := rfl
  have sup : (m.modSw n f).sup = m.sup := rfl
  have fol : (m.modSw n f).follows = m.follows := rfl
  have dip : (m.modSw n f).dipped n = m.dipped n := rfl
  rw [cfg, sup, fol, dip, e, ef]
  split
  · exact chg _
  · split
    · exact k
    · split
      · exact chg _
      · split
        · exact chg _
        · split
          · split
            · split
              · exact chg _
              · exact chg _
            · exact k
          · split
            · exact SwStep.next k (g := fun y b => y.turnedOn b n) (Module.turnOn_step _ n)
                (fun y => SwCh.turnedOn_same k.1.same y n)
            · exact k

theorem Module.failSw_step (m : Module) (n : Nat) (hn : n < m.sw.chans.length) :
    SwStep n m (m.failSw n) ((m.swc n).failed m n) := by
  unfold Module.failSw SwCh.failed
  dsimp only
  set f : SwCh → SwCh := fun ch => { ch with failActive := true } with hf
  have k := m.modSw_step n f
  have e : (m.modSw n f).swc n = f (m.swc n) := m.swc_mod n f hn
  have fs : (m.modSw n f).sw.failsafe = m.sw.failsafe := rfl
  rw [fs, e]
  split
  · exact k
  · cases m.sw.failsafe.getD n .off with
    | off =>
      have := k.trans ((m.modSw n f).modSw_step n SwCh.off)
      rwa [e] at this
    | on =>
      dsimp only
      split
      · exact SwStep.next k (g := fun y b => y.turnedOn b n) (Module.turnOn_step _ n)
          (fun y => SwCh.turnedOn_same k.1.same y n)
      · exact k
    | hold => exact k

/-- An operation that goes through all the channels and takes each to a value computed from itself and from what
the module holds beside the channels takes each channel to that value. -/
theorem Module.eachSw_step (f : Module → Nat → Module) (g : Module → Nat → SwCh → SwCh)
    (hf : ∀ m n, n < m.sw.chans.length → SwStep n m (f m n) (g m n (m.swc n)))
    (hg : ∀ m m' n ch, SwSame m m' → g m' n ch = g m n ch) (m : Module) (hl : m.sw.chans.length = 24) :
    SwSame m (m.eachSw f) ∧ (m.eachSw f).sw.chans.length = 24 ∧
      ∀ c, c < 24 → (m.eachSw f).swc c = g m c (m.swc c) := by
  have key : ∀ k, k ≤ 24 → SwSame m ((List.range k).foldl f m) ∧ ((List.range k).foldl f m).sw.chans.length = 24 ∧
      ∀ c, c < 24 → ((List.range k).foldl f m).swc c = if c < k then g m c (m.swc c) else m.swc c := by
    intro k
    induction k with
    | zero => intro _; exact ⟨.refl _, hl, fun c _ => by simp⟩
    | succ k ih =>
      intro hk
      obtain ⟨h1, h2, h3⟩ := ih (by omega)
      rw [List.range_succ, List.foldl_append]
      obtain ⟨s1, s2, s3⟩ := hf ((List.range k).foldl f m) k (by omega)
      refine ⟨h1.trans s1.same, s2.trans h2, fun c hc => ?_⟩
      by_cases e : c = k
      · subst e
        rw [List.foldl_cons, List.foldl_nil, s3 (by omega), h3 c hc, if_neg (by omega), if_pos (by omega),
          hg _ _ _ _ h1]
      · rw [List.foldl_cons, List.foldl_nil, s1.2 c e, h3 c hc]
        by_cases l : c < k
        · rw [if_pos l, if_pos (by omega)]
        · rw [if_neg l, if_neg (by omega)]
  obtain ⟨h1, h2, h3⟩ := key 24 (le_refl _)
  exact ⟨h1, h2, fun c hc => by rw [Module.eachSw, h3 c hc, if_pos hc]⟩

end Machine
end Sys2Proof
end

