-- ==== Sys2Proof/Machine/Datagram.lean ====
section
/-! DEFINITION. The datagrams that carry DCP (R362 to R364, R390, R393): the module's own addresses, the tag and the ports
of a packet that it sends, and its bytes but for the trailer, which is a fact (log 52). -/

namespace Sys2Proof.Machine

/-- Where an interface's addresses come from. -/
inductive AddrSource where
  /-- DHCPv4 and IPv6 SLAAC (R364) -/
  | dynamic
  /-- an entry of the network section, or the fixed entry of SVC -/
  | fixed (a : NetAddr)
  deriving DecidableEq, Repr

/-- 169.254.96.1/16 on SVC (R363): an address is its bytes as a little-endian number. Its link-local IPv6 address is RFC 4862's. -/
def svcAddr : NetAddr := { addr4 := 169 + 256 * 254 + 65536 * 96 + 16777216, prefix4 := 16 }

/-- Index of an ETH port's entry (Table 15-17): slot B has the last two, every other module the slot A entries (R390). -/
def netIndex (slot : SlotCode) (eth2 : Bool) : Nat := (if slot = .b then 2 else 0) + (if eth2 then 1 else 0)

/-- The network section in force: that of the ACTIVE set, adopted or not, since it is a core section (R441); in RECOVERY that of
the last ACTIVE set (R393). -/
def Module.network? (m : Module) : Option NetCfg := m.sets.active.content.map (·.network)

/-- An ETH port's address entry. -/
def Module.ethAddr (m : Module) (eth2 : Bool) : AddrSource :=
  match m.network? with
  | some n => .fixed (n.addrs.getD (netIndex m.sup.slot eth2) {})
  | none => .dynamic

/-- The addresses of an interface (R363, R364, R393). -/
def Module.addrOf (m : Module) : NetPort → AddrSource
  | .svc => .fixed svcAddr
  | .eth1 => m.ethAddr false
  | .eth2 => m.ethAddr true

/-- The gateways an interface routes through; SVC has none (R363). -/
def Module.gateways (m : Module) : NetPort → Nat × Nat
  | .svc => (0, 0)
  | _ => ((m.network?.getD {}).gateway4, (m.network?.getD {}).gateway6)

/-- The 802.1Q tag of an interface, VID and PCP; VID 0 is untagged (Table 15-17). -/
def AddrSource.tag : AddrSource → Option (Nat × Nat)
  | .fixed a => if a.vid = 0 then none else some (a.vid, a.pcp)
  | .dynamic => none

/-- A datagram that the module sends; it is never fragmented (R364). -/
structure Datagram where
  source : AddrSource
  sourcePort : Nat
  /-- the address × 65,536 plus its UDP port -/
  dst : Nat
  tag : Option (Nat × Nat)
  dscp : Nat
  /-- the packet up to its trailer -/
  bytes : List Byte
  deriving DecidableEq, Repr

/-- A packet on an interface: requests are answered from port 30410, streams are pushed from 30411 (R362). -/
def Module.packet (m : Module) (port : NetPort) (sourcePort dst : Nat) (bytes : List Byte) : Datagram :=
  { source := m.addrOf port, sourcePort := sourcePort, dst := dst, tag := (m.addrOf port).tag
    dscp := (m.network?.getD {}).dscp, bytes := bytes }

/-- The interface of a subscription: that of its session's requests (log 191). -/
def Module.streamPort (m : Module) (session : Nat) : NetPort :=
  match m.session? session with
  | some x => x.port
  | none => .eth1

/-- The datagram of what the module has sent over DCP (Table 15-1). -/
def Module.datagram? (m : Module) : Out → Option Datagram
  | .dcp port dst session seq op status flags payload =>
    some (m.packet port 30410 dst (dcpBytes flags op status seq session payload))
  | .stream dst session _ op seq flags payload =>
    some (m.packet (m.streamPort session) 30411 dst (dcpBytes flags op stOk seq session payload))
  | _ => none

end Sys2Proof.Machine
end

