-- ==== Sys2Proof/Machine/PairWire.lean ====
section
/-! DEFINITION. The bytes of the pair frames whose payload the manual lays out (R343, R344, R353, Tables 14-3 to 14-5). SEQ, which
counts the frames of a lane and which no rule reads, is an argument (log 185). -/

namespace Sys2Proof.Machine

/-- KEEPALIVE payload (Table 14-5). -/
def keepaliveBytes (k : Keepalive) : List Byte :=
  [bitsOf [k.leverLocked, k.portsEnabled, k.ejectPending, k.resyncActive], bitsOf [k.lane0Up, k.lane1Up]] ++ le 4 k.fwVersion ++
    le 8 k.setId ++ le 4 k.digestSweep

/-- PTYPE and PORT of a pair frame (Table 14-4). -/
def pairType : Out → Option (Nat × Nat)
  | .pairKeepalive _ => some (1, 0)
  | .pairRing port _ => some (2, port)
  | .pairManifest _ => some (3, 0)
  | .pairTime _ => some (4, 0)
  | .pairDigest _ _ => some (5, 0)
  | .pairScarab _ _ => some (6, 0)
  | .pairRun _ _ => some (7, 0)
  | .pairImage _ _ => some (8, 0)
  | .pairSteady _ => some (8, 0)
  | .pairEnd port _ _ => some (9, port)
  | .pairJournal _ => some (0xA, 0)
  | .pairHandover _ _ => some (0xB, 0)
  | .pairDepart _ => some (0xC, 0)
  | .pairState _ => some (0xD, 0)
  | .pairSet _ _ _ => some (0xE, 0)
  | .pairCtrl _ _ _ _ => some (0xF, 0)
  | .pairPark => some (0x10, 0)
  | _ => none

/-- The payload of a pair frame, where Table 14-4 or 14-5 lays it out. -/
def Module.pairPayload (m : Module) : Out → Option (List Byte)
  | .pairKeepalive k => some (keepaliveBytes k)
  | .pairDigest _ d => some (le 8 d)
  | .pairEnd port f departure => some (m.wireBytes port f ++ le 8 departure)
  | .pairJournal r => some (recBytes r)
  | .pairHandover kind sweep => some ([kind] ++ le 4 sweep)
  | .pairDepart cause => some [cause]
  | .pairSet _ offset data => some (le 4 offset ++ data)
  | .pairCtrl request slot gen blocks =>
    some ([request, slot] ++ le 2 gen ++ le 2 blocks.length ++ zeros 2 ++ (blocks.map (le 4)).flatten)
  | .pairPark => some []
  | _ => none

/-- SWEEP_INDEX of a pair frame: the sweep its payload belongs to, or the present one. -/
def Module.pairSweep (m : Module) : Out → Nat
  | .pairManifest x => x.sweep
  | .pairDigest k _ => k
  | _ => m.sweep.j

/-- A pair frame but for its CRC32 (Table 14-3); `last` is LAST of a chunk that ends a stream. -/
def Module.pairHead (m : Module) (seq : Nat) (last : Bool) (o : Out) (typ : Nat × Nat) (payload : List Byte) : List Byte :=
  [typ.1, if last then 1 else 0] ++ le 2 (20 + payload.length) ++ le 4 seq ++ le 4 (m.pairSweep o) ++
    [if m.sup.slot = .b then 1 else 0, roleCode m.pair.role, typ.2, 0] ++ payload

/-- The bytes of a pair frame (Table 14-3). -/
def Module.pairBytes (m : Module) (seq : Nat) (last : Bool) (o : Out) : Option (List Byte) :=
  match pairType o, m.pairPayload o with
  | some t, some p => some (m.pairHead seq last o t p ++ le 4 (crc32c (m.pairHead seq last o t p)))
  | _, _ => none

end Sys2Proof.Machine
end

