-- ==== Sys2Proof/WellFormed.lean ====
section
/-! DEFINITION. Which commands are well formed: every number the module's own wiring or a frame field bounds lies
in its range (R6, R7, Table 00-5). What a host may send is unbounded beyond its field width: the module checks it
itself (R367). The meanings are total and do not need this. -/

namespace Sys2Proof

/-- A hop, 1 to 256 (Table 00-5). -/
def hopOk (h : Nat) : Bool := 1 ≤ h && h ≤ 256

/-- A string or bay number of an event (Table 00-5). -/
def keyOk : InstKey → Bool
  | .str n => n < 512
  | .bay b => b < 4

/-- A group or feed number. -/
def overOk : OverSet → Bool
  | .group g => g < 6
  | .feed f => f < 2
  | .both => true

/-- The header fields a request carries fit their widths (Table 15-2). -/
def DcpReq.wf (r : DcpReq) : Bool :=
  r.session < 4294967296 && r.seq < 4294967296 && r.len < 65536

/-- A command's operands lie in the ranges of Table 00-5 and of the frame fields. -/
def Instr.wf : Instr → Bool
  | .powerUp _ _ _ _ => true
  | .auxLowRaise => true
  | .auxLowClear => true
  | .auxHighRaise => true
  | .auxHighClear => true
  | .auxProtectOpen => true
  | .auxProtectReconnect => true
  | .writeStop => true
  | .writeStopLift => true
  | .powerFail => true
  | .vswFeedDip feed => decide (feed < 2)
  | .vswFeedReturn feed => decide (feed < 2)
  | .swiSupplyReset => true
  | .swiSupplyRestart => true
  | .moduleHotChange _ => true
  | .slotChanged _ _ => true
  | .leverLeaveLocked => true
  | .ejectAssert => true
  | .leverReachLocked => true
  | .leverUnlocked => true
  | .parkComplete => true
  | .peerPresentChange _ => true
  | .peerEjectChange _ => true
  | .carapaceSelfTestPass links bank tl => decide (links.length = 8) && decide (bank < 4294967296) && decide (tl < 4)
  | .carapaceSample raw => decide (raw.length = 8)
  | .carapaceMeanTick => true
  | .bcsNoValid bay => decide (bay < 4)
  | .bcsDegradedExpire bay => decide (bay < 4)
  | .bcsDiscrepancy bay => decide (bay < 4)
  | .bcsModeLinkChange bay chan => decide (bay < 4) && decide (chan < 2)
  | .toneLossTrip port => decide (port < 32)
  | .safetyChannelOpen input chan => decide (input < 5) && decide (chan < 2)
  | .safetyDiscrepancy input => decide (input < 5)
  | .safetyTestPulse input out _ _ => decide (input < 5) && decide (out < 2)
  | .tripReqHigh => true
  | .tripOutputTest bay out _ _ => decide (bay < 4) && decide (out < 2)
  | .bankChange bank tl => decide (bank < 4294967296) && decide (tl < 4)
  | .keyReset bank tl => decide (bank < 4294967296) && decide (tl < 4)
  | .keyStuck => true
  | .keyReleaseStuck => true
  | .cpiInternalFault => true
  | .cpxFrameRx _ => true
  | .cpxLost => true
  | .carapaceReportRx => true
  | .islandReset _ _ => true
  | .islandReturn _ => true
  | .mgiOutageHandover => true
  | .queueOverrun _ => true
  | .timePulse _ _ => true
  | .timePulseLost _ => true
  | .ptpMessageRx eth domain _ => decide (eth < 2) && decide (domain < 256)
  | .ppsInEdge _ => true
  | .timeLock => true
  | .timeSourceLost => true
  | .holdoverExpire => true
  | .pairTimeDisagree => true
  | .portLinkUp port => decide (port < 32)
  | .portLinkDown port => decide (port < 32)
  | .toneWindow port _ _ _ _ => decide (port < 32)
  | .collectingFrameRx port _ => decide (port < 32)
  | .replyFrameRx port _ => decide (port < 32)
  | .probeReturn port hop _ => decide (port < 64) && hopOk hop
  | .turnedCommandRx port => decide (port < 32)
  | .noticeRx port _ => decide (port < 32)
  | .replyTimeout ring hop => decide (ring < 32) && hopOk hop
  | .rejoinStart ring segment => decide (ring < 32) && decide (segment ≤ 256)
  | .rejoinWatchExpire ring segment => decide (ring < 32) && decide (segment ≤ 256)
  | .quarantineExpire ring segment => decide (ring < 32) && decide (segment ≤ 256)
  | .partitionFix => true
  | .geyserSend => true
  | .sweepFrameSend => true
  | .readoutClose => true
  | .provisionalManifest => true
  | .estimateComplete => true
  | .verdictStage => true
  | .fastRowEval => true
  | .heartbeatSend => true
  | .scarabDelayExpire inst => keyOk inst
  | .scarabStepTimeout inst => keyOk inst
  | .dzsReadPoll string => decide (string < 512)
  | .insertWaitExpire string => decide (string < 512)
  | .recoverDelayExpire string => decide (string < 512)
  | .bayEmptyExpire bay => decide (bay < 4)
  | .switchCommandAck chan => decide (chan < 24)
  | .prechargeCommandAck chan => decide (chan < 4)
  | .burstAbandon string => decide (string < 512)
  | .chargeMirrorRound => true
  | .impedanceMirrorRound => true
  | .capacityRecordWrite => true
  | .dormantWakeRing port => decide (port < 32)
  | .pcsDcReadyRise => true
  | .pairLaneWake => true
  | .dormantSurveyExpire => true
  | .prechargeStart chan _ => decide (chan < 4)
  | .prechargeStop chan => decide (chan < 4)
  | .sdmSample chan bitsOut bitsSrc => decide (chan < 4) && decide (bitsOut < 2 ^ 256) && decide (bitsSrc < 2 ^ 256)
  | .voutLatch => true
  | .phaseCycle chan phase event _ _ => decide (chan < 4) && decide (phase < 4) &&
    (match event with | .turnOn a => decide (a < 256) | _ => true)
  | .syncEdge _ => true
  | .syncLost => true
  | .rotationBoundary chan => decide (chan < 4)
  | .fastLimit chan phase => decide (chan < 4) && decide (phase < 4)
  | .slowLimitTick chan _ rms => decide (chan < 4) && decide (rms.length = 4)
  | .probeTimeout chan _ => decide (chan < 4)
  | .retryDelayExpire chan => decide (chan < 4)
  | .driverFault chan _ => decide (chan < 4)
  | .srcLow chan => decide (chan < 4)
  | .prechargeResume chan _ => decide (chan < 4)
  | .swRefresh _ _ _ _ => true
  | .swWatchdogExpire => true
  | .switchShortAttempt chan => decide (chan < 24)
  | .shortGapExpire chan => decide (chan < 24)
  | .currentLimitExpire chan => decide (chan < 24)
  | .overloadExpire chan => decide (chan < 24)
  | .blankingEnd chan _ => decide (chan < 24)
  | .junctionShutdown chan => decide (chan < 24)
  | .junctionRestart chan => decide (chan < 24)
  | .groupDieLimit group _ => decide (group < 6)
  | .groupDieResume group _ => decide (group < 6)
  | .pauseExpire chan => decide (chan < 24)
  | .groupFeedOverload which _ => overOk which
  | .lampRetryStart chan => decide (chan < 24)
  | .warmupWindowExpire chan => decide (chan < 24)
  | .turnOnComplete chan => decide (chan < 24)
  | .drivePhaseEnd chan => decide (chan < 24)
  | .openLoadOnExpire chan _ => decide (chan < 24)
  | .offStateTest chan _ _ => decide (chan < 24)
  | .partnerChannelOn chan => decide (chan < 24)
  | .pairKeepaliveRx _ _ => true
  | .pairRingFrameRx _ port _ => decide (port < 32)
  | .pairManifestRx _ _ => true
  | .pairTimeRx _ _ => true
  | .pairDigestRx _ _ => true
  | .pairScarabStepRx _ inst _ => keyOk inst
  | .pairRunRecordRx _ chan _ => decide (chan < 4)
  | .pairSwitchImageRx _ _ _ => true
  | .pairEndRequestRx _ port _ _ => decide (port < 32)
  | .pairJournalRx _ _ => true
  | .handoverOffer _ _ => true
  | .handoverAccept _ _ => true
  | .handoverDecline _ _ => true
  | .departRx _ _ => true
  | .stateChunkRx _ _ _ _ => true
  | .setChunkRx _ slot _ data => decide (slot < 2) && decide (1 ≤ data.length) && decide (data.length ≤ 4096)
  | .streamCtrlResync _ _ => true
  | .streamCtrlResend _ _ => true
  | .streamCtrlSet _ _ => true
  | .parkNoticeRx _ => true
  | .pairLaneDown lane => decide (lane < 2)
  | .pairLinkSilent _ => true
  | .splitRingSilence => true
  | .failoverTakeover => true
  | .handoverPoint => true
  | .leadTokenChange _ => true
  | .tokenHoldExpire => true
  | .tokenFault => true
  | .pairBootTimeout => true
  | .resyncRetryExpire => true
  | .canFrameRx ctl _ => decide (ctl < 3)
  | .canRxTimeout ctl obj => decide (ctl < 3) && decide (obj < 128)
  | .canTxPeriod ctl obj => decide (ctl < 3) && decide (obj < 64)
  | .canTxDone ctl obj _ => decide (ctl < 3) && decide (obj < 64)
  | .canTxError ctl obj _ _ => decide (ctl < 3) && decide (obj < 64)
  | .busOffRecovery ctl => decide (ctl < 3)
  | .journalWrite => true
  | .sessionConfirmExpire _ => true
  | .sessionIdleExpire _ => true
  | .streamSend _ _ => true
  | .sessionOpen req _ => req.wf
  | .sessionConfirm req => req.wf
  | .sessionRekey req _ => req.wf
  | .sessionClose req => req.wf
  | .sessionEcho req _ => req.wf
  | .identityRead req => req.wf
  | .hostkeyList req => req.wf
  | .hostkeyAdd req _ _ _ => req.wf
  | .hostkeyRemove req _ => req.wf
  | .domainWake _ _ => true
  | .domainStatus req => req.wf
  | .domainService req => req.wf
  | .domainResume req => req.wf
  | .domainDormant req _ => req.wf
  | .domainRestart req _ => req.wf
  | .restartDelayExpire => true
  | .readCellSoc req _ _ => req.wf
  | .readCellImp req _ _ => req.wf
  | .readCellCap req _ _ => req.wf
  | .readWorker req _ _ => req.wf
  | .readStringSoc req _ _ => req.wf
  | .readStringState req _ _ => req.wf
  | .readBaySoc req _ _ => req.wf
  | .readBayState req _ _ => req.wf
  | .readLimit req _ _ => req.wf
  | .readRing req _ _ => req.wf
  | .readPrecharge req _ _ => req.wf
  | .readSwitch req _ _ => req.wf
  | .readCarapace req _ _ => req.wf
  | .readPair req _ _ => req.wf
  | .readBurst req _ _ _ _ => req.wf
  | .readBurstList req _ => req.wf
  | .streamSubscribe req _ _ _ _ _ _ => req.wf
  | .streamUnsubscribe req _ => req.wf
  | .streamList req => req.wf
  | .configStatus req => req.wf
  | .configBegin req _ _ _ => req.wf
  | .configBlock req _ _ _ => req.wf
  | .configCheck req => req.wf
  | .configCheckDone => true
  | .configActivate req _ => req.wf
  | .configRevert req _ => req.wf
  | .configAbort req => req.wf
  | .configRead req _ _ _ => req.wf
  | .setActivation => true
  | .stringClose req _ => req.wf
  | .stringOpen req _ => req.wf
  | .stringService req _ => req.wf
  | .stringRelease req _ => req.wf
  | .stringUnlock req _ => req.wf
  | .bayEnergise req _ => req.wf
  | .bayDrain req _ => req.wf
  | .bayService req _ => req.wf
  | .bayRelease req _ => req.wf
  | .latchAck req _ _ _ => req.wf
  | .switchSet req _ _ => req.wf
  | .switchReset req _ => req.wf
  | .prechargeReset req _ => req.wf
  | .journalStatus req => req.wf
  | .journalRead req _ _ _ => req.wf
  | .journalAckArchived req _ => req.wf
  | .alertRead req => req.wf
  | .alertClear req _ => req.wf
  | .alertMask req _ => req.wf
  | .updateStatus req => req.wf
  | .updateBegin req _ _ => req.wf
  | .updateBlock req _ _ _ => req.wf
  | .updateVerify req => req.wf
  | .updateVerifyDone => true
  | .updateActivate req _ => req.wf
  | .updateAbort req => req.wf
  | .updateOwnerKey req _ _ => req.wf
  | .updatePrepare => true
  | .updateActTime => true
  | .installPhaseDone _ => true
  | .imageConfirm => true
  | .trialExpire => true
  | .safeHoldExpire => true
  | .carapaceBankStart _ => true
  | .diagPortCounters req _ _ => req.wf
  | .diagWorkerCounters req _ _ => req.wf
  | .diagRingRejoin req _ _ => req.wf
  | .diagLatchClear req _ _ => req.wf
  | .diagOwForce req _ _ _ => req.wf
  | .diagRollCall req _ => req.wf
  | .diagRollCallRead req _ _ => req.wf
  | .diagIslandReset req _ => req.wf
  | .diagModuleCounters req => req.wf
  | .pairStatus req => req.wf
  | .pairHandover req => req.wf
  | .pairPark req => req.wf
  | .pairResync req => req.wf
  | .timeStatus req => req.wf
  | .timeSet req _ => req.wf
  | .carapaceSupplyLoss => true
  | .safetyChannelClose input chan => decide (input < 5) && decide (chan < 2)
  | .canRxError ctl recAfter => decide (ctl < 3) && decide (recAfter < 256)
  | .canProtocolException ctl => decide (ctl < 3)
  | .dcpMalformedDatagram _ => true
  | .pairFrameCrcError lane => decide (lane < 2)

end Sys2Proof
end

