-- ==== Sys2Proof/Tests/Slice0.lean ====
section
/-! SUPPORT. Tests: ill-formed commands that Instr.wf refuses, states that meet the hypotheses of each statement
(theorems wit_…), and single steps whose expected results stand in the manual (theorems test_…). -/

namespace Sys2Proof.Tests

open Sys2Proof Machine

/-! ## Small states -/

/-- A set for a single-module domain: string 0 on ring 0 with a DZC-24 at hop 1 and a DZS-2 at hop 2. -/
def cfg0 : ConfigSet := {
  pairDomain := false, setId := 7
  workers := [((0, 1), {}), ((0, 2), { typ := .dzs2 })]
  strings := [(0, { dzsHop := 2, lastHop := 1 })]
  channels := [(0, {}), (1, { position := 1 })]
  switches := [{ load := .lamp, openOffEn := true }, { load := .heater, openOnEn := true }] ++
    List.replicate 22 { load := .coil }
  can := [{ ctl := { mode := 1 }, rx := [(3, { ident := 0x120, mask := 0x7FF, timeoutAlert := true, alert := 200, timeout := 100 })]
            tx := [(1, { ident := 0x300, content := 3, retryLimit := 2 })] }, {}, {}]
  seq := { strEntry := List.replicate 16 0, bayEntry := List.replicate 16 0, insertWaitMax := 30
           steps := [(0, { kind := 6, timeout := 5, success := 1, failure := 2 }), (1, {}), (2, { kind := 1 })] }
  precharge := [{ phases := 4, shedEn := true, minPhases := 2, iRun := 20000, iFast := 60000 }, {}, {}, {}] }

/-- An open session of an ADMIN key. -/
def x0 : Session := { id := 5, keyId := 9, privilege := 2, confirmed := true }

/-- A leading single module that runs with `cfg0`. -/
def m0 : Module := {
  sup := { phase := .on, lever := .locked }
  isl := List.replicate 9 { up := true }
  ports := List.replicate 32 { enabled := true, up := true }
  pair := { role := .leader }
  sw := { powered := true }
  dcp := { loaded := true, sessions := [x0], keys := [{ key := 1, keyId := 9, privilege := 2 }] }
  can := { ctl := [{ ok := true }, {}, {}] }
  sweep := { running := true, j := 4 }
  est := { ready := true }
  sets := { active := { state := 6, setId := 7, format := 1, content := some cfg0 } } }

/-- The module of slot A of a pair, which leads. -/
def mA : Module := { m0 with
  sup := { m0.sup with slot := .a, slotNow := .a, peerPresent := true }
  pair := { role := .leader, silent := false, driving := true, tokenLow := true, partnerRole := some .ready
            keep := { leverLocked := true }, equalRun := 2 }
  sets := { active := { state := 6, setId := 7, format := 1, content := some { cfg0 with pairDomain := true } } } }

/-- The module of slot B of a pair, which follows. -/
def mB : Module := { mA with
  sup := { m0.sup with slot := .b, slotNow := .b, peerPresent := true }
  pair := { role := .ready, silent := false, partnerRole := some .leader, equalRun := 2 } }

/-- A Carapace in RUN with the factory bank in force. -/
def c0 : Carapace := { state := .run, own := some {} }

/-- The machine around a module. -/
def st (m : Module) : State := { cara := c0, m := m }

/-- The machine around a Carapace. -/
def sc (c : Carapace) : State := { cara := c, m := m0 }

/-- A request of session 5. -/
def rq (len : Nat) : DcpReq := { session := 5, len := len }

/-! ## Ill-formed commands -/

/-- One ill-formed term for each check of Instr.wf. -/
theorem wf_refuses : (
    [.vswFeedDip 2, .vswFeedReturn 2, .carapaceSelfTestPass [] 0 0, .carapaceSelfTestPass (List.replicate 8 true) 4294967296 0,
     .carapaceSelfTestPass (List.replicate 8 true) 0 4, .carapaceSample [], .bcsNoValid 4, .bcsDegradedExpire 4,
     .bcsDiscrepancy 4, .bcsModeLinkChange 4 0, .bcsModeLinkChange 0 2, .toneLossTrip 32, .safetyChannelOpen 5 0,
     .safetyChannelOpen 0 2, .safetyDiscrepancy 5, .safetyTestPulse 5 0 true true, .safetyTestPulse 0 2 true true,
     .tripOutputTest 4 0 true true, .tripOutputTest 0 2 true true, .bankChange 4294967296 0, .bankChange 0 4,
     .keyReset 4294967296 0, .keyReset 0 4, .ptpMessageRx 2 0 .delayReq, .ptpMessageRx 0 256 .delayReq, .portLinkUp 32, .portLinkDown 32,
     .toneWindow 32 true true true 0, .collectingFrameRx 32 {}, .replyFrameRx 32 {}, .probeReturn 64 1 0, .probeReturn 0 0 0,
     .probeReturn 0 257 0, .turnedCommandRx 32, .noticeRx 32 {}, .replyTimeout 32 1, .replyTimeout 0 0, .rejoinStart 32 0,
     .rejoinStart 0 257, .rejoinWatchExpire 32 0, .rejoinWatchExpire 0 257, .quarantineExpire 32 0,
     .quarantineExpire 0 257, .safetyChannelClose 5 0, .safetyChannelClose 0 2] : List Instr).all
      (fun i => !i.wf) = true := by decide

/-- The same for Scarab, precharge, switches, pair, CAN and the requests. -/
theorem wf_refuses_more : (
    [.scarabDelayExpire (.str 512), .scarabStepTimeout (.bay 4), .dzsReadPoll 512, .insertWaitExpire 512,
     .recoverDelayExpire 512, .bayEmptyExpire 4, .switchCommandAck 24, .prechargeCommandAck 4, .burstAbandon 512,
     .dormantWakeRing 32, .prechargeStart 4 0, .prechargeStop 4, .sdmSample 4 0 0, .sdmSample 0 (2 ^ 256) 0,
     .sdmSample 0 0 (2 ^ 256), .phaseCycle 4 0 .peak 0 0, .phaseCycle 0 4 .peak 0 0, .phaseCycle 0 0 (.turnOn 256) 0 0, .rotationBoundary 4, .fastLimit 4 0, .fastLimit 0 4,
     .slowLimitTick 4 [] [0, 0, 0, 0], .slowLimitTick 0 [] [], .probeTimeout 4 0, .retryDelayExpire 4, .driverFault 4 true,
     .srcLow 4, .prechargeResume 4 0, .switchShortAttempt 24, .shortGapExpire 24, .currentLimitExpire 24, .overloadExpire 24,
     .blankingEnd 24 true, .junctionShutdown 24, .junctionRestart 24, .groupDieLimit 6 0, .groupDieResume 6 0,
     .pauseExpire 24, .groupFeedOverload (.group 6) [], .groupFeedOverload (.feed 2) [], .lampRetryStart 24,
     .warmupWindowExpire 24, .turnOnComplete 24, .drivePhaseEnd 24, .openLoadOnExpire 24 0, .offStateTest 24 true true,
     .partnerChannelOn 24, .pairRingFrameRx {} 32 (.notice {}), .pairScarabStepRx {} (.bay 4) {},
     .pairRunRecordRx {} 4 {}, .pairEndRequestRx {} 32 (.command 0 0 false 0 []) 0,
     .setChunkRx {} 2 0 [0], .setChunkRx {} 0 0 [], .pairLaneDown 2, .pairFrameCrcError 2, .canFrameRx 3 {},
     .canRxTimeout 3 0, .canRxTimeout 0 128, .canTxPeriod 3 0, .canTxPeriod 0 64, .canTxDone 3 0 true, .canTxDone 0 64 true,
     .canTxError 3 0 true true, .canTxError 0 64 true true, .busOffRecovery 3, .canRxError 3 0, .canRxError 0 256,
     .canProtocolException 3, .sessionClose { session := 4294967296 }, .sessionClose { seq := 4294967296 },
     .sessionClose { len := 65536 }] : List Instr).all (fun i => !i.wf) = true := by decide

theorem wf_refuses_chunk (data : List Byte) (h : 4096 < data.length) : (Instr.setChunkRx {} 0 0 data).wf = false := by
  have h' : ¬ data.length ≤ 4096 := by omega
  simp [Instr.wf, h']

/-- Well-formed terms are accepted. -/
theorem wf_accepts : ([.probeReturn 63 256 0, .keyReset 4294967295 3, .canRxTimeout 2 127, .scarabDelayExpire (.str 511),
    .groupFeedOverload .both [], .sessionClose { session := 4294967295, seq := 4294967295, len := 65535 }] : List Instr).all
      (fun i => i.wf) = true := by decide

/-! ## States that meet the hypotheses of the statements -/

theorem wit_StepRunsFrontCommand : ({ pending := [.tripReqHigh] } : State).pending = .tripReqHigh :: [] := by decide

theorem wit_EmptyQueueIdles : State.reset.pending = [] ∧ State.reset.m.sup.phase = .off ∧
    ({ m := { sup := { phase := .weevil } } } : State).m.sup.phase = .weevil ∧
    ({ m := { sup := { phase := .weevil } } } : State).pending = [] := by decide

theorem wit_CarapaceSafeKeptByStep : Carapace.safe State.reset.cara ∧
    Machine.step State.reset = .next State.reset := by
  refine ⟨⟨rfl, ?_, by decide⟩, rfl⟩
  unfold CaraBay.safe; decide

theorem wit_ModuleCommandsLeaveCarapace : reachesCarapace .geyserSend = false ∧
    .geyserSend ≠ Instr.carapaceReportRx := by decide

/-- Bay 3 with channels that are not valid, degraded, port 31 SILENT with TL at 100 ms, TRIP_REQ high. -/
def c1 : Carapace := { c0 with
  bays := List.replicate 3 {} ++ [{ degraded := true, out0 := true, out1 := true }], tones := List.replicate 32 .silent }

theorem wit_CarapaceTripsLatch :
    (sc c1).cara.state = .run ∧ (sc c1).cara.bays.length = 4 ∧ (sc c1).cara.inputs.length = 5 ∧
    ((sc c1).cara.bay 3).chA.valid = false ∧ ((sc c1).cara.bay 3).chB.valid = false ∧ ((sc c1).cara.bay 3).degraded = true ∧
    (sc c1).cara.tones.getD 31 .dead = .silent ∧ (sc c1).cara.vals.tl ≠ 0 ∧
    ({ cara := c1, m := { m0 with ver := { tripReq := true } } } : State).m.ver.tripReq = true ∧
    (let d : Carapace := { c1 with inputs := List.replicate 4 {} ++ [{ open1 := true }] }
     (d.inputs.getD 4 {}).open1 ≠ (d.inputs.getD 4 {}).open2) ∧ 4 ∈ List.range 5 ∧ 3 ∈ inputBays 4 ∧ 2 ∉ inputBays 4 := by
  decide

theorem wit_BayCurrentChannels :
    c1.bays.length = 4 ∧ c1.state = .run ∧ ({ c1 with state := .selfTest } : Carapace).state = .selfTest ∧
    ({} : BcsChan).linked = false ∧ ({} : BcsChan).faulted = false ∧ -11000000 ≤ (11000000 : Int) ∧
    ({ linked := true } : BcsChan).linked = true ∧ (3600000 : Int) ≤ 21000000 ∧
    (let d : Carapace := { c1 with bays := List.replicate 3 {} ++ [{ chA := { valid := true, cur := 1000001 }, chB := { valid := true } }] }
     (d.bay 3).chA.valid = true ∧ (d.bay 3).chB.valid = true ∧
       1000000 < ((d.bay 3).chA.cur - (d.bay 3).chB.cur).natAbs) := by decide

/-- Bay 0 four means above 500 A in the discharge direction. -/
def c4 : Carapace := { c0 with
  bays := { out0 := true, out1 := true, dis := List.replicate 10 500001, chg := List.replicate 10 (-500001), nDis := 4 } ::
    List.replicate 3 {} }

theorem wit_MeanTickTripsAtFifth : c4.state = .run ∧ c4.bays.length = 4 ∧ 5 ≤ (c4.bay 0).nDis + 1 ∧
    meanAbove (c4.bay 0).dis (c4.limit 0 0) = true ∧ meanAbove (c4.bay 0).chg (c4.limit 0 1) = false ∧
    c4.vals.codes.getD 0 0 = 0 := by decide

theorem wit_BankKeyAndCpx : c0.state = .run ∧ c0.keyStuck = false ∧ ({ c0 with keyStuck := true } : Carapace).keyStuck = true ∧
    c0.own = some {} := by decide

theorem wit_CarapaceEnergisesAndDeenergises :
    ({ c0 with state := .selfTest } : Carapace).state = .selfTest ∧ c0.bays.length = 4 ∧
    (∀ i ∈ c0.inputs, i.isOpen = false ∧ i.isCross = false) ∧ c4.state = .run ∧ (c4.bay 0).out0 = true ∧
    (c4.bay 0).out1 = true ∧ c4.state ≠ .off ∧
    ({ cara := c0, m := { m0 with upd := { carapace := true } } } : State).m.upd.carapace = true := by decide

/-- Channel 0 of the precharge as given. -/
def mp (ch : PreCh) : Module := { m0 with pre := ch :: List.replicate 3 {} }

theorem wit_PrechargeRunBegins :
    (let m := mp { vSrc := 900000, validRun := 782 }
     0 < m.pre.length ∧ m.up .pwi = true ∧ m.leads = true ∧ m.preRefusal 0 800000 = 0 ∧ (m.pch 0).state = 0 ∧
       m.preRetryLeft 0 = 0 ∧ (m.preCfg 0).shedEn = true ∧ m.preRefusal 0 1500001 ≠ 0 ∧ m.preRefusal 0 1000 = 0) ∧
    (let m := mp { vSrc := 900000, validRun := 782, lastShort := some 0, shortCount := 1 }
     m.preRefusal 0 800000 = 0 ∧ (m.pch 0).state = 0 ∧ 0 < m.preRetryLeft 0) ∧
    (∀ k ∈ [1, 2, 3, 4], let m := mp { vSrc := 900000, validRun := 782, state := k }
     m.preRefusal 0 800000 = 0 ∧ (m.pch 0).state = k) ∧
    ((mp { state := 6 }).pch 0).state = 6 ∧ ((mp { state := 5 }).pch 0).state ≠ 6 ∧
    (let m := mp { state := 4, stands := true }
     (m.pch 0).state = 4 ∧ (m.pch 0).stands = true ∧ m.preUsed 0 = true) ∧
    (let m := mp { state := 4 }
     (m.pch 0).state = 4 ∧ (m.pch 0).stands = false) ∧
    (let m := mp { vTarget := 800000, vOut := 15999 }
     100 * (m.pch 0).vOut < (((m.preCfg 0).probePct * (m.pch 0).vTarget : Nat) : Int)) ∧
    (let m := mp { vTarget := 800000, vOut := 16000 }
     (((m.preCfg 0).probePct * (m.pch 0).vTarget : Nat) : Int) ≤ 100 * (m.pch 0).vOut) := by decide +kernel

theorem wit_PrechargeFaultsStop :
    0 < (mp {}).pre.length ∧ (mp {}).up .pwi = true ∧ (mp {}).leads = true ∧ 3 < ((mp {}).pch 0).pwm.length ∧
    3 < ((mp {}).pch 0).legs.length ∧
    (let m := mp { state := 1, preEn := true, iSet := 400 }
     (m.pch 0).state = 1 ∧ (m.pch 0).preEn = true ∧ (m.pch 0).driven = true ∧ (m.pch 0).iSet = preFloor (m.preCfg 0) ∧
       10 * (m.preCfg 0).tProbe ≤ 10 * (m.preCfg 0).tProbe) ∧
    (let m := mp { state := 1, preEn := true, iSet := 401 }
     (m.pch 0).state = 1 ∧ (m.preCfg 0).tProbe < 10 * (m.preCfg 0).tProbe ∧ (m.pch 0).iSet ≠ preFloor (m.preCfg 0)) ∧
    (let m := mp { state := 4, fault := 1, shortCount := 1, before := some (1, 0, none, 0) }
     (m.pch 0).before = some (1, 0, none, 0) ∧ (m.pch 0).fault = 1) ∧
    (let m := mp { fastWin := List.replicate 15 0 }
     15 ≤ ((m.pch 0).fastWin.filter (fun x => m.time.now < x + 1000000)).length) ∧
    ((mp {}).pch 0).fastWin.length < 15 := by decide +kernel

theorem wit_PrechargeRegulation :
    ((mp {}).pch 0).switching = false ∧ ((mp {}).pch 0).state ≠ 4 ∧ ((mp {}).pch 0).driven = false ∧
    (let m := mp { state := 2, preEn := true, active := [0, 1], iSet := 20000 }
     (m.pch 0).driven = true ∧ 1 ∈ (m.pch 0).active ∧ 1 < (m.pch 0).pwm.length ∧ 1 < (m.pch 0).legs.length ∧
       1 < (m.pch 0).acc.length ∧ (m.pch 0).slotAt (m.preCfg 0) 1 = some 128 ∧ ((m.pch 0).leg 1).want = none ∧
       (m.pch 0).pwm.getD 1 (true, true) = (false, false) ∧ ((m.pch 0).leg 1).inCycle = false ∧
       (∀ x ∈ (m.pch 0).pwm, x ≠ (true, true)) ∧ (∀ l ∈ (m.pch 0).legs, l.want ≠ some (true, true)) ∧
       ((m.preCfg 0).i2tMax : Rat) < preAcc (m.preCfg 0) ((m.pch 0).acc.getD 1 0) 100000000) ∧
    (let m := mp { state := 2, preEn := true, active := [0, 1], iSet := 20000, legs := List.replicate 4 { inCycle := true }
                   pwm := List.replicate 4 (true, false) }
     (m.pch 0).driven = true ∧ ((m.pch 0).leg 1).inCycle = true ∧ ((m.pch 0).leg 1).off = false ∧
       ((m.pch 0).leg 1).late = false ∧ ((m.pch 0).leg 1).want = none ∧
       (m.pch 0).pwm.getD 1 (true, true) = (true, false) ∧
       (m.pch 0).share (m.preCfg 0) 1 + (preBand (m.preCfg 0) (m.pch 0) 1 : Rat) / 2 ≤ ((10100 : Int) : Rat) ∧
       ((0 : Int) : Rat) ≤ max 0 ((m.pch 0).share (m.preCfg 0) 1 - (preBand (m.preCfg 0) (m.pch 0) 1 : Rat) / 2)) ∧
    (let m := mp { state := 2, preEn := true, active := [1], legs := List.replicate 4 { want := some (false, true) } }
     ((m.pch 0).leg 1).want = some (false, true)) ∧
    (let m := mp { state := 2, vTarget := 800000 }
     m.leads = true ∧ m.preUsed 0 = true ∧ (m.pch 0).switching = true ∧ (m.pch 0).preEn = false ∧
     preSegment (m.preCfg 0) (m.pch 0).vTarget 799500 = 2 ∧ (m.pch 0).vTarget ≤ (799500 : Int) + (m.preCfg 0).doneBand ∧
     preSegment (m.preCfg 0) (m.pch 0).vTarget 0 = 1) ∧
    (let m := mp { state := 1, vTarget := 800000, vOut := 100 }
     (m.pch 0).recent = [] ∧ (m.pch 0).full.length < 7813 ∧ (m.pch 0).disabled = [] ∧
       preBelow (m.preCfg 0) (m.pch 0).vTarget (m.pch 0).vOut = true) ∧
    (let m := mp { state := 1, vTarget := 800000, vOut := 799500 }
     preBelow (m.preCfg 0) (m.pch 0).vTarget (m.pch 0).vOut = false ∧
       ((m.pch 0).vTarget : Int) - (m.preCfg 0).doneBand ≤ (m.pch 0).vOut) ∧
    (let m := mp { state := 2, vTarget := 800000, vOut := 20000 }
     (m.pch 0).vOut < ((m.pch 0).vTarget : Int) - (m.preCfg 0).doneBand ∧ (m.pch 0).state = 2) := by decide +kernel

/-- Switch channel `c` as given. -/
def ms (c : Nat) (x : SwCh) : Module := { m0 with sw := { m0.sw with chans := modAt (List.replicate 24 {}) c (fun _ => x) } }

theorem wit_SwitchAttemptsAndLatches :
    0 < (ms 0 { state := 1 }).sw.chans.length ∧ ((ms 0 { state := 1 }).swc 0).state = 1 ∧ ((ms 0 {}).swc 0).state ≠ 1 ∧
    (let m := ms 0 { state := 3, afterShort := true }
     (m.swc 0).state = 3 ∧ m.dipped 0 = false ∧ m.groupHot 0 = false ∧ (m.swc 0).afterShort = true) ∧
    (let m := ms 0 { state := 3, attempts := 7 }
     (m.swc 0).afterShort = false ∧ (m.swc 0).afterThermal = false ∧ (m.swCfg 0).load = .lamp ∧
       (m.swc 0).attempts < (m.swCfg 0).lampRetries) ∧
    (let m := ms 0 { state := 3, afterThermal := true, thermalOn := true }
     (m.swc 0).afterThermal = true ∧ (m.swc 0).thermalOn = true) ∧
    (let m := ms 0 { state := 3, afterThermal := true, attempts := 7 }
     (m.swc 0).thermalOn = false ∧ (m.swCfg 0).load = .lamp ∧ (m.swc 0).attempts < (m.swCfg 0).lampRetries) ∧
    (let m := ms 1 { state := 2 }
     (m.swc 1).state = 2 ∧ (m.swc 1).shortNow = 0 ∧ m.dipped 1 = false ∧ m.groupHot 1 = false) ∧
    ((ms 1 { state := 2, shortNow := 1 }).swc 1).shortNow ≠ 0 ∧
    (let m := ms 1 { state := 1 }
     (m.swc 1).state = 1 ∧ (m.swc 1).blankOver = false ∧ (m.swCfg 1).load ≠ .lamp) ∧
    (let m := ms 1 { state := 1, blankOver := true }
     (m.swc 1).state = 1 ∧ (m.swc 1).blankOver = true) ∧
    (let m := ms 2 { state := 1, driveDone := true }
     (m.swCfg 2).load = .coil ∧ (m.swc 2).driveDone = true) ∧
    ((ms 2 { state := 1 }).swc 2).driveDone = false ∧
    (let m := ms 0 { state := 1, attempts := 100 }
     (m.swc 0).state = 1 ∧ (m.swCfg 0).load = .lamp ∧ (m.swCfg 0).lampRetries ≤ (m.swc 0).attempts) ∧
    (let m := ms 1 { state := 4 }
     (m.swc 1).state = 4 ∧ (m.swc 1).dipPause = false) ∧
    ((ms 1 { state := 4, dipPause := true }).swc 1).dipPause = true := by decide

theorem wit_SwitchShedding : (ms 0 { state := 2 }).sw.chans.length = 24 ∧
    sumI ((List.range 24).map (fun n => ([16000] : List Int).getD n 0)) ≤ 16000 := by decide

theorem wit_SwitchSupplyAndPauses :
    1 < m0.sw.dip.length ∧ 5 < m0.sw.groupHot.length ∧
    (let m := ms 23 { state := 4, dipPause := true }
     m.sw.chans.length = 24 ∧ (m.swc 23).state = 4 ∧ (m.swc 23).dipPause = true ∧ m.groupHot 23 = false ∧
       (m.swc 23).dipWasOn = false ∧ (m.swc 23).ready = false ∧ m.dipped 23 = false) ∧
    (let m := ms 23 { state := 4, dipPause := true, dipWasOn := true }
     (m.swc 23).dipWasOn = true ∧ m.follows = false ∧ m.sup.outputsOff = false) ∧
    (let m := { ms 23 { commanded := true } with
        sw := { (ms 23 { commanded := true }).sw with powered := false, failsafe := List.replicate 23 SwFailsafe.off ++ [SwFailsafe.hold] } }
     m.sw.powered = false ∧ (m.swc 23).state = 0 ∧ (m.swc 23).commanded = true ∧ m.sw.failsafe.getD 23 .off = .hold ∧
       m.sw.failsafe.getD 0 .on = .off ∧ m.dipped 23 = false) ∧
    ((ms 23 { state := 5, cause := 1 }).swc 23).state = 5 ∧ (ms 23 {}).sw.powered = true ∧
    (ms 23 {}).sw.suspended = false ∧
    ({ m0 with sw := { m0.sw with suspended := true } } : Module).sw.suspended = true ∧ feedOf 23 ≠ feedOf 0 := by decide

theorem wit_SwitchRefreshAndTests :
    m0.swiServes = true ∧ m0.up .mgi = true ∧ m0.up .vsi = true ∧ m0.conf?.isSome = true ∧ m0.sup.slot ≠ .invalid ∧
    (let m := ms 1 { state := 2 }
     (m.swc 1).state = 2 ∧ (m.swCfg 1).openOnEn = true ∧ m.follows = false ∧ m.isPair = false) ∧
    (let m := ms 0 { offLast := 2, offRun := 2 }
     (m.swc 0).state = 0 ∧ (m.swCfg 0).openOffEn = true ∧ (m.swc 0).partnerOn = false ∧ (m.swc 0).offLast = 2 ∧
       2 ≤ (m.swc 0).offRun) ∧
    ((ms 0 { offLast := 3, offRun := 2 }).swc 0).offLast = 3 ∧
    (let m := { ms 0 {} with sw := { (ms 0 {}).sw with image := true :: List.replicate 23 false } }
     m.sw.image.getD 0 false = true ∧ (m.swCfg 0).load ≠ .unused ∧ m.sup.outputsOff = false ∧ m.dipped 0 = false ∧
       m.groupHot 0 = false ∧ m.sw.image.getD 1 true = false) ∧
    (let m := { mB with sw := (ms 0 { commanded := true }).sw }
     m.follows = true ∧ m.swiServes = true ∧ (m.swc 0).state = 0 ∧ (m.swc 0).commanded = true ∧
       (m.swCfg 0).load ≠ .unused ∧ m.sup.outputsOff = false ∧ m.dipped 0 = false) := by decide

theorem wit_SupplyConditionsAndLines : m0.runs = true ∧ (9500 : Int) < 9501 ∧ (8999 : Int) < 9000 ∧
    ({ m0 with sup := { m0.sup with lever := .seated } } : Module).sup.lever ≠ .locked ∧ m0.cal.capWait = [] ∧
    m0.up .mgi = true ∧ ({ m0 with isl := List.replicate 9 {} } : Module).up .mgi = false ∧
    (let m := { m0 with cal := { capWait := [1] } }
     1 ∈ m.cal.capWait ∧ m.capReady 1 = true) := by decide

theorem wit_PowerUpAndFail : m0.sup.phase ≠ .off ∧ State.reset.m.sup.phase = .off ∧ State.reset.cara.state = .off ∧
    c0.state ≠ .off := by decide

theorem wit_LeverMovesPermit : m0.sup.lever = .locked ∧ State.reset.m.sup.lever ≠ .locked ∧ State.reset.m.runs = false ∧
    m0.runs = true ∧ m0.leads = true ∧ m0.isPair = false ∧
    (mA.runs = true ∧ mA.leads = true ∧ mA.isPair = true ∧ mA.partnerReady = true) ∧
    ({ mA with pair := { mA.pair with equalRun := 0 } } : Module).partnerReady = false ∧
    (let m := { m0 with pair := {} }
     m.runs = true ∧ m.leads = false ∧ m.isPair = false) ∧
    (let m := { mA with pair := {} }
     m.runs = true ∧ m.follows = false ∧ m.leads = false ∧ m.isPair = true) ∧
    (let m := { mB with pair := { mB.pair with role := .syncing } }
     m.runs = true ∧ m.pair.role = .syncing ∧ m.isPair = true ∧ m.servesSplit = true) ∧
    (let m := { mB with pair := { mB.pair with role := .syncing }, rings := [(0, { part := { north := 2, south := 3 } })] }
     m.pair.role = .syncing ∧ m.servesSplit = false) ∧
    (mB.runs = true ∧ mB.pair.role = .ready ∧ mB.isPair = true) ∧
    (let m := { m0 with sup := { m0.sup with parked := true } }
     m.runs = true ∧ m.sup.parked = true ∧ m.sup.lever = .locked) ∧
    (m0.pair.role ≠ .parked ∧ m0.sup.parked = false) ∧
    (let m := { m0 with sup := { m0.sup with parking := true } }
     m.runs = true ∧ m.sup.parking = true) := by decide

theorem wit_IslandResetAlone : m0.runs = true ∧ m0.isl.length = 9 ∧ m0.up .swi = true ∧ m0.up .pri = true ∧
    c0.state ≠ .off ∧
    (let m := { m0 with isl := List.replicate 9 {} }
     m.up .pwi = false ∧ m.up .mgi = false ∧ m.isl.length = 9) ∧
    (let m := { mA with isl := {} :: List.replicate 8 { up := true } }
     m.runs = true ∧ m.isPair = true ∧ m.leads = true ∧ m.up .mgi = false) := by decide

/-- The time unit as given. -/
def mt (t : TimeUnit) : Module := { m0 with time := t }

theorem wit_TimePulsesAndStates : m0.runs = true ∧ m0.isl.length = 9 ∧ m0.up .swi = true ∧ m0.up .mgi = true ∧
    (let x : IslandSt := { nextPulse := 2000000, counter := 1000000 }
     x.nextPulse = 2000000 ∧ x.counter ≠ 0 ∧ x.counter < 2000000 ∧ (1000001 : Nat) ≠ 0) ∧
    (let u : TimeUnit := { state := .locked, now := 5000000000, slew := 25 }
     u.state = .locked ∧ u.pps.ppsOut = true ∧ secondOf ((u.now : Int) + u.offset) ≠ u.ppsEdge ∧
       ((u.now : Int) + u.offset).toNat % 1000000000 < 100000000) ∧
    (let u : TimeUnit := { state := .freerun, slew := 25 }
     u.state = .freerun ∧ u.frac = 0) ∧
    (mt { state := .freerun }).time.state ≠ .unset ∧ (mt { state := .freerun }).time.state ≠ .locked ∧
    (mt {}).time.state = .unset ∧ (mt {}).sweep.running = true ∧
    ({ mt {} with sweep := {} } : Module).sweep.running = false ∧
    (let m := mt { state := .locked, now := 3600000000000 }
     m.time.ptpPort = none ∧ m.follows = false ∧ m.time.state = .locked ∧
       m.time.lockedAt + 3600000000000 ≤ m.time.now) ∧
    (let m := mt { state := .locked }
     m.time.now < m.time.lockedAt + 3600000000000) ∧
    (let m := mt { ptpPort := some 1, masters := [some 7, none] }
     m.ppsSource = false ∧ m.time.ptpPort = some 1 ∧ m.time.masters.getD (1 - 1) none = some 7) ∧
    (mt { state := .holdover }).time.state = .holdover ∧ mB.follows = true ∧ mB.runs = true ∧ mB.up .mgi = true ∧
    1 ≠ m0.cfg.sweep.ptpDomain ∧
    (let m := mt { state := .locked, ptpPort := some 1 }
     m.time.ptpPort = some 1 ∧ m.follows = false ∧ m.cfg.sweep.timeSource ≠ .ppsHost ∧ (1000000 : Int).natAbs ≤ 1000000 ∧
       1000000 < (-1000001 : Int).natAbs ∧ m.sweep.running = true ∧ m.cfg.sweep.ptpAsymmetry.getD 1 0 = 0) ∧
    (let m := { mB with time := { ptpPort := some 0 } }
     m.follows = true ∧ m.time.ptpPort = some 0 ∧ (-1000 : Int).natAbs ≤ 1000) ∧
    ({ m0 with sets := { active := { state := 6, content := some { cfg0 with sweep := { ptpMaster := true } } } } } :
      Module).cfg.sweep.ptpMaster = true ∧
    (let m := { mt { state := .freerun, todKnown := true } with
        sets := { active := { state := 6, content := some { cfg0 with sweep := { timeSource := .ppsHost } } } } }
     m.ppsSource = true ∧ m.time.tod = none ∧ m.time.state ≠ .unset ∧ m.follows = false) ∧
    (let m := { mt { tod := some (1700000000, 5), now := 10000005 } with
        sets := { active := { state := 6, content := some { cfg0 with sweep := { timeSource := .ppsHost } } } } }
     m.ppsSource = true ∧ m.time.tod = some (1700000000, 5) ∧ 5 + 10000000 ≤ m.time.now ∧ m.sweep.running = true ∧
       1000000 < ((1700000000 * 1000000000 : Nat) - ((m.time.now : Int) + m.time.offset)).natAbs) := by decide +kernel

theorem wit_RingEndsAndHops : mA.isPair = true ∧ m0.isPair = false ∧ mA.sup.slot = .a ∧ mB.sup.slot = .b ∧
    m0.sup.slot = .single ∧ m0.ownPort 15 true = some 31 ∧ mA.ownPort 31 false = some 31 ∧ 2 ≤ m0.cfg.ringW 0 := by decide

theorem wit_ToneNeedsTwoWindows : windowClass true false false = none ∧ windowClass true true false = some .tone ∧
    c0.tones.length = 32 ∧ c0.toneWins.length = 32 ∧ m0.ports.length = 32 ∧ c0.state ≠ .off ∧ m0.rgiUp = true ∧
    m0.portOn 31 = true ∧ (m0.port 31).up = true ∧ State.reset.m.portOn 31 = false ∧
    0 < (m0.port 31).counters.length ∧ (m0.port 31).counters.getD 0 0 ≤ 65535 := by decide

theorem wit_RingFramesAtPorts : State.reset.m.portOn 0 = false ∧ m0.rgiUp = true ∧ m0.portOn 0 = true ∧
    ({} : RingReply).hopCnt = (({} : RingReply).hop + 255) % 256 ∧ ({} : RingReply).hopCntN = 255 - ({} : RingReply).hopCnt ∧
    ({} : RingReply).crcOk = true ∧ ({} : NoticeFrame).hopCntN = 255 - ({} : NoticeFrame).hopCnt ∧
    ({ hopCntN := 7 } : NoticeFrame).hopCntN ≠ 255 - ({ hopCntN := 7 } : NoticeFrame).hopCnt ∧ (m0.port 0).up = true ∧
    ({ hopCnt := 1 } : RingReply).hopCnt ≠ (({ hopCnt := 1 } : RingReply).hop + 255) % 256 ∧ ({} : RingReply).status = 0 ∧
    ({ crcOk := false } : NoticeFrame).crcOk = false ∧
    (let m := { m0 with ports := List.replicate 32 { enabled := true }, rings := [(0, { trained := true })] }
     (m.port 0).up = false ∧ (m.ring (m.endOfPort 0).1).trained = true ∧ m.portOn 0 = true) := by decide

/-- Ring 0 and worker (0, 1) as given. -/
def mr (r : RingSt) (w : WorkerSt) : Module := { m0 with rings := [(0, r)], workers := [((0, 1), w)] }

theorem wit_CountedCommands : m0.acts = true ∧ m0.rgiUp = true ∧
    (let m := mr { part := { north := 2, south := 3 } } {}
     (m.wk (0, 1)).outst = none ∧ m.endOf (0, 1) = some (false, 1)) ∧
    (let m := mr {} { outst := some { sends := 3 } }
     (m.wk (0, 1)).outst = some { sends := 3 } ∧ ({ sends := 3 } : Outst).reading = false) ∧
    (let m := mr {} { queries := [{}] }
     (m.wk (0, 1)).outst = none ∧ (m.wk (0, 1)).queries = {} :: []) := by decide

theorem wit_ProbesRejoinQuarantine : m0.rgiUp = true ∧ m0.portOn 1 = true ∧
    (mA.isPair = true ∧ 32 ≤ 40 ∧ 1 ≤ mA.cfg.ringW (mA.endOfPort 32).1) ∧
    (mr { segs := [(1, { quarantined := true, eligible := true })] } {}).seg 0 1 = { quarantined := true, eligible := true } ∧
    2 ≤ m0.cfg.ringW (m0.endOfPort 1).1 ∧
    m0.segDown 0 1 = false ∧
    (let m := mr { turnN := [1] } {}
     m.acts = true ∧ m.segDown 0 1 = true ∧ (m.ring 0).rejoin = none ∧ (m.seg 0 1).quarantined = false ∧
       (m.seg 0 1).unstable = false ∧ m.partnerEndOk 0 1 = true) ∧
    (let m := mr { rejoin := some { segment := 1, phase := 2 } } {}
     (m.ring 0).rejoin = some { segment := 1, phase := 2 }) ∧
    ((mr { segs := [(1, { quarantined := true })] } {}).seg 0 1).quarantined = true := by decide

/-- A syncing follower with resynchronisation as given. -/
def mS (r : Resync) : Module := { mB with pair := { mB.pair with role := .syncing, resync := r } }

theorem wit_PairFramesHeard : mA.pairServes = true ∧ m0.pairServes = false ∧ mA.leads = true ∧ mB.follows = true ∧
    mA.up .rgi = true ∧ mA.holds cEjectRefused scModule 0 = false ∧ mA.pair.digests = [] ∧ mB.pairServes = true ∧
    mA.follows = false ∧ ({ role := .leader } : PairHdr).role = .leader ∧ ({ role := .ready } : PairHdr).role ≠ .leader := by
  decide

theorem wit_FollowerTakesFrames : m0.pairServes = false ∧
    (let m := { mB with time := { state := .locked } }
     m.pairServes = true ∧ m.follows = true ∧ m.time.state = .locked ∧ (-1000000 : Int).natAbs ≤ 1000000 ∧
       m.up .mgi = true) ∧
    (let m := { mB with sweep := { mB.sweep with prov := some { sweep := 4 } } }
     let n := m.heardPair { role := .leader, sweep := 5 }
     n.sweep.prov = some { sweep := 4 } ∧ sameManifest { sweep := 4 } { sweep := 4 } = true ∧
       sameManifest { sweep := 4 } { sweep := 4, used := [(0, 1)] } = false ∧ m.pair.gen = 0) ∧
    (let n := mB.heardPair { role := .leader, sweep := 5 }
     n.sweep.prov = none ∧ n.readoutOpen 4 = true) ∧
    (let m := { mB with sweep := { mB.sweep with manifests := [{ sweep := 4 }] } }
     (m.heardPair { role := .leader, sweep := 5 }).readoutOpen 4 = false) ∧
    ({} : Inst).step = none ∧ cfg0.seq.steps.head? = some (0, { kind := 6, timeout := 5, success := 1, failure := 2 }) ∧
    (let c := { cfg0 with pairDomain := true, seq := { cfg0.seq with steps := [(0, { kind := 0xF })] } }
     let m := { mB with sets := { active := { state := 6, content := some c } } }
     let n := m.heardPair { role := .leader, sweep := 5 }
     ((n.partnerWorks.takeStep 5 (.str 0) { step := some 0 }).seqOf (.str 0)).steps = [(0, { kind := 0xF })]) ∧
    3 < mB.pre.length ∧ mB.up .rgi = true ∧ (mB.port 0).up = true ∧ mB.up .mgi = true ∧
    (mB.heardPair { role := .leader, sweep := 5 }).jou.queue.length < 65536 ∧
    (∀ c ∈ [eAlertClear, eJournalAck, eStateChange, eCommand, eRingRejoined, eDormant], eAlertMask ≠ c ∧ 0x7F ≠ c) ∧
    mA.leads = true ∧ mA.pairServes = true ∧ ({ code := 0x7F } : JRec).code < 0x80 ∧
    0x80 ≤ ({ code := eCommand } : JRec).code ∧ ({} : PairHdr).role ≠ .leader := by
  decide

theorem wit_PairResynchronisation :
    (let m := mS { requested := true }
     m.pairServes = true ∧ m.pair.role = .syncing ∧ m.pair.resync.requested = true ∧ (m.pair.resync.count 1).lost ≠ [] ∧
       (m.pair.resync.count 0).lost = [] ∧ (m.pair.resync.count 0).next < imageCount) ∧
    mB.pair.role ≠ .syncing ∧ ({} : Resync).next = 0 ∧ ({} : Resync).lost = [] ∧ ({} : Resync).next ≤ 2 ∧ (2 < 3) ∧
    mA.leads = true ∧ mA.pairServes = true ∧ mB.leads = false ∧ mA.sharedGen 1 = some 0 ∧ mA.sharedGen 2 = none ∧
    ({ mA with pair := { mA.pair with snap := some {} } } : Module).pair.snap = some {} ∧ ([4] : List Nat) ≠ [] ∧
    (let m := { mB with pair := { mB.pair with setWanted := true } }
     m.follows = true ∧ m.pairServes = true ∧ m.pair.setWanted = true) ∧
    (let held := takeChunk [(0, [0, 0, 0, 0, 0, 0, 0, 0, 13, 0, 0, 0])] 12 [0]
     setSize? held = some (bytesHeld held)) ∧
    setSize? (takeChunk mB.sets.pending.blocks 0 [1]) ≠ some (bytesHeld (takeChunk mB.sets.pending.blocks 0 [1])) ∧
    (mS { failed := true }).follows = true ∧ (mS { failed := true }).pair.resync.failed = true ∧
    (mS {}).pair.resync.failed = false := by decide

theorem wit_LeadershipMoves :
    mA.takeLead.pair.role = .leader ∧ mA.sup.slot = .a ∧
    (let m := { mB with pair := { mB.pair with depart := some 3, tokenLow := false } }
     m.mayTakeOver = true ∧ m.pairServes = true ∧ m.sup.slot = .b) ∧
    (let m := { mB with pair := { mB.pair with silent := true, noGeyser := true }, time := { now := 1000000000000000 } }
     m.mayTakeOver = true) ∧
    mA.mayTakeOver = false ∧ mA.sup.parking = false ∧ mA.pairServes = true ∧ mB.pairServes = true ∧
    mB.pair.role = .ready ∧ mB.sup.lever = .locked ∧ 2 ≤ mB.pair.equalRun ∧ mB.pair.depart = none ∧
    (mB.heardPair {}).activatesAt 9 = false ∧ (mS {}).pair.role = .syncing ∧
    ({ mB with pair := { mB.pair with equalRun := 1 } } : Module).pair.equalRun < 2 ∧
    ({ mA with pair := { mA.pair with offered := some 9 } } : Module).pair.offered = some 9 ∧
    (let m := { mA with pair := { mA.pair with accepted := some 5 } }
     m.pair.accepted = some 5 ∧ m.handoverDue 5 = true ∧ m.handoverDue 6 = false ∧ m.pair.partnerRole = some .ready ∧
       m.pair.keep.leverLocked = true ∧ m.leads = true) ∧
    (let m := { mA with pair := { mA.pair with accepted := some 5, partnerRole := some .syncing } }
     m.handoverDue 5 = true ∧ m.pair.partnerRole ≠ some .ready) ∧
    (let m := { mA with pair := { mA.pair with offered := some 5 } }
     m.pair.accepted = none ∧ m.pair.offered = some 5 ∧ m.handoverDue 5 = true) ∧
    (let m := { mA with pair := { mA.pair with takeover := true }, time := { now := 1000000 } }
     m.pair.accepted = none ∧ m.pair.offered = none ∧ m.pair.takeover = true ∧ m.pair.takeAt + 1000000 ≤ m.time.now) ∧
    mA.pair.accepted = none ∧ mA.pair.offered = none ∧ mA.pair.takeover = false ∧
    (let m := { mA with pair := { mB.pair with accepted := some 5 } }
     m.pair.role = .ready ∧ m.handoverDue 5 = true ∧ m.sup.lever = .locked ∧ m.sup.slot = .a) ∧
    (let m := { mB with pair := { mB.pair with accepted := some 5 } }
     m.handoverDue 5 = true ∧ m.wireMine = true ∧ m.pair.silent = false) ∧
    (let m := { mB with sup := { mB.sup with parking := true } }
     m.follows = true ∧ m.sup.parking = true ∧ m.sup.outputsOff = false ∧ m.pair.accepted = none) := by decide +kernel

theorem wit_LeadershipMoves_token :
    mA.dorm.phase ≠ .dormant ∧ ({ mA with dorm := { phase := .dormant } } : Module).dorm.phase = .dormant ∧
    mA.leads = true ∧ mA.pair.resync.requested = false ∧ mB.follows = true ∧ ([3] : List Nat) ≠ [] ∧
    ({ mB with pair := { mB.pair with silent := true } } : Module).pair.silent = true ∧
    mB.pair.role ≠ .none_ ∧ mB.leads = false ∧
    (let m := { mB with pair := { role := .leader } }
     m.sup.slot = .b ∧ m.leads = true ∧ m.pair.accepted = none ∧ m.pairServes = true) ∧
    (let m := { mB with pair := { role := .leader, accepted := some 5 } }
     m.sup.slot = .b ∧ m.leads = true ∧ m.pair.accepted = some 5) ∧
    mA.sup.slot = .a ∧ mA.pair.driving = true ∧ mB.pair.driving = false ∧
    (let m := { mA with pair := { mA.pair with holdRun := true }, isl := modAt mA.isl 3 (fun _ => {}) }
     m.sup.slot = .a ∧ m.leads = true ∧ m.pair.holdRun = true ∧ m.up .vsi = false ∧ m.pairServes = true) ∧
    mA.up .vsi = true ∧ mA.pair.holdRun = false ∧
    (let m := { mA with pair := {} }
     m.pair.role = .none_ ∧ m.pair.silent = true ∧ m.pairServes = true) := by decide

theorem wit_GeyserAdvancesSweep : m0.schedules = true ∧ mB.schedules = false ∧ m0.est.due = false ∧ m0.up .rgi = true ∧
    0 ∈ m0.cfg.rings ∧ (true, 2) ∈ m0.servingEnds 0 ∧
    (let m := { m0 with sweep := { m0.sweep with tj := 1 }, est := { due := true } }
     m.schedules = true ∧ m.sweep.tj ≠ 0 ∧ m.est.due = true) ∧ m0.calOk = true ∧
    (let m := { m0 with sweep := { m0.sweep with j := 4294967295 } }
     m.schedules = true ∧ 10000 ≤ sweepDiff ((10000 : Nat) % 4294967296) m0.sweep.mirror) := by decide

theorem wit_SweepFramesAndHeartbeats : m0.schedules = true ∧ m0.up .rgi = true ∧ m0.runs = true ∧ m0.acts = true ∧
    m0.up .vsi = true ∧ m0.conf? ≠ none ∧ m0.dorm.phase ≠ .dormant ∧ mB.schedules = false ∧ mB.acts = false ∧
    m0.readoutOpen m0.lastSweep = true ∧ 0 ∈ m0.cfg.rings ∧ (true, 2) ∈ m0.servingEnds 0 ∧
    (let m := { m0 with sweep := { m0.sweep with manifests := [{ sweep := 3 }] } }
     m.readoutOpen m.lastSweep = false) := by decide

theorem wit_ManifestsFixSlots : m0.schedules = true ∧ m0.sweep.owed = [] ∧ m0.readoutOpen m0.lastSweep = true ∧
    (let m := { m0 with sweep := { m0.sweep with manifests := [{ sweep := 3 }] } }
     m.schedules = true ∧ m.sweep.owed = [] ∧ m.readoutOpen m.lastSweep = false) ∧
    mA.schedules = true ∧ mA.isPair = true ∧ ((0, 1) : Wk) ∈ ({ used := [(0, 1)] } : Manifest).used ∧
    ((0, 2) : Wk) ∉ ({ used := [(0, 1)] } : Manifest).used ∧
    3 ≤ bump8 ((mr {} { age := 2 }).wk (0, 1)).age ∧
    (let m := { mB with sweep := { j := 4, accepted := [(3, [((0, 1), {})])] } }
     m.runs = true ∧ m.up .rgi = true ∧ m.pair.role = .ready ∧ m.readoutOpen m.lastSweep = true ∧ m.sweep.prov = none ∧
       look [] m.sweep.accepted m.lastSweep ≠ []) ∧ mA.pair.role ≠ .ready := by decide

theorem wit_BoundaryFixesPartitionAndTime : m0.runs = true ∧ m0.conf? ≠ none ∧ State.reset.m.runs = false ∧
    m0.time.pendingStep = none ∧ (mt { pendingStep := some (-5) }).time.pendingStep = some (-5) ∧
    (mt { pendingStep := some (-5) }).time.lockWanted = false ∧
    (mt { pendingStep := some 7, lockWanted := true }).time.lockWanted = true := by decide

theorem wit_EstimatesAndBursts :
    (let m := { m0 with sweep := { m0.sweep with manifests := [{ sweep := 600 }] } }
     m.estimates = true ∧ m.nextManifest = some { sweep := 600 } ∧ minuteSweep (m.periodOf 600) 600 = true) ∧
    m0.nextManifest = none ∧ State.reset.m.estimates = false ∧ m0.runs = true ∧ m0.up .rgi = true ∧
    (m0.burst 0).active = none ∧
    (({ m0 with bursts := [(0, { active := some {} })] } : Module).burst 0).active = some {} := by decide

theorem wit_CalderaRounds :
    (let m := { m0 with cal := { charge := { due := true }, impDue := true, capWait := [1] } }
     m.mayMirror = true ∧ m.cal.charge.due = true ∧ m.cal.impDue = true ∧ m.runs = true ∧ m.up .mgi = true ∧
       m.calOk = true ∧ m.cal.capWait.find? m.capReady = some 1) ∧
    (let m := { m0 with
        cal := { charge := { round := some 0 }, impRound := some 0 }, est := { m0.est with cells := [(1, { firstEst := .none_ })] } }
     m.cal.charge.round = some 0 ∧ m.calOk = true ∧ m.cal.charge.stopped = false ∧ m.mayMirror = true ∧
       m.cal.impRound = some 0 ∧ m.cal.impStopped = false ∧ m.chargeWords.length ≤ 0 + wordsPerMs ∧
       m.cfg.channels.length ≤ 0 + wordsPerMs ∧ (0, 1) ∈ (m.chargeWords.drop 0).take wordsPerMs ∧
       waiting (m.cell 1) = false ∧ (1, 0) ∈ (m.chargeWords.drop 0).take wordsPerMs) ∧
    (let m := { m0 with sets := { active := { m0.sets.active with
        content := some { cfg0 with channels := (List.range 12).map (fun i => (i, { position := i })) } } } }
     0 + wordsPerMs < m.chargeWords.length) ∧
    m0.cal.charge.due = false ∧ m0.cal.impDue = false ∧ m0.cal.capWait.find? m0.capReady = none ∧
    ({ m0 with sup := { m0.sup with writeStop := true } } : Module).calOk = false := by decide

/-- A row of domain scope on PCS_LINK_AGE that is always active. -/
def mF : Module := { m0 with sets := { active := { m0.sets.active with
  content := some { cfg0 with rules := [(0, { scope := 4, signal := 0x42, cond := 0, thrA := -1, alert := 200, punit := 1 })] } } } }

theorem wit_VerdictStagesAndStickyBits :
    (let m := { m0 with sweep := { m0.sweep with estimated := some 4, verdicts := some 3 } }
     m.judges = true ∧ m.sweep.estimated = some 4 ∧ m.sweep.verdicts ≠ some 4) ∧
    (let m := { m0 with sweep := { m0.sweep with estimated := some 4, verdicts := some 4 } }
     m.sweep.estimated = some 4 ∧ m.sweep.verdicts = some 4) ∧
    m0.judges = true ∧ m0.sweep.estimated = none ∧ m0.acts = true ∧ State.reset.m.judges = false ∧ mB.acts = false ∧
    m0.evalFast.driveTrip.fastActive = m0.fastActive ∧ mF.judges = true ∧ mF.acts = true ∧
    mF.evalFast.driveTrip.fastActive ≠ mF.fastActive := by
  decide +kernel

/-- String 0 and bay 0 in the instances given. -/
def mi (i b : Inst) : Module := { m0 with scarab := { strs := [(0, i)], bays := [(0, b)] } }

theorem wit_ScarabStepsAdvance :
    (let m := mi { step := some 0, issued := true } {}
     m.scarabOn = true ∧ m.hasInst (.str 0) = true ∧ m.hasInst (.bay 0) = true ∧ (m.inst (.str 0)).step = some 0 ∧
       m.standing (.str 0) = some (look {} cfg0.seq.steps 0) ∧ (look {} cfg0.seq.steps 0).kind = 6 ∧
       (look {} cfg0.seq.steps 0).timeout ≠ 0 ∧ (m.inst (.str 0)).illegal ≠ 2 ∧ m.standing (.bay 0) = none) ∧
    (let m := mi { step := some 2, issued := true } {}
     m.standing (.str 0) = some (look {} cfg0.seq.steps 2) ∧ (look {} cfg0.seq.steps 2).kind ≠ 6) ∧
    ((mi { illegal := 2 } {}).inst (.str 0)).illegal = 2 := by decide

theorem wit_ScarabTimedEvents :
    (let m := mi { illegal := 2 } {}
     m.hasInst (.str 0) = true ∧ m.waitsDzs (.str 0) = true ∧ m.scarabOn = true) ∧
    (mi {} {}).waitsDzs (.str 0) = false ∧
    (let m := mi { state := 2, step := some 0 } {}
     (m.sInst 0).state = 2 ∧ m.cfg.seq.insertWaitMax ≠ 0 ∧ (m.sInst 0).step = some 0) ∧
    ((mi {} {}).sInst 0).state ≠ 2 ∧
    (let m := mi { state := 7, faults := [1, 2] } {}
     (m.sInst 0).state = 7 ∧ (m.sInst 0).step = none ∧ (m.sInst 0).faults.length < m.cfg.seq.faultLimit) ∧
    (let m := mi { state := 7, faults := [1, 2, 3] } {}
     m.cfg.seq.faultLimit ≤ (m.sInst 0).faults.length) ∧
    (let m := mi {} { state := 3 }
     m.hasInst (.bay 0) = true ∧ (m.bInst 0).state = 3 ∧ m.included 0 = []) ∧
    (mi { state := 4 } { state := 3 }).included 0 ≠ [] ∧ m0.swiServes = true ∧ State.reset.m.swiServes = false ∧
    ((mp { answer := some true }).pch 0).answer = some true ∧ ((mp {}).pch 0).answer = none ∧ m0.scarabOn = true := by decide

theorem wit_TemplatesStartAtEntry : m0.cfg.seq.strEntry.getD 2 0xFFFF = 0 ∧ m0.cfg.seq.strEntry.getD 16 0xFFFF = 0xFFFF ∧
    m0.cfg.seq.bayEntry.getD 15 0xFFFF ≠ 0xFFFF := by decide

/-- Dormancy as given. -/
def md (p : DormPhase) : Module := { m0 with dorm := { phase := p, wakeTag := 77 } }

theorem wit_WakeSources : (md .dormant).runs = true ∧ (md .dormant).dorm.phase = .dormant ∧
    (md .entering).dorm.phase = .entering ∧ (md .waking).dorm.phase = .waking ∧ m0.dorm.phase = .awake ∧
    m0.dorm.survey = false ∧ (md .dormant).portOn 31 = true ∧ (md .dormant).portOn 32 = false ∧
    (md .dormant).cfg.dorm.surveyH ≠ 0 ∧
    ({ mA with dorm := { phase := .dormant } } : Module).isPair = true ∧ 2 ≠ (md .dormant).sup.serial ∧
    77 = (md .dormant).dorm.wakeTag ∧
    (let m := { md .entering with jou := { m0.jou with queue := [(false, { code := eDormant })] } }
     m.dorm.phase = .entering ∧ m.entryWaits = true) ∧
    (let m := md .entering
     m.entryWaits = false ∧ m.dorm.ringsEntered = [] ∧ m.cfg.rings ≠ [] ∧ m.acts = true ∧ 0 ∈ m.cfg.rings ∧
       (true, 2) ∈ m.servingEnds 0) ∧
    (let m := { m0 with dorm := { phase := .entering, ringsEntered := [0] } }
     m.entryWaits = false ∧ m.dorm.ringsEntered ≠ []) := by decide

/-! ## Hypotheses of the statements on DCP requests -/

/-- A module in SERVICE. -/
def mv : Module := { m0 with dcp := { m0.dcp with service := true } }

/-- Session 5 before its confirmation, and a module that has opened it. -/
def x1 : Session := { x0 with confirmed := false }
def m1 : Module := { m0 with dcp := { m0.dcp with sessions := [x1] } }

/-- Session 5 serves a request of each opcode, in the domain state the opcode needs. -/
theorem wit_Served :
    (∀ p ∈ ([(0x0003, 56), (0x0004, 0), (0x0005, 1408), (0x0010, 0), (0x0011, 0), (0x0012, 36), (0x0013, 8), (0x0100, 0),
        (0x0101, 0), (0x0103, 16), (0x0104, 4), (0x0201, 8), (0x0202, 8), (0x0203, 8), (0x0204, 8), (0x0205, 8),
        (0x0206, 8), (0x0207, 8), (0x0208, 8), (0x0209, 8), (0x020A, 8), (0x020B, 8), (0x020C, 8), (0x020D, 8), (0x020E, 8),
        (0x020F, 16), (0x0210, 2), (0x0220, 16), (0x0221, 2), (0x0222, 0)] : List (Nat × Nat)),
      Served m0 x0 (rq p.2) p.1 p.2) := by unfold Served; decide

theorem wit_Served_settings :
    (∀ p ∈ ([(0x0300, 0), (0x0301, 16), (0x0302, 1036), (0x0303, 0), (0x0304, 4), (0x0305, 4), (0x0306, 0), (0x0307, 12),
        (0x0400, 4), (0x0401, 4), (0x0402, 4), (0x0403, 4), (0x0404, 4), (0x0410, 4), (0x0411, 4), (0x0412, 4), (0x0413, 4),
        (0x0420, 8), (0x0430, 4), (0x0431, 4), (0x0440, 4)] : List (Nat × Nat)),
      Served m0 x0 (rq p.2) p.1 p.2) := by unfold Served; decide

theorem wit_Served_service :
    (∀ p ∈ ([(0x0500, 0), (0x0501, 12), (0x0502, 8), (0x0510, 0),
        (0x0511, 32), (0x0512, 32), (0x0600, 0), (0x0601, 8), (0x0602, 1036), (0x0603, 0), (0x0604, 8), (0x0605, 0),
        (0x0606, 96), (0x0700, 4), (0x0701, 4), (0x0702, 4), (0x0703, 4), (0x0704, 4), (0x0705, 4), (0x0706, 8),
        (0x0708, 0), (0x0900, 0), (0x0901, 8)] : List (Nat × Nat)),
      Served m0 x0 (rq p.2) p.1 p.2) := by unfold Served; decide

theorem wit_Served_pair :
    (∀ p ∈ ([(0x0800, 0), (0x0801, 0), (0x0802, 0), (0x0803, 0)] : List (Nat × Nat)), Served mA x0 (rq p.2) p.1 p.2) := by
  unfold Served; decide

theorem wit_Served_resync : Served mB x0 (rq 0) 0x0803 0 ∧ Served m1 x1 (rq 0) 0x0002 0 := by unfold Served; decide

theorem wit_Served_inService : Served mv x0 (rq 0) 0x0102 0 ∧ Served mv x0 (rq 1) 0x0707 1 := by unfold Served; decide

theorem wit_DcpRequestOrder :
    State.reset.m.dcpUp = false ∧ State.reset.m.sup.phase ≠ .on ∧ m0.dcpUp = true ∧ m0.session? 6 = none ∧
    m0.thisSecond < 2000 ∧ 2000 ≤ ({ m0 with dcp := { m0.dcp with rateN := 2000 } } : Module).thisSecond ∧
    m0.session? (rq 0).session = some x0 ∧ (rq 0).unauth = false ∧ (rq 0).macOk = true ∧
    ({ rq 0 with unauth := true } : DcpReq).unauth = true ∧ ({ rq 0 with macOk := false } : DcpReq).macOk = false ∧
    x0.confirmed = true ∧ x0.replaces = none ∧ ({ x0 with confirmed := false } : Session).confirmed = false ∧
    m0.waitingOf 5 < 16 ∧
    16 ≤ ({ m0 with dcp := { m0.dcp with pend := List.replicate 16 { session := 5 } } } : Module).waitingOf 5 ∧
    isNew x0 (rq 0).seq = true ∧ isNew { x0 with hi := 1, statuses := [(1, 0)] } (rq 0).seq = false ∧
    (rq 0).seq < 0x80000000 ∧ isNew x0 0x80000000 = true ∧ 0x0006 ∉ definedOps ∧ 0x0100 ∈ definedOps ∧
    ({ x0 with privilege := 0 } : Session).privilege < opPriv 0x0301 ∧ opPriv 0x0301 ≤ x0.privilege ∧
    mB.roleRejects 0x0301 = true ∧ m0.roleRejects 0x0301 = false ∧ m0.stateAccepts 0x0102 = false ∧
    mv.stateAccepts 0x0102 = true := by decide

theorem wit_SessionsOpenAndClose :
    (rq 56).len = 56 ∧ m0.key? 9 = some { key := 1, keyId := 9, privilege := 2 } ∧ m0.sessionsFull = false ∧
    ({ unauth := true, len := 56 } : DcpReq).session = 0 ∧ m0.dcp.sessions.length < 32 ∧ m0.dcpUp = true ∧
    m0.thisSecond < 2000 ∧ m0.key? 4 = none ∧
    ({ m0 with dcp := { m0.dcp with sessions := List.replicate 32 x0 } } : Module).sessionsFull = true ∧
    m0.session? 6 = none ∧ m1.session? 5 = some x1 ∧ x1.confirmed = false ∧ x0.confirmed = true ∧
    2000 ≤ ({ m0 with dcp := { m0.dcp with rateN := 2000 } } : Module).thisSecond ∧
    m0.session? 5 = some x0 ∧ m0.dcpHears = true ∧ ({ size := 35 } : BadDatagram).fragmented = false ∧
    ({ size := 35 } : BadDatagram).size < 36 ∧
    (let d : BadDatagram := { size := 36, version := 2 }
     36 ≤ d.size ∧ d.magicOk = true ∧ d.lengthField ≤ 1408 ∧ d.size = 36 + d.lengthField ∧ d.version ≠ 1) := by decide

theorem wit_IdentityAndHostKeys :
    (let m := { m0 with dcp := { m0.dcp with keys := [], sessions := [] } }
     m.dcpUp = true ∧ m.thisSecond < 2000 ∧ m.calOk = true ∧ m.stateAccepts 0x0012 = true ∧ m.dcp.keys = []) ∧
    (addKey m0.dcp.keys { key := 2, keyId := 3, privilege := 0 }).length ≤ 16 ∧
    hasAdmin (addKey m0.dcp.keys { key := 2, keyId := 3, privilege := 0 }) = true ∧
    hasAdmin (addKey m0.dcp.keys { key := 1, keyId := 9, privilege := 0 }) = false ∧
    (let m := { m0 with dcp := { m0.dcp with keys := { keyId := 4 } :: m0.dcp.keys } }
     m.key? 4 = some { keyId := 4 } ∧ hasAdmin (m.dcp.keys.filter (fun j => j.keyId ≠ 4)) = true) := by decide

theorem wit_DomainCommands :
    (∀ b ∈ m0.cfg.bays, (m0.bInst b).state = 0 ∨ (m0.bInst b).state = 6) ∧
    (∃ b ∈ (mi {} { state := 2 }).cfg.bays, ((mi {} { state := 2 }).bInst b).state ≠ 0 ∧
      ((mi {} { state := 2 }).bInst b).state ≠ 6) ∧
    m0.mayDormant = true ∧ m0.runs = true ∧
    ({ m0 with dcp := { m0.dcp with restart := true } } : Module).dcp.restart = true ∧ m0.isPair = false ∧
    (let m := { mA with dcp := { mA.dcp with restart := true } }
     m.isPair = true ∧ m.acts = true ∧ m.partnerReady = true ∧ m.pair.offered = none ∧ m.pair.accepted = none) ∧
    m0.dcp.restart = false := by decide

/-- An archived burst of string 0 with block (1, 0). -/
def b0 : Burst := { tStep := 44, blocks := [((1, 0), [1, 2])], done := true, entered := some 3 }

theorem wit_DataReads :
    (let m := { m0 with bursts := [(0, { archive := [b0] })] }
     (m.archived 0).head? = some b0 ∧ find b0.blocks (1, 0) = some [1, 2] ∧ ∀ b ∈ m.archived 0, b.tStep ≠ 45) ∧
    (0 < 2 ∧ 1 < 3) := by decide

theorem wit_StreamCommands :
    (¬ (2 ≤ 7 ∧ 7 ≤ 6)) ∧ (0 < (m0.readTable (kindOp 2)).2.1) ∧
    (let d : Subscr := { id := 3, session := 5 }
     let m := { m0 with dcp := { m0.dcp with subs := [d] } }
     (∃ d ∈ m.dcp.subs, d.id = 3 ∧ d.session = x0.id) ∧ m.dcp.subs.find? (fun d => d.id = 3) = some d ∧ m.dcpUp = true ∧
       m.pair.role ≠ .syncing) ∧
    (¬ ∃ d ∈ m0.dcp.subs, d.id = 3 ∧ d.session = x0.id) ∧ m0.dcp.subs.find? (fun d => d.id = 3) = none ∧
    m0.session? ({ session := 5 } : Subscr).session = some x0 ∧ x0.streamSeq + 1 < 0x80000000 ∧
    ¬ (4 ≤ (m0.dcp.subs.filter (fun d => d.session = x0.id)).length ∨ 16 ≤ m0.dcp.subs.length) ∧
    4 ≤ ((List.replicate 4 { session := 5 } : List Subscr).filter (fun d => d.session = x0.id)).length := by decide

/-- PENDING as given. -/
def mq (p : SetSlot) (h : Option Nat) : Module := { m0 with sets := { m0.sets with pending := p, holder := h } }

theorem wit_ConfigurationCommands :
    m0.heldByOther x0 = false ∧ (mq { state := 1 } (some 6)).heldByOther x0 = true ∧
    (let m := mq { state := 1, size := 2048 } (some 5)
     m.sets.holder = some x0.id ∧ (m.sets.pending.state = 1 ∨ m.sets.pending.state = 2) ∧
       1024 + 1024 ≤ m.sets.pending.size) ∧
    (mq { state := 5 } none).sets.pending.state ∈ [1, 2, 4, 5] ∧ m0.sets.pending.state ∉ [1, 2, 4, 5] ∧
    (mq { state := 3 } none).sets.pending.state = 3 ∧ m0.runs = true ∧ m0.isPair = false ∧ m0.sets.pending.state ≠ 3 ∧
    (let m := { mA with sets := { mA.sets with pending := { state := 3 } } }
     m.isPair = true ∧ m.acts = true ∧ m.linked = true ∧ m.pair.partnerRole = some .ready ∧ m.sets.pending.state = 3) ∧
    (mq { state := 1, size := 8 } none).sets.pending.received ≠ (mq { state := 1, size := 8 } none).sets.pending.size ∧
    m0.actSweepOf 0 ≠ none ∧ m0.actSweepOf 5 ≠ none ∧ m0.actSweepOf 4 = none ∧ m0.conf? ≠ none ∧
    (let m := mq { state := 4, format := 1, content := some cfg0 } none
     m.sets.pending.state = 4 ∧ m.adopts m.sets.pending.format = true ∧ m.slotFits m.sets.pending = true) ∧
    (mq { state := 4, format := 9 } none).adopts 9 = false ∧
    (let m := mq { state := 4, format := 1, content := some { cfg0 with pairDomain := true } } none
     m.adopts m.sets.pending.format = true ∧ m.slotFits m.sets.pending = false) ∧
    (let p : SetSlot := { state := 4, format := 1, content := some cfg0 }
     let m := { m0 with sets := { pending := p, previous := p } }
     m.conf? = none ∧ m.sets.previous.state ≠ 0 ∧ m.adopts m.sets.previous.format = true ∧
       m.slotFits m.sets.previous = true) ∧
    (let m := mq { state := 1, size := 8, blocks := [(2, [7])] } none
     m.sets.pending.state ≠ 0 ∧ 0 + 8 ≤ m.sets.pending.size ∧ m.sets.pending.size < 1 + 8 ∧
       heldByte m.sets.pending.blocks (0 + 2) = some 7) ∧
    (let m := mq { state := 8, actSweep := 5, content := some cfg0 } none
     m.leads = true ∧ m.sets.pending.state = 8 ∧ m.boundaryDue m.sets.pending.actSweep = true ∧
       m.mapPermits (m.sets.pending.content.getD {}) = true ∧ m.slotFits m.sets.pending = true) ∧
    (mq { state := 8, actSweep := 6 } none).boundaryDue 6 = false ∧
    (let m := mq { state := 8, actSweep := 5, content := some { cfg0 with pairDomain := true } } none
     m.boundaryDue m.sets.pending.actSweep = true ∧ m.slotFits m.sets.pending = false) ∧
    m0.sets.pending.state ≠ 8 ∧ m0.sets.revertAt = none ∧ State.reset.m.leads = false ∧
    State.reset.m.pair.role ≠ .ready ∧ mB.pair.role = .ready ∧
    (let m := { m0 with sets := { m0.sets with revertAt := some 5, previous := { state := 7, content := some cfg0 } } }
     m.sets.revertAt = some 5 ∧ m.boundaryDue 5 = true ∧ m.mapPermits (m.sets.previous.content.getD {}) = true ∧
       m.slotFits m.sets.previous = true) := by
  decide +kernel

/-- A module without a set in force. -/
def mn : Module := { m0 with sets := { pending := { state := 4, format := 1 }, previous := { state := 4, format := 1 } } }

theorem wit_ConfigurationCommands_unconfigured : Served mn x0 (rq 4) 0x0304 4 ∧ Served mn x0 (rq 4) 0x0305 4 := by
  unfold Served; decide

/-- The update path as given. -/
def mu (u : UpdSt) : Module := { m0 with upd := u }

/-- A module in SERVICE with its cover off and a verified Carapace image. -/
def mCara : Module := { mv with
  sup := { mv.sup with coverOff := true }, upd := { state := 3, svc := true, staging := some { target := 1 } } }

theorem wit_UpdateTransfer :
    (mu {}).upd.state ∈ [0, 1, 3, 4] ∧ (mu {}).updHeldByOther x0 = false ∧
    (let u : UpdSt := { state := 1, size := 2048, holder := some 5 }
     1024 + 1024 ≤ u.size ∧ u.size ≤ 0x04000000 ∧ u.state = 1 ∧ u.holder = some x0.id ∧ u.received ≠ u.size) ∧
    (let u : UpdSt := { state := 1, size := 2048, received := 2048 }
     u.received = u.size) ∧
    (let m := mu { state := 2, size := 384 }
     m.sup.phase = .on ∧ m.upd.state = 2 ∧ m.verifyImage {} = stOk ∧ m.verifyImage { hashOk := false } ≠ stOk) ∧
    (let m := mu { ownerKey := some 1, floor := 3 }
     m.sup.recovery = false ∧ m.upd.ownerKey ≠ none ∧ ({} : ImageFacts).ownerSigned = false ∧ ({} : ImageFacts).target = 0 ∧
       ({ rollback := 2 } : ImageFacts).rollback < m.upd.floor) ∧
    (let m := mu { state := 3, staging := some {} }
     m.upd.state = 3 ∧ m.sup.recovery = false ∧ (m.upd.staging.getD {}).target ≠ 1 ∧ m.isPair = false ∧
       m.upd.state ∈ [1, 3, 4, 5]) ∧
    (mCara.upd.state = 3 ∧ (mCara.upd.staging.getD {}).target = 1 ∧ mCara.carapaceMay = true) ∧
    (mu { state := 3, staging := some { target := 1 } }).carapaceMay = false ∧
    (let m := { mu { state := 3, staging := some {} } with sup := { m0.sup with recovery := true } }
     m.sup.phase = .on ∧ m.sup.recovery = true ∧ m.upd.state = 3 ∧
       ({ unauth := true, port := .eth1, len := 8 } : DcpReq).session = 0) ∧
    m0.calOk = true := by decide

theorem wit_UpdateTransfer_carapace : Served mCara x0 (rq 8) 0x0604 8 := by unfold Served; decide

theorem wit_UpdateInstall :
    (mu { state := 5 }).runs = true ∧ (mu { state := 5 }).isPair = false ∧ (mu { state := 5 }).upd.state = 5 ∧
    (let m := { mA with upd := { state := 5 }, pair := { role := .leader } }
     m.runs = true ∧ m.isPair = true ∧ m.leads = true ∧ m.partnerReady = false) ∧
    (let m := { mu { phase := 1 } with sup := { phase := .weevil } }
     m.sup.phase = .weevil ∧ m.upd.phase = 1) ∧
    (let m := { mA with upd := { state := 5 } }
     m.leads = true ∧ m.partnerReady = true) ∧
    (let m := { mu { phase := 2 } with sup := { phase := .weevil } }
     m.sup.phase = .weevil ∧ m.upd.phase ≠ 1) ∧
    (let m := mu { trial := some {} }
     m.upd.trial ≠ none ∧ m.healthy = true ∧ m.calOk = true ∧ m.upd.trial = some {} ∧ m.runs = true) ∧
    m0.upd.trial = none ∧
    (let m := { m0 with sets := { safeHold := true }, pair := {} }
     m.runs = true ∧ m.sets.safeHold = true ∧ m.sets.safeLate = false ∧ m.scarabOn = false) ∧
    m0.sets.safeHold = false := by decide

theorem wit_StringBayAndDirectCommands :
    (ms 0 {}).switchRefuses 0 true = false ∧ (ms 0 { state := 5 }).switchRefuses 0 true = true ∧
    (ms 0 {}).swiServes = true ∧ (ms 0 {}).up .vsi = true ∧ ((ms 0 {}).swCfg 0).load ≠ .unused ∧
    (m0.swCfg 23).load ≠ .unused ∧ (State.reset.m.swCfg 0).load = .unused ∧
    (let m := ms 0 { state := 5 }
     0 < m.sw.chans.length ∧ (m.swc 0).state = 5 ∧ (m.swc 0).commanded = false) ∧
    (let c := { cfg0 with baySwitch := [[0, 255, 255, 255, 255, 255, 255, 255]] }
     let m := { mi {} { state := 2 } with sets := { active := { state := 6, content := some c } } }
     m.seqBay 0 = some 0 ∧ (m.bInst 0).state ≠ 6) ∧
    3 < m0.pre.length ∧ m0.up .pwi = true ∧ ((mp { state := 6 }).pch 0).state = 6 := by decide

theorem wit_JournalAlertPairTimeCommands :
    (let m := { m0 with jou := { m0.jou with stored := [(4, { seq := 8, severity := 4 })] } }
     greatestN (((dcpTaken m x0 (rq 8)).series true).map (·.seq)) = some 8) ∧ m0.calOk = true ∧
    m0.series true = [] ∧ (∀ i ∈ ([3, 255] : Bitmap), i < 256) ∧
    mA.linked = true ∧ mA.pair.partnerRole = some .ready ∧ m0.linked = false ∧ mA.sup.lever = .locked ∧
    (let m := { mA with sup := { mA.sup with lever := .seated, parking := true } }
     m.sup.lever ≠ .locked ∧ m.sup.parking = true) ∧
    (let m := { mA with sup := { mA.sup with lever := .seated } }
     m.isPair = true ∧ m.leads = true ∧ m.partnerReady = true ∧ m.sup.parking = false ∧ m.sup.parked = false) ∧
    ({ mA with pair := { mA.pair with equalRun := 0 } } : Module).partnerReady = false ∧
    (let m := { mB with sup := { mB.sup with lever := .seated } }
     m.sup.lever ≠ .locked ∧ m.sup.parking = false ∧ m.sup.parked = false ∧ m.leads = false) ∧
    mB.follows = true ∧ mA.follows = false ∧ mB.isPair = true ∧ m0.cfg.sweep.timeSource = .ptp ∧
    (let m := { m0 with sets := { active := { state := 6, content := some { cfg0 with sweep := { timeSource := .ppsHost } } } } }
     m.cfg.sweep.timeSource ≠ .ptp) := by decide

/-- A follower whose lever is out of LOCKED. -/
def mL : Module := { mB with sup := { mB.sup with lever := .seated } }

theorem wit_JournalAlertPairTimeCommands_park : Served mL x0 (rq 0) 0x0802 0 := by unfold Served; decide

theorem wit_DiagnosticCommands :
    m0.ports.length = 32 ∧ 31 + 1 ≤ 32 ∧ m0.acts = true ∧ m0.up .rgi = true ∧ m0.mapped (0, 1) = true ∧
    m0.mapped (0, 3) = false ∧ 2 ≤ m0.cfg.ringW 0 ∧ m0.cfg.ringW 0 ≤ 256 ∧ m0.ringServed 0 = true ∧
    (mr { turnN := [1] } {}).mayRejoin 0 1 = true ∧ (mr { turnN := [1] } {}).partnerEndOk 0 1 = true ∧
    ((m0.cfg.workersOf 0).map (·.1)).filter (fun (w : Wk) => decide (0 = 0 ∨ w.2 = 0)) ≠ [] ∧
    ((m0.cfg.workersOf 5).map (·.1)).filter (fun (w : Wk) => decide (0 = 0 ∨ w.2 = 0)) = [] ∧
    (look {} m0.cfg.workers (0, 1) : WorkerEntry).typ = .dzc24 := by decide

/-- CAN controller 0 as given. -/
def mc (x : CanCtl) : Module := { m0 with can := { ctl := [x, {}, {}] } }

theorem wit_CanControllers :
    (let m := mc { ok := true }
     0 < m.can.ctl.length ∧ m.canHears 0 = true ∧ (m.canCtl 0).offBus = false ∧ (m.canCtl 0).rec_ ≤ 127 ∧
       (m.canCtl 0).tec ≤ 127 ∧ (m.canCtl 0).err = .active ∧ m.rxMatch 0 {} = none ∧
       m.rxMatch 0 { ident := 0x120 } = some (3, (look {} (m.canCfg 0).rx 3)) ∧
       find (m.canCfg 0).rx 3 = some (look {} (m.canCfg 0).rx 3) ∧ 3 ∉ (m.canCtl 0).badRx ∧
       (look {} (m.canCfg 0).rx 3).timeoutAlert = true ∧ 0 < (look {} (m.canCfg 0).rx 3).timeout ∧
       m.canNormal 0 = true ∧ m.canTx? 0 2 = none ∧ m.canTx? 0 1 = some (look {} (m.canCfg 0).tx 1) ∧
       limitKind (look {} (m.canCfg 0).tx 1) = false ∧ (m.canCtl 0).cur = none ∧ (m.canCtl 0).err ≠ .busOff) ∧
    m0.canHears 1 = false ∧ ({ remote := true } : CanFrame).remote = true ∧
    (let p : CanPend := { obj := 1, retries := 1 }
     let m := mc { ok := true, cur := some p, pend := [{ p with begun := true }] }
     (m.canCtl 0).cur = some p ∧ (m.canCtl 0).tec ≤ 100 ∧ (m.canCtl 0).rec_ ≤ 100 ∧ (m.canCtl 0).err = .active ∧
       (∀ q ∈ (m.canCtl 0).pend, samePend p q = true ∧ q.begun = true) ∧
       ¬ ((m.canTx? (canOwner 0 p) p.obj).getD {}).retryLimit ≤ p.retries) ∧
    (let p : CanPend := { obj := 1, retries := 2 }
     let m := mc { ok := true, cur := some p, pend := [{ p with begun := true }] }
     ((m.canTx? (canOwner 0 p) p.obj).getD {}).retryLimit ≤ p.retries ∧
       ∃ q ∈ (m.canCtl 0).pend, samePend p q = true ∧ q.begun = true) ∧
    ((mc {}).canCtl 0).cur = none ∧ (({ obj := 1 } : CanPend).obj ≠ 2) ∧
    (let m := mc { ok := true, err := .busOff }
     (m.canCtl 0).err = .busOff ∧ m.canHears 0 = true) := by decide

theorem wit_ReportIsCarapaceRecord : c0.state ≠ .off ∧ m0.runs = true ∧ State.reset.cara.state = .off := by decide

theorem wit_JournalWriteStores : State.reset.m.runs = false ∧
    m0.leads = true ∧ mB.leads = false ∧ mA.isPair = true ∧ m0.runs = true ∧ m0.up .mgi = true ∧ m0.jou.queue = [] ∧
    m0.jou.dropped ≠ 0xFFFF ∧ m0.jou.tripOver ≠ 0xFFFF ∧
    (let m := { m0 with jou := { m0.jou with queue := [(false, { severity := 4 })] } }
     m.jou.queue = (false, { severity := 4 }) :: [] ∧
     (m.jou.stored.filter (fun e => decide (e.1 = min (m.number false { severity := 4 }).2.severity 4))).length <
       sectionSlots (min (m.number false { severity := 4 }).2.severity 4)) := by decide

/-! ## Single steps and values that the manual itself works out -/

/-- What `f` sees of the next state of a command, none where it answers no next state. -/
def sees {α : Type} (i : Instr) (s : State) (f : State → α) : Option α :=
  match exec i s with
  | .next t => some (f t)
  | _ => none

/-- R3 and R8, worked example of chapter 00: ring 9 of a pair is of bay 1, and of 247 workers north hop 77 is south
hop 171, and back. -/
theorem test_ring9 : bayOfRing true 9 = 1 ∧ northHop true 247 171 = 77 ∧ northHop false 247 77 = 77 := by decide

/-- Worked example of chapter 05: a collecting frame of LENGTH 19,576 takes 7,975.2 us (the formats' slots add up to
19,552 bytes of slots behind 24 bytes of head). -/
theorem test_lineTime :
    ({ m0 with sets := { active := { state := 6, content := some { cfg0 with formats := [(0, { slotLen := 9776 })] } } } } :
      Module).lineTime [(0, 1), (0, 2)] = 7975 := by decide

/-- Worked example of chapter 13: both sensors at -6.4 V read -32,000 A, and code 13 is 30,000 A. -/
theorem test_bcs : bcsCurrent false (-6400000) = some (-32000000) ∧ codeLimit 13 = 30000000 ∧ codeLimit 0 = 500000 := by
  decide

/-- Table 13-2: 4 mA and 20 mA are -50,000 A and 50,000 A, 12 mA is 0. -/
theorem test_bcs_loop : bcsCurrent true 4000000 = some (-50000000) ∧ bcsCurrent true 20000000 = some 50000000 ∧
    bcsCurrent true 12000000 = some 0 := by decide

/-- R330: switches S0, S5 and S31 on are code 1 of bay 0 discharge, 2 of bay 0 charge and 8 of bay 3 charge. -/
theorem test_bankCodes : bankCodes 0x80000021 = [1, 2, 0, 0, 0, 0, 0, 8] := by decide

/-- R323: the fifth mean in a row beyond the limit of a direction that is not permitted trips with DIRECTION. -/
theorem test_fifthMean : sees .carapaceMeanTick (sc c4)
    (fun t => ((t.cara.bay 0).causes, (t.cara.bay 0).out0, (t.cara.bay 1).causes)) = some ([3], false, []) := by decide +kernel

/-- R332: the lower code of every field, and the shorter enabled T_TL. -/
theorem test_restrict : restrict { codes := [13, 0, 5], tl := 0 } { codes := [12, 3, 5], tl := 3 } =
    { codes := [12, 0, 5], tl := 3 } := by decide

/-- Worked example of chapter 11: V_TARGET 1,331.2 V and I_RUN 20 A give V_PROBE 26.624 V and I_FLOOR 400 mA. -/
theorem test_probe : preVProbe { iRun := 20000 } 1331200 = 26624 ∧ preFloor { iRun := 20000 } = 400 := by decide +kernel

/-- Table 11-9: the START with V_SRC at 1,500 V is accepted and enters PROBE at 400 mA on the floor. -/
theorem test_start : sees (.prechargeStart 0 1331200) (st (mp { vSrc := 1500000, validRun := 782 }))
    (fun t => ((t.m.pch 0).state, (t.m.pch 0).preEn, (t.m.pch 0).iSet)) = some (1, true, 400) := by decide +kernel

/-- R98, worked example of chapter 04: after 0xFF the counter of a worker is 0x00. -/
theorem test_counterWraps :
    ((((mr { part := { north := 2, south := 3 } } { c := 0xFF }).sendCounted (0, 1) { opcode := 3 }).wk (0, 1)).outst.map
      (·.count)) = some 0 := by decide

/-- Worked example of chapter 15: STRING_SOC is returned for 26 strings in one reply, the next is 26. -/
theorem test_stringSoc :
    ((readReply 0 0 512 48 512 (List.range 416) (fun _ => [])).2.2.take 16) =
      le 4 0 ++ le 4 0 ++ le 2 26 ++ le 2 26 ++ le 4 26 := by decide +kernel

/-- R406, worked example of chapter 16: a failed attempt adds 8 to TEC. -/
theorem test_tec : sees (.canTxError 0 1 false true)
    (st (mc { ok := true, cur := some { obj := 1 }, pend := [{ obj := 1, begun := true }] }))
    (fun t => (t.m.canCtl 0).tec) = some 8 := by decide +kernel

/-- R123: the sweep index wraps after 2^32 - 1. -/
theorem test_geyserWraps : sees .geyserSend (st { m0 with sweep := { m0.sweep with j := 4294967295 } })
    (fun t => t.m.sweep.j) = some 0 := by decide +kernel

/-- R72: an island's epoch is counted modulo 256. -/
theorem test_epochWraps : sees (.islandReset .swi .watchdog) (st { m0 with isl := List.replicate 9 { up := true, epoch := 255 } })
    (fun t => ((t.m.isl.getD (islandCode .swi) {}).epoch, t.m.up .swi)) = some (0, false) := by decide +kernel

/-- R298: a second short attempt latches SHORT. -/
theorem test_secondShort : sees (.switchShortAttempt 1) (st (ms 1 { state := 1, shortNow := 1, commanded := true }))
    (fun t => ((t.m.swc 1).state, (t.m.swc 1).cause, (t.m.swc 1).commanded)) = some (5, 1, true) := by decide +kernel

/-- R15: the slot codes of Table 02-6 as POWER_UP reads them. -/
theorem test_slotCodes : slotOf false true = .a ∧ slotOf true false = .b ∧ slotOf false false = .single ∧
    slotOf true true = .invalid := by decide

/-- R92, R347: the catalogued check values of the three polynomials, over the ASCII digits 1 to 9. -/
theorem test_checks : crc16 ((List.range 9).map (· + 49)) = 0x29B1 ∧ crc32c ((List.range 9).map (· + 49)) = 0xE3069283 ∧
    crc64 ((List.range 9).map (· + 49)) = 0x995DC9BBDF1939FA := by decide +kernel

/-- Tables 18-1 and 18-4 name SHA-256; the standard's own example, the message "abc". -/
theorem test_sha256 : (sha256 [0x61, 0x62, 0x63]).take 8 = [0xBA, 0x78, 0x16, 0xBF, 0x8F, 0x01, 0xCF, 0xEA] := by decide +kernel

/-- Tables 04-2 and 04-4: COUNTERS_SNAP (0x17) to hop 256 from the south end, counted 5, LENGTH 10. -/
theorem test_commandHead : commandHead true 0x17 256 false 5 [] = [0x41, 255, 0, 255, 10, 0, 0x17, 5] := by decide

/-- Table 10-6: a DELAY step with ARG32 -2, TIMEOUT 5, SUCCESS 1 and FAILURE 258. -/
theorem test_readStep : readStep [0x06, 0, 0, 0, 0xFE, 0xFF, 0xFF, 0xFF, 5, 0, 1, 0, 2, 1, 0, 0] =
    { kind := 6, arg32 := -2, timeout := 5, success := 1, failure := 258 } := by decide +kernel

/-- The table gives no bits, so no word spells a command. -/
theorem test_noWords : decodeTableWord 32 0x12345678 = none ∧ State.reset.withFetchWord 32 1 = State.reset := by decide
/-- R362, R363: SVC has 169.254.96.1, replies leave from 30410, and a set's entry of the own slot gives an ETH address. -/
theorem test_datagram_ports :
    (match State.reset.m.addrOf .svc with | .fixed a => le 4 a.addr4 | .dynamic => []) = [169, 254, 96, 1] ∧
    State.reset.m.addrOf .eth1 = .dynamic ∧ netIndex .b true = 3 ∧ netIndex .single false = 0 ∧
    (State.reset.m.datagram? (.dcp .svc 9 0 1 0x600 0 5 [])).map (fun d => (d.sourcePort, d.dst, d.bytes.take 4)) =
      some (30410, 9, [0x5A, 0x44, 1, 5]) := by decide +kernel

end Sys2Proof.Tests
end

/-! ## Bays, ends and hops of the rings (R3, R4, R8)

Where an end of a ring lands is one equation per slot code, and so is the end at a port. That the two maps undo each
other is then one case per slot and end. -/

namespace Sys2Proof

/-! ### The bay of a ring -/

@[simp] theorem bayOfRing_pair (r : Nat) : bayOfRing true r = r * 4 / 32 := rfl

@[simp] theorem bayOfRing_single (r : Nat) : bayOfRing false r = r * 4 / 16 := rfl

namespace Machine

variable {m : Module}

theorem Module.ringCount_pair (h : m.isPair = true) : m.ringCount = 32 := by simp [Module.ringCount, h]

theorem Module.ringCount_single (h : m.isPair = false) : m.ringCount = 16 := by simp [Module.ringCount, h]

/-! ### The domain by the slot code -/

theorem Module.isPair_iff : m.isPair = true ↔ m.sup.slot = .a ∨ m.sup.slot = .b := by simp [Module.isPair]

theorem Module.isPair_slotA (h : m.sup.slot = .a) : m.isPair = true := Module.isPair_iff.2 (.inl h)

theorem Module.isPair_slotB (h : m.sup.slot = .b) : m.isPair = true := Module.isPair_iff.2 (.inr h)

theorem Module.isPair_slotSingle (h : m.sup.slot = .single) : m.isPair = false := by simp [Module.isPair, h]

/-! ### The port of an end -/

theorem Module.ownPort_slotA (h : m.sup.slot = .a) (r : Nat) (south : Bool) :
    m.ownPort r south = if south then none else some r := by simp [Module.ownPort, h]

theorem Module.ownPort_slotB (h : m.sup.slot = .b) (r : Nat) (south : Bool) :
    m.ownPort r south = if south then some r else none := by simp [Module.ownPort, h]

theorem Module.ownPort_slotSingle (h : m.sup.slot = .single) (r : Nat) (south : Bool) :
    m.ownPort r south = some (2 * r + if south then 1 else 0) := by simp [Module.ownPort, h]

/-! ### The end at a port -/

theorem Module.endOfPort_slotA (h : m.sup.slot = .a) {p : Nat} (hp : p < 32) : m.endOfPort p = (p, false) := by
  simp [Module.endOfPort, Module.isPair_slotA h, h, Nat.mod_eq_of_lt hp, hp]

theorem Module.endOfPort_slotB (h : m.sup.slot = .b) {p : Nat} (hp : p < 32) : m.endOfPort p = (p, true) := by
  simp [Module.endOfPort, Module.isPair_slotB h, h, Nat.mod_eq_of_lt hp, hp]

theorem Module.endOfPort_slotSingle (h : m.sup.slot = .single) (p : Nat) :
    m.endOfPort p = (p / 2, decide (p % 2 = 1)) := by simp [Module.endOfPort, Module.isPair_slotSingle h]

/-- A single module takes ring and end back from the two ports of a ring. -/
theorem Module.endOfPort_single_ports (h : m.sup.slot = .single) (r : Nat) (south : Bool) :
    m.endOfPort (2 * r + if south then 1 else 0) = (r, south) := by
  rw [Module.endOfPort_slotSingle h]
  cases south with
  | false => simp
  | true =>
    have hdiv : (2 * r + 1) / 2 = r := by omega
    simp [hdiv]

theorem Module.endOfPort_ownPort (hs : m.sup.slot ≠ .invalid) {r p : Nat} {south : Bool} (hp : p < 32)
    (h : m.ownPort r south = some p) : m.endOfPort p = (r, south) := by
  cases hslot : m.sup.slot with
  | a =>
    rw [Module.ownPort_slotA hslot] at h
    cases south with
    | false => cases h; exact Module.endOfPort_slotA hslot hp
    | true => cases h
  | b =>
    rw [Module.ownPort_slotB hslot] at h
    cases south with
    | false => cases h
    | true => cases h; exact Module.endOfPort_slotB hslot hp
  | single =>
    rw [Module.ownPort_slotSingle hslot] at h
    cases h
    exact Module.endOfPort_single_ports hslot r south
  | invalid => exact absurd hslot hs

/-! ### A worker's hop from an end -/

@[simp] theorem Module.hopFrom_north (w : Wk) : m.hopFrom w false = w.2 := rfl

theorem Module.hopFrom_south {w : Wk} (hw : w.2 ≤ m.cfg.ringW w.1) :
    m.hopFrom w true = m.cfg.ringW w.1 - w.2 + 1 := Nat.sub_add_comm hw

end Machine

open Machine

/-- Settles O27: each part is the equation of its rule at the module's slot code. -/
theorem ringEndsAndHops : Obligations.RingEndsAndHops := by
  intro m r
  refine ⟨fun hpair => ?_, fun hsingle => ?_, fun ha => ?_, fun hb => ?_, fun h1 => ?_, ?_, fun h _ hW => ?_⟩
  · exact ⟨by rw [hpair, bayOfRing_pair], Module.ringCount_pair hpair⟩
  · exact ⟨by rw [hsingle, bayOfRing_single], Module.ringCount_single hsingle⟩
  · exact ⟨Module.ownPort_slotA ha r false, Module.ownPort_slotA ha r true⟩
  · exact ⟨Module.ownPort_slotB hb r true, Module.ownPort_slotB hb r false⟩
  · exact ⟨Module.ownPort_slotSingle h1 r false, Module.ownPort_slotSingle h1 r true⟩
  · exact fun hs _ _ hp h => Module.endOfPort_ownPort hs hp h
  · exact ⟨Module.hopFrom_north (r, h), Module.hopFrom_south (w := (r, h)) hW⟩

end Sys2Proof

/-! ## The supply: its conditions, its lines and a power-up (R15, R37, R42, R46, R53, R54) -/

namespace Sys2Proof

namespace Machine

variable {s : State}

/-! ### Conditions that a command raises or ends -/

theorem Module.setCond_holds (m : Module) (on : Bool) (src : Island) (code sev scope inst : Nat) (v : Int)
    (hc : code ≠ cJournalQueueFull) :
    (m.setCond on src code sev scope inst v).holds code scope inst = on := by
  cases on with
  | false => exact m.clear_holds src code scope inst hc
  | true => exact m.raise_holds src code sev scope inst v []

/-- A command that only raises a condition: the condition holds afterwards, and only journalling moves. -/
theorem answers_of_raise {i : Instr} {m : Module} {src : Island} {code sev scope inst : Nat} {v : Int} {p : List Byte}
    (h : exec i s = .next { s with m := m.raise src code sev scope inst v p }) :
    ∃ t, Answers i s t ∧ JournalOnly m t.m ∧ t.m.holds code scope inst = true :=
  ⟨_, ⟨h, rfl, rfl⟩, m.raise_only src code sev scope inst v p, m.raise_holds src code sev scope inst v p⟩

/-- A command that only ends a condition: it does not hold afterwards, and only journalling moves. -/
theorem answers_of_clear {i : Instr} {m : Module} {src : Island} {code scope inst : Nat}
    (h : exec i s = .next { s with m := m.clear src code scope inst }) (hc : code ≠ cJournalQueueFull) :
    ∃ t, Answers i s t ∧ JournalOnly m t.m ∧ t.m.holds code scope inst = false :=
  ⟨_, ⟨h, rfl, rfl⟩, m.clear_only src code scope inst, m.clear_holds src code scope inst hc⟩

/-- A command that acts on a running module only. -/
theorem onModule_runs (g : Module → Module) (hr : s.m.runs = true) :
    onModule s (fun m => if m.runs then g m else m) = .next { s with m := g s.m } := by
  simp [onModule, hr]

theorem exec_leverUnlocked (hr : s.m.runs = true) (hl : s.m.sup.lever ≠ .locked) :
    exec .leverUnlocked s = .next { s with m := s.m.raise .mgi cLeverUnlocked } := by
  show execLeverUnlocked s = _
  simp [execLeverUnlocked, onModule, hr, hl]

/-- The module with its slot contacts as they read now, whatever was read at boot (R15). -/
def Module.withSlotNow (m : Module) (code : SlotCode) : Module := { m with sup := { m.sup with slotNow := code } }

theorem exec_slotChanged (a b : Bool) : exec (.slotChanged a b) s = .next { s with
    m := if s.m.runs then
        (s.m.withSlotNow (slotOf a b)).setCond (decide (slotOf a b ≠ s.m.sup.slot)) .mgi cSlotChanged
      else s.m.withSlotNow (slotOf a b) } := rfl

/-- SLOT_CHANGED holds exactly while the contacts read another code than at boot; it ends with the old code (log 92). -/
theorem slotChanged_holds (hr : s.m.runs = true) (a b : Bool) :
    ∃ t, Answers (.slotChanged a b) s t ∧ JournalOnly (s.m.withSlotNow (slotOf a b)) t.m ∧
      (t.m.holds cSlotChanged scModule 0 = true ↔ slotOf a b ≠ s.m.sup.slot) := by
  refine ⟨_, ⟨exec_slotChanged a b, rfl, rfl⟩, ?_⟩
  simp only [if_pos hr]
  refine ⟨Module.setCond_only _ _ _ _ _ _ _ _, ?_⟩
  rw [Module.setCond_holds _ _ _ _ _ _ _ _ (by decide), decide_eq_true_iff]

/-! ### The board's temperature (R37) -/

/-- The module with the board's temperature as measured. -/
def Module.withBoardT (m : Module) (d : Int) : Module := { m with sup := { m.sup with boardT := d } }

@[simp] theorem Module.withBoardT_holds (m : Module) (d : Int) (code scope inst : Nat) :
    (m.withBoardT d).holds code scope inst = m.holds code scope inst := rfl

theorem exec_moduleHotChange (d : Int) : exec (.moduleHotChange d) s = .next { s with
    m := if s.m.runs ∧ s.m.up .mgi then
        if 9500 < d then (s.m.withBoardT d).raise .mgi cModuleHot sevWarning scModule 0 d
        else if d < 9000 then (s.m.withBoardT d).clear .mgi cModuleHot
        else s.m.withBoardT d
      else s.m.withBoardT d } := rfl

theorem moduleHotChange_mgiDown (d : Int) (hu : s.m.up .mgi = false) :
    exec (.moduleHotChange d) s = .next { s with m := s.m.withBoardT d } := by
  simp [exec_moduleHotChange, hu]

/-- MODULE_HOT rises above the upper threshold, ends below the lower one, and stays as it was between them. -/
theorem moduleHotChange_holds (d : Int) (hr : s.m.runs = true) (hu : s.m.up .mgi = true) :
    ∃ t, Answers (.moduleHotChange d) s t ∧ JournalOnly (s.m.withBoardT d) t.m ∧
      (9500 < d → t.m.holds cModuleHot scModule 0 = true) ∧ (d < 9000 → t.m.holds cModuleHot scModule 0 = false) ∧
      (9000 ≤ d → d ≤ 9500 → t.m.holds cModuleHot scModule 0 = s.m.holds cModuleHot scModule 0) := by
  have h := exec_moduleHotChange (s := s) d
  rw [if_pos ⟨hr, hu⟩] at h
  by_cases hot : 9500 < d
  · rw [if_pos hot] at h
    obtain ⟨t, ha, hj, ht⟩ := answers_of_raise h
    exact ⟨t, ha, hj, fun _ => ht, fun _ => by omega, fun _ _ => by omega⟩
  · rw [if_neg hot] at h
    by_cases cool : d < 9000
    · rw [if_pos cool] at h
      obtain ⟨t, ha, hj, ht⟩ := answers_of_clear h (by decide)
      exact ⟨t, ha, hj, fun hd => absurd hd hot, fun _ => ht, fun _ _ => by omega⟩
    · rw [if_neg cool] at h
      exact ⟨_, ⟨h, rfl, rfl⟩, .refl _, fun hd => absurd hd hot, fun hd => absurd hd cool, fun _ _ => rfl⟩

/-! ### The end of a write stop (R217) -/

theorem find_put_other {κ α : Type} [DecidableEq κ] (l : List (κ × α)) (k k' : κ) (v : α) (h : k ≠ k') :
    find (put l k v) k' = find l k' := by
  induction l with
  | nil => simp [put, find, h]
  | cons x t ih =>
    obtain ⟨k₀, v₀⟩ := x
    by_cases hk : k₀ = k
    · simp [put, find, hk, h]
    · simp [put, find, hk, ih]

/-- What a capacity record's write may move of the module. -/
theorem Module.writeCapacity_keeps (m : Module) (e : Nat) :
    m.writeCapacity e = { m with est := (m.writeCapacity e).est, cal := (m.writeCapacity e).cal } := rfl

/-- A record once written waits no longer, and the write of another brings none back. -/
theorem Module.mem_capWait_writeCapacity (m : Module) (e x : Nat) :
    x ∈ (m.writeCapacity e).cal.capWait ↔ x ∈ m.cal.capWait ∧ x ≠ e := mem_dropFrom _ _ _

/-- The write of one record neither hastens nor delays another (R218). -/
theorem Module.capReady_writeCapacity (m : Module) {e x : Nat} (h : x ≠ e) :
    (m.writeCapacity e).capReady x = m.capReady x := by
  have hhour : find (m.writeCapacity e).cal.capHour x = find m.cal.capHour x := by
    show find (if e ∈ m.cal.capExempt then _ else _) x = _
    split
    · rfl
    · exact find_put_other _ _ _ _ h.symm
  have hexempt : x ∈ (m.writeCapacity e).cal.capExempt ↔ x ∈ m.cal.capExempt := by
    simp [Module.writeCapacity, mem_dropFrom, h]
  unfold Module.capReady
  rw [hhour, decide_eq_decide.2 hexempt]
  rfl

/-- A waiting record is written where it may be. -/
def Module.writeReady (m : Module) (e : Nat) : Module := if m.capReady e then m.writeCapacity e else m

theorem Module.writeReady_keeps (m : Module) (e : Nat) :
    m.writeReady e = { m with est := (m.writeReady e).est, cal := (m.writeReady e).cal } := by
  unfold Module.writeReady
  split
  · exact m.writeCapacity_keeps e
  · rfl

theorem Module.capWait_writeReady_subset (m : Module) (e : Nat) {x : Nat} (h : x ∉ m.cal.capWait) :
    x ∉ (m.writeReady e).cal.capWait := by
  unfold Module.writeReady
  split
  · exact fun hx => h ((m.mem_capWait_writeCapacity e x).1 hx).1
  · exact h

theorem Module.capReady_writeReady (m : Module) {e x : Nat} (h : x ≠ e) :
    (m.writeReady e).capReady x = m.capReady x := by
  unfold Module.writeReady
  split
  · exact m.capReady_writeCapacity h
  · rfl

theorem Module.writesReady_keeps (l : List Nat) (m : Module) : l.foldl Module.writeReady m =
    { m with est := (l.foldl Module.writeReady m).est, cal := (l.foldl Module.writeReady m).cal } := by
  induction l generalizing m with
  | nil => rfl
  | cons e t ih =>
    rw [List.foldl_cons, ih (m.writeReady e), m.writeReady_keeps e]

theorem Module.capWait_writesReady_subset (l : List Nat) (m : Module) {x : Nat} (h : x ∉ m.cal.capWait) :
    x ∉ (l.foldl Module.writeReady m).cal.capWait := by
  induction l generalizing m with
  | nil => exact h
  | cons e t ih => exact ih _ (m.capWait_writeReady_subset e h)

/-- Every ready record of the list is written by its turn: the writes before it leave it ready. -/
theorem Module.writesReady_written (l : List Nat) (m : Module) {x : Nat} (hx : x ∈ l) (h : m.capReady x = true) :
    x ∉ (l.foldl Module.writeReady m).cal.capWait := by
  induction l generalizing m with
  | nil => cases hx
  | cons e t ih =>
    rw [List.foldl_cons]
    by_cases hxe : x = e
    · subst hxe
      refine Module.capWait_writesReady_subset t _ ?_
      rw [Module.writeReady, if_pos h]
      exact fun hw => ((m.mem_capWait_writeCapacity x x).1 hw).2 rfl
    · exact ih _ ((List.mem_cons.1 hx).resolve_left hxe) ((m.capReady_writeReady hxe).trans h)

/-- The module with the write stop lifted, before what waited is written. -/
def Module.liftStop (m : Module) : Module := { m with sup := { m.sup with writeStop := false } }

theorem exec_writeStopLift : exec .writeStopLift s = .next { s with
    m := if s.m.runs ∧ s.m.up .mgi then s.m.cal.capWait.foldl Module.writeReady s.m.liftStop.writePrecharge
      else s.m.liftStop } := rfl

theorem writeStopLift_writes :
    ∃ t, Answers .writeStopLift s t ∧ t.m.calOk = true ∧
      t.m = { s.m with
        sup := { s.m.sup with writeStop := false }, pre := t.m.pre, est := t.m.est, cal := t.m.cal } ∧
      (s.m.cal.capWait = [] → t.m.est = s.m.est ∧ t.m.cal = s.m.cal) ∧
      (s.m.runs = true → s.m.up .mgi = true →
        ∀ e ∈ s.m.cal.capWait, s.m.capReady e = true → e ∉ t.m.cal.capWait) := by
  refine ⟨_, ⟨exec_writeStopLift, rfl, rfl⟩, ?_⟩
  by_cases h : s.m.runs ∧ s.m.up .mgi
  · simp only [if_pos h]
    have hk := Module.writesReady_keeps s.m.cal.capWait s.m.liftStop.writePrecharge
    refine ⟨?_, ?_, fun h0 => ?_, fun _ _ e he hr => ?_⟩
    · rw [hk]
      rfl
    · rw [hk]
      rfl
    · rw [h0]
      exact ⟨rfl, rfl⟩
    · exact Module.writesReady_written _ _ he hr
  · simp only [if_neg h]
    exact ⟨rfl, rfl, fun _ => ⟨rfl, rfl⟩, fun hr hu => absurd ⟨hr, hu⟩ h⟩

end Machine

open Machine

/-- Settles O22: the conditions by the rules of raising and ending one, the board's temperature by its two thresholds, the
lines by what their commands write, and the waiting capacity records by turns. -/
theorem supplyConditionsAndLines : Obligations.SupplyConditionsAndLines := by
  refine ⟨fun s hr => ⟨?_, ?_, ?_, ?_, moduleHotChange_mgiDown, fun d hu => moduleHotChange_holds d hr hu,
    slotChanged_holds hr, fun hl => answers_of_raise (exec_leverUnlocked hr hl)⟩, fun s => ?_⟩
  · exact answers_of_raise (onModule_runs (Module.raise · .mgi cAuxLow) hr)
  · exact answers_of_clear (onModule_runs (Module.clear · .mgi cAuxLow) hr) (by decide)
  · exact answers_of_raise (onModule_runs (Module.raise · .mgi cAuxHigh) hr)
  · exact answers_of_clear (onModule_runs (Module.clear · .mgi cAuxHigh) hr) (by decide)
  · refine ⟨rfl, rfl, rfl, fun t ht => ?_, writeStopLift_writes, fun _ => rfl, fun _ => ⟨_, rfl, rfl, rfl⟩, rfl⟩
    cases ht
    rfl

/-! ## A power-up in a single slot (R15, R332) -/

/-- A Carapace that starts in a single slot has no partner, and its partner's values go (log 189). -/
theorem powerUp_single_forgets_partner {s t : State} {present jumper : Bool} (hp : s.m.sup.phase = .off)
    (hc : s.cara.state = .off) (h : exec (.powerUp false false present jumper) s = .next t) : t.cara.partner = none := by
  have hx : execPowerUp false false present jumper s = .next t := h
  simp only [execPowerUp, hp, hc, onBoth] at hx
  cases hx
  rfl

/-- A module without supply whose Carapace still holds the values of a partner, as the loss of its supply leaves it
(log 189). -/
def unsuppliedWithPartner : State := { State.reset with cara := { State.reset.cara with partner := some {} } }

/-- Refutes O23: the statement keeps every field of the Carapace but five over the POWER_UP, and in a single slot the
partner's values go too. -/
theorem not_powerUpAndFail : ¬ Obligations.PowerUpAndFail := by
  rintro ⟨⟨-, hup⟩, -⟩
  obtain ⟨-, hstart, -⟩ := hup unsuppliedWithPartner false false false false
  obtain ⟨t, hx, -, -, hcara, -⟩ := hstart rfl rfl
  have hgone : t.cara.partner = none := powerUp_single_forgets_partner rfl rfl hx
  rw [hcara] at hgone
  exact absurd hgone (by decide)

end Sys2Proof

/-! ## What a ring port does with the frames it hears (R21, R93, R95 to R99, R105, R114, R121) -/

namespace Sys2Proof

open Machine

/-- What journals from a module with other ports keeps all but the ports of the old one. -/
theorem JournalOnly.ports_of {m n : Module} {ps : List PortSt} (h : JournalOnly { m with ports := ps } n) :
    JournalOnly { m with ports := n.ports } n := by
  have hps : n.ports = ps := h.field Module.ports fun _ _ _ _ => rfl
  rw [hps]
  exact h

theorem JournalOnly.ports_trans {a b c : Module} (h : JournalOnly { a with ports := b.ports } b)
    (g : JournalOnly { b with ports := c.ports } c) : JournalOnly { a with ports := c.ports } c := by
  have hb : JournalOnly { a with ports := c.ports } { b with ports := c.ports } :=
    congrArg (fun x : Module => ({ x with ports := c.ports } : Module)) h
  exact hb.trans g

namespace Machine

/-! ### Counting at a port moves only the ports and journals -/

theorem Module.saturated_only (m : Module) (name : Nat) : JournalOnly m (m.saturated name) := by
  unfold Module.saturated
  split
  · exact m.jotCond_only _ _ _ _ _ _ _ _
  · exact m.raise_only _ _ _ _ _ _ _

theorem Module.satCheck_only (m : Module) (before after name : Nat) : JournalOnly m (m.satCheck before after name) := by
  unfold Module.satCheck
  split
  · exact m.saturated_only name
  · exact .refl m

/-- One counter of one port advances; all else that moves is journalling (R427). -/
theorem Module.countPort_only (m : Module) (p i : Nat) :
    JournalOnly (m.modPort p (fun q => { q with counters := modAt q.counters i bump16 })) (m.countPort p i) :=
  Module.satCheck_only _ _ _ _

theorem Module.countMany_only (m : Module) (p i n : Nat) :
    JournalOnly { m with ports := (m.countMany p i n).ports } (m.countMany p i n) := by
  induction n generalizing m with
  | zero => exact .refl m
  | succ n ih => exact (m.countPort_only p i).ports_of.ports_trans (ih _)

theorem Module.forward_only (m : Module) (p : Nat) (f : RingFrame) : JournalOnly m (m.forward p f) := by
  unfold Module.forward
  split
  · exact m.emit_only _
  · exact .refl m

/-- A frame's code violations are counted at its port, and the frame goes to the partner (R106, R121). -/
theorem Module.heardAtPort_only (m : Module) (p n : Nat) (f : RingFrame) :
    JournalOnly { m with ports := ((m.countCode p n).forward p f).ports } ((m.countCode p n).forward p f) :=
  ((m.countMany_only p 0 (min n 0xFFFF)).trans (Module.forward_only _ p f)).ports_of

/-! ### What an enabled port does with a frame (R21, R95, R96, R114) -/

/-- A reply heard at a port: one with a bad CRC, one whose HOP_CNT is wrong, and a good one (R96). -/
def Module.hearReply (m : Module) (p : Nat) (f : RingReply) : Module :=
  let m := (m.countCode p f.codeErr).forward p (.reply f)
  if f.crcOk = false then (m.countPort p 1).portError p
  else if replyHopOk f = false then m.countPort p 2
  else
    let m := if f.status = 2 then m.countPort p 5 else if f.status = 1 then m.countPort p 6 else m
    m.replied ((m.endOfPort p).1, northHop f.fromSouth (m.cfg.ringW (m.endOfPort p).1) f.hop) f

/-- A notice heard at a port, in the same three cases (R114). -/
def Module.hearNotice (m : Module) (p : Nat) (f : NoticeFrame) : Module :=
  let m := (m.countCode p f.codeErr).forward p (.notice f)
  if f.crcOk = false then (m.countPort p 1).portError p
  else if hopCntOk f.hopCnt f.hopCntN = false then m.countPort p 2
  else ((m.countPort p 9).takeNotice (m.endOfPort p).1 (m.endOfPort p).2 f).afterRing (m.endOfPort p).1

section
variable {m : Module} {p : Nat} {f : RingReply}

theorem Module.hearReply_badCrc (h : f.crcOk = false) : m.hearReply p f =
    (((m.countCode p f.codeErr).forward p (.reply f)).countPort p 1).portError p := if_pos h

theorem Module.hearReply_badHop (h : f.crcOk = true) (hh : replyHopOk f = false) : m.hearReply p f =
    ((m.countCode p f.codeErr).forward p (.reply f)).countPort p 2 := by
  simp [Module.hearReply, h, hh]

theorem Module.hearReply_good (h : f.crcOk = true) (hh : replyHopOk f = true) : m.hearReply p f =
    (let n := (m.countCode p f.codeErr).forward p (.reply f)
     let k := if f.status = 2 then n.countPort p 5 else if f.status = 1 then n.countPort p 6 else n
     k.replied ((k.endOfPort p).1, northHop f.fromSouth (k.cfg.ringW (k.endOfPort p).1) f.hop) f) := by
  simp only [Module.hearReply, h, hh, Bool.true_eq_false, if_false]

end

section
variable {m : Module} {p : Nat} {f : NoticeFrame}

theorem Module.hearNotice_badCrc (h : f.crcOk = false) : m.hearNotice p f =
    (((m.countCode p f.codeErr).forward p (.notice f)).countPort p 1).portError p := if_pos h

theorem Module.hearNotice_badHop (h : f.crcOk = true) (hh : hopCntOk f.hopCnt f.hopCntN = false) :
    m.hearNotice p f = ((m.countCode p f.codeErr).forward p (.notice f)).countPort p 2 := by
  simp [Module.hearNotice, h, hh]

theorem Module.hearNotice_good (h : f.crcOk = true) (hh : hopCntOk f.hopCnt f.hopCntN = true) : m.hearNotice p f =
    (let n := (m.countCode p f.codeErr).forward p (.notice f)
     ((n.countPort p 9).takeNotice (n.endOfPort p).1 (n.endOfPort p).2 f).afterRing (n.endOfPort p).1) := by
  simp only [Module.hearNotice, h, hh, Bool.true_eq_false, if_false]

end

section
variable {s : State} {p : Nat}

theorem exec_collectingFrameRx (f : CollectFrame) : exec (.collectingFrameRx p f) s = .next { s with
    m := if s.m.rgiUp && s.m.portOn p then
        ((s.m.countFrame p f).forward p (.collect f)).collected (s.m.endOfPort p).1 f
      else s.m } := rfl

theorem exec_replyFrameRx (f : RingReply) : exec (.replyFrameRx p f) s = .next { s with
    m := if s.m.rgiUp && s.m.portOn p then s.m.hearReply p f else s.m } := rfl

theorem exec_noticeRx (f : NoticeFrame) : exec (.noticeRx p f) s = .next { s with
    m := if s.m.rgiUp && s.m.portOn p then s.m.hearNotice p f else s.m } := rfl

theorem exec_turnedCommandRx : exec (.turnedCommandRx p) s = .next { s with
    m := if s.m.rgiUp && s.m.portOn p then s.m.countPort p 7 else s.m } := rfl

theorem exec_portLinkUp : exec (.portLinkUp p) s = .next { s with
    m := if s.m.rgiUp && s.m.portOn p && !(s.m.port p).up then
        if (s.m.ring (s.m.endOfPort p).1).trained then s.m.modPort p (fun q => { q with up := true })
        else (s.m.modPort p (fun q => { q with up := true })).beginTraining (s.m.endOfPort p).1
      else s.m } := rfl

end

/-! ### The hop count of a frame (R93, R96) -/

theorem hopCntOk_iff (cnt cntN : Nat) : hopCntOk cnt cntN = true ↔ cntN = 255 - cnt := decide_eq_true_iff

theorem replyHopOk_iff (f : RingReply) :
    replyHopOk f = true ↔ f.hopCnt = (f.hop + 255) % 256 ∧ f.hopCntN = 255 - f.hopCnt := by
  simp [replyHopOk, hopCntOk_iff]

theorem replyHopOk_false {f : RingReply} (h : f.hopCnt ≠ (f.hop + 255) % 256 ∨ f.hopCntN ≠ 255 - f.hopCnt) :
    replyHopOk f = false := by
  rw [Bool.eq_false_iff, Ne, replyHopOk_iff]
  tauto

end Machine

/-- Settles O29: a command at a port that is off leaves the state as it is; at one that is on, each branch of the frame's
meaning is the clause of its checks; that a HOP_CNT in disagreement with its complement is counted and dropped is log 162. -/
theorem ringFramesAtPorts : Obligations.RingFramesAtPorts := by
  refine fun s p => ⟨fun hoff => ?_, fun hr hp => ?_⟩
  · have hno : ¬ (s.m.rgiUp && s.m.portOn p) = true := by simp [hoff]
    exact ⟨fun f => by rw [exec_collectingFrameRx, if_neg hno], fun f => by rw [exec_replyFrameRx, if_neg hno],
      fun f => by rw [exec_noticeRx, if_neg hno], by rw [exec_turnedCommandRx, if_neg hno],
      by rw [exec_portLinkUp, hoff, Bool.and_false, Bool.false_and, if_neg Bool.false_ne_true]⟩
  have hon : (s.m.rgiUp && s.m.portOn p) = true := by rw [hr, hp]; rfl
  refine ⟨?_, fun f => ?_, fun f => ?_, fun f => ?_, fun hup => ?_, fun hdown => ?_⟩
  · refine ⟨_, ⟨exec_turnedCommandRx, rfl, rfl⟩, ?_⟩
    simp only [if_pos hon]
    exact s.m.countPort_only p 7
  · rw [exec_collectingFrameRx, if_pos hon]
  · rw [exec_replyFrameRx, if_pos hon]
    refine ⟨_, rfl, s.m.heardAtPort_only p f.codeErr (.reply f), fun hbad => ?_, fun hcrc hhop => ?_,
      fun hcrc hhop hn => ⟨_, rfl, ?_⟩⟩
    · rw [Module.hearReply_badCrc hbad]
    · rw [Module.hearReply_badHop hcrc (replyHopOk_false hhop)]
    · rw [Module.hearReply_good hcrc ((replyHopOk_iff f).2 ⟨hhop, hn⟩)]
  · rw [exec_noticeRx, if_pos hon]
    refine ⟨_, rfl, s.m.heardAtPort_only p f.codeErr (.notice f), fun hbad => ?_, fun hcrc hn => ?_, fun hcrc hn => ?_⟩
    · rw [Module.hearNotice_badCrc hbad]
    · rw [Module.hearNotice_badHop hcrc (decide_eq_false hn)]
    · rw [Module.hearNotice_good hcrc ((hopCntOk_iff _ _).2 hn)]
  · rw [exec_portLinkUp, hup, Bool.not_true, Bool.and_false, if_neg Bool.false_ne_true]
  · refine ⟨_, rfl, ?_⟩
    rw [exec_portLinkUp, hon, hdown, Bool.not_false, Bool.and_true, if_pos rfl]

end Sys2Proof

/-! ## The Carapace's outputs over a self-test, a failed test, a loss of supply and a new bank (R46, R319 to R335, R449)

A trip only adds a cause to a bay and takes its outputs away, so what the wired inputs call for is a fold over one bay
alone, and a bay once tripped stays tripped in it. -/

namespace Sys2Proof

namespace Machine

/-! ### Lists read by index -/

theorem getD_map_of_lt {α β : Type} (l : List α) (f : α → β) {i : Nat} (h : i < l.length) (d : α) (d' : β) :
    (l.map f).getD i d' = f (l.getD i d) := by simp [h]

theorem getD_zipIdx_map_of_lt {α β : Type} (l : List α) (f : α × Nat → β) {i : Nat} (h : i < l.length) (d : α)
    (d' : β) : (l.zipIdx.map f).getD i d' = f (l.getD i d, i) := by simp [h]

end Machine

open Machine

/-! ### Operations on the bays alone -/

theorem BaysOnly.refl (c : Carapace) : BaysOnly c c := ⟨rfl, rfl⟩

theorem BaysOnly.trans {c d e : Carapace} (h : BaysOnly c d) (g : BaysOnly d e) : BaysOnly c e :=
  ⟨Carapace.bays_trans h.1 g.1, g.2.trans h.2⟩

/-- What holds of each step of a loop holds of the loop. -/
theorem BaysOnly.foldl {f : Carapace → Nat → Carapace} (hf : ∀ c k, BaysOnly c (f c k)) (l : List Nat) (c : Carapace) :
    BaysOnly c (l.foldl f c) := by
  induction l generalizing c with
  | nil => exact .refl c
  | cons k t ih => exact (hf c k).trans (ih _)

theorem BaysOnly.of_map (c : Carapace) (f : CaraBay → CaraBay) : BaysOnly c { c with bays := c.bays.map f } :=
  ⟨rfl, List.length_map _⟩

theorem BaysOnly.state {c d : Carapace} (h : BaysOnly c d) : d.state = c.state := by rw [h.1]

theorem BaysOnly.inputs {c d : Carapace} (h : BaysOnly c d) : d.inputs = c.inputs := by rw [h.1]

namespace Machine

/-- A bay has latched a cause and holds neither output (R333). -/
def CaraBay.HeldOpen (x : CaraBay) (cause : Nat) : Prop := cause ∈ x.causes ∧ x.out0 = false ∧ x.out1 = false

/-- Of a bay only the latched causes and the outputs have moved. -/
def CaraBay.LatchOnly (x y : CaraBay) : Prop := y = { x with causes := y.causes, out0 := y.out0, out1 := y.out1 }

theorem CaraBay.LatchOnly.trans {x y z : CaraBay} (h : LatchOnly x y) (g : LatchOnly y z) : LatchOnly x z := by
  unfold LatchOnly at *
  rw [g, h]

theorem CaraBay.tripped_heldOpen (x : CaraBay) (k : Nat) : CaraBay.HeldOpen (CaraBay.tripped x k) k :=
  ⟨(mem_addTo _ _ _).2 (.inr rfl), rfl, rfl⟩

theorem CaraBay.HeldOpen.tripped {x : CaraBay} {k : Nat} (h : CaraBay.HeldOpen x k) (j : Nat) :
    CaraBay.HeldOpen (CaraBay.tripped x j) k := ⟨(mem_addTo _ _ _).2 (.inl h.1), rfl, rfl⟩

/-! ### What the wired inputs call for (R325, R326) -/

theorem CaraBay.wired_latchOnly (x : CaraBay) (i : SafeIn) (k : Nat) : CaraBay.LatchOnly x (CaraBay.wired x i k) := by
  unfold CaraBay.wired
  cases i.isOpen <;> cases i.isCross <;> rfl

theorem CaraBay.wired_quiet (x : CaraBay) {i : SafeIn} (k : Nat) (h : i.isOpen = false ∧ i.isCross = false) :
    CaraBay.wired x i k = x := by
  simp [CaraBay.wired, h]

theorem CaraBay.HeldOpen.wired {x : CaraBay} {j : Nat} (h : CaraBay.HeldOpen x j) (i : SafeIn) (k : Nat) :
    CaraBay.HeldOpen (CaraBay.wired x i k) j := by
  unfold CaraBay.wired
  cases i.isOpen with
  | false =>
    cases i.isCross with
    | false => exact h
    | true => exact h.tripped 11
  | true =>
    cases i.isCross with
    | false => exact h.tripped _
    | true => exact (h.tripped _).tripped 11

theorem CaraBay.wired_open (x : CaraBay) {i : SafeIn} (k : Nat) (h : i.isOpen = true) :
    CaraBay.HeldOpen (CaraBay.wired x i k) (inputCause k) := by
  simp only [CaraBay.wired, h, if_true]
  cases i.isCross with
  | false => exact CaraBay.tripped_heldOpen x _
  | true => exact (CaraBay.tripped_heldOpen x _).tripped 11

/-- Bay `b` after what wired input `k` calls for, where the input trips that bay. -/
def CaraBay.heard (inputs : List SafeIn) (b : Nat) (x : CaraBay) (k : Nat) : CaraBay :=
  if b ∈ inputBays k then CaraBay.wired x (inputs.getD k {}) k else x

theorem CaraBay.heard_latchOnly (inputs : List SafeIn) (b : Nat) (x : CaraBay) (k : Nat) :
    CaraBay.LatchOnly x (x.heard inputs b k) := by
  unfold CaraBay.heard
  split
  · exact CaraBay.wired_latchOnly _ _ _
  · rfl

theorem CaraBay.HeldOpen.heard {x : CaraBay} {j : Nat} (h : CaraBay.HeldOpen x j) (inputs : List SafeIn) (b k : Nat) :
    CaraBay.HeldOpen (x.heard inputs b k) j := by
  unfold CaraBay.heard
  split
  · exact h.wired _ _
  · exact h

theorem CaraBay.heardAll_latchOnly (inputs : List SafeIn) (b : Nat) (l : List Nat) (x : CaraBay) :
    CaraBay.LatchOnly x (l.foldl (CaraBay.heard inputs b) x) := by
  induction l generalizing x with
  | nil => rfl
  | cons k t ih => exact (x.heard_latchOnly inputs b k).trans (ih _)

theorem CaraBay.heardAll_quiet {inputs : List SafeIn} (b : Nat) (h : ∀ i ∈ inputs, i.isOpen = false ∧ i.isCross = false)
    (l : List Nat) (x : CaraBay) : l.foldl (CaraBay.heard inputs b) x = x := by
  have quiet : ∀ k, (inputs.getD k {}).isOpen = false ∧ (inputs.getD k {}).isCross = false := fun k => by
    by_cases hk : k < inputs.length
    · rw [List.getD_eq_getElem _ _ hk]
      exact h _ (List.getElem_mem hk)
    · rw [List.getD_eq_default _ _ (Nat.le_of_not_lt hk)]
      exact ⟨rfl, rfl⟩
  induction l with
  | nil => rfl
  | cons k t ih => rw [List.foldl_cons, CaraBay.heard, CaraBay.wired_quiet x k (quiet k), ite_self, ih]

theorem CaraBay.HeldOpen.heardAll {x : CaraBay} {j : Nat} (h : CaraBay.HeldOpen x j) (inputs : List SafeIn) (b : Nat)
    (l : List Nat) : CaraBay.HeldOpen (l.foldl (CaraBay.heard inputs b) x) j := by
  induction l generalizing x with
  | nil => exact h
  | cons k t ih => exact ih (h.heard inputs b k)

/-- An input that stands open leaves its bays tripped, whatever the other inputs call for. -/
theorem CaraBay.heardAll_open {inputs : List SafeIn} {b k : Nat} {l : List Nat} (hk : k ∈ l) (hb : b ∈ inputBays k)
    (ho : (inputs.getD k {}).isOpen = true) (x : CaraBay) :
    CaraBay.HeldOpen (l.foldl (CaraBay.heard inputs b) x) (inputCause k) := by
  induction l generalizing x with
  | nil => cases hk
  | cons j t ih =>
    rcases List.mem_cons.1 hk with rfl | ht
    · refine CaraBay.HeldOpen.heardAll ?_ inputs b t
      rw [CaraBay.heard, if_pos hb]
      exact CaraBay.wired_open x k ho
    · exact ih ht _

theorem Carapace.trip_baysOnly (c : Carapace) (b k : Nat) : BaysOnly c (c.trip b k) :=
  ⟨c.trip_keeps b k, c.trip_length b k⟩

/-- Every bay of a list is tripped with one cause where a flag says so. -/
theorem Carapace.tripsIf_baysOnly (on : Bool) (l : List Nat) (k : Nat) (c : Carapace) :
    BaysOnly c (if on then l.foldl (fun c b => c.trip b k) c else c) := by
  cases on with
  | false => exact .refl c
  | true => exact BaysOnly.foldl (fun c b => c.trip_baysOnly b k) l c

theorem Carapace.tripsIf_bay (on : Bool) (l : List Nat) (k : Nat) (c : Carapace) {b : Nat} (h : c.state = .run)
    (hb : b < c.bays.length) : (if on then l.foldl (fun c b => c.trip b k) c else c).bay b =
      if b ∈ l then (if on then CaraBay.tripped (c.bay b) k else c.bay b) else c.bay b := by
  cases on with
  | false => simp
  | true => exact c.trips_bay l k b h hb

theorem Carapace.applyInput_baysOnly (c : Carapace) (k : Nat) : BaysOnly c (c.applyInput k) :=
  (Carapace.tripsIf_baysOnly _ _ _ c).trans (Carapace.tripsIf_baysOnly _ _ _ _)

theorem Carapace.applyInput_bay (c : Carapace) (k : Nat) {b : Nat} (h : c.state = .run) (hb : b < c.bays.length) :
    (c.applyInput k).bay b = (c.bay b).heard c.inputs b k := by
  have ho := Carapace.tripsIf_baysOnly (c.inputs.getD k {}).isOpen (inputBays k) (inputCause k) c
  unfold Carapace.applyInput
  dsimp only
  rw [Carapace.tripsIf_bay _ _ _ _ (ho.state.trans h) (ho.2.symm ▸ hb), Carapace.tripsIf_bay _ _ _ _ h hb]
  unfold CaraBay.heard CaraBay.wired
  by_cases hm : b ∈ inputBays k <;> simp [hm]

theorem Carapace.applyInputs_baysOnly (c : Carapace) : BaysOnly c c.applyInputs :=
  BaysOnly.foldl Carapace.applyInput_baysOnly _ c

/-- Everything the wired inputs do to a bay of a running Carapace. -/
theorem Carapace.applyInputs_bay (c : Carapace) {b : Nat} (h : c.state = .run) (hb : b < c.bays.length) :
    c.applyInputs.bay b = (List.range 5).foldl (CaraBay.heard c.inputs b) (c.bay b) := by
  unfold Carapace.applyInputs
  generalize List.range 5 = l
  induction l generalizing c with
  | nil => rfl
  | cons k t ih =>
    have hk := c.applyInput_baysOnly k
    rw [List.foldl_cons, List.foldl_cons, ih _ (hk.state.trans h) (hk.2.symm ▸ hb), hk.inputs, c.applyInput_bay k h hb]

theorem Carapace.settle_baysOnly (c : Carapace) : BaysOnly c c.settle := .of_map c _

/-- The outputs of a bay once they have settled in RUN: energised exactly where no trip is latched and the slot code is
valid (R319, R333). -/
def CaraBay.settled (x : CaraBay) (slotInvalid : Bool) : CaraBay :=
  { x with
    out0 := decide (slotInvalid = false ∧ x.causes = []), out1 := decide (slotInvalid = false ∧ x.causes = []) }

theorem Carapace.settle_bay (c : Carapace) {b : Nat} (h : c.state = .run) (hb : b < c.bays.length) :
    c.settle.bay b = (c.bay b).settled c.slotInvalid := by
  refine (getD_map_of_lt c.bays _ hb ({} : CaraBay) ({} : CaraBay)).trans ?_
  simp [CaraBay.settled, Carapace.bay, h]

/-! ### A passed self-test (R321, R331, R333) -/

/-- A bay with the modes its channels were found in (R321). -/
def CaraBay.found (x : CaraBay) (links : List Bool) (b : Nat) : CaraBay :=
  { x with
    chA := { x.chA with linked := links.getD (2 * b) false, faulted := false }
    chB := { x.chB with linked := links.getD (2 * b + 1) false, faulted := false } }

/-- The Carapace that has passed its self-test, before its outputs settle. -/
def Carapace.passed (c : Carapace) (links : List Bool) (bank tl : Nat) : Carapace :=
  { c with
    state := .run, bank := bankCodes bank, bankTl := tl % 4, bankFails := 0
    own := some (c.own.getD { codes := bankCodes bank, tl := tl % 4 })
    sealChanged := c.sealChanged || Carapace.bankDiffers { c with bank := bankCodes bank, bankTl := tl % 4 }
    bays := c.bays.zipIdx.map (fun p => p.1.found links p.2) }

theorem Carapace.passed_bay (c : Carapace) (links : List Bool) (bank tl : Nat) {b : Nat} (hb : b < c.bays.length) :
    (c.passed links bank tl).bay b = (c.bay b).found links b :=
  getD_zipIdx_map_of_lt c.bays (fun p => p.1.found links p.2) hb {} {}

theorem Carapace.passed_length (c : Carapace) (links : List Bool) (bank tl : Nat) :
    (c.passed links bank tl).bays.length = c.bays.length := by simp [Carapace.passed]

theorem Carapace.bankDiffers_iff (c : Carapace) :
    c.bankDiffers = true ↔ ∃ v, c.own = some v ∧ v ≠ { codes := c.bank, tl := c.bankTl } := by
  unfold Carapace.bankDiffers
  cases c.own with
  | none => simp
  | some v =>
    simp only [Carapace.bankVals, Option.some.injEq, exists_eq_left']
    exact decide_eq_true_iff

/-- The Carapace moves on, and the module at most notes the lock stop. -/
theorem caraNext_next (s : State) (c : Carapace) : ∃ t, caraNext s c = .next t ∧ CaraOnly s t ∧ t.cara = c :=
  ⟨_, rfl, caraNext_only _ _ rfl, rfl⟩

theorem exec_carapaceSelfTestPass {s : State} (links : List Bool) (bank tl : Nat) (h : s.cara.state = .selfTest) :
    exec (.carapaceSelfTestPass links bank tl) s = caraNext s (s.cara.passed links bank tl).settle.applyInputs := by
  show execCarapaceSelfTestPass links bank tl s = _
  unfold execCarapaceSelfTestPass
  exact if_pos h

theorem selfTestPass_energises {s : State} (links : List Bool) (bank tl : Nat) (h : s.cara.state = .selfTest)
    (hl : s.cara.bays.length = 4) :
    ∃ t, exec (.carapaceSelfTestPass links bank tl) s = .next t ∧ CaraOnly s t ∧
      BaysOnly (s.cara.passed links bank tl) t.cara ∧
      ∀ b, b < 4 → t.cara.bay b = (List.range 5).foldl (CaraBay.heard s.cara.inputs b)
        (((s.cara.bay b).found links b).settled s.cara.slotInvalid) := by
  have hs := (s.cara.passed links bank tl).settle_baysOnly
  obtain ⟨t, hx, honly, hc⟩ := caraNext_next s (s.cara.passed links bank tl).settle.applyInputs
  refine ⟨t, (exec_carapaceSelfTestPass links bank tl h).trans hx, honly, ?_, fun b hb => ?_⟩
  · rw [hc]
    exact hs.trans (Carapace.applyInputs_baysOnly _)
  · have hp : b < (s.cara.passed links bank tl).bays.length := by rw [Carapace.passed_length, hl]; exact hb
    rw [hc, Carapace.applyInputs_bay _ (hs.state.trans rfl) (hs.2.symm ▸ hp), hs.inputs, Carapace.settle_bay _ rfl hp,
      Carapace.passed_bay _ _ _ _ (hl.symm ▸ hb)]
    rfl

/-! ### The test of one output (R328) -/

/-- A bay with what the test of its output `out` found. -/
def CaraBay.tested (x : CaraBay) (out : Nat) (opens conducts : Bool) : CaraBay :=
  if out = 0 then { x with stuck0 := x.stuck0 || !opens, dead0 := x.dead0 || !conducts }
  else { x with stuck1 := x.stuck1 || !opens, dead1 := x.dead1 || !conducts }

/-- An output that opens and conducts leaves no finding. -/
theorem CaraBay.tested_good (x : CaraBay) (out : Nat) : x.tested out true true = x := by
  simp [CaraBay.tested]

/-- The Carapace with the test of one output counted and its finding kept. -/
def Carapace.outputTested (c : Carapace) (b out : Nat) (opens conducts : Bool) : Carapace :=
  Carapace.modBay { c with tested := (c.tested + 1) % 8 } b (fun x => x.tested out opens conducts)

theorem Carapace.outputTested_bay (c : Carapace) (b out : Nat) (opens conducts : Bool) (b' : Nat) :
    (c.outputTested b out opens conducts).bay b' =
      if b = b' ∧ b < c.bays.length then (c.bay b').tested out opens conducts else c.bay b' := Carapace.modBay_bay _ _ _ _

theorem Carapace.modBay_baysOnly (c : Carapace) (b : Nat) (f : CaraBay → CaraBay) : BaysOnly c (c.modBay b f) :=
  ⟨rfl, c.modBay_length b f⟩

theorem exec_tripOutputTest {s : State} {b out : Nat} (opens conducts : Bool) (h : s.cara.state = .run)
    (ho : (if out = 0 then (s.cara.bay b).out0 else (s.cara.bay b).out1) = true) :
    exec (.tripOutputTest b out opens conducts) s = caraNext s
      (if opens && conducts then s.cara.outputTested b out opens conducts
      else (s.cara.outputTested b out opens conducts).trip b 10) := by
  show execTripOutputTest b out opens conducts s = _
  unfold execTripOutputTest
  exact if_pos ⟨h, ho⟩

theorem tripOutputTest_deenergises {s : State} {b out : Nat} (opens conducts : Bool) (h : s.cara.state = .run)
    (hb : b < s.cara.bays.length) (ho : (if out = 0 then (s.cara.bay b).out0 else (s.cara.bay b).out1) = true) :
    ∃ t, exec (.tripOutputTest b out opens conducts) s = .next t ∧ CaraOnly s t ∧
      BaysOnly { s.cara with tested := (s.cara.tested + 1) % 8 } t.cara ∧ OtherBays s.cara t.cara b ∧
      (opens = true → conducts = true → t.cara.bay b = s.cara.bay b) ∧
      (opens = false ∨ conducts = false →
        t.cara.bay b = CaraBay.tripped ((s.cara.bay b).tested out opens conducts) 10) := by
  refine ⟨_, exec_tripOutputTest opens conducts h ho, caraNext_only _ _ rfl, ?_⟩
  have hm : BaysOnly { s.cara with tested := (s.cara.tested + 1) % 8 } (s.cara.outputTested b out opens conducts) :=
    Carapace.modBay_baysOnly _ _ _
  have hbay := s.cara.outputTested_bay b out opens conducts
  have hother : ∀ b', b' ≠ b → (s.cara.outputTested b out opens conducts).bay b' = s.cara.bay b' := fun b' hne => by
    rw [hbay, if_neg fun e => hne e.1.symm]
  by_cases hgood : (opens && conducts) = true
  · obtain ⟨rfl, rfl⟩ := Bool.and_eq_true_iff.1 hgood
    refine ⟨hm, hother, fun _ _ => ?_, fun hbad => by simp at hbad⟩
    exact (hbay b).trans (by rw [if_pos ⟨rfl, hb⟩, CaraBay.tested_good])
  · simp only [if_neg hgood]
    have htrip := fun b' => (s.cara.outputTested b out opens conducts).trip_bay b b' 10 (hm.state.trans h)
    refine ⟨hm.trans (Carapace.trip_baysOnly _ b 10), fun b' hne => ?_, fun h1 h2 => absurd (by rw [h1, h2]; rfl) hgood,
      fun _ => ?_⟩
    · exact (htrip b').trans (by rw [if_neg fun e => hne e.1.symm, hother b' hne])
    · refine (htrip b).trans ?_
      rw [if_pos ⟨rfl, hm.2.symm ▸ hb⟩, hbay, if_pos ⟨rfl, hb⟩]
      rfl

/-! ### What resets the Carapace (R46, R333, R335, R449) -/

theorem Carapace.forget_baysOnly (c : Carapace) : BaysOnly c c.forget := .of_map c _

theorem Carapace.forget_bay (c : Carapace) (b : Nat) : c.forget.bay b = CaraBay.resets (c.bay b) :=
  List.getD_map c.bays {} CaraBay.resets

theorem Carapace.internalFault_baysOnly (c : Carapace) :
    BaysOnly { c with state := .selfTest, epoch := (c.epoch + 1) % 256 } c.internalFault := by
  refine ⟨rfl, ?_⟩
  simp [Carapace.internalFault, Carapace.forget]

/-- CPI_FAULT latches for every bay behind what it held, over the reset (R335). -/
theorem Carapace.internalFault_bay (c : Carapace) {b : Nat} (hb : b < c.bays.length) :
    c.internalFault.bay b = CaraBay.tripped (CaraBay.resets (c.bay b)) 9 := by
  refine (getD_map_of_lt c.forget.bays (fun x => { x with causes := addTo x.causes 9 })
    (c.forget_baysOnly.2.symm ▸ hb) {} {}).trans ?_
  rw [← Carapace.bay, c.forget_bay b]
  rfl

theorem exec_cpiInternalFault {s : State} (h : s.cara.state ≠ .off) :
    exec .cpiInternalFault s = caraNext s s.cara.internalFault := by
  show execCpiInternalFault s = _
  exact if_neg h

/-- The module once the loader of a new Carapace bank is done: the bank passed, and its version is the one in use, or
it failed. -/
def Module.loaderDone (m : Module) (ok : Bool) : Module :=
  if ok then { m with upd := { m.upd with
    carapace := false, caraFloor := max m.upd.caraFloor (m.upd.staging.getD {}).rollback
    caraVersion := (m.upd.staging.getD {}).version } }
  else { m with upd := { m.upd with carapace := false } }

/-- The start of a bank: a first start goes to the other bank, a pass ends the loader, and the third failure of a
self-test goes back (R449). -/
theorem exec_carapaceBankStart {s : State} (ok : Bool) (hu : s.m.upd.carapace = true) (h : s.cara.state ≠ .off) :
    exec (.carapaceBankStart ok) s =
      (let swap := if s.cara.bankFails = 0 then (s.cara.cpiBank + 1) % 2 else s.cara.cpiBank
       if ok then onBoth s { s.cara.internalFault with cpiBank := swap, bankFails := 0 } (s.m.loaderDone true)
       else if 2 ≤ s.cara.bankFails then
        onBoth s { s.cara.internalFault with cpiBank := (swap + 1) % 2, bankFails := 0 } (s.m.loaderDone false)
       else onBoth s { s.cara.internalFault with cpiBank := swap, bankFails := s.cara.bankFails + 1 } s.m) := by
  show execCarapaceBankStart ok s = _
  unfold execCarapaceBankStart
  rw [if_pos ⟨hu, h⟩]
  cases ok with
  | true => rfl
  | false => simp [Carapace.internalFault, Carapace.forget, Module.loaderDone]

end Machine

/-- Settles O13: the passed self-test settles the outputs and then hears the wired inputs, bay by bay; the failed output test
is one trip; and what resets the Carapace takes outputs and samples away, with CPI_FAULT behind the causes held. -/
theorem carapaceEnergisesAndDeenergises : Obligations.CarapaceEnergisesAndDeenergises := by
  refine ⟨fun s links bank tl h hl => ?_, fun s hl => ⟨fun b out opens conducts h hb ho => ?_, fun h => ?_, ?_,
    fun ok hu h => ?_⟩⟩
  · obtain ⟨t, hx, honly, ⟨hkeeps, -⟩, hbay⟩ := selfTestPass_energises links bank tl h hl
    have hseal : t.cara.sealChanged = (s.cara.passed links bank tl).sealChanged := by rw [hkeeps]
    refine ⟨t, hx, honly, by rw [hseal]; exact hkeeps, ?_,
      fun b hb => ⟨_, rfl, ?_, fun hq => ?_, fun k hk ho hm => ?_⟩⟩
    · rw [hseal, Carapace.passed, Bool.or_eq_true, Carapace.bankDiffers_iff]
    · rw [hbay b hb]
      exact CaraBay.heardAll_latchOnly _ _ _ _
    · rw [hbay b hb]
      exact CaraBay.heardAll_quiet b hq _ _
    · rw [hbay b hb]
      exact CaraBay.heardAll_open (List.mem_range.2 hk) hm ho _
  · exact tripOutputTest_deenergises opens conducts h (hl.symm ▸ hb) ho
  · exact ⟨_, exec_cpiInternalFault h, caraNext_only _ _ rfl, s.cara.internalFault_baysOnly,
      fun b hb => s.cara.internalFault_bay (hl.symm ▸ hb)⟩
  · exact ⟨_, rfl, caraNext_only _ _ rfl, rfl, ⟨rfl, s.cara.forget_baysOnly.2⟩, fun b _ => s.cara.forget_bay b⟩
  · have hbay := fun b (hb : b < 4) => s.cara.internalFault_bay (hl.symm ▸ hb)
    have hlen := s.cara.internalFault_baysOnly.2
    have hx := exec_carapaceBankStart ok hu h
    cases ok with
    | true =>
      refine ⟨_, hx, rfl, ⟨rfl, hlen⟩, hbay, rfl, fun h0 => if_pos h0, fun _ => ⟨rfl, fun h0 => if_neg h0, rfl⟩,
        nofun, nofun⟩
    | false =>
      by_cases hf : 2 ≤ s.cara.bankFails
      · simp only [Bool.false_eq_true, if_false, if_pos hf, if_neg (show s.cara.bankFails ≠ 0 by omega)] at hx
        exact ⟨_, hx, rfl, ⟨rfl, hlen⟩, hbay, rfl, fun h0 => by omega, nofun, fun _ hlt => by omega,
          fun _ _ => ⟨rfl, rfl, rfl⟩⟩
      · simp only [Bool.false_eq_true, if_false, if_neg hf] at hx
        exact ⟨_, hx, rfl, ⟨rfl, hlen⟩, hbay, rfl, fun h0 => if_pos h0, nofun, fun _ _ => ⟨rfl, rfl⟩,
          fun _ h2 => by omega⟩

end Sys2Proof

/-! ## The switch channels over dips, hot dies, a loss of supply and the watchdog (R49, R301, R310, R312)

Each command takes every channel to a value computed from that channel alone and from what the module holds beside the
channels, so each clause is a fact about one channel. -/

namespace Sys2Proof

namespace Machine

/-! ### Where a channel may drive its output -/

theorem Module.hold_free {m : Module} {n : Nat} (hd : m.dipped n = false) (hg : m.groupHot n = false) (ch : SwCh) :
    m.hold n ch = ch := by simp [Module.hold, hd, hg]

theorem SwCh.pause_eq (ch : SwCh) (dip : Bool) : ch.pause dip = { ch with
    state := (ch.pause dip).state, prior := (ch.pause dip).prior, dipPause := (ch.pause dip).dipPause } := by
  unfold SwCh.pause
  split <;> rfl

/-- Where feed or die forbid a start the channel is PAUSED, and nothing else of it moves. -/
theorem Module.hold_eq (m : Module) (n : Nat) (ch : SwCh) : m.hold n ch = { ch with
    state := (m.hold n ch).state, prior := (m.hold n ch).prior, dipPause := (m.hold n ch).dipPause } := by
  unfold Module.hold
  split
  · exact ch.pause_eq true
  · split
    · exact ch.pause_eq false
    · rfl

section
variable (ch : SwCh) (m : Module) (n : Nat)

theorem SwCh.turnedOn_commanded : (ch.turnedOn m n).commanded = ch.commanded := by
  unfold SwCh.turnedOn
  split
  · rfl
  · rw [Module.hold_eq]
    rfl

theorem SwCh.turnedOn_failActive : (ch.turnedOn m n).failActive = ch.failActive := by
  unfold SwCh.turnedOn
  split
  · rfl
  · rw [Module.hold_eq]
    rfl

/-- A turn-on that nothing forbids is a first attempt with a full budget (R297). -/
theorem SwCh.turnedOn_free (ho : m.sup.outputsOff = false) (hd : m.dipped n = false) (hg : m.groupHot n = false) :
    ch.turnedOn m n = { ch.attempt m.ms with attempts := 0, shortNow := 0 } := by
  rw [SwCh.turnedOn, if_neg (by simp [ho]), Module.hold_free hd hg]

/-- A channel continues in the state in which it was PAUSED (R301, R312). -/
theorem SwCh.unpaused_state (h4 : ch.state = 4) (hw : ch.dipWasOn = false) (hr : ch.ready = false) :
    (ch.unpaused m n).state = ch.prior.getD 1 := by simp [SwCh.unpaused, h4, hw, hr]

/-! ### The stored fail-safe state (R310) -/

theorem SwCh.failed_commanded : (ch.failed m n).commanded = ch.commanded := by
  unfold SwCh.failed
  dsimp only
  split
  · rfl
  · cases m.sw.failsafe.getD n .off with
    | off => rfl
    | on =>
      dsimp only
      split
      · exact SwCh.turnedOn_commanded _ m n
      · rfl
    | hold => rfl

theorem SwCh.failed_failActive : (ch.failed m n).failActive = true := by
  unfold SwCh.failed
  dsimp only
  split
  · rfl
  · cases m.sw.failsafe.getD n .off with
    | off => rfl
    | on =>
      dsimp only
      split
      · exact SwCh.turnedOn_failActive _ m n
      · rfl
    | hold => rfl

theorem SwCh.failed_latched (h : ch.state = 5) : ch.failed m n = { ch with failActive := true } := if_pos h

theorem SwCh.failed_off (h : ch.state ≠ 5) (hf : m.sw.failsafe.getD n .off = .off) : (ch.failed m n).state = 0 := by
  simp only [SwCh.failed, h, hf, if_false]
  rfl

theorem SwCh.failed_hold (hf : m.sw.failsafe.getD n .off = .hold) : ch.failed m n = { ch with failActive := true } := by
  simp only [SwCh.failed, hf, ite_self]

theorem SwCh.failed_on (h : ch.state = 0) (hf : m.sw.failsafe.getD n .off = .on) :
    ch.failed m n = SwCh.turnedOn { ch with failActive := true } m n := by
  simp only [SwCh.failed, h, hf, if_true, OfNat.zero_ne_ofNat, if_false]

/-! ### A dip of the feed and its return (R49, R312) -/

/-- A channel whose feed dips. -/
def SwCh.feedLost (ch : SwCh) : SwCh :=
  if ch.state = 2 then { ch with state := 4, dipWasOn := true, dipPause := true }
  else if ch.state = 4 then { ch with dipPause := true }
  else ch.pause true

theorem SwCh.feedLost_commanded : ch.feedLost.commanded = ch.commanded := by
  unfold SwCh.feedLost
  split
  · rfl
  · split
    · rfl
    · rw [SwCh.pause_eq]

theorem SwCh.feedLost_steady (h : ch.state = 2) :
    ch.feedLost = { ch with state := 4, dipWasOn := true, dipPause := true } := if_pos h

theorem SwCh.pause_starting (h : ch.state = 1 ∨ ch.state = 3) (dip : Bool) :
    ch.pause dip = { ch with state := 4, prior := some ch.state, dipPause := dip } := if_pos h

theorem SwCh.feedLost_starting (h : ch.state = 1 ∨ ch.state = 3) :
    ch.feedLost = { ch with state := 4, prior := some ch.state, dipPause := true } := by
  rw [SwCh.feedLost, if_neg (by omega), if_neg (by omega), ch.pause_starting h]

/-- A channel whose feed returns: one in steady ON begins a turn-on, or in a follower goes as its leader's does, and one
in turn-on continues unless its die holds it. -/
def SwCh.feedBack (ch : SwCh) (m : Module) (n feed : Nat) : SwCh :=
  if feedOf n = feed ∧ ch.state = 4 ∧ ch.dipPause then
    if ch.dipWasOn then
      if m.follows ∧ ch.failActive = false then
        if ch.partnerOn then { ch.calm with state := 2 } else ch.off
      else ch.turnedOn m n
    else if m.groupHot n then { ch with dipPause := false }
    else ch.unpaused m n
  else ch

/-- The same of the module's channel. -/
def Module.feedBack (m : Module) (feed n : Nat) : Module :=
  let ch := m.swc n
  if feedOf n = feed ∧ ch.state = 4 ∧ ch.dipPause then
    if ch.dipWasOn then
      if m.follows ∧ ch.failActive = false then
        m.modSw n (fun ch => if ch.partnerOn then { ch.calm with state := 2 } else ch.off)
      else m.turnOn n
    else if m.groupHot n then m.modSw n (fun ch => { ch with dipPause := false })
    else m.unpause n
  else m

theorem Module.feedBack_step (feed : Nat) : SwStep n m (m.feedBack feed n) ((m.swc n).feedBack m n feed) := by
  unfold Module.feedBack SwCh.feedBack
  dsimp only
  split
  · split
    · split
      · exact m.modSw_step n _
      · exact m.turnOn_step n
    · split
      · exact m.modSw_step n _
      · exact m.unpause_step n
  · exact .refl n m

theorem SwCh.feedBack_same {m m' : Module} (h : SwSame m m') (feed : Nat) :
    ch.feedBack m' n feed = ch.feedBack m n feed := by rw [h]; rfl

theorem SwCh.feedBack_other {feed : Nat} (h : feedOf n ≠ feed) : ch.feedBack m n feed = ch := if_neg fun e => h e.1

theorem SwCh.feedBack_starting {feed : Nat} (hf : feedOf n = feed) (h4 : ch.state = 4) (hp : ch.dipPause = true)
    (hg : m.groupHot n = false) (hw : ch.dipWasOn = false) : ch.feedBack m n feed = ch.unpaused m n := by
  simp [SwCh.feedBack, hf, h4, hp, hg, hw]

theorem SwCh.feedBack_steady {feed : Nat} (hf : feedOf n = feed) (h4 : ch.state = 4) (hp : ch.dipPause = true)
    (hw : ch.dipWasOn = true) (hm : m.follows = false) : ch.feedBack m n feed = ch.turnedOn m n := by
  simp [SwCh.feedBack, hf, h4, hp, hw, hm]

/-! ### A die that cools (R301) -/

/-- A channel of the group whose die has cooled continues where its feed allows it. -/
def SwCh.dieCooled (ch : SwCh) (m : Module) (n group : Nat) : SwCh :=
  if n / 4 = group ∧ m.dipped n = false then ch.unpaused m n else ch

theorem Module.dieCooled_step (group : Nat) :
    SwStep n m (if n / 4 = group ∧ m.dipped n = false then m.unpause n else m) ((m.swc n).dieCooled m n group) := by
  unfold SwCh.dieCooled
  split
  · exact m.unpause_step n
  · exact .refl n m

theorem SwCh.dieCooled_same {m m' : Module} (h : SwSame m m') (group : Nat) :
    ch.dieCooled m' n group = ch.dieCooled m n group := by rw [h]; rfl

/-! ### The start of the SWI (R49, R74, R312) -/

/-- A channel as the SWI starts: its fail-safe state, where HOLD restores a commanded ON. -/
def SwCh.started (ch : SwCh) (m : Module) (n : Nat) : SwCh :=
  let x := ch.failed m n
  if m.sw.failsafe.getD n .off = .hold ∧ x.commanded ∧ x.state = 0 then x.turnedOn m n else x

/-- The same of the module's channel. -/
def Module.startSw (m : Module) (n : Nat) : Module :=
  let m := m.failSw n
  if m.sw.failsafe.getD n .off = .hold ∧ (m.swc n).commanded ∧ (m.swc n).state = 0 then m.turnOn n else m

theorem Module.startSw_step (hn : n < m.sw.chans.length) : SwStep n m (m.startSw n) ((m.swc n).started m n) := by
  have hfail := m.failSw_step n hn
  have hfs : (m.failSw n).sw.failsafe = m.sw.failsafe := by rw [hfail.1.same]
  unfold Module.startSw SwCh.started
  dsimp only
  rw [hfs, hfail.2.2 hn]
  split
  · exact SwStep.next hfail (g := fun y b => y.turnedOn b n) (Module.turnOn_step _ n)
      fun y => SwCh.turnedOn_same hfail.1.same y n
  · exact hfail

theorem SwCh.started_same {m m' : Module} (h : SwSame m m') : ch.started m' n = ch.started m n := by rw [h]; rfl

theorem SwCh.started_commanded : (ch.started m n).commanded = ch.commanded := by
  unfold SwCh.started
  dsimp only
  split
  · rw [SwCh.turnedOn_commanded, SwCh.failed_commanded]
  · exact ch.failed_commanded m n

theorem SwCh.started_latched (h : ch.state = 5) : (ch.started m n).state = 5 := by
  simp [SwCh.started, ch.failed_latched m n h, h]

theorem SwCh.started_off (h : ch.state = 0) (hf : m.sw.failsafe.getD n .off = .off) : (ch.started m n).state = 0 := by
  simp only [SwCh.started, hf, reduceCtorEq, false_and, if_false]
  exact ch.failed_off m n (by omega) hf

theorem SwCh.started_on (h : ch.state = 0) (ho : m.sup.outputsOff = false) (hd : m.dipped n = false)
    (hg : m.groupHot n = false) (hf : m.sw.failsafe.getD n .off = .on ∨
      (m.sw.failsafe.getD n .off = .hold ∧ ch.commanded = true)) : (ch.started m n).state = 1 := by
  rcases hf with hon | ⟨hhold, hc⟩
  · simp only [SwCh.started, hon, reduceCtorEq, false_and, if_false]
    rw [ch.failed_on m n h hon, SwCh.turnedOn_free _ m n ho hd hg]
    rfl
  · simp only [SwCh.started, ch.failed_hold m n hhold, hhold, hc, h, and_self, if_true]
    rw [SwCh.turnedOn_free _ m n ho hd hg]
    rfl

/-! ### A loss of supply (R49) -/

/-- A channel after both feeds have gone: off, or latched where a cause is stored. -/
def SwCh.supplyLost (ch : SwCh) : SwCh :=
  { ch.off with state := if ch.cause = 0 then 0 else 5, failActive := false, partnerOn := false, offRun := 0 }

end

/-! ### The commands -/

section
variable {s : State}

/-- A command that goes through all the channels takes each to its own value, and leaves the rest but the journalling
as it was. -/
theorem answers_of_eachSw {i : Instr} {m : Module} {f : Module → Nat → Module} {g : Module → Nat → SwCh → SwCh}
    (hx : exec i s = .next { s with m := m.eachSw f })
    (hf : ∀ m n, n < m.sw.chans.length → SwStep n m (f m n) (g m n (m.swc n)))
    (hg : ∀ m m' n ch, SwSame m m' → g m' n ch = g m n ch) (hl : m.sw.chans.length = 24) :
    ∃ t, Answers i s t ∧ SwSame m t.m ∧ ∀ c, c < 24 → t.m.swc c = g m c (m.swc c) := by
  obtain ⟨hsame, -, hall⟩ := Module.eachSw_step f g hf hg m hl
  exact ⟨_, ⟨hx, rfl, rfl⟩, hsame, hall⟩

/-- A dip counts the feed as dipped, and takes its channels off their feed. -/
theorem vswFeedDip_channels (f : Nat) : ∃ t, Answers (.vswFeedDip f) s t ∧
    t.m = { s.m with sw := { s.m.sw with dip := t.m.sw.dip, chans := t.m.sw.chans } } ∧
    t.m.sw.dip = modAt s.m.sw.dip f (fun _ => true) ∧ ∀ c, c < s.m.sw.chans.length →
      t.m.swc c = if feedOf c = f then (s.m.swc c).feedLost else s.m.swc c :=
  ⟨_, ⟨rfl, rfl, rfl⟩, rfl, rfl, fun _ hc =>
    getD_zipIdx_map_of_lt s.m.sw.chans (fun p => if feedOf p.2 = f then p.1.feedLost else p.1) hc {} {}⟩

/-- The module that no longer counts a feed as dipped. -/
def Module.feedUp (m : Module) (f : Nat) : Module :=
  { m with sw := { m.sw with dip := modAt m.sw.dip f (fun _ => false) } }

theorem Module.feedUp_dipped (m : Module) {f c : Nat} (h : f < m.sw.dip.length) (hc : feedOf c = f) :
    (m.feedUp f).dipped c = false := by
  show (modAt m.sw.dip f (fun _ => false)).getD (feedOf c) false = false
  rw [hc, modAt_getD_same _ _ _ _ h]

theorem vswFeedReturn_channels (f : Nat) (hl : s.m.sw.chans.length = 24) : ∃ t, Answers (.vswFeedReturn f) s t ∧
    SwSame (s.m.feedUp f) t.m ∧ ∀ c, c < 24 → t.m.swc c = (s.m.swc c).feedBack (s.m.feedUp f) c f :=
  answers_of_eachSw (m := s.m.feedUp f) (f := fun m n => m.feedBack f n) (g := fun m n ch => ch.feedBack m n f) rfl
    (fun m n _ => m.feedBack_step n f) (fun _ _ n ch h => ch.feedBack_same n h f) hl

/-- A hot die is noted, and the channels of its group in turn-on or waiting are PAUSED. -/
theorem groupDieLimit_channels (g : Nat) (d : Int) : ∃ t, Answers (.groupDieLimit g d) s t ∧
    t.m = { s.m with sw := { s.m.sw with
      groupT := t.m.sw.groupT, groupHot := t.m.sw.groupHot, chans := t.m.sw.chans } } ∧
    t.m.sw.groupHot = modAt s.m.sw.groupHot g (fun _ => true) ∧ ∀ c, c < s.m.sw.chans.length →
      t.m.swc c = if c / 4 = g then (s.m.swc c).pause false else s.m.swc c :=
  ⟨_, ⟨rfl, rfl, rfl⟩, rfl, rfl, fun _ hc =>
    getD_zipIdx_map_of_lt s.m.sw.chans (fun p => if p.2 / 4 = g then p.1.pause false else p.1) hc {} {}⟩

/-- The module that counts a group's die as cool again. -/
def Module.dieCool (m : Module) (g : Nat) (d : Int) : Module :=
  { m with sw := { m.sw with
    groupT := modAt m.sw.groupT g (fun _ => d), groupHot := modAt m.sw.groupHot g (fun _ => false) } }

theorem groupDieResume_channels (g : Nat) (d : Int) (hl : s.m.sw.chans.length = 24) :
    ∃ t, Answers (.groupDieResume g d) s t ∧ SwSame (s.m.dieCool g d) t.m ∧
      ∀ c, c < 24 → t.m.swc c = (s.m.swc c).dieCooled (s.m.dieCool g d) c g :=
  answers_of_eachSw (m := s.m.dieCool g d) (g := fun m n ch => ch.dieCooled m n g) rfl
    (fun m n _ => m.dieCooled_step n g) (fun _ _ n ch h => ch.dieCooled_same n h g) hl

theorem swiSupplyReset_channels : ∃ t, Answers .swiSupplyReset s t ∧
    t.m = { s.m.modIsl .swi (fun i => { i with up := false, epoch := (i.epoch + 1) % 256 }) with
      sw := { s.m.sw with
        powered := false, noFeed := true, expired := false, suspended := false, chans := t.m.sw.chans } } ∧
    ∀ c, c < s.m.sw.chans.length → t.m.swc c = (s.m.swc c).supplyLost :=
  ⟨_, ⟨rfl, rfl, rfl⟩, rfl, fun _ hc => getD_map_of_lt s.m.sw.chans SwCh.supplyLost hc {} {}⟩

/-- The module whose SWI has its supply again. -/
def Module.swiPowered (m : Module) : Module :=
  { m.modIsl .swi (fun i => { i with up := true }) with sw := { m.sw with powered := true, noFeed := false } }

theorem exec_swiSupplyRestart : exec .swiSupplyRestart s = .next { s with
    m := if s.m.sw.powered then s.m else s.m.swiPowered.eachSw Module.startSw } := rfl

theorem swiSupplyRestart_channels (hp : s.m.sw.powered = false) (hl : s.m.sw.chans.length = 24) :
    ∃ t, Answers .swiSupplyRestart s t ∧ SwSame s.m.swiPowered t.m ∧
      ∀ c, c < 24 → t.m.swc c = (s.m.swc c).started s.m.swiPowered c :=
  answers_of_eachSw (m := s.m.swiPowered) (g := fun m n ch => ch.started m n)
    (exec_swiSupplyRestart.trans (by rw [if_neg (Bool.eq_false_iff.1 hp)]))
    (fun m n hn => m.startSw_step n hn) (fun _ _ n ch h => ch.started_same n h) hl

/-- The module whose switch watchdog has expired. -/
def Module.swExpired (m : Module) : Module := { m with sw := { m.sw with expired := true } }

theorem exec_swWatchdogExpire : exec .swWatchdogExpire s = .next { s with
    m := if s.m.sw.powered ∧ s.m.sw.suspended = false then s.m.swExpired.eachSw Module.failSw else s.m } := rfl

theorem swWatchdogExpire_channels (hp : s.m.sw.powered = true) (hs : s.m.sw.suspended = false)
    (hl : s.m.sw.chans.length = 24) : ∃ t, Answers .swWatchdogExpire s t ∧ SwSame s.m.swExpired t.m ∧
      ∀ c, c < 24 → t.m.swc c = (s.m.swc c).failed s.m.swExpired c :=
  answers_of_eachSw (m := s.m.swExpired) (g := fun m n ch => ch.failed m n)
    (exec_swWatchdogExpire.trans (by rw [if_pos ⟨hp, hs⟩]))
    (fun m n hn => m.failSw_step n hn) (fun _ _ n ch h => SwCh.failed_same h ch n) hl

end

end Machine

open Machine

/-- Settles O20: each clause is the fact about one channel, lifted to all of them where the command goes through the
channels; a FAILSAFE of ON at the watchdog is in `SwCh.failed_on`. -/
theorem switchSupplyAndPauses : Obligations.SwitchSupplyAndPauses := by
  intro s hl
  have lt : ∀ {c}, c < 24 → c < s.m.sw.chans.length := fun hc => hl.symm ▸ hc
  refine ⟨fun f hf => ?_, fun f hf => ?_, fun g d => ?_, fun g d => ?_, ?_, fun hp => ?_, fun hp => ?_, fun hp hs => ?_,
    fun hs => ?_⟩
  · obtain ⟨t, ha, ht, hdip, hall⟩ := vswFeedDip_channels (s := s) f
    refine ⟨t, ha, ht, by rw [hdip, modAt_getD_same _ _ _ _ hf], fun c hc => ?_⟩
    rw [hall c (lt hc)]
    by_cases h : feedOf c = f
    · rw [if_pos h]
      refine ⟨SwCh.feedLost_commanded _, fun hne => absurd h hne, fun _ hst => ?_⟩
      by_cases h2 : (s.m.swc c).state = 2
      · rw [SwCh.feedLost_steady _ h2]
        exact ⟨rfl, rfl, fun _ => rfl, fun hne => absurd h2 hne⟩
      · rw [SwCh.feedLost_starting _ (by omega)]
        exact ⟨rfl, rfl, fun h2' => absurd h2' h2, fun _ => rfl⟩
    · rw [if_neg h]
      exact ⟨rfl, fun _ => rfl, fun h' => absurd h' h⟩
  · obtain ⟨t, ha, hsame, hall⟩ := vswFeedReturn_channels f hl
    refine ⟨t, ha, hsame, fun c hc => ?_⟩
    rw [hall c hc]
    refine ⟨fun hne => SwCh.feedBack_other _ _ c hne, fun h h4 hpause hcool => ⟨fun hw hr => ?_, fun hw hm ho => ?_⟩⟩
    · rw [SwCh.feedBack_starting _ (s.m.feedUp f) c h h4 hpause hcool hw]
      exact SwCh.unpaused_state _ _ c h4 hw hr
    · rw [SwCh.feedBack_steady _ (s.m.feedUp f) c h h4 hpause hw hm,
        SwCh.turnedOn_free _ (s.m.feedUp f) c ho (s.m.feedUp_dipped hf h) hcool]
      exact ⟨rfl, rfl⟩
  · obtain ⟨t, ha, ht, hhot, hall⟩ := groupDieLimit_channels (s := s) g d
    refine ⟨t, ha, ht, fun hg => by rw [hhot, modAt_getD_same _ _ _ _ hg], fun c hc => ?_⟩
    rw [hall c (lt hc)]
    exact ⟨fun hne => if_neg hne, fun h hst => by rw [if_pos h, SwCh.pause_starting _ hst]⟩
  · obtain ⟨t, ha, hsame, hall⟩ := groupDieResume_channels g d hl
    refine ⟨t, ha, hsame, fun c hc => ?_⟩
    rw [hall c hc]
    refine ⟨fun hne => if_neg fun e => hne e.1, fun h hd h4 hw hr => ?_⟩
    rw [SwCh.dieCooled, if_pos ⟨h, hd⟩]
    exact SwCh.unpaused_state _ _ c h4 hw hr
  · obtain ⟨t, ha, ht, hall⟩ := swiSupplyReset_channels (s := s)
    refine ⟨t, ha, ht, fun c hc => ?_⟩
    rw [hall c (lt hc)]
    exact ⟨rfl, rfl, rfl⟩
  · rw [exec_swiSupplyRestart, if_pos hp]
  · obtain ⟨t, ha, hsame, hall⟩ := swiSupplyRestart_channels hp hl
    refine ⟨t, ha, hsame, fun c hc => ?_⟩
    rw [hall c hc]
    exact ⟨SwCh.started_commanded _ _ c, SwCh.started_latched _ _ c, SwCh.started_off _ s.m.swiPowered c,
      fun h0 hd hg ho hf => SwCh.started_on _ s.m.swiPowered c h0 ho hd hg hf⟩
  · obtain ⟨t, ha, hsame, hall⟩ := swWatchdogExpire_channels hp hs hl
    refine ⟨t, ha, hsame, fun c hc => ?_⟩
    rw [hall c hc]
    refine ⟨SwCh.failed_failActive _ _ c, SwCh.failed_commanded _ _ c, SwCh.failed_off _ s.m.swExpired c, fun h => ?_⟩
    rcases h with h5 | hhold
    · rw [SwCh.failed_latched _ _ c h5]
    · rw [SwCh.failed_hold _ s.m.swExpired c hhold]
  · rw [exec_swWatchdogExpire, if_neg (by simp [hs])]

end Sys2Proof

/-! ## What a follower takes from its leader, and a leader from its follower (R61, R82, R259, R292, R313, R345, R417 to R425)

Every pair frame is first heard (`Module.heardPair`); what it then does is a function of the module that has heard it. -/

namespace Sys2Proof

open Machine

namespace Machine

/-- A served module hears a pair frame and then takes it; any other lets it be. -/
def Module.hears (m : Module) (h : PairHdr) (take : Module → Module) : Module :=
  if m.pairServes then take (m.heardPair h) else m

section
variable {m : Module} {h : PairHdr} {take : Module → Module}

theorem Module.hears_idle (hp : m.pairServes = false) : m.hears h take = m := by simp [Module.hears, hp]

theorem Module.hears_served (hp : m.pairServes = true) : m.hears h take = take (m.heardPair h) := by
  simp [Module.hears, hp]

end

theorem Module.leads_not_follows {m : Module} (h : m.leads = true) : m.follows = false := by
  simp [Module.leads] at h
  simp [Module.follows, h]

theorem Module.follows_not_leads {m : Module} (h : m.follows = true) : m.leads = false := by
  rw [Bool.eq_false_iff]
  intro hl
  rw [Module.leads_not_follows hl] at h
  exact Bool.false_ne_true h

/-! ### The time (R82, R84) -/

/-- An offset of at most 1 ms to a LOCKED timescale is slewed out (R84). -/
theorem Module.steer_locked {m : Module} {ns : Int} (h : m.time.state = .locked) (hn : ns.natAbs ≤ 1000000) :
    m.steer ns = { m with time := { m.time with slew := ns } } := by
  rw [Module.steer, if_neg (by simp [h, hn])]

theorem Module.lockTime_locked {m : Module} (h : m.time.state = .locked) : m.lockTime = m := by
  simp only [Module.lockTime, h]

/-- A follower steers to the offset it has to its leader's plant time. -/
def Module.takeTime (m : Module) (off : Int) : Module :=
  if m.follows ∧ m.up .mgi then
    (Module.steer { m with pair := { m.pair with partnerTime := off } } off).lockTime
  else m

theorem Module.takeTime_locked {m : Module} {off : Int} (hf : m.follows = true) (hu : m.up .mgi = true)
    (h : m.time.state = .locked) (hn : off.natAbs ≤ 1000000) : m.takeTime off =
      { m with time := { m.time with slew := off }, pair := { m.pair with partnerTime := off } } := by
  rw [Module.takeTime, if_pos ⟨hf, hu⟩]
  exact (congrArg Module.lockTime (Module.steer_locked
    (m := { m with pair := { m.pair with partnerTime := off } }) h hn)).trans (Module.lockTime_locked h)

/-! ### A manifest (R127, R346, R440) -/

theorem Module.takeGen_same {m : Module} {gen : Nat} (h : gen = m.pair.gen) : m.takeGen gen = m := by
  subst h
  simp [Module.takeGen]

/-- What a follower does with its leader's manifest. -/
def Module.hearManifest (m : Module) (man : Manifest) : Module :=
  if m.follows then
    let m := m.takeGen man.gen
    match m.sweep.prov with
    | some p =>
      if p.sweep = man.sweep then
        let m : Module := { m with sweep := { m.sweep with prov := none } }
        if sameManifest p man then m else (m.noteMissing man).loseSync
      else m.openManifest man
    | none => if m.readoutOpen man.sweep then m.openManifest man else m
  else m

section
variable {m : Module} {man : Manifest} (hf : m.follows = true) (hg : man.gen = m.pair.gen)
include hf hg

theorem Module.hearManifest_provisional {p : Manifest} (hp : m.sweep.prov = some p) (hs : p.sweep = man.sweep) :
    m.hearManifest man = if sameManifest p man then { m with sweep := { m.sweep with prov := none } }
      else (Module.noteMissing { m with sweep := { m.sweep with prov := none } } man).loseSync := by
  unfold Module.hearManifest
  rw [if_pos hf, Module.takeGen_same hg]
  simp only [hp, hs, if_true]

theorem Module.hearManifest_open (hp : m.sweep.prov = none) :
    m.hearManifest man = if m.readoutOpen man.sweep then m.openManifest man else m := by
  unfold Module.hearManifest
  rw [if_pos hf, Module.takeGen_same hg]
  simp only [hp]

end

/-! ### A Scarab state of the leader (R259) -/

theorem Module.setInst_inst (m : Module) (k k' : InstKey) (i : Inst) :
    (m.setInst k i).inst k' = if k' = k then i else m.inst k' := by
  cases k with
  | str s =>
    cases k' with
    | str s' =>
      by_cases h : s' = s
      · subst h
        simp [Module.setInst, Module.inst, Module.sInst]
      · simp [Module.setInst, Module.inst, Module.sInst, h, Ne.symm h]
    | bay b' => rfl
  | bay b =>
    cases k' with
    | str s' => rfl
    | bay b' =>
      by_cases h : b' = b
      · subst h
        simp [Module.setInst, Module.inst, Module.bInst]
      · simp [Module.setInst, Module.inst, Module.bInst, h, Ne.symm h]

/-- What a received Scarab state moves: itself, its mirror word, and what a resynchronisation under way has buffered. -/
theorem Module.takeStep_keeps (m : Module) (sweep : Nat) (k : InstKey) (i : Inst) : m.takeStep sweep k i = { m with
    scarab := (m.setInst k i).scarab, cal := (m.takeStep sweep k i).cal
    pair := { m.pair with resync := (m.takeStep sweep k i).pair.resync } } := by
  cases k with
  | str s =>
    unfold Module.takeStep
    dsimp only
    split <;> split <;> rfl
  | bay b =>
    unfold Module.takeStep
    dsimp only
    split <;> split <;> rfl

/-- The string or bay stands as its leader has it, and every other one as it stood. -/
theorem Module.takeStep_inst (m : Module) (sweep : Nat) (k k' : InstKey) (i : Inst) :
    (m.takeStep sweep k i).inst k' = if k' = k then i else m.inst k' := by
  rw [← m.setInst_inst k k' i, m.takeStep_keeps sweep k i]
  cases k' <;> rfl

/-- What a follower does with a Scarab state of its leader: one at END ends its template. -/
def Module.hearStep (m : Module) (sweep : Nat) (k : InstKey) (img : Inst) : Module :=
  let m := m.partnerWorks
  if m.follows then
    let m := m.takeStep sweep k img
    match img.step with
    | some n => if (look {} (m.seqOf k).steps n).kind = 0xF then (m.endTemplate k).limitReached k else m
    | none => m
  else m

section
variable {m : Module} {sweep : Nat} {k : InstKey} {img : Inst} (hf : m.follows = true)
include hf

theorem Module.hearStep_running
    (h : ∀ n, img.step = some n → (look {} ((m.partnerWorks.takeStep sweep k img).seqOf k).steps n).kind ≠ 0xF) :
    m.hearStep sweep k img = m.partnerWorks.takeStep sweep k img := by
  unfold Module.hearStep
  dsimp only
  rw [if_pos (show m.partnerWorks.follows = true from hf)]
  split
  next n hn => rw [if_neg (h n hn)]
  next => rfl

theorem Module.hearStep_end {n : Nat} (hn : img.step = some n)
    (h : (look {} ((m.partnerWorks.takeStep sweep k img).seqOf k).steps n).kind = 0xF) :
    m.hearStep sweep k img = ((m.partnerWorks.takeStep sweep k img).endTemplate k).limitReached k := by
  unfold Module.hearStep
  dsimp only
  rw [if_pos (show m.partnerWorks.follows = true from hf)]
  simp only [hn, h, if_true]

end

/-! ### A precharge run (R61, R292) -/

/-- The conditions of a run record leave the channels as they are. -/
theorem Module.raiseIf_only (m : Module) (p : Prop) [Decidable p] (code c : Nat) :
    JournalOnly m (if p then m.raise .pwi code sevWarning scPrecharge c else m) := by
  split
  · exact m.raise_only _ _ _ _ _ _ _
  · exact .refl m

/-- A run record takes effect with the outputs low (R61). -/
theorem Module.applyRecord_spec (m : Module) {c : Nat} (r : RunRecord) (hc : c < m.pre.length) :
    PreKeeps c m (m.applyRecord c r) ∧ ((m.applyRecord c r).pch c).state = r.state ∧
      ((m.applyRecord c r).pch c).vTarget = r.vTarget ∧ ((m.applyRecord c r).pch c).record_ = r ∧
      PreCh.outputsLow ((m.applyRecord c r).pch c) := by
  unfold Module.applyRecord
  dsimp only
  generalize hch : ({ (m.pch c).low with
    state := r.state, vTarget := r.vTarget, probeAt := m.time.now - r.probeMs * 1000000, done := r.done
    shortCount := r.shortCount, acc := r.acc, stands := decide (1 ≤ r.state ∧ r.state ≤ 4), record_ := r
    lastShort := if r.retryLeft = 0 then (m.pch c).lastShort
      else some (m.time.now - ((m.preCfg c).retryDelay * 1000 - r.retryLeft) * 1000000) } : PreCh) = ch
  obtain ⟨-, hput, hkeeps⟩ := m.putPch_spec c ch hc
  have honly := ((m.putPch c ch).raiseIf_only (r.state = 5) cPrechargeFault c).trans
    (Module.raiseIf_only _ (r.state = 6) cPrechargeLockout c)
  have hpch : Module.pch _ c = ch.withWord m := (honly.field (fun n => n.pch c) fun _ _ _ _ => rfl).trans hput
  refine ⟨hkeeps.trans (.of_only honly), ?_⟩
  rw [hpch, PreCh.withWord_eq, ← hch]
  exact ⟨rfl, rfl, rfl, rfl, rfl, rfl, rfl⟩

/-- What a follower does with a run record of its leader. -/
def Module.hearRun (m : Module) (c : Nat) (r : RunRecord) : Module :=
  if m.partnerWorks.follows then m.partnerWorks.applyRecord c r else m.partnerWorks

/-! ### The switch image and requests for the own end (R313, R314, R345) -/

/-- What is done with a switch image of the leader, or with the follower's currents. -/
def Module.hearImage (m : Module) (image : Option (List Bool)) (currents : List Int) : Module :=
  match image with
  | some l => if m.follows then Module.emit { m with sw := { m.sw with image := l } } (.refresh (some l)) else m
  | none => if m.leads then { m with sw := { m.sw with partnerCur := currents } } else m

/-- A follower sends its leader's frame from its own end where it can. -/
def Module.hearEnd (m : Module) (port : Nat) (f : EndFrame) : Module :=
  if m.follows ∧ m.up .rgi ∧ (m.port port).up then m.emit (.ring port f) else m

/-! ### Journal records (R345, R417, R421, R425, R463) -/

theorem Module.keepRecord_only (m : Module) (r : JRec) : JournalOnly m (m.keepRecord r) :=
  (m.enqueue_only true r).trans (.of_fields _ _ _)

/-- The domain series goes on behind every record kept of it (R418). -/
theorem Module.keepRecord_domNext (m : Module) (r : JRec) : r.seq < (m.keepRecord r).jou.domNext :=
  Nat.lt_of_lt_of_le (Nat.lt_succ_self _) (Nat.le_max_right _ _)

theorem Module.enqueue_queue {m : Module} (k : Bool) (r : JRec) (hu : m.up .mgi = true)
    (hq : m.jou.queue.length < 65536) : (m.enqueue k r).jou.queue = m.jou.queue ++ [(k, r)] := by
  rw [Module.enqueue, if_pos hu, if_neg (by omega)]

/-- Queueing a record masks no source and leaves the partner's conditions as they are. -/
theorem Module.enqueue_mask (m : Module) (k : Bool) (r : JRec) : (m.enqueue k r).al.mask = m.al.mask := by
  unfold Module.enqueue
  split
  · split <;> rfl
  · split <;> rfl

theorem Module.enqueue_partner (m : Module) (k : Bool) (r : JRec) : (m.enqueue k r).al.partner = m.al.partner := by
  unfold Module.enqueue
  split
  · split <;> rfl
  · split <;> rfl

/-- Queueing a record ends no sticky bit. -/
theorem Module.enqueue_sticky (m : Module) (k : Bool) (r : JRec) {x : Nat} (h : x ∈ m.al.sticky) :
    x ∈ (m.enqueue k r).al.sticky := by
  unfold Module.enqueue
  split
  · split
    · exact (mem_addTo _ _ _).2 (.inl h)
    · exact h
  · split <;> exact h

theorem Module.applyJournal_mask (m : Module) {r : JRec} (h : r.code = eAlertMask) :
    m.applyJournal r = { m with al := { m.al with mask := bitmapSources r.payload } } := if_pos h

/-- A record of none of the seven kinds that take effect is only kept. -/
theorem Module.applyJournal_other (m : Module) {r : JRec} (h : r.code ≠ eAlertMask) (h1 : r.code ≠ eAlertClear)
    (h2 : r.code ≠ eJournalAck) (h3 : r.code ≠ eStateChange) (h4 : r.code ≠ eCommand) (h5 : r.code ≠ eRingRejoined)
    (h6 : r.code ≠ eDormant) : m.applyJournal r = m := by
  simp only [Module.applyJournal, h, h1, h2, h3, h4, h5, h6, if_false, false_and]

/-- A record of the leader that is kept, and takes effect at most as a mask. -/
theorem Module.keptRecord_spec {m x : Module} {r : JRec} (hx : x = (m.keepRecord r).applyJournal r)
    (h1 : r.code ≠ eAlertClear) (h2 : r.code ≠ eJournalAck) (h3 : r.code ≠ eStateChange) (h4 : r.code ≠ eCommand)
    (h5 : r.code ≠ eRingRejoined) (h6 : r.code ≠ eDormant) :
    JournalOnly m x ∧ r.seq < x.jou.domNext ∧
      (m.up .mgi = true → m.jou.queue.length < 65536 → (true, r) ∈ x.jou.queue) ∧
      (r.code = eAlertMask → x.al.mask = bitmapSources r.payload) ∧
      (r.code ≠ eAlertMask → x.al.mask = m.al.mask) := by
  have hq : m.up .mgi = true → m.jou.queue.length < 65536 → (true, r) ∈ (m.keepRecord r).jou.queue := fun hu hlt => by
    show (true, r) ∈ (m.enqueue true r).jou.queue
    rw [Module.enqueue_queue true r hu hlt]
    exact List.mem_append_right _ (List.mem_singleton_self _)
  by_cases h : r.code = eAlertMask
  · rw [hx, Module.applyJournal_mask _ h]
    exact ⟨(m.keepRecord_only r).trans (.of_fields _ _ _), m.keepRecord_domNext r, hq, fun _ => rfl,
      fun hne => absurd h hne⟩
  · rw [hx, Module.applyJournal_other _ h h1 h2 h3 h4 h5 h6]
    exact ⟨m.keepRecord_only r, m.keepRecord_domNext r, hq, fun heq => absurd heq h, fun _ => m.enqueue_mask true r⟩

theorem Module.live_partner {m : Module} {c : Cond} (h : c ∈ m.al.partner) : c.code ∈ m.live := by
  simp only [Module.live, mem_addAll]
  exact .inl (.inl (.inr (List.mem_map_of_mem h)))

/-- A follower's own condition stands in its leader's map from its record to its FALL record (R424, R463). -/
theorem Module.partnerCond_spec (m : Module) (r : JRec) : JournalOnly m (m.partnerCond r) ∧
    ((⟨r.code, r.scope, r.inst⟩ : Cond) ∈ (m.partnerCond r).al.partner ↔ r.fall = false) ∧
    (r.fall = false → r.code ∈ (m.partnerCond r).al.sticky) := by
  unfold Module.partnerCond
  dsimp only
  refine ⟨JournalOnly.trans (.of_fields _ _ _) (Module.enqueue_only _ _ _), ?_, fun hr => ?_⟩
  · rw [Module.enqueue_partner]
    show _ ∈ (if r.fall then dropFrom m.al.partner _ else addTo m.al.partner _) ↔ _
    cases r.fall with
    | false => simp [mem_addTo]
    | true => simp [mem_dropFrom]
  · refine Module.enqueue_sticky _ _ _ ((mem_addAll _ _ _).2 (.inr ?_))
    refine Module.live_partner (c := ⟨r.code, r.scope, r.inst⟩) ?_
    simp [hr, mem_addTo]

/-- What is done with a journal record of the partner. -/
def Module.hearJournal (m : Module) (h : PairHdr) (r : JRec) : Module :=
  if h.role = .leader ∧ m.leads = false then (m.keepRecord r).applyJournal r
  else if m.leads then
    if h.role = .leader then m.keepRecord r else if r.code < 0x80 then m.partnerCond r else m.enqueue false r
  else m

/-! ### The commands -/

section
variable {s : State} {h : PairHdr}

theorem exec_pairTimeRx (off : Int) : exec (.pairTimeRx h off) s = .next { s with
    m := s.m.hears h (fun m => m.takeTime off) } := rfl

theorem exec_pairManifestRx (man : Manifest) : exec (.pairManifestRx h man) s = .next { s with
    m := s.m.hears h (fun m => m.hearManifest man) } := rfl

theorem exec_pairScarabStepRx (k : InstKey) (img : Inst) : exec (.pairScarabStepRx h k img) s = .next { s with
    m := s.m.hears h (fun m => m.hearStep h.sweep k img) } := rfl

theorem exec_pairRunRecordRx (c : Nat) (r : RunRecord) : exec (.pairRunRecordRx h c r) s = .next { s with
    m := s.m.hears h (fun m => m.hearRun c r) } := rfl

theorem exec_pairSwitchImageRx (l : Option (List Bool)) (cur : List Int) :
    exec (.pairSwitchImageRx h l cur) s = .next { s with m := s.m.hears h (fun m => m.hearImage l cur) } := rfl

theorem exec_pairEndRequestRx (port : Nat) (f : EndFrame) (dep : Nat) :
    exec (.pairEndRequestRx h port f dep) s = .next { s with m := s.m.hears h (fun m => m.hearEnd port f) } := rfl

theorem exec_pairJournalRx (r : JRec) : exec (.pairJournalRx h r) s = .next { s with
    m := s.m.hears h (fun m => m.hearJournal h r) } := rfl

/-- A command of the pair link in a module that serves it. -/
theorem answers_of_hears {i : Instr} {take : Module → Module} (hp : s.m.pairServes = true)
    (hx : exec i s = .next { s with m := s.m.hears h take }) : ∃ t, Answers i s t ∧ t.m = take (s.m.heardPair h) :=
  ⟨_, ⟨hx, rfl, rfl⟩, Module.hears_served hp⟩

end

end Machine

/-- Settles O33: each frame is the fact about what it does with a module that has heard it, which keeps role, islands, time
and ports as they were. -/
theorem followerTakesFrames : Obligations.FollowerTakesFrames := by
  intro s h
  refine ⟨fun hp => ?_, fun hp => ?_⟩
  · simp only [exec_pairTimeRx, exec_pairManifestRx, exec_pairScarabStepRx, exec_pairRunRecordRx, exec_pairSwitchImageRx,
      exec_pairEndRequestRx, exec_pairJournalRx, Module.hears_idle hp, implies_true, and_self]
  have hgen : (s.m.heardPair h).pair.gen = s.m.pair.gen := by rw [Module.heardPair_pair]
  have hpre : (s.m.heardPair h).pre = s.m.pre := Module.heardPair_field Module.pre _ _ fun _ _ _ _ _ _ => rfl
  have htime : (s.m.heardPair h).time = s.m.time := Module.heardPair_field Module.time _ _ fun _ _ _ _ _ _ => rfl
  have hport : ∀ p, (s.m.heardPair h).port p = s.m.port p := fun p =>
    Module.heardPair_field (fun m => m.port p) _ _ fun _ _ _ _ _ _ => rfl
  have hinst : ∀ k, (s.m.heardPair h).inst k = s.m.inst k := fun k =>
    Module.heardPair_field (fun m => m.inst k) _ _ fun _ _ _ _ _ _ => by cases k <;> rfl
  have hup := s.m.heardPair_up h
  have hfol := s.m.heardPair_follows h
  have hled := s.m.heardPair_leads h
  have hheard : ∀ take : Module → Module, s.m.hears h take = take (s.m.heardPair h) := fun _ => Module.hears_served hp
  simp only [exec_pairTimeRx, exec_pairManifestRx, exec_pairScarabStepRx, exec_pairSwitchImageRx,
    exec_pairEndRequestRx, exec_pairJournalRx, hheard]
  refine ⟨fun hf => ?_, fun hl => ?_⟩
  · rw [hf] at hfol
    have hnl : (s.m.heardPair h).leads = false := hled.trans (Module.follows_not_leads hf)
    refine ⟨fun off hoff hlock hmgi => ?_, fun man p hprov hs hg => ?_, fun man hprov hg => ?_, fun k img hk => ?_,
      fun k img st hst hk => ?_, fun c r hc => ?_, fun l cur => ?_, fun port f _ => ?_,
      fun r hrole h1 h2 h3 h4 h5 h6 => ?_, fun r hrole => ?_⟩
    · rw [Module.takeTime_locked hfol ((hup _).trans hmgi) (by rw [htime, hlock]) hoff]
    · rw [Module.hearManifest_provisional hfol (hg.trans hgen.symm) hprov hs]
    · rw [Module.hearManifest_open hfol (hg.trans hgen.symm) hprov]
    · obtain ⟨t, ha, ht⟩ := answers_of_hears hp (exec_pairScarabStepRx k img)
      rw [Module.hearStep_running hfol hk] at ht
      have hkeeps := (s.m.heardPair h).partnerWorks.takeStep_keeps h.sweep k img
      have hin := fun k' => (s.m.heardPair h).partnerWorks.takeStep_inst h.sweep k k' img
      rw [← ht] at hkeeps hin
      refine ⟨t, ha, (hin k).trans (if_pos rfl), fun k' hne => ((hin k').trans (if_neg hne)).trans (hinst k'), ?_, ?_, ?_⟩
      · rw [hkeeps]
        rfl
      · rw [hkeeps]
        rfl
      · rw [hkeeps]
        rfl
    · rw [Module.hearStep_end hfol hst hk]
    · obtain ⟨t, ha, ht⟩ := answers_of_hears hp (exec_pairRunRecordRx c r)
      have hrun := (s.m.heardPair h).partnerWorks.applyRecord_spec r (c := c) (hpre.symm ▸ hc)
      rw [Module.hearRun, if_pos (show Module.follows (Module.partnerWorks _) = true from hfol)] at ht
      rw [← ht] at hrun
      obtain ⟨hkeeps, hstate, htarget, hrec, hlow⟩ := hrun
      exact ⟨t, ha, hstate, htarget, hrec, hlow, hkeeps⟩
    · simp only [Module.hearImage, hfol, if_true]
    · simp only [Module.hearEnd, hfol, hup, hport, true_and]
    · obtain ⟨t, ha, ht⟩ := answers_of_hears hp (exec_pairJournalRx (h := h) r)
      rw [Module.hearJournal, if_pos ⟨hrole, hnl⟩] at ht
      obtain ⟨honly, hseq, hq, hmask, hkept⟩ := Module.keptRecord_spec ht h1 h2 h3 h4 h5 h6
      exact ⟨t, ha, honly, hseq, fun hu => hq ((hup _).trans hu), hmask, hkept⟩
    · rw [Module.hearJournal, if_pos ⟨hrole, hnl⟩]
  · rw [hl] at hled
    have hnf := Module.leads_not_follows hled
    refine ⟨fun cur => ?_, fun l cur => ?_, fun r hrole hcode => ?_, fun r hrole hcode => ?_⟩
    · simp only [Module.hearImage, hled, if_true]
    · simp only [Module.hearImage, hnf, Bool.false_eq_true, if_false]
    · obtain ⟨t, ha, ht⟩ := answers_of_hears hp (exec_pairJournalRx (h := h) r)
      rw [Module.hearJournal, if_neg fun e => hrole e.1, if_pos hled, if_neg hrole, if_pos hcode] at ht
      have hcond := (s.m.heardPair h).partnerCond_spec r
      rw [← ht] at hcond
      exact ⟨t, ha, hcond⟩
    · rw [Module.hearJournal, if_neg fun e => hrole e.1, if_pos hled, if_neg hrole, if_neg (Nat.not_lt.2 hcode)]

end Sys2Proof

/-! ## The lever, the trip permit and parking (R52, R53, R358, R359) -/

namespace Sys2Proof

open Machine

/-- Supply, lever and pair link stand in `n` as in `m`. -/
def SupPairSame (m n : Module) : Prop := n.sup = m.sup ∧ n.pair = m.pair

theorem SupPairSame.refl (m : Module) : SupPairSame m m := ⟨rfl, rfl⟩

theorem SupPairSame.trans {a b c : Module} (h : SupPairSame a b) (g : SupPairSame b c) : SupPairSame a c :=
  ⟨g.1.trans h.1, g.2.trans h.2⟩

theorem SupPairSame.of_only {m n : Module} (h : JournalOnly m n) : SupPairSame m n := by
  rw [h]
  exact ⟨rfl, rfl⟩

theorem SupPairSame.foldl {α : Type} {f : Module → α → Module} (hf : ∀ m x, SupPairSame m (f m x)) (l : List α)
    (m : Module) : SupPairSame m (l.foldl f m) := by
  induction l generalizing m with
  | nil => exact .refl m
  | cons x t ih => exact (hf m x).trans (ih _)

namespace Machine

variable (m : Module)

/-! ### What leaves supply and pair link as they are -/

theorem Module.modCan_sameSupPair (c : Nat) (f : CanCtl → CanCtl) : SupPairSame m (m.modCan c f) := ⟨rfl, rfl⟩

theorem Module.modPort_sameSupPair (p : Nat) (f : PortSt → PortSt) : SupPairSame m (m.modPort p f) := ⟨rfl, rfl⟩

theorem Module.clearAll_sameSupPair (src : Island) (code : Nat) : SupPairSame m (m.clearAll src code) := by
  unfold Module.clearAll
  obtain ⟨hsup, hpair⟩ := SupPairSame.foldl
    (f := fun m (c : Cond) => m.jotCond src code sevTrace c.scope c.inst naCurrent [] true)
    (fun m c => .of_only (m.jotCond_only _ _ _ _ _ _ _ _)) (m.al.conds.filter (fun c => c.code = code))
    { m with al := { m.al with conds := m.al.conds.filter (fun c => c.code ≠ code) } }
  exact ⟨hsup, hpair⟩

theorem Module.canState_only (c : Nat) : JournalOnly m (m.canState c) := m.jot_only _ _ _ _ _ _ _ _ _

theorem Module.endMirror_sameSupPair (c : Nat) : SupPairSame m (m.endMirror c) := by
  unfold Module.endMirror
  split
  · exact ((m.modCan_sameSupPair c _).trans (Module.clearAll_sameSupPair _ _ _)).trans (.of_only (Module.canState_only _ c))
  · exact .refl m

theorem Module.canDrop_sameSupPair : SupPairSame m m.canDrop :=
  SupPairSame.foldl (f := fun m c => (m.endMirror c).modCan c (fun x => { x with pend := [], cur := none }))
    (fun m c => (m.endMirror_sameSupPair c).trans (Module.modCan_sameSupPair _ c _)) _ m

theorem Module.answer_sameSupPair (x : Session) (seq op status flags : Nat) (payload : List Byte) :
    SupPairSame m (m.answer x seq op status flags payload) := ⟨rfl, rfl⟩

theorem Module.jotCommand_only (code sev op status session seq scope id : Nat) (result : List Byte) :
    JournalOnly m (m.jotCommand code sev op status session seq scope id result) := m.jot_only _ _ _ _ _ _ _ _ _

theorem Module.diagReply_sameSupPair (d : DiagWait) : SupPairSame m (m.diagReply d) := by
  unfold Module.diagReply
  split
  · exact .refl m
  · dsimp only
    split
    · exact (SupPairSame.of_only (m.jotCommand_only _ _ _ _ _ _ _ _ _)).trans (Module.answer_sameSupPair _ _ _ _ _ _ _)
    · exact m.answer_sameSupPair _ _ _ _ _ _

theorem Module.flushDiag_sameSupPair : SupPairSame m m.flushDiag := by
  unfold Module.flushDiag
  obtain ⟨hsup, hpair⟩ := SupPairSame.foldl Module.diagReply_sameSupPair (m.dcp.waits.filter (fun d => d.left = 0))
    { m with dcp := { m.dcp with waits := m.dcp.waits.filter (fun d => d.left ≠ 0) } }
  exact ⟨hsup, hpair⟩

theorem Module.dropCommands_sameSupPair : SupPairSame m m.dropCommands := by
  unfold Module.dropCommands
  obtain ⟨hsup, hpair⟩ := Module.flushDiag_sameSupPair { m with
    workers := m.workers.map (fun (p : Wk × WorkerSt) => (p.1, p.2.dropped))
    rings := m.rings.map (fun (p : Nat × RingSt) => (p.1, { p.2 with rejoin := none }))
    dcp := { m.dcp with waits := m.dcp.waits.map (fun d => { d with left := 0, failed := true }) } }
  exact ⟨hsup, hpair⟩

theorem Module.stick_sameSupPair : SupPairSame m m.stick := ⟨rfl, rfl⟩

theorem Module.withRows_sameSupPair (l : List Nat) : SupPairSame m { m with al := { m.al with rows := l } } := ⟨rfl, rfl⟩

theorem Module.driveAlerts_sameSupPair : SupPairSame m m.driveAlerts :=
  (((m.withRows_sameSupPair _).trans (.of_only (Module.setCond_only _ _ _ _ _ _ _ _))).trans
    (.of_only (Module.setCond_only _ _ _ _ _ _ _ _))).trans (Module.stick_sameSupPair _)

theorem Module.driveTrip_sameSupPair : SupPairSame m m.driveTrip := ⟨rfl, rfl⟩

theorem Module.drive_sameSupPair : SupPairSame m m.drive :=
  m.driveTrip_sameSupPair.trans (Module.driveAlerts_sameSupPair _)

theorem Module.countPort_sameSupPair (p i : Nat) : SupPairSame m (m.countPort p i) :=
  (m.modPort_sameSupPair p _).trans (.of_only (m.countPort_only p i))

theorem Module.toneChange_sameSupPair (p : Nat) (t : Tone) : SupPairSame m (m.toneChange p t) := by
  unfold Module.toneChange
  split
  · exact .refl m
  · obtain ⟨hsup, hpair⟩ := (m.modPort_sameSupPair p _).trans (Module.countPort_sameSupPair _ p 11)
    dsimp only
    obtain ⟨jsup, jpair⟩ := SupPairSame.of_only (Module.jot_only _ _ _ _ _ _ _ _ _ _)
    exact ⟨jsup.trans hsup, jpair.trans hpair⟩

theorem Module.portDead_sameSupPair (p : Nat) : SupPairSame m (m.portDead p) :=
  (m.modPort_sameSupPair p _).trans (Module.toneChange_sameSupPair _ p .dead)

theorem Module.portsDead_sameSupPair (f : Nat → Bool) : SupPairSame m (m.portsDead f) := by
  refine SupPairSame.foldl (fun m p => ?_) _ m
  split
  · exact m.portDead_sameSupPair p
  · exact .refl m

theorem Module.disablePorts_sameSupPair : SupPairSame m m.disablePorts := by
  unfold Module.disablePorts
  obtain ⟨hsup, hpair⟩ := Module.portsDead_sameSupPair
    { m with ports := m.ports.map (fun p => { p with enabled := false }) } (fun _ => true)
  exact ⟨hsup, hpair⟩

/-! ### Roles (Tables 14-2 and 14-7) -/

theorem Module.setRole_sup (r : Role) : (m.setRole r).sup = m.sup := by
  unfold Module.setRole
  split <;> rfl

theorem Module.setRole_role (r : Role) : (m.setRole r).pair.role = r := by
  unfold Module.setRole
  split
  next h => exact h
  next => rfl

/-- A leader that gives up the lead has the role it goes to, and its supply and lever stand as they did. -/
theorem Module.dropLead_sup_role (r : Role) : (m.dropLead r).sup = m.sup ∧ (m.dropLead r).pair.role = r := by
  obtain ⟨lsup, -⟩ := m.prechargeLow.canDrop_sameSupPair
  obtain ⟨csup, cpair⟩ := (m.prechargeLow.canDrop.setRole r).dropCommands_sameSupPair
  have hrole := m.prechargeLow.canDrop.setRole_role r
  rw [Module.setRole_sup, lsup] at csup
  rw [← cpair] at hrole
  unfold Module.dropLead
  generalize (m.prechargeLow.canDrop.setRole r).dropCommands = n at *
  dsimp only
  obtain ⟨dsup, dpair⟩ := Module.drive_sameSupPair _
  rw [dsup, dpair]
  exact ⟨csup, hrole⟩

theorem Module.parkPoint_sup_pair : m.parkPoint.sup = { m.sup with outputsOff := true } ∧ m.parkPoint.pair = m.pair := by
  obtain ⟨hsup, hpair⟩ := m.disablePorts_sameSupPair
  simp only [Module.parkPoint, Module.prechargeLow, hsup, hpair, and_self]

/-! ### The module at the switch-off of parking (R358 steps 4 and 5) -/

/-- The module with its outputs off and its park journalled. -/
def Module.parkedOut (m : Module) : Module :=
  (if m.sup.outputsOff then m else m.parkPoint).jot .mgi ePark sevInfo scPair 0xFFFFFFFF

theorem Module.parkedOut_sup_pair :
    m.parkedOut.sup = { m.sup with outputsOff := true } ∧ m.parkedOut.pair = m.pair := by
  unfold Module.parkedOut
  obtain ⟨hsup, hpair⟩ := SupPairSame.of_only (Module.jot_only (if m.sup.outputsOff then m else m.parkPoint) .mgi ePark
    sevInfo scPair 0xFFFFFFFF naCurrent [] 0xFFFF 0xFFFF)
  rw [hsup, hpair]
  by_cases ho : m.sup.outputsOff = true
  · rw [if_pos ho, ← ho]
    exact ⟨rfl, rfl⟩
  · rw [if_neg ho]
    exact m.parkPoint_sup_pair

/-- The module that has parked: without the lead, and with its eject stop withdrawn. -/
def Module.parkDone (m : Module) : Module :=
  let m := if m.leads then m.dropLead .parked else m.setRole .parked
  { m with sup := { m.sup with parking := false, parked := true, ejectFree := true } }

theorem Module.parkDone_eq : m.parkDone =
    { (if m.leads then m.dropLead .parked else m.setRole .parked) with
      sup := { m.sup with parking := false, parked := true, ejectFree := true } } ∧ m.parkDone.pair.role = .parked := by
  unfold Module.parkDone
  by_cases hl : m.leads = true
  · obtain ⟨hsup, hrole⟩ := m.dropLead_sup_role .parked
    simp only [if_pos hl, hsup, true_and]
    exact hrole
  · simp only [if_neg hl, m.setRole_sup .parked, true_and]
    exact m.setRole_role .parked

/-! ### Parking begins, or is refused (R53, R359) -/

variable {m : Module}

/-- PARK_NOTICE leaves, and parking runs. -/
theorem Module.beginPark_spec (hpair : m.isPair = true) :
    JournalOnly { m with sup := { m.sup with parking := true } } m.beginPark ∧ .pairPark ∈ m.beginPark.outbox := by
  have hclear := m.clear_only .mgi cEjectRefused scModule 0
  unfold Module.beginPark
  dsimp only
  generalize m.clear .mgi cEjectRefused = n at *
  rw [if_pos (show Module.isPair { n with sup := { n.sup with parking := true } } = true by rw [hclear]; exact hpair)]
  refine ⟨?_, List.mem_cons_self⟩
  rw [hclear]
  rfl

theorem Module.followerPark_refused (hf : m.follows = true) (hs : m.servesSplit = true) :
    m.followerPark = m.raise .mgi cEjectRefused := by simp [Module.followerPark, hf, hs]

theorem Module.followerPark_begins (h : m.follows = false ∨ m.servesSplit = false) : m.followerPark = m.beginPark := by
  rcases h with h | h <;> simp [Module.followerPark, h]

theorem Module.offerHandover_want (m : Module) (h : Nat) : (m.offerHandover h).pair.wantHandover = true := by
  unfold Module.offerHandover
  dsimp only
  split <;> rfl

/-! ### The lever leaves LOCKED (R53, R359) -/

theorem Module.leverLeft_down (hr : m.runs = false) : m.leverLeft = m := if_pos hr

section
variable (hr : m.runs = true)
include hr

theorem Module.leverLeft_handover (hl : m.leads = true) (hp : m.isPair = true) (hready : m.partnerReady = true) :
    m.leverLeft = m.startHandover := by simp [Module.leverLeft, hr, hl, hp, hready]

theorem Module.leverLeft_refused (hl : m.leads = true) (h : m.isPair = false ∨ m.partnerReady = false) :
    m.leverLeft = m.raise .mgi cEjectRefused := by
  have hno : ¬ (m.isPair ∧ m.partnerReady) := fun e => by
    rcases h with h | h <;> simp [h] at e
  simp only [Module.leverLeft, hr, hl, if_neg hno, if_true, Bool.true_eq_false, if_false]

theorem Module.leverLeft_alone (hl : m.leads = false) (hp : m.isPair = false) : m.leverLeft = m := by
  simp [Module.leverLeft, hr, hl, hp]

/-- A module of a pair that does not lead parks, a READY one once it has given up its standing. -/
theorem Module.leverLeft_parks (hl : m.leads = false) (hp : m.isPair = true) :
    m.leverLeft = (if m.pair.role = .ready then m.loseSync else m).followerPark := by
  simp [Module.leverLeft, hr, hl, hp]

theorem Module.leverLeft_idle (hf : m.follows = false) (hl : m.leads = false) (hp : m.isPair = true) :
    m.leverLeft = m.beginPark := by
  have hnr : m.pair.role ≠ .ready := fun e => by simp [Module.follows, e] at hf
  rw [Module.leverLeft_parks hr hl hp, if_neg hnr, Module.followerPark_begins (.inl hf)]

theorem Module.leverLeft_syncing (h : m.pair.role = .syncing) (hp : m.isPair = true) :
    m.leverLeft = if m.servesSplit then m.raise .mgi cEjectRefused else m.beginPark := by
  have hf : m.follows = true := by simp [Module.follows, h]
  rw [Module.leverLeft_parks hr (by simp [Module.leads, h]) hp, if_neg (by simp [h])]
  cases hs : m.servesSplit with
  | false => exact Module.followerPark_begins (.inr hs)
  | true => exact Module.followerPark_refused hf hs

theorem Module.leverLeft_ready (h : m.pair.role = .ready) (hp : m.isPair = true) :
    m.leverLeft = m.loseSync.followerPark := by
  rw [Module.leverLeft_parks hr (by simp [Module.leads, h]) hp, if_pos h]

end

/-! ### The lever reaches LOCKED (R52, R53, Table 14-2) -/

theorem Module.leverLocked_down (hr : m.runs = false) : m.leverLocked = m := if_pos hr

theorem Module.leverLocked_parked (hr : m.runs = true) (h : m.pair.role = .parked ∨ m.sup.parked = true) :
    m.leverLocked = m.restart := by
  simp only [Module.leverLocked, hr, h, Bool.true_eq_false, if_false, if_true]

/-- The module that no longer parks, and wants no handover but one that is offered or awaited. -/
def Module.parkOver (m : Module) : Module :=
  { m with
    sup := { m.sup with parking := false, outputsOff := false }
    pair := { m.pair with
      wantHandover := m.pair.wantHandover && decide (m.pair.offered.isSome ∨ m.pair.then_ ≠ 0) } }

/-- A module that was not parked drops what the lever held up, and takes its ports and its role. -/
theorem Module.leverLocked_serves (hr : m.runs = true) (hrole : m.pair.role ≠ .parked) (hp : m.sup.parked = false) :
    ∃ k, JournalOnly m.parkOver k ∧ k.holds cEjectRefused scModule 0 = false ∧
      k.holds cLeverUnlocked scModule 0 = false ∧
      m.leverLocked = if m.follows then (k.enablePorts.askLeader).readyCheck else k.enablePorts.roleCheck := by
  have hclear : JournalOnly m ((m.clear .mgi cEjectRefused).clear .mgi cLeverUnlocked) :=
    (m.clear_only _ _ _ _).trans (Module.clear_only _ _ _ _ _)
  have hrefused : ((m.clear .mgi cEjectRefused).clear .mgi cLeverUnlocked).holds cEjectRefused scModule 0 = false :=
    (Module.clear_other _ _ _ _ _ _ _ _ (by decide) (by decide)).trans (m.clear_holds _ _ _ _ (by decide))
  have hunlocked : ((m.clear .mgi cEjectRefused).clear .mgi cLeverUnlocked).holds cLeverUnlocked scModule 0 = false :=
    Module.clear_holds _ _ _ _ _ (by decide)
  have hno : ¬ (m.pair.role = .parked ∨ m.sup.parked) := by simp [hrole, hp]
  refine ⟨((m.clear .mgi cEjectRefused).clear .mgi cLeverUnlocked).parkOver, ?_, hrefused, hunlocked, ?_⟩
  · rw [hclear]
    rfl
  · have hf : Module.follows (Module.parkOver ((m.clear .mgi cEjectRefused).clear .mgi cLeverUnlocked)) = m.follows := by
      rw [hclear]
      rfl
    rw [← hf]
    simp only [Module.leverLocked, hr, hno, Bool.true_eq_false, if_false]
    rfl

/-! ### The commands -/

section
variable {s : State}

/-- The module with its lever at SEATED. -/
def Module.seated (m : Module) : Module := { m with sup := { m.sup with lever := .seated } }

/-- The module with its lever at LOCKED, and EJECT_N released. -/
def Module.locked (m : Module) : Module :=
  { m with sup := { m.sup with lever := .locked, everLocked := true, ejectLow := false } }

theorem exec_leverLeaveLocked (h : s.m.sup.lever = .locked) : exec .leverLeaveLocked s =
    .next { s with cara := { s.cara with locked := false }, m := s.m.seated.leverLeft } := by
  show execLeverLeaveLocked s = _
  exact if_pos h

theorem exec_leverLeaveLocked_other (h : s.m.sup.lever ≠ .locked) : exec .leverLeaveLocked s = .next s := by
  show execLeverLeaveLocked s = _
  exact if_neg h

theorem exec_leverReachLocked : exec .leverReachLocked s = .next { s with
    cara := if s.m.locked.leverLocked.sup.bootNo = s.m.sup.bootNo then { s.cara with locked := true }
      else Carapace.readSlot { s.cara with locked := true } s.m.locked.leverLocked.sup.slot
    m := s.m.locked.leverLocked } := rfl

theorem exec_parkComplete : exec .parkComplete s = .next { s with
    m := if s.m.runs ∧ s.m.sup.parking then s.m.parkedOut.parkDone else s.m } := rfl

end

end Machine

/-- Settles O24: the branches of what the module does as the lever moves, each under the role and the partner that take it;
that the Carapace reads the slot code as a parked module restarts is log 151, and that the wish for a handover falls away with
the lever back at LOCKED is the model's own choice. -/
theorem leverMovesPermit : Obligations.LeverMovesPermit := by
  intro s
  refine ⟨fun h => ?_, exec_leverLeaveLocked_other, ?_, fun hr hp => ?_, fun h => ?_⟩
  · refine ⟨_, s.m.seated, exec_leverLeaveLocked h, rfl, rfl, by simp [Carapace.permit], rfl,
      fun hr => Module.leverLeft_down (m := s.m.seated) hr, fun hr hl hp hready => ?_, fun hr hl hno => ?_,
      fun hr hl hp => Module.leverLeft_alone (m := s.m.seated) hr hl hp, fun hr hf hl hp => ?_,
      fun hr hrole hp => ?_, fun hr hrole hp => ?_⟩
    · have hx : s.m.seated.leverLeft = s.m.seated.startHandover := Module.leverLeft_handover hr hl hp hready
      exact ⟨hx, hx ▸ Module.offerHandover_want _ _⟩
    · rw [show s.m.seated.leverLeft = _ from Module.leverLeft_refused hr hl hno]
      exact ⟨Module.raise_only _ _ _ _ _ _ _ _, Module.raise_holds _ _ _ _ _ _ _ _⟩
    · rw [Module.leverLeft_idle (m := s.m.seated) hr hf hl hp]
      exact Module.beginPark_spec hp
    · rw [Module.leverLeft_syncing (m := s.m.seated) hr hrole hp]
      refine ⟨fun hs => ?_, fun hs => ?_⟩
      · rw [if_pos (show s.m.seated.servesSplit = true from hs)]
        exact ⟨Module.raise_only _ _ _ _ _ _ _ _, Module.raise_holds _ _ _ _ _ _ _ _⟩
      · rw [if_neg (show ¬ s.m.seated.servesSplit = true from Bool.eq_false_iff.1 hs)]
        exact Module.beginPark_spec hp
    · exact Module.leverLeft_ready (m := s.m.seated) hr hrole hp
  · refine ⟨_, s.m.locked, exec_leverReachLocked, rfl, rfl, rfl, fun hboot => ?_,
      fun hr => Module.leverLocked_down (m := s.m.locked) hr, fun hr hp => Module.leverLocked_parked (m := s.m.locked) hr hp,
      fun hr hrole hp => Module.leverLocked_serves (m := s.m.locked) hr hrole hp⟩
    simp only [if_pos hboot]
    simp [Carapace.permit]
  · have hphase : s.m.sup.phase = .on := by
      simp only [Module.runs, decide_eq_true_eq] at hr
      exact hr.1
    obtain ⟨hsup, hpair⟩ := s.m.parkedOut_sup_pair
    obtain ⟨heq, hrole⟩ := s.m.parkedOut.parkDone_eq
    have hleads : s.m.parkedOut.leads = s.m.leads := by simp only [Module.leads, hpair]
    rw [hleads] at heq
    refine ⟨{ s with m := s.m.parkedOut.parkDone }, s.m.parkedOut, ⟨?_, rfl, rfl⟩, rfl, heq, ?_, hrole, ?_⟩
    · rw [exec_parkComplete, if_pos ⟨hr, hp⟩]
    · show s.m.parkedOut.parkDone.sup.outputsOff = true
      rw [heq, hsup]
    · show s.m.parkedOut.parkDone.sup.ejectStop = true
      rw [heq, hsup]
      simp [Supply.ejectStop, hphase]
  · rw [exec_parkComplete, if_neg (by rcases h with h | h <;> simp [h])]

end Sys2Proof

/-! ## The step: the command in front, every command's end, the idle millisecond (R69, R71, R75) -/

namespace Sys2Proof

namespace Machine

variable {s : State}

/-- An outcome that completes with the queue as it was in `s`. -/
def Completes (s : State) (o : Host.Outcome State Fault Refusal) : Prop := ∃ t, o = .next t ∧ t.pending = s.pending

/-! ### The ways a command ends, each of which completes -/

theorem completes_next {t : State} (h : t.pending = s.pending) : Completes s (.next t) := ⟨t, rfl, h⟩

theorem completes_onBoth (c : Carapace) (m : Module) : Completes s (onBoth s c m) := completes_next rfl

theorem completes_caraNext (c : Carapace) : Completes s (caraNext s c) := completes_onBoth _ _

theorem completes_onModule (f : Module → Module) : Completes s (onModule s f) := completes_next rfl

theorem completes_onBoot (f : Module → Module) : Completes s (onBoot s f) := completes_onBoth _ _

/-- A command with a condition of its own on the state completes on both paths. -/
theorem completes_ite {p : Prop} [Decidable p] {a b : Host.Outcome State Fault Refusal} (ha : Completes s a)
    (hb : Completes s b) : Completes s (if p then a else b) := by
  split
  · exact ha
  · exact hb

/-- A command that moves the Carapace under a condition, and otherwise does nothing. -/
theorem completes_caraIf {p : Prop} [Decidable p] (c : Carapace) :
    Completes s (if p then caraNext s c else .next s) := completes_ite (completes_caraNext c) (completes_next rfl)

/-- The same with the condition under which nothing is done. -/
theorem completes_caraUnless {p : Prop} [Decidable p] (c : Carapace) :
    Completes s (if p then .next s else caraNext s c) := completes_ite (completes_next rfl) (completes_caraNext c)

/-! ### The commands with conditions of their own -/

theorem completes_toneWindow (port : Nat) (hasA hasB hasS : Bool) (codeErr : Nat) :
    Completes s (execToneWindow port hasA hasB hasS codeErr s) := by
  unfold execToneWindow
  cases windowClass hasA hasB hasS with
  | none => exact completes_onBoth _ _
  | some t => exact completes_onBoth _ _

theorem completes_carapaceBankStart (ok : Bool) : Completes s (execCarapaceBankStart ok s) :=
  completes_ite (completes_ite (completes_onBoth _ _) (completes_ite (completes_onBoth _ _) (completes_onBoth _ _)))
    (completes_next rfl)

theorem completes_islandReset (i : Island) (cause : ResetCause) : Completes s (execIslandReset i cause s) :=
  completes_ite (completes_next rfl)
    (completes_ite (completes_ite (completes_next rfl) (completes_onBoth _ _)) (completes_onBoot _))

theorem completes_timePulse (i : Island) (ticks : Nat) : Completes s (execTimePulse i ticks s) :=
  completes_ite (completes_next rfl) (completes_ite (completes_next rfl) (completes_onModule _))

/-- Most commands rewrite the module, the Carapace or both in one piece; the others are named with their conditions. -/
theorem completes_exec (i : Instr) (s : State) : Completes s (exec i s) := by
  cases i with
  | powerUp => exact completes_ite (completes_next rfl) (completes_onBoth _ _)
  | leverLeaveLocked => exact completes_ite (completes_onBoth _ _) (completes_next rfl)
  | carapaceSelfTestPass => exact completes_caraIf _
  | carapaceSample => exact completes_caraIf _
  | carapaceMeanTick => exact completes_caraIf _
  | bcsNoValid => exact completes_caraUnless _
  | bcsDegradedExpire => exact completes_caraIf _
  | bcsDiscrepancy => exact completes_caraIf _
  | bcsModeLinkChange => exact completes_caraIf _
  | toneLossTrip => exact completes_caraIf _
  | safetyDiscrepancy => exact completes_caraUnless _
  | tripReqHigh => exact completes_caraIf _
  | tripOutputTest => exact completes_caraIf _
  | keyReset => exact completes_ite (completes_onBoth _ _) (completes_next rfl)
  | keyStuck => exact completes_caraUnless _
  | cpiInternalFault => exact completes_caraUnless _
  | cpxFrameRx => exact completes_caraUnless _
  | cpxLost => exact completes_caraUnless _
  | carapaceBankStart => exact completes_carapaceBankStart _
  | toneWindow => exact completes_toneWindow _ _ _ _ _
  | islandReset => exact completes_islandReset _ _
  | timePulse => exact completes_timePulse _ _
  | _ => exact completes_next rfl

/-! ### The idle millisecond -/

theorem Module.idle_off {m : Module} (h : m.sup.phase = .off) : m.idle = m := if_pos h

/-- While Weevil installs, nothing but the time unit runs (R433). -/
theorem Module.idle_weevil {m : Module} (h : m.sup.phase = .weevil) :
    m.idle = { m with time := TimeUnit.slewed { m.time with now := m.time.now + 1000000 } } := by
  simp [Module.idle, Module.runs, h]

theorem step_empty (h : s.pending = []) : step s = .next (idle s) := by simp [step, h]

end Machine

open Machine

/-- Settles O1: the equation of `step` at a queue with a command in front. -/
theorem stepRunsFrontCommand : Obligations.StepRunsFrontCommand := by
  intro i rest s h
  simp [step, h]

/-- Settles O2, from the way each command ends. -/
theorem everyCommandAnswers : Obligations.EveryCommandAnswers := completes_exec

/-- Settles O3: the idle step keeps queue and Carapace, and moves the module as its supply allows. -/
theorem emptyQueueIdles : Obligations.EmptyQueueIdles := by
  intro s h
  refine ⟨idle s, step_empty h, h, rfl, fun hoff => ?_, fun hweevil => ?_⟩
  · rw [idle, Module.idle_off hoff]
  · rw [idle, Module.idle_weevil hweevil]
    exact ⟨rfl, rfl⟩

end Sys2Proof

/-! ## A sweep boundary: the partitions and a pending step of plant time (R84, R141) -/

namespace Sys2Proof

namespace Machine

variable {s : State} {m : Module}

/-! ### The partition of a ring -/

/-- The review of a ring's workers moves no ring. -/
theorem Module.reviewRing_rings (m : Module) (r : Nat) : (m.reviewRing r).rings = m.rings := by
  unfold Module.reviewRing
  refine List.foldlRecOn (motive := fun n : Module => n.rings = m.rings) _ _ rfl fun n hn x _ => ?_
  rw [(Module.setCond_only _ _ _ _ _ _ _ _).field (·.rings) fun _ _ _ _ => rfl]
  exact hn

theorem Module.fixPartition_ring (m : Module) (r r' : Nat) :
    (m.fixPartition r).ring r' = (m.modRing r fun x => { x with part := m.partitionOf r }).ring r' := by
  simp only [Module.ring, Module.fixPartition, Module.reviewRing_rings]

theorem Module.fixPartition_part (m : Module) (r : Nat) : ((m.fixPartition r).ring r).part = m.partitionOf r := by
  rw [Module.fixPartition_ring]
  simp [Module.ring, Module.modRing]

theorem Module.fixPartition_other (m : Module) {r r' : Nat} (h : r' ≠ r) : (m.fixPartition r).ring r' = m.ring r' := by
  rw [Module.fixPartition_ring]
  simp [Module.ring, Module.modRing, h.symm]

/-! ### Steps of plant time and the entry to LOCKED -/

/-- A step moves the offset and the tags of open bursts, and leaves nothing to slew (R84, R86). -/
theorem Module.stepTime_only (m : Module) (d : Int) : JournalOnly { m with
    time := { m.time with
      offset := m.time.offset + d, pendingStep := none, slew := 0
      ppsEdge := secondOf ((m.time.now : Int) + (m.time.offset + d)) }
    bursts := m.bursts.map fun p => (p.1, shiftTag d p.2) } (m.stepTime d) :=
  Module.jot_only _ _ _ _ _ _ _ _ _ _

theorem Module.enterLocked_only (m : Module) : JournalOnly { m with time := { m.time with
    state := .locked, lockedAt := m.time.now, sourceLost := false, lockWanted := false } } m.enterLocked :=
  (Module.clear_only _ _ _ _ _).trans (Module.clear_only _ _ _ _ _)

/-- In LOCKED neither TIME_HOLDOVER nor TIME_FREERUN holds. -/
theorem Module.enterLocked_holds (m : Module) : m.enterLocked.holds cTimeHoldover scModule 0 = false ∧
    m.enterLocked.holds cTimeFreerun scModule 0 = false := by
  refine ⟨?_, Module.clear_holds _ _ _ _ _ (by decide)⟩
  unfold Module.enterLocked
  rw [Module.clear_other _ _ _ _ _ _ _ _ (by decide) (by decide)]
  exact Module.clear_holds _ _ _ _ _ (by decide)

theorem Module.boundaryTime_none (h : m.time.pendingStep = none) : m.boundaryTime = m := by
  simp [Module.boundaryTime, h]

theorem Module.boundaryTime_step {d : Int} (h : m.time.pendingStep = some d) (hw : m.time.lockWanted = false) :
    m.boundaryTime = m.stepTime d := by simp [Module.boundaryTime, h, hw]

theorem Module.boundaryTime_lock {d : Int} (h : m.time.pendingStep = some d) (hw : m.time.lockWanted = true) :
    m.boundaryTime = (m.stepTime d).enterLocked := by simp [Module.boundaryTime, h, hw]

/-- A step keeps the local timescale. -/
theorem Module.stepTime_now (m : Module) (d : Int) : (m.stepTime d).time.now = m.time.now := by
  rw [m.stepTime_only d]

/-! ### The command -/

theorem exec_partitionFix (hr : s.m.runs = true) (hc : s.m.conf? ≠ none) : exec .partitionFix s = .next { s with
    m := (if s.m.up .rgi then s.m.cfg.rings.foldl Module.boundaryRing s.m else s.m).boundaryTime } := by
  show execPartitionFix s = _
  simp [execPartitionFix, onModule, hr, Option.isSome_iff_ne_none.2 hc]

theorem exec_partitionFix_idle (h : s.m.runs = false ∨ s.m.conf? = none) : exec .partitionFix s = .next s := by
  show execPartitionFix s = _
  rcases h with h | h <;> simp [execPartitionFix, onModule, h]

end Machine

open Machine

/-- Settles O39: the partition of each ring by the frame of its review, the step by what it journals. -/
theorem boundaryFixesPartitionAndTime : Obligations.BoundaryFixesPartitionAndTime := by
  intro s
  refine ⟨exec_partitionFix, exec_partitionFix_idle, fun m r => ⟨m.fixPartition_part r, fun _ => m.fixPartition_other⟩,
    fun _ => Module.boundaryTime_none, fun m d hd => ?_⟩
  refine ⟨m.stepTime d, m.stepTime_only d, Module.boundaryTime_step hd, fun hw => ?_⟩
  rw [Module.boundaryTime_lock hd hw, ← m.stepTime_now d]
  exact ⟨Module.enterLocked_only _, Module.enterLocked_holds _⟩

end Sys2Proof

/-! ## The reset of one island and its return (R70 to R73, R351, R464) -/

namespace Sys2Proof

open Machine

theorem JournalOnly.up {m n : Module} (h : JournalOnly m n) (i : Island) : n.up i = m.up i :=
  h.field (·.up i) fun _ _ _ _ => rfl

namespace Machine

variable {s : State} {m : Module} {i : Island}

/-! ### One island's record -/

theorem islandCode_lt (i : Island) : islandCode i < 9 := by cases i <;> decide

theorem Module.modIsl_up (hl : m.isl.length = 9) (i : Island) (f : IslandSt → IslandSt) :
    (m.modIsl i f).up i = (f (m.isl.getD (islandCode i) {})).up :=
  congrArg IslandSt.up (modAt_getD_same _ _ _ _ (hl ▸ islandCode_lt i))

/-! ### The reset -/

/-- The module with one island in reset: the epoch advances and the cause is kept (R70, R72). -/
def Module.islandInReset (m : Module) (i : Island) (cause : Nat) : Module :=
  m.modIsl i (fun x => { x with
    up := false, epoch := (x.epoch + 1) % 256, lastReset := some m.time.now, cause := cause })

/-- The same with the reset's record; the MGI's own comes with its return (Table 17-3). -/
def Module.resetNoted (m : Module) (i : Island) (cause : Nat) : Module :=
  if i = .mgi then m.islandInReset i cause else (m.islandInReset i cause).jotReset i 0

theorem Module.resetIsland_eq (m : Module) (i : Island) (cause : Nat) : m.resetIsland i cause =
    if (m.resetNoted i cause).doubleReset i then (m.resetNoted i cause).restart
    else (m.resetNoted i cause).islandDown i := rfl

theorem Module.resetNoted_only (m : Module) (i : Island) (cause : Nat) :
    JournalOnly (m.islandInReset i cause) (m.resetNoted i cause) := by
  unfold Module.resetNoted
  split
  · exact .refl _
  · exact Module.jot_only _ _ _ _ _ _ _ _ _ _

theorem Module.resetNoted_up (hl : m.isl.length = 9) (i : Island) (cause : Nat) :
    (m.resetNoted i cause).up i = false := by
  rw [(m.resetNoted_only i cause).up]
  exact Module.modIsl_up hl _ _

/-- The reset of an island that is none of the four of R73 leaves the rest running. -/
theorem Module.resetIsland_alone (m : Module) (h : i ∉ restartIslands) (cause : Nat) :
    m.resetIsland i cause = (m.resetNoted i cause).islandDown i := by
  rw [Module.resetIsland_eq, if_neg]
  simp [Module.doubleReset, h]

theorem exec_islandReset (hr : s.m.runs = true) (hi : i ≠ .cpi) (hu : s.m.up i = true) (cause : ResetCause) :
    exec (.islandReset i cause) s = onBoot s (fun m => m.resetIsland i (causeCode cause)) := by
  show execIslandReset i cause s = _
  simp [execIslandReset, onBoot, hr, hi, hu]

theorem exec_islandReset_down (hr : s.m.runs = true) (hi : i ≠ .cpi) (hu : s.m.up i = false) (cause : ResetCause) :
    exec (.islandReset i cause) s = .next s := by
  show execIslandReset i cause s = _
  simp [execIslandReset, onBoot, onBoth, hr, hi, hu]

theorem exec_islandReset_cpi (hr : s.m.runs = true) (hc : s.cara.state ≠ .off) (cause : ResetCause) :
    exec (.islandReset .cpi cause) s =
      onBoth s s.cara.internalFault (s.m.resetIsland .cpi (causeCode cause)) := by
  show execIslandReset .cpi cause s = _
  simp [execIslandReset, hr, hc]

/-- A reset that leaves the module in the same boot leaves queue and Carapace as they were. -/
theorem answers_of_onBoot {j : Instr} {f : Module → Module} (h : exec j s = onBoot s f)
    (hb : (f s.m).sup.bootNo = s.m.sup.bootNo) : Answers j s { s with m := f s.m } := by
  refine ⟨?_, rfl, rfl⟩
  rw [h, onBoot, if_pos hb]
  rfl

/-- The SWI goes down alone: its reset ends nothing else at once (Table 03-2). -/
theorem islandReset_swi (hr : s.m.runs = true) (hl : s.m.isl.length = 9) (hu : s.m.up .swi = true) (cause : ResetCause) :
    ∃ t, Answers (.islandReset .swi cause) s t ∧
      JournalOnly (s.m.islandInReset .swi (causeCode cause)) t.m ∧ t.m.up .swi = false := by
  have heq := s.m.resetIsland_alone (i := .swi) (by decide) (causeCode cause)
  have honly := s.m.resetNoted_only .swi (causeCode cause)
  refine ⟨_, answers_of_onBoot (exec_islandReset hr (by decide) hu cause) ?_, ?_⟩
  · rw [heq, Module.islandDown, honly]
    rfl
  · rw [heq]
    exact ⟨honly, Module.resetNoted_up hl _ _⟩

/-- The PRI goes down alone, and both lanes with it (Table 03-2). -/
theorem islandReset_pri (hr : s.m.runs = true) (hl : s.m.isl.length = 9) (hu : s.m.up .pri = true) (cause : ResetCause) :
    ∃ t, Answers (.islandReset .pri cause) s t ∧ t.m.up .pri = false ∧ t.m.pair.lanes = [false, false] ∧
      JournalOnly { s.m.islandInReset .pri (causeCode cause) with
        pair := { s.m.pair with lanes := [false, false] } } t.m := by
  have heq := s.m.resetIsland_alone (i := .pri) (by decide) (causeCode cause)
  have honly := s.m.resetNoted_only .pri (causeCode cause)
  have hdown : (s.m.resetIsland .pri (causeCode cause)).up .pri = false := by
    rw [heq]
    exact Module.resetNoted_up hl _ _
  refine ⟨_, answers_of_onBoot (exec_islandReset hr (by decide) hu cause) ?_, hdown, ?_, ?_⟩
  · rw [heq, Module.islandDown, honly]
    rfl
  · rw [heq]
    rfl
  · rw [heq, Module.islandDown, honly]
    rfl

/-! ### The return -/

theorem exec_islandReturn (hr : s.m.runs = true) (hu : s.m.up i = false) : exec (.islandReturn i) s =
    .next { s with m := (s.m.modIsl i fun x => { x with up := true }).islandUp i } := by
  show execIslandReturn i s = _
  simp [execIslandReturn, onModule, hr, hu]

/-- Five islands take up nothing of their own as they return. -/
theorem Module.islandUp_quiet (m : Module) (h : i ∈ [Island.pwi, .swi, .cpi, .fbi, .pri]) : m.islandUp i = m := by
  simp only [List.mem_cons, List.not_mem_nil, or_false] at h
  rcases h with rfl | rfl | rfl | rfl | rfl <;> rfl

/-! ### The journal queue as the MGI returns (R72, R419) -/

theorem leastN_mem {l : List Nat} {a : Nat} (h : leastN l = some a) : a ∈ l := by
  induction l generalizing a with
  | nil => cases h
  | cons x t ih =>
    simp only [leastN] at h
    cases ht : leastN t with
    | none =>
      rw [ht] at h
      cases h
      exact List.mem_cons_self
    | some y =>
      rw [ht] at h
      cases h
      rcases min_choice x y with e | e
      · rw [e]
        exact List.mem_cons_self
      · rw [e]
        exact List.mem_cons_of_mem _ (ih ht)

theorem mem_dropOnce {x : Bool × JRec} {sev : Nat} (hx : x.2.severity ≠ sev) {l : List (Bool × JRec)} (h : x ∈ l) :
    x ∈ dropLowest.dropOnce sev l := by
  induction l with
  | nil => exact h
  | cons y t ih =>
    unfold dropLowest.dropOnce
    rcases List.mem_cons.1 h with rfl | ht
    · rw [if_neg hx]
      exact List.mem_cons_self
    · split
      · exact ht
      · exact List.mem_cons_of_mem _ (ih ht)

/-- A full queue drops no record of TRIP severity (R419). -/
theorem trip_mem_dropLowest {x : Bool × JRec} {q : List (Bool × JRec)} (h : x ∈ q) (hx : x.2.severity = sevTrip) :
    x ∈ dropLowest q := by
  unfold dropLowest
  split
  · exact h
  · next sev hs =>
    obtain ⟨y, hy, rfl⟩ := List.mem_map.1 (leastN_mem hs)
    have hne : y.2.severity ≠ sevTrip := by simpa using (List.mem_filter.1 hy).2
    have hxy : x.2.severity ≠ y.2.severity := fun e => hne (e.symm.trans hx)
    exact List.mem_reverse.2 (mem_dropOnce hxy (List.mem_reverse.2 h))

section
variable (hu : m.up .mgi = true) (k : Bool) (r : JRec)
include hu

theorem Module.trip_mem_enqueue {x : Bool × JRec} (h : x ∈ m.jou.queue) (hx : x.2.severity = sevTrip) :
    x ∈ (m.enqueue k r).jou.queue := by
  have happ : ∀ y, x ∈ m.jou.queue ++ [y] := fun _ => List.mem_append_left _ h
  rw [Module.enqueue, if_pos hu]
  split
  · dsimp only
    split
    · exact trip_mem_dropLowest (List.mem_append_left _ (trip_mem_dropLowest (happ _) hx)) hx
    · exact trip_mem_dropLowest (happ _) hx
  · exact happ _

theorem Module.enqueue_holding : (m.enqueue k r).jou.holding = m.jou.holding := by
  rw [Module.enqueue, if_pos hu]
  split <;> rfl

end

/-- The module with its MGI running again and what the VSI held moved to the queue. -/
def Module.mgiBack (m : Module) : Module :=
  let n := m.modIsl .mgi fun x => { x with up := true }
  { n with jou := { n.jou with queue := n.jou.queue ++ n.jou.holding, holding := [] } }

/-- The returned MGI takes over what the VSI held, and none of the TRIP records is lost. -/
theorem islandReturn_mgi (hr : s.m.runs = true) (hl : s.m.isl.length = 9) (hu : s.m.up .mgi = false) :
    ∃ t, Answers (.islandReturn .mgi) s t ∧ t.m.up .mgi = true ∧ t.m.jou.holding = [] ∧
      ∀ r ∈ s.m.jou.queue ++ s.m.jou.holding, r.2.severity = sevTrip → r ∈ t.m.jou.queue := by
  have hup : s.m.mgiBack.up .mgi = true := Module.modIsl_up hl _ _
  refine ⟨_, ⟨exec_islandReturn hr hu, rfl, rfl⟩, ?_, ?_, fun r hq hsev => ?_⟩
  · exact ((Module.jot_only _ _ _ _ _ _ _ _ _ _).up .mgi).trans hup
  · exact Module.enqueue_holding (m := s.m.mgiBack) hup _ _
  · exact Module.trip_mem_enqueue (m := s.m.mgiBack) hup _ _ hq hsev

/-! ### An outage of the MGI -/

/-- A leader that wants a handover moves only that wish and its offer. -/
theorem Module.offerHandover_eq (m : Module) (h : Nat) : m.offerHandover h = { m with
    pair := { m.pair with wantHandover := true, offered := (m.offerHandover h).pair.offered }
    outbox := (m.offerHandover h).outbox } := by
  unfold Module.offerHandover
  dsimp only
  split <;> rfl

theorem exec_mgiOutageHandover (hr : s.m.runs = true) (hp : s.m.isPair = true) (hl : s.m.leads = true)
    (hu : s.m.up .mgi = false) : exec .mgiOutageHandover s = .next { s with m := s.m.startHandover } := by
  show execMgiOutageHandover s = _
  simp [execMgiOutageHandover, onModule, hr, hp, hl, hu]

/-! ### The overrun of a queue (R71) -/

/-- What an overrun loses: a sweep, its verdict stage, or the newest entry of a control queue (log 156). -/
def Module.overrun (m : Module) : QueueName → Module
  | .rgiEsi => { m with sweep := { m.sweep with dropped := addTo m.sweep.dropped m.lastSweep } }
  | .esiVsi => { m with sweep := { m.sweep with verdicts := m.sweep.estimated } }
  | .control p c => m.dropNewest p c

theorem exec_queueOverrun (hr : s.m.runs = true) (q : QueueName) : exec (.queueOverrun q) s = .next { s with
    m := ((s.m.overrun q).raise (producerOf q) cQueueOverrun sevWarning scModule 0 (queueCode q)).clear
      (producerOf q) cQueueOverrun } := by
  show execQueueOverrun q s = _
  cases q <;> simp [execQueueOverrun, onModule, hr, Module.overrun]

theorem queueOverrun_loses (hr : s.m.runs = true) (q : QueueName) :
    ∃ t, Answers (.queueOverrun q) s t ∧ JournalOnly (s.m.overrun q) t.m :=
  ⟨_, ⟨exec_queueOverrun hr q, rfl, rfl⟩, (Module.raise_only _ _ _ _ _ _ _ _).trans (Module.clear_only _ _ _ _ _)⟩

end Machine

open Machine

/-- Settles O25: the reset by its equation, the returns by what each island takes up. -/
theorem islandResetAlone : Obligations.IslandResetAlone := by
  intro s cause hr hl
  refine ⟨fun i hi hu => ⟨_, exec_islandReset hr hi hu cause, rfl, rfl, rfl⟩,
    fun i hi hu => exec_islandReset_down hr hi hu cause, fun i => ?_, fun hu => islandReset_swi hr hl hu cause,
    fun hu => islandReset_pri hr hl hu cause, fun hc => ⟨_, exec_islandReset_cpi hr hc cause, rfl, rfl, rfl⟩,
    fun i hu => ?_, islandReturn_mgi hr hl, fun hp hlead hu => ?_, fun q => ?_⟩
  · exact ⟨s.m.resetNoted i (causeCode cause), s.m.resetNoted_only i _, Module.resetNoted_up hl i _,
      s.m.resetIsland_eq i _⟩
  · refine ⟨_, rfl, Module.modIsl_up hl _ _, exec_islandReturn hr hu, Module.islandUp_quiet _, ?_, ?_, ?_⟩
    all_goals
      rintro rfl
      rfl
  · exact ⟨_, ⟨exec_mgiOutageHandover hr hp hlead hu, rfl, rfl⟩, Module.offerHandover_want _ _,
      Module.offerHandover_eq _ _⟩
  · obtain ⟨t, ha, hj⟩ := queueOverrun_loses hr q
    refine ⟨t, ha, ?_, ?_, ?_⟩
    · rintro rfl
      exact hj
    · rintro rfl
      exact hj
    · rintro p c rfl
      exact hj

end Sys2Proof

/-! ## Time pulses, time states and corrections of plant time (R75 to R84) -/

namespace Sys2Proof

namespace Machine

variable {s : State} {m : Module} {i : Island}

/-! ### Time pulses (R79, R80) -/

theorem Module.timeUp_of (hr : m.runs = true) (hu : m.up .mgi = true) : m.timeUp = true := by
  simp [Module.timeUp, hr, hu]

theorem exec_timePulse_cpi (ht : s.m.timeUp = true) (n : Nat) : exec (.timePulse .cpi n) s =
    .next { s with cara := { s.cara with pulse := s.m.plant } } := by
  show execTimePulse .cpi n s = _
  simp [execTimePulse, ht]

theorem exec_timePulse (ht : s.m.timeUp = true) (hi : i ≠ .cpi) (hu : s.m.up i = true) (n : Nat) :
    exec (.timePulse i n) s = .next { s with
      m := (s.m.modIsl i fun x => x.pulsed s.m.pulseTime n).clear i cTimePulseLost scIsland (islandCode i) } := by
  show execTimePulse i n s = _
  simp [execTimePulse, onModule, ht, hi, hu]

theorem exec_timePulseLost (hr : s.m.runs = true) (hi : i ≠ .cpi) (hu : s.m.up i = true) :
    exec (.timePulseLost i) s = .next { s with
      m := (s.m.modIsl i fun x => { x with degraded := true }).raise i cTimePulseLost sevWarning scIsland
        (islandCode i) } := by
  show execTimePulseLost i s = _
  simp [execTimePulseLost, onModule, hr, hi, hu]

section
variable {x : IslandSt} {p n : Nat} (h : x.nextPulse = p)
include h

/-- A pulse whose time was told sets the counter to it. -/
theorem IslandSt.pulsed_counter : (x.pulsed p n).counter = p := by simp [IslandSt.pulsed, h]

/-- The trimmed rate takes the ticks between two pulses to the plant time between them. -/
theorem IslandSt.pulsed_trim (h0 : x.counter ≠ 0) (hlt : x.counter < p) (hn : n ≠ 0) :
    (x.pulsed p n).trim * (n : Rat) = ((p - x.counter : Nat) : Rat) := by
  have ht : (x.pulsed p n).trim = ((p - x.counter : Nat) : Rat) / (n : Rat) := by
    simp [IslandSt.pulsed, h, h0, hlt, hn]
  rw [ht, div_mul_cancel₀ _ (Nat.cast_ne_zero.2 hn)]

end

/-! ### PPS_OUT and the slew of one millisecond (R78, R84) -/

theorem TimeUnit.pps_high_iff (u : TimeUnit) : u.pps.ppsOut = true ↔ (u.state = .locked ∨ u.state = .holdover) ∧
    ((u.now : Int) + u.offset).toNat % 1000000000 < 100000000 ∧
    (u.ppsOut = true ∨ secondOf ((u.now : Int) + u.offset) ≠ u.ppsEdge) := by
  simp [TimeUnit.pps, and_assoc]

/-- Without a rate to run on, all of the 10 ppm is left for the slew. -/
theorem TimeUnit.slewed_free {u : TimeUnit} (h : u.state = .unset ∨ u.state = .freerun) (hf : u.frac = 0) :
    u.slewed.offset = u.offset + clampI (-10) 10 u.slew ∧ u.slewed.slew = u.slew - clampI (-10) 10 u.slew := by
  have hrate : u.rate = 0 := by rcases h with h | h <;> simp [TimeUnit.rate, h]
  simp [TimeUnit.slewed, hrate, hf]

/-! ### The way into LOCKED (R83, R84) -/

theorem exec_timeLock (ht : s.m.timeUp = true) : exec .timeLock s = .next { s with m := s.m.lockTime } := by
  show execTimeLock s = _
  simp [execTimeLock, onModule, ht]

theorem Module.lockTime_kept (hu : m.time.state ≠ .unset) (hl : m.time.state ≠ .locked) :
    m.lockTime = m.enterLocked := by
  cases h : m.time.state with
  | unset => exact absurd h hu
  | locked => exact absurd h hl
  | holdover => simp only [Module.lockTime, h]
  | freerun => simp only [Module.lockTime, h]

theorem Module.lockTime_waits (hu : m.time.state = .unset) (hs : m.sweep.running = true) : m.lockTime =
    { m with time := { m.time with pendingStep := some m.time.owed, lockWanted := true } } := by
  simp [Module.lockTime, hu, hs]

theorem Module.lockTime_steps (hu : m.time.state = .unset) (hs : m.sweep.running = false) :
    m.lockTime = (m.stepTime m.time.owed).enterLocked := by simp [Module.lockTime, hu, hs]

theorem Module.enterLocked_time (m : Module) : m.enterLocked.time = { m.time with
    state := .locked, lockedAt := m.time.now, sourceLost := false, lockWanted := false } := by
  rw [m.enterLocked_only]

theorem Module.stepTime_offset (m : Module) (d : Int) : (m.stepTime d).time.offset = m.time.offset + d := by
  rw [m.stepTime_only d]

/-! ### The loss of the source (R75, R76, R83) -/

theorem Module.freerun_only (m : Module) :
    JournalOnly { m with time := { m.time with state := .freerun, ppsOut := false } } m.freerun :=
  (Module.clear_only _ _ _ _ _).trans (Module.raise_only _ _ _ _ _ _ _ _)

theorem Module.freerun_holds (m : Module) : m.freerun.holds cTimeFreerun scModule 0 = true :=
  Module.raise_holds _ _ _ _ _ _ _ _

/-- The module whose source is noted as lost. -/
def Module.sourceNoted (m : Module) : Module :=
  { m with time := { m.time with sourceLost := true, lockWanted := false } }

/-- The same in HOLDOVER. -/
def Module.inHoldover (m : Module) : Module :=
  { m.sourceNoted with time := { m.sourceNoted.time with state := .holdover, heldAt := m.time.now } }

section
variable (h : m.time.state = .locked)
include h

/-- An hour of LOCKED carries over into HOLDOVER. -/
theorem Module.sourceGone_held (hh : m.time.lockedAt + 3600000000000 ≤ m.time.now) :
    m.sourceGone = m.inHoldover.raise .mgi cTimeHoldover := by
  simp [Module.sourceGone, Module.inHoldover, Module.sourceNoted, h, hh]

theorem Module.sourceGone_short (hh : m.time.now < m.time.lockedAt + 3600000000000) :
    m.sourceGone = m.sourceNoted.freerun := by
  simp [Module.sourceGone, Module.sourceNoted, h, Nat.not_le.2 hh]

/-- LOCKED ends with the source: in HOLDOVER after an hour of it, in FREERUN before (R83). -/
theorem Module.sourceGone_spec : JournalOnly { m with time := m.sourceGone.time } m.sourceGone ∧
    m.sourceGone.time.sourceLost = true ∧
    (m.time.lockedAt + 3600000000000 ≤ m.time.now → m.sourceGone.time.state = .holdover ∧
      m.sourceGone.holds cTimeHoldover scModule 0 = true) ∧
    (m.time.now < m.time.lockedAt + 3600000000000 → m.sourceGone.time.state = .freerun ∧
      m.sourceGone.time.ppsOut = false ∧ m.sourceGone.holds cTimeFreerun scModule 0 = true) := by
  by_cases hh : m.time.lockedAt + 3600000000000 ≤ m.time.now
  · have heq := Module.sourceGone_held h hh
    have honly := m.inHoldover.raise_only .mgi cTimeHoldover sevWarning scModule 0 naCurrent []
    have htime := honly.field (·.time) fun _ _ _ _ => rfl
    rw [heq]
    refine ⟨?_, by rw [htime]; rfl, fun _ => ⟨by rw [htime]; rfl, Module.raise_holds _ _ _ _ _ _ _ _⟩,
      fun hlt => absurd hh (Nat.not_le.2 hlt)⟩
    rw [htime]
    exact honly
  · have heq := Module.sourceGone_short h (Nat.lt_of_not_le hh)
    have honly := m.sourceNoted.freerun_only
    have htime := honly.field (·.time) fun _ _ _ _ => rfl
    rw [heq]
    refine ⟨?_, by rw [htime]; rfl, fun hle => absurd hle hh, fun _ => ⟨by rw [htime], by rw [htime],
      m.sourceNoted.freerun_holds⟩⟩
    rw [htime]
    exact honly

end

theorem Module.loseSource_own (h : m.follows = false) : m.loseSource = m.sourceGone := by simp [Module.loseSource, h]

theorem exec_timeSourceLost_pps (ht : s.m.timeUp = true) (hp : s.m.ppsSource = true) :
    exec .timeSourceLost s = .next { s with m := s.m.ppsGone } := by
  show execTimeSourceLost s = _
  simp [execTimeSourceLost, onModule, ht, hp]

theorem exec_timeSourceLost_none (ht : s.m.timeUp = true) (hp : s.m.ppsSource = false) (hn : s.m.time.ptpPort = none) :
    exec .timeSourceLost s = .next { s with m := s.m.loseSource } := by
  show execTimeSourceLost s = _
  simp [execTimeSourceLost, onModule, ht, hp, hn]

theorem exec_timeSourceLost_ptp (ht : s.m.timeUp = true) (hp : s.m.ppsSource = false) {p : Nat}
    (hs : s.m.time.ptpPort = some p) : exec .timeSourceLost s = .next { s with m := s.m.masterGone p } := by
  show execTimeSourceLost s = _
  simp [execTimeSourceLost, onModule, ht, hp, hs]

/-- A LOCKED module that steers to its own source loses it with no other to stand in. -/
theorem timeSourceLost_locked (ht : s.m.timeUp = true) (hsrc : s.m.ppsSource = true ∨ s.m.time.ptpPort = none)
    (hf : s.m.follows = false) (hl : s.m.time.state = .locked) :
    ∃ t, Answers .timeSourceLost s t ∧ JournalOnly { s.m with time := t.m.time } t.m ∧ t.m.time.sourceLost = true ∧
      (s.m.time.lockedAt + 3600000000000 ≤ s.m.time.now → t.m.time.state = .holdover ∧
        t.m.holds cTimeHoldover scModule 0 = true) ∧
      (s.m.time.now < s.m.time.lockedAt + 3600000000000 → t.m.time.state = .freerun ∧ t.m.time.ppsOut = false ∧
        t.m.holds cTimeFreerun scModule 0 = true) := by
  cases hp : s.m.ppsSource with
  | true =>
    refine ⟨_, ⟨exec_timeSourceLost_pps ht hp, rfl, rfl⟩, ?_⟩
    have heq : s.m.ppsGone = Module.sourceGone { s.m with time := { s.m.time with ppsSeen := false } } :=
      Module.loseSource_own hf
    rw [heq]
    exact Module.sourceGone_spec (m := { s.m with time := { s.m.time with ppsSeen := false } }) hl
  | false =>
    have hn : s.m.time.ptpPort = none := hsrc.resolve_left (by simp [hp])
    refine ⟨_, ⟨exec_timeSourceLost_none ht hp hn, rfl, rfl⟩, ?_⟩
    rw [Module.loseSource_own hf]
    exact Module.sourceGone_spec hl

/-- The other port takes over where it hears a master. -/
theorem Module.masterGone_other {p gm : Nat} (hp : p < 2) (hm : m.time.masters.getD (1 - p) none = some gm) :
    m.masterGone p = { m with time := { m.time with
      masters := modAt m.time.masters p (fun _ => none), ptpPort := some (1 - p), grandmaster := gm } } := by
  have hother : (modAt m.time.masters p (fun _ => none)).getD (1 - p) none = some gm := by
    rw [modAt_getD_other _ _ _ _ _ (by omega), hm]
  simp only [Module.masterGone, hother]

theorem exec_holdoverExpire (ht : s.m.timeUp = true) (h : s.m.time.state = .holdover) :
    exec .holdoverExpire s = .next { s with m := s.m.freerun } := by
  show execHoldoverExpire s = _
  simp [execHoldoverExpire, onModule, ht, h]

theorem exec_holdoverExpire_other (h : s.m.time.state ≠ .holdover) : exec .holdoverExpire s = .next s := by
  show execHoldoverExpire s = _
  simp [execHoldoverExpire, onModule, h]

theorem exec_pairTimeDisagree (hr : s.m.runs = true) (hf : s.m.follows = true) :
    exec .pairTimeDisagree s = .next { s with m := s.m.raise .pri cPairTimeDisagree } := by
  show execPairTimeDisagree s = _
  simp [execPairTimeDisagree, onModule, hr, hf]

/-! ### Corrections by a measured offset (R84) -/

/-- An offset of at most 1 ms is slewed out once something has set plant time. -/
theorem Module.steer_slews {d : Int} (h : m.time.state ≠ .unset ∨ m.time.offset ≠ 0) (hd : d.natAbs ≤ 1000000) :
    m.steer d = { m with time := { m.time with slew := d } } := by
  rw [Module.steer, if_neg]
  rintro (⟨hu, ho⟩ | hlt)
  · exact h.elim (fun h => h hu) (fun h => h ho)
  · exact absurd hd (Nat.not_le.2 hlt)

/-- A larger offset waits for the next boundary while sweeps run. -/
theorem Module.steer_waits {d : Int} (hd : 1000000 < d.natAbs) (hs : m.sweep.running = true) :
    m.steer d = { m with time := { m.time with pendingStep := some d } } := by
  rw [Module.steer, if_pos (.inr hd), if_pos hs]

/-! ### PTP messages (R76, R82) -/

theorem exec_ptpMessageRx (eth dom : Nat) (msg : PtpMsg) :
    exec (.ptpMessageRx eth dom msg) s = execPtpMessageRx eth dom msg s := rfl

theorem exec_ptpMessageRx_foreign {eth dom : Nat} {msg : PtpMsg} (h : dom ≠ s.m.cfg.sweep.ptpDomain) :
    exec (.ptpMessageRx eth dom msg) s = .next s := by
  simp [exec_ptpMessageRx, execPtpMessageRx, onModule, h]

section
variable (ht : s.m.timeUp = true) {eth : Nat}
include ht

theorem exec_ptpMessageRx_announce (gm : Nat) (better : Bool) :
    exec (.ptpMessageRx eth s.m.cfg.sweep.ptpDomain (.announce gm better)) s =
      .next { s with m := s.m.heardMaster eth gm better } := by
  simp [exec_ptpMessageRx, execPtpMessageRx, onModule, ht]

/-- A module that does not follow steers to the offset of its active port. -/
theorem exec_ptpMessageRx_offset {ns d : Int} (hp : s.m.time.ptpPort = some eth) (hd : d = s.m.corrected eth ns)
    (hf : s.m.follows = false) (hs : s.m.cfg.sweep.timeSource ≠ .ppsHost) :
    exec (.ptpMessageRx eth s.m.cfg.sweep.ptpDomain (.offset ns)) s =
      .next { s with m := (s.m.servoTook d).steer d } := by
  simp [exec_ptpMessageRx, execPtpMessageRx, onModule, ht, hp, hd, hf, Module.ptpSource, hs]

/-- A follower that hears an offset of at most 1 us agrees with its leader again. -/
theorem exec_ptpMessageRx_agrees {ns d : Int} (hp : s.m.time.ptpPort = some eth) (hd : d = s.m.corrected eth ns)
    (hf : s.m.follows = true) (hle : d.natAbs ≤ 1000) :
    exec (.ptpMessageRx eth s.m.cfg.sweep.ptpDomain (.offset ns)) s = .next { s with
      m := s.m.clear .mgi cPairTimeDisagree } := by
  simp [exec_ptpMessageRx, execPtpMessageRx, onModule, ht, hp, hf, ← hd, hle]

theorem exec_ptpMessageRx_delayReq (hm : s.m.cfg.sweep.ptpMaster = true) (hp : s.m.time.ptpPort = none) :
    exec (.ptpMessageRx 0 s.m.cfg.sweep.ptpDomain .delayReq) s =
      .next { s with m := s.m.emit (.ptp 0 s.m.cfg.sweep.ptpDomain .delayResp) } := by
  simp [exec_ptpMessageRx, execPtpMessageRx, onModule, ht, Module.ptpMaster, hm, hp, ptpMasterPort, Module.sendPtp]

end

/-- What an Announce moves: the master of its port, and the choice of the active port. -/
theorem Module.heardMaster_spec (m : Module) (eth gm : Nat) (better : Bool) : m.heardMaster eth gm better =
    { m with time := { m.time with
      masters := modAt m.time.masters eth (fun _ => some gm), ptpPort := (m.heardMaster eth gm better).time.ptpPort
      grandmaster := (m.heardMaster eth gm better).time.grandmaster
      sourceLost := (m.heardMaster eth gm better).time.sourceLost } } := by
  unfold Module.heardMaster
  dsimp only
  split <;> rfl

theorem Module.heardMaster_active {eth gm : Nat} {better : Bool}
    (h : better = true ∨ m.time.ptpPort = none ∨ m.time.ptpPort = some eth) :
    (m.heardMaster eth gm better).time.ptpPort = some eth ∧ (m.heardMaster eth gm better).time.grandmaster = gm := by
  rw [Module.heardMaster, if_pos (by simpa using h)]
  exact ⟨rfl, rfl⟩

theorem Module.heardMaster_passive {eth gm e : Nat} (h : m.time.ptpPort = some e) (he : e ≠ eth) :
    (m.heardMaster eth gm false).time.ptpPort = some e ∧
      (m.heardMaster eth gm false).time.grandmaster = m.time.grandmaster := by
  rw [Module.heardMaster, if_neg (by simp [h, he])]
  exact ⟨h, rfl⟩

/-! ### Edges of PPS_IN (R75) -/

/-- The module that has seen an edge of the source it steers to. -/
def Module.edgeSeen (m : Module) : Module := { m with time := { m.time with ppsSeen := true, sourceLost := false } }

/-- The offset of plant time to a second that the host has named. -/
def Module.todOffset (m : Module) (sec : Nat) : Int :=
  (sec * 1000000000 : Nat) - ((m.time.now : Int) + m.time.offset)

/-- The module that has taken the host's time of day. -/
def Module.todTaken (m : Module) (sec : Nat) : Module :=
  { m with time := { m.time with tod := none, todKnown := true, servo := m.todOffset sec } }

/-- What an edge of the source does: the time of day that the host supplied at least 10 ms before applies at it, and without
a new one the edge's offset steers, once a time of day is known. -/
def Module.tookEdge (m : Module) (d : Int) : Module :=
  match m.time.tod with
  | some (sec, heard) =>
    if heard + 10000000 ≤ m.time.now then (m.todTaken sec).steer (m.todOffset sec) else m
  | none => if m.todHeld then (m.servoTook d).steer d else m

theorem Module.tookEdge_tod {sec heard : Nat} (h : m.time.tod = some (sec, heard))
    (hh : heard + 10000000 ≤ m.time.now) (d : Int) : m.tookEdge d = (m.todTaken sec).steer (m.todOffset sec) := by
  simp only [Module.tookEdge, h, if_pos hh]

theorem Module.tookEdge_offset (h : m.time.tod = none) (hk : m.todHeld = true) (d : Int) :
    m.tookEdge d = (m.servoTook d).steer d := by simp only [Module.tookEdge, h, if_pos hk]

section

@[simp] theorem Module.ppsSource_seen :
    Module.ppsSource { m with time := { m.time with ppsSeen := true } } = m.ppsSource := rfl

@[simp] theorem Module.follows_seen :
    Module.follows { m with time := { m.time with ppsSeen := true } } = m.follows := rfl

variable (ht : s.m.timeUp = true)
include ht

theorem exec_ppsInEdge_other (d : Int) (h : s.m.follows = true ∨ s.m.ppsSource = false) : exec (.ppsInEdge d) s =
    .next { s with m := { s.m with time := { s.m.time with ppsSeen := true } } } := by
  show execPpsInEdge d s = _
  simp only [execPpsInEdge, onModule, ht, if_true, Module.ppsSource_seen, Module.follows_seen, if_pos h]

variable (hf : s.m.follows = false) (hp : s.m.ppsSource = true) (d : Int)
include hf hp

theorem exec_ppsInEdge_own : exec (.ppsInEdge d) s = .next { s with m := s.m.edgeSeen.tookEdge d } := by
  show execPpsInEdge d s = _
  have hown : ¬(s.m.follows = true ∨ s.m.ppsSource = false) := by simp [hf, hp]
  simp only [execPpsInEdge, onModule, ht, if_true, Module.ppsSource_seen, Module.follows_seen, if_neg hown]
  rfl

end

end Machine

open Machine

/-- Settles O26: each pulse, state and correction by the equation of its command. -/
theorem timePulsesAndStates : Obligations.TimePulsesAndStates := by
  refine ⟨fun s hr hu hl => ?_, fun x p n => ?_, fun u => ?_, fun s hr hu => ?_⟩
  · have ht := Module.timeUp_of hr hu
    refine ⟨exec_timePulse_cpi ht, fun i n hi hui => ?_, fun i hi hui => ?_⟩
    · exact ⟨_, ⟨exec_timePulse ht hi hui n, rfl, rfl⟩, Module.clear_only _ _ _ _ _,
        Module.clear_holds _ _ _ _ _ (by decide)⟩
    · exact ⟨_, ⟨exec_timePulseLost hr hi hui, rfl, rfl⟩, Module.raise_only _ _ _ _ _ _ _ _,
        Module.raise_holds _ _ _ _ _ _ _ _⟩
  · exact ⟨rfl, IslandSt.pulsed_counter, IslandSt.pulsed_trim⟩
  · refine ⟨rfl, fun hon => ?_, fun hs hedge hms => u.pps_high_iff.2 ⟨hs, hms, .inr hedge⟩, TimeUnit.slewed_free⟩
    obtain ⟨hs, hms, -⟩ := u.pps_high_iff.1 hon
    exact ⟨hs, hms⟩
  have ht := Module.timeUp_of hr hu
  refine ⟨fun hl => ?_, fun hun hl => ?_, fun hun hs => ?_, fun hun hs => ?_, timeSourceLost_locked ht,
    fun p gm hp hport hlt hm => ?_, fun h => ?_, exec_holdoverExpire_other, fun hf => ?_,
    fun _ _ _ => exec_ptpMessageRx_foreign, fun eth gm better => ?_, fun eth ns d hport hd => ?_,
    exec_ptpMessageRx_delayReq ht, fun d hf hp htod hk hd => ?_, fun d sec heard hf hp htod hh hs hd => ?_,
    exec_ppsInEdge_other ht⟩
  · rw [exec_timeLock ht, Module.lockTime_locked hl]
  · refine ⟨_, ⟨exec_timeLock ht, rfl, rfl⟩, ?_⟩
    rw [Module.lockTime_kept hun hl]
    exact ⟨s.m.enterLocked_only, s.m.enterLocked_holds⟩
  · rw [exec_timeLock ht, Module.lockTime_waits hun hs]
    rfl
  · refine ⟨_, ⟨exec_timeLock ht, rfl, rfl⟩, ?_⟩
    rw [Module.lockTime_steps hun hs, Module.enterLocked_time]
    exact ⟨rfl, s.m.stepTime_offset _, s.m.stepTime_now _⟩
  · rw [exec_timeSourceLost_ptp ht hp hport, Module.masterGone_other hlt hm]
  · exact ⟨_, ⟨exec_holdoverExpire ht h, rfl, rfl⟩, s.m.freerun_only, s.m.freerun_holds⟩
  · exact answers_of_raise (exec_pairTimeDisagree hr hf)
  · refine ⟨_, ⟨exec_ptpMessageRx_announce ht gm better, rfl, rfl⟩, s.m.heardMaster_spec eth gm better,
      Module.heardMaster_active, ?_⟩
    rintro rfl e
    exact Module.heardMaster_passive
  · refine ⟨fun hf hsrc => ⟨fun hk hle => ?_, fun hlt hs => ?_⟩, fun hf hle => ?_⟩
    · rw [exec_ptpMessageRx_offset ht hport hd hf hsrc, Module.steer_slews (m := s.m.servoTook d) hk hle]
      rfl
    · rw [exec_ptpMessageRx_offset ht hport hd hf hsrc, Module.steer_waits (m := s.m.servoTook d) hlt hs]
      rfl
    · exact answers_of_clear (exec_ptpMessageRx_agrees ht hport hd hf hle) (by decide)
  · have hheld : s.m.todHeld = true := by
      rcases hk with ⟨hknown, -⟩ | hset
      · simp [Module.todHeld, hknown]
      · simp [Module.todHeld, hset]
    have hsteer : s.m.time.state ≠ .unset ∨ s.m.time.offset ≠ 0 := hk.symm.imp_right And.right
    rw [exec_ppsInEdge_own ht hf hp, Module.tookEdge_offset (m := s.m.edgeSeen) htod hheld,
      Module.steer_slews (m := s.m.edgeSeen.servoTook d) hsteer hd]
    rfl
  · rw [exec_ppsInEdge_own ht hf hp, Module.tookEdge_tod (m := s.m.edgeSeen) htod hh,
      Module.steer_waits (m := s.m.edgeSeen.todTaken sec) (d := s.m.edgeSeen.todOffset sec) hd hs]
    rfl

end Sys2Proof

/-! ## The records of ports, rings and workers, and what counting and tone changes move of a port (R119, R121) -/

namespace Sys2Proof

namespace Machine

variable {m : Module}

/-! ### One record written -/

@[simp] theorem Module.modWk_wk (m : Module) (w : Wk) (f : WorkerSt → WorkerSt) : (m.modWk w f).wk w = f (m.wk w) :=
  look_put_same _ _ _ _

@[simp] theorem Module.modRing_ring (m : Module) (r : Nat) (f : RingSt → RingSt) :
    (m.modRing r f).ring r = f (m.ring r) := look_put_same _ _ _ _

theorem Module.modRing_other (m : Module) {r r' : Nat} (f : RingSt → RingSt) (h : r' ≠ r) :
    (m.modRing r f).ring r' = m.ring r' := look_put_other _ _ _ _ _ h.symm

@[simp] theorem Module.modSeg_seg (m : Module) (r g : Nat) (f : SegSt → SegSt) :
    (m.modSeg r g f).seg r g = f (m.seg r g) := by
  simp [Module.seg, Module.modSeg]

theorem Module.modPort_same {p : Nat} (f : PortSt → PortSt) (hp : p < m.ports.length) :
    (m.modPort p f).port p = f (m.port p) := modAt_getD_same _ _ _ _ hp

theorem Module.modPort_other {p q : Nat} (f : PortSt → PortSt) (h : q ≠ p) : (m.modPort p f).port q = m.port q :=
  modAt_getD_other _ _ _ _ _ h.symm

@[simp] theorem Module.modPort_length (m : Module) (p : Nat) (f : PortSt → PortSt) :
    (m.modPort p f).ports.length = m.ports.length := modAt_length _ _ _

end Machine

open Machine

theorem JournalOnly.port {m n : Module} (h : JournalOnly m n) (p : Nat) : n.port p = m.port p :=
  h.field (·.port p) fun _ _ _ _ => rfl

theorem JournalOnly.ports {m n : Module} (h : JournalOnly m n) : n.ports = m.ports :=
  h.field (·.ports) fun _ _ _ _ => rfl

theorem JournalOnly.withPortsFree {a b : Module} (h : JournalOnly a b) (ps : List PortSt) (k : Nat) :
    JournalOnly { a with ports := ps, free := k } { b with ports := ps, free := k } :=
  congrArg (fun x : Module => ({ x with ports := ps, free := k } : Module)) h

/-- What journals from a module with other ports and free values keeps all else of the old one. -/
theorem JournalOnly.portsFree_of {m n : Module} {ps : List PortSt} {k : Nat}
    (h : JournalOnly { m with ports := ps, free := k } n) : JournalOnly { m with ports := n.ports, free := n.free } n := by
  have hfree : n.free = k := h.field Module.free fun _ _ _ _ => rfl
  rw [h.ports, hfree]
  exact h

namespace Machine

variable {m : Module} {p q : Nat}

/-! ### Counting at a port (R121) -/

theorem Module.countPort_same (i : Nat) (hp : p < m.ports.length) : (m.countPort p i).port p =
    { m.port p with counters := modAt (m.port p).counters i bump16 } := by
  rw [JournalOnly.port (m.countPort_only p i), Module.modPort_same _ hp]

theorem Module.countPort_other (i : Nat) (h : q ≠ p) : (m.countPort p i).port q = m.port q := by
  rw [JournalOnly.port (m.countPort_only p i), Module.modPort_other _ h]

@[simp] theorem Module.countPort_length (m : Module) (p i : Nat) : (m.countPort p i).ports.length = m.ports.length := by
  rw [JournalOnly.ports (m.countPort_only p i), Module.modPort_length]

theorem Module.countMany_other (i n : Nat) (h : q ≠ p) : (m.countMany p i n).port q = m.port q := by
  induction n generalizing m with
  | zero => rfl
  | succ n ih => exact ih.trans (Module.countPort_other i h)

/-- A counter that advances `n` times saturates at 0xFFFF (R427). -/
theorem Module.countMany_counter (i n : Nat) (hp : p < m.ports.length) (hi : i < (m.port p).counters.length)
    (hle : (m.port p).counters.getD i 0 ≤ 0xFFFF) :
    ((m.countMany p i n).port p).counters.getD i 0 = min 0xFFFF ((m.port p).counters.getD i 0 + n) := by
  induction n generalizing m with
  | zero => exact (Nat.min_eq_right hle).symm
  | succ n ih =>
    have hcount : ((m.countPort p i).port p).counters.getD i 0 = bump16 ((m.port p).counters.getD i 0) := by
      rw [Module.countPort_same i hp]
      exact modAt_getD_same _ _ _ _ hi
    refine (ih (by rwa [Module.countPort_length]) ?_ ?_).trans ?_
    · rw [Module.countPort_same i hp, modAt_length]
      exact hi
    · rw [hcount]
      exact Nat.min_le_left _ _
    · rw [hcount, bump16]
      omega

theorem Module.countCode_counter (n : Nat) (hp : p < m.ports.length) (hi : 0 < (m.port p).counters.length)
    (hle : (m.port p).counters.getD 0 0 ≤ 0xFFFF) :
    ((m.countCode p n).port p).counters.getD 0 0 = min 0xFFFF ((m.port p).counters.getD 0 0 + n) := by
  rw [Module.countCode, Module.countMany_counter 0 _ hp hi hle]
  omega

@[simp] theorem Module.countCode_zero (m : Module) (p : Nat) : m.countCode p 0 = m := rfl

/-! ### A change of tone (R119) -/

/-- The port with its new tone, the change counted. -/
def Module.toneCounted (m : Module) (p : Nat) (t : Tone) : Module :=
  (m.modPort p (fun q => { q with tone := t })).countPort p 11

theorem Module.toneChange_same_tone {t : Tone} (h : (m.port p).tone = t) : m.toneChange p t = m := if_pos h

/-- A change of tone journals from the module that has counted it, with one more free value drawn (log 53). -/
theorem Module.toneChange_journals {t : Tone} (h : (m.port p).tone ≠ t) :
    JournalOnly { m.toneCounted p t with free := (m.toneCounted p t).free + 1 } (m.toneChange p t) := by
  rw [Module.toneChange, if_neg h]
  exact Module.jot_only _ _ _ _ _ _ _ _ _ _

theorem Module.toneChange_only (m : Module) (p : Nat) (t : Tone) :
    JournalOnly { m with ports := (m.toneChange p t).ports, free := (m.toneChange p t).free } (m.toneChange p t) := by
  by_cases h : (m.port p).tone = t
  · rw [Module.toneChange_same_tone h]
    exact .refl m
  · have hcount := Module.countPort_only (m.modPort p (fun q => { q with tone := t })) p 11
    exact ((JournalOnly.withPortsFree hcount _ _).trans (Module.toneChange_journals h)).portsFree_of

theorem Module.toneChange_same (t : Tone) (hp : p < m.ports.length) : (m.toneChange p t).port p =
    { m.port p with tone := t, counters := ((m.toneChange p t).port p).counters } := by
  by_cases h : (m.port p).tone = t
  · rw [Module.toneChange_same_tone h, ← h]
  · have hport : (m.toneChange p t).port p = (m.toneCounted p t).port p := JournalOnly.port (Module.toneChange_journals h) p
    rw [hport, Module.toneCounted, Module.countPort_same 11 (by rwa [Module.modPort_length]), Module.modPort_same _ hp]

theorem Module.toneChange_other (t : Tone) (h : q ≠ p) : (m.toneChange p t).port q = m.port q := by
  by_cases ht : (m.port p).tone = t
  · rw [Module.toneChange_same_tone ht]
  · have hport : (m.toneChange p t).port q = (m.toneCounted p t).port q :=
      JournalOnly.port (Module.toneChange_journals ht) q
    rw [hport, Module.toneCounted, Module.countPort_other 11 h, Module.modPort_other _ h]

end Machine

end Sys2Proof

/-! ## Windows and links of the ring ports (R89, R119, R324) -/

namespace Sys2Proof

namespace Machine

variable {s : State} {m : Module} {p q : Nat}

/-- A port that serves: the RGI runs, the set enables the port, and its link is up. -/
def Module.portServes (m : Module) (p : Nat) : Bool := m.rgiUp && m.portOn p && (m.port p).up

theorem Module.portServes_false (h : m.rgiUp = false ∨ m.portOn p = false ∨ (m.port p).up = false) :
    m.portServes p = false := by
  rcases h with h | h | h <;> simp [Module.portServes, h]

theorem Module.portServes_true (hr : m.rgiUp = true) (hp : m.portOn p = true) (hu : (m.port p).up = true) :
    m.portServes p = true := by simp [Module.portServes, hr, hp, hu]

/-! ### A classified window -/

/-- The Carapace's own detectors after a classified window: its class is kept, and where it agrees with the one before, it is
the tone (R324). -/
def Carapace.classified (c : Carapace) (p : Nat) (x : Tone) : Carapace :=
  { c with
    tones := if c.toneWins.getD p none = some x then modAt c.tones p (fun _ => x) else c.tones
    toneWins := modAt c.toneWins p (fun _ => some x) }

theorem Carapace.classified_tone (c : Carapace) (x : Tone) (hp : p < c.tones.length) :
    (c.classified p x).tones.getD p .dead =
      if c.toneWins.getD p none = some x then x else c.tones.getD p .dead := by
  unfold Carapace.classified
  split
  · exact modAt_getD_same _ _ _ _ hp
  · rfl

theorem Carapace.classified_other (c : Carapace) (x : Tone) (h : q ≠ p) :
    (c.classified p x).tones.getD q .dead = c.tones.getD q .dead ∧
      (c.classified p x).toneWins.getD q none = c.toneWins.getD q none := by
  refine ⟨?_, modAt_getD_other _ _ _ _ _ h.symm⟩
  unfold Carapace.classified
  split
  · exact modAt_getD_other _ _ _ _ _ h.symm
  · rfl

/-- The module's own classifier after a window: its class is kept at the port. -/
def Module.windowKept (m : Module) (p : Nat) (x : Tone) : Module := m.modPort p (fun q => { q with lastWin := some x })

/-- The module's own classifier: a window that agrees with the one before changes the tone (R119). -/
def Module.classified (m : Module) (p : Nat) (x : Tone) : Module :=
  if (m.port p).lastWin = some x then (m.windowKept p x).toneChange p x else m.windowKept p x

theorem Module.classified_only (m : Module) (p : Nat) (x : Tone) :
    JournalOnly { m with ports := (m.classified p x).ports, free := (m.classified p x).free } (m.classified p x) := by
  unfold Module.classified
  split
  · exact (m.windowKept p x).toneChange_only p x
  · exact .refl _

theorem Module.classified_same (x : Tone) (hp : p < m.ports.length) :
    ((m.classified p x).port p).lastWin = some x ∧
      ((m.classified p x).port p).tone = if (m.port p).lastWin = some x then x else (m.port p).tone := by
  have hkept : (m.windowKept p x).port p = { m.port p with lastWin := some x } := Module.modPort_same _ hp
  unfold Module.classified
  split
  · have htone := Module.toneChange_same (m := m.windowKept p x) x (hp.trans_eq (m.modPort_length p _).symm)
    rw [htone, hkept]
    exact ⟨rfl, rfl⟩
  · rw [hkept]
    exact ⟨rfl, rfl⟩

theorem Module.classified_other (x : Tone) (h : q ≠ p) : (m.classified p x).port q = m.port q := by
  have hkept : (m.windowKept p x).port q = m.port q := Module.modPort_other _ h
  unfold Module.classified
  split
  · rw [Module.toneChange_other x h, hkept]
  · exact hkept

section
variable {a b c : Bool}

/-- A mixed window only counts its code violations. -/
theorem exec_toneWindow_mixed (h : windowClass a b c = none) (n : Nat) : exec (.toneWindow p a b c n) s = .next { s with
    m := if s.m.rgiUp && s.m.portOn p then s.m.countCode p n else s.m } := by
  show execToneWindow p a b c n s = _
  simp only [execToneWindow, h]
  rfl

theorem exec_toneWindow_class {x : Tone} (h : windowClass a b c = some x) (hc : s.cara.state ≠ .off) :
    exec (.toneWindow p a b c 0) s = .next { s with
      cara := s.cara.classified p x, m := if s.m.portServes p then s.m.classified p x else s.m } := by
  show execToneWindow p a b c 0 s = _
  simp [execToneWindow, h, hc, onBoth, Carapace.classified, Module.portServes, Module.classified, Module.windowKept]

end

/-! ### A link that goes down -/

/-- The port whose link is lost, before its ring learns of it. -/
def Module.linkLost (m : Module) (p : Nat) : Module :=
  ((m.modPort p (fun q => { q with up := false, lastWin := none })).countPort p 10).toneChange p .dead

theorem Module.linkLost_only (m : Module) (p : Nat) :
    JournalOnly { m with ports := (m.linkLost p).ports, free := (m.linkLost p).free } (m.linkLost p) := by
  have hcount := Module.countPort_only (m.modPort p (fun q => { q with up := false, lastWin := none })) p 10
  exact (JournalOnly.withPortsFree hcount _ _).trans (Module.toneChange_only _ p .dead)

theorem Module.linkLost_same (hp : p < m.ports.length) : (m.linkLost p).port p =
    { m.port p with up := false, tone := .dead, lastWin := none, counters := ((m.linkLost p).port p).counters } := by
  have hl : p < (m.modPort p (fun q => { q with up := false, lastWin := none })).ports.length := by
    rwa [Module.modPort_length]
  have ht := Module.toneChange_same (m := (m.modPort p _).countPort p 10) .dead (by rwa [Module.countPort_length])
  rw [Module.countPort_same 10 hl, Module.modPort_same _ hp] at ht
  exact ht

theorem Module.linkLost_other (h : q ≠ p) : (m.linkLost p).port q = m.port q := by
  rw [Module.linkLost, Module.toneChange_other _ h, Module.countPort_other _ h, Module.modPort_other _ h]

/-- The ring at a port learns that its side passes nothing on, once it is trained (R115). -/
def Module.ringHears (m : Module) (p : Nat) : Module :=
  if (m.ring (m.endOfPort p).1).trained then
    m.learnTurn (m.endOfPort p).1 (if (m.endOfPort p).2 then m.cfg.ringW (m.endOfPort p).1 else 1) (m.endOfPort p).2
  else m

theorem exec_portLinkDown : exec (.portLinkDown p) s = .next { s with
    cara := { s.cara with
      tones := modAt s.cara.tones p (fun _ => .dead), toneWins := modAt s.cara.toneWins p (fun _ => none) }
    m := if s.m.portServes p then ((s.m.linkLost p).ringHears p).afterRing ((s.m.linkLost p).endOfPort p).1 else s.m } := rfl

end Machine

open Machine

/-- Settles O28: the count of a window by its saturating sum, the classified window by what each classifier keeps, and the
lost link by the port it leaves. -/
theorem toneNeedsTwoWindows : Obligations.ToneNeedsTwoWindows := by
  intro s p a b c hp htones hwins hports
  have hp' : p < s.m.ports.length := hports.symm ▸ hp
  refine ⟨fun hmix => ?_, ⟨rfl, rfl⟩, fun n hmix hr hon hlen hle => ?_, fun x hx hc => ?_, ?_⟩
  · rw [exec_toneWindow_mixed hmix, Module.countCode_zero, ite_self]
  · refine ⟨_, ⟨exec_toneWindow_mixed hmix n, rfl, rfl⟩, ?_⟩
    simp only [hr, hon, Bool.and_self, if_true]
    exact ⟨s.m.countMany_only p 0 _, Module.countCode_counter n hp' hlen hle,
      fun q hq => Module.countMany_other 0 _ hq⟩
  · refine ⟨_, exec_toneWindow_class hx hc, rfl, rfl, modAt_getD_same _ _ _ _ (hwins.symm ▸ hp),
      s.cara.classified_tone x (htones.symm ▸ hp), fun q hq => s.cara.classified_other x hq, fun hr hon hu => ?_,
      fun hoff => ?_⟩
    · simp only [Module.portServes_true hr hon hu, if_true]
      exact ⟨s.m.classified_only p x, (Module.classified_same x hp').1, (Module.classified_same x hp').2,
        fun q hq => Module.classified_other x hq⟩
    · simp only [Module.portServes_false hoff, Bool.false_eq_true, if_false]
  · refine ⟨_, exec_portLinkDown, rfl, rfl, modAt_getD_same _ _ _ _ (htones.symm ▸ hp),
      modAt_getD_same _ _ _ _ (hwins.symm ▸ hp), fun q hq => modAt_getD_other _ _ _ _ _ hq.symm, fun hoff => ?_,
      fun hr hon hu => ⟨s.m.linkLost p, s.m.linkLost_only p, ?_, ?_, ?_, fun q hq => Module.linkLost_other hq, ?_⟩⟩
    · simp only [Module.portServes_false hoff, Bool.false_eq_true, if_false]
    · rw [Module.linkLost_same hp']
    · rw [Module.linkLost_same hp']
    · rw [Module.linkLost_same hp']
    · exact if_pos (Module.portServes_true hr hon hu)

end Sys2Proof

/-! ## Counted commands and their repeats (R91, R94, R97, R98) -/

namespace Sys2Proof

namespace Machine

variable {s : State} {m : Module} {w : Wk}

/-! ### What leaves an end -/

/-- How a frame leaves an end: at the own port, or by request at the partner's (R106). -/
def Module.endOut (m : Module) (r : Nat) (south : Bool) (f : EndFrame) : Out :=
  match m.ownPort r south with
  | some p => .ring p f
  | none => .pairEnd r f (m.departure f)

theorem Module.sendEnd_eq (m : Module) (r : Nat) (south : Bool) (f : EndFrame) :
    m.sendEnd r south f = m.emit (m.endOut r south f) := by
  unfold Module.sendEnd Module.endOut
  cases m.ownPort r south <;> rfl

theorem Module.sendEnd_outbox (m : Module) (r : Nat) (south : Bool) (f : EndFrame) :
    (m.sendEnd r south f).outbox = m.endOut r south f :: m.outbox := by
  rw [Module.sendEnd_eq]
  rfl

@[simp] theorem Module.sendRing_wk (m : Module) (r : Nat) (south : Bool) (opcode hop : Nat) (query : Bool) (count : Nat)
    (payload : List Byte) (w : Wk) : (m.sendRing r south opcode hop query count payload).wk w = m.wk w := by
  rw [Module.sendRing, Module.sendEnd_eq]
  rfl

/-! ### The first send -/

/-- The worker's next command stands as outstanding, with the counter after the last one (R97). -/
def Module.sentCounted (m : Module) (w : Wk) (cmd : RingCmd) (south : Bool) : Module :=
  m.modWk w (fun x => { x with outst := some { cmd := cmd, count := ((m.wk w).c + 1) % 256, fromSouth := south } })

theorem Module.sendCounted_free {cmd : RingCmd} {south : Bool} {hop : Nat} (ha : m.acts = true)
    (ho : (m.wk w).outst = none) (he : m.endOf w = some (south, hop)) : m.sendCounted w cmd =
      (m.sentCounted w cmd south).sendRing w.1 south cmd.opcode hop false (((m.wk w).c + 1) % 256) cmd.payload := by
  simp [Module.sendCounted, ha, ho, Module.startCounted, he, Module.sentCounted]

theorem Module.sendCounted_waits {cmd : RingCmd} {o : Outst} (ha : m.acts = true) (ho : (m.wk w).outst = some o) :
    m.sendCounted w cmd = m.modWk w (fun x => { x with queue := x.queue ++ [cmd] }) := by
  simp [Module.sendCounted, ha, ho]

/-! ### The repeat after a timeout -/

/-- A counter of an own port advances; one of the partner's is the partner's to count. -/
def Module.countAt (m : Module) (p : Option Nat) (i : Nat) : Module :=
  match p with
  | some p => m.countPort p i
  | none => m

/-- Counting at a port moves only ports and journals. -/
theorem Module.countAt_only (m : Module) (p : Option Nat) (i : Nat) :
    JournalOnly { m with ports := (m.countAt p i).ports } (m.countAt p i) := by
  cases p with
  | none => exact .refl m
  | some p => exact (m.countPort_only p i).ports_of

/-- A view of the module that reads neither ports nor journals is the same after a count. -/
theorem Module.countAt_field {α : Type} (f : Module → α) (m : Module) (p : Option Nat) (i : Nat)
    (hf : ∀ m ps al jou outbox, f { m with ports := ps, al := al, jou := jou, outbox := outbox } = f m) :
    f (m.countAt p i) = f m := by
  rw [m.countAt_only p i]
  exact hf m _ _ _ _

/-- The module that has noted an unanswered command as sent once more, with the timeout and the repeat counted at its port
(R98, R121). -/
def Module.repeated (m : Module) (w : Wk) (o : Outst) : Module :=
  let p := m.ownPort w.1 o.fromSouth
  ((m.countAt p 3).modWk w (fun x => { x with outst := some { o with sends := o.sends + 1 } })).countAt p 4

theorem Module.repeated_outst (m : Module) (w : Wk) (o : Outst) :
    ((m.repeated w o).wk w).outst = some { o with sends := o.sends + 1 } := by
  unfold Module.repeated
  dsimp only
  rw [Module.countAt_field (fun m => m.wk w) _ _ _ fun _ _ _ _ _ => rfl, Module.modWk_wk]

/-- The count and the note leave the ends of the rings as they are. -/
theorem Module.repeated_endOut (m : Module) (w : Wk) (o : Outst) (r : Nat) (south : Bool) (f : EndFrame) :
    (m.repeated w o).endOut r south f = m.endOut r south f := by
  have hcount := fun (m : Module) p i => Module.countAt_field (fun m => m.endOut r south f) m p i fun _ _ _ _ _ => rfl
  exact (hcount _ _ 4).trans (hcount m _ 3)

theorem Module.countedTimeout_repeats {o : Outst} (hr : o.reading = false) (hs : o.sends < 4) : m.countedTimeout w o =
    (m.repeated w o).sendRing w.1 o.fromSouth o.cmd.opcode (m.hopFrom w o.fromSouth) false o.count o.cmd.payload := by
  have hhop : (m.countAt (m.ownPort w.1 o.fromSouth) 3).hopFrom w o.fromSouth = m.hopFrom w o.fromSouth :=
    Module.countAt_field (fun m => m.hopFrom w o.fromSouth) m _ 3 fun _ _ _ _ _ => rfl
  rw [← hhop]
  obtain ⟨cmd, count, sends, south, other, reading⟩ := o
  obtain rfl : reading = false := hr
  simp only [Module.countedTimeout, Bool.false_eq_true, if_false, if_pos hs]
  rfl

/-! ### The command -/

theorem exec_replyTimeout_counted {o : Outst} (hr : s.m.rgiUp = true) (ha : s.m.acts = true)
    (ho : (s.m.wk w).outst = some o) : exec (.replyTimeout w.1 w.2) s = .next { s with
      m := (s.m.countedTimeout w o).afterRing w.1 } := by
  show execReplyTimeout w.1 w.2 s = _
  simp [execReplyTimeout, onModule, hr, ha, ho]

theorem exec_replyTimeout_query {q : Query} {rest : List Query} (hr : s.m.rgiUp = true) (ha : s.m.acts = true)
    (ho : (s.m.wk w).outst = none) (hq : (s.m.wk w).queries = q :: rest) :
    exec (.replyTimeout w.1 w.2) s = .next { s with m := (s.m.queryTimeout w q rest).afterRing w.1 } := by
  show execReplyTimeout w.1 w.2 s = _
  simp [execReplyTimeout, onModule, hr, ha, ho, hq]

end Machine

open Machine

/-- Settles O30: the first send and the repeat by what they note of the worker and put out, the timeout by its command; that a
counted command goes before the oldest query is log 123. -/
theorem countedCommands : Obligations.CountedCommands := by
  refine fun m w cmd ha => ⟨fun ho south hop he => ⟨_, rfl, ?_, ?_⟩, fun o ho => Module.sendCounted_waits ha ho,
    fun o ho hr hs => ⟨_, rfl, ?_, ?_⟩, ?_⟩
  · rw [Module.sendCounted_free ha ho he, Module.sendRing_wk, Module.sentCounted, Module.modWk_wk]
  · rw [Module.sendCounted_free ha ho he, Module.sendRing, Module.sendEnd_outbox]
    rfl
  · rw [Module.countedTimeout_repeats hr hs, Module.sendRing_wk, Module.repeated_outst]
  · rw [Module.countedTimeout_repeats hr hs, Module.sendRing, Module.sendEnd_outbox, Module.repeated_endOut]
    rfl
  · rintro s rfl hr
    exact ⟨fun o ho => exec_replyTimeout_counted hr ha ho, fun q rest ho hq => exec_replyTimeout_query hr ha ho hq⟩

end Sys2Proof

/-! ## Probe returns, rejoins and quarantine (R108, R116, R122) -/

namespace Sys2Proof

namespace Machine

variable {s : State} {p r g : Nat}

/-- A probe is heard at an own port that is on, or at one of the partner's (log 40). -/
theorem exec_probeReturn {h d : Nat} (hr : s.m.rgiUp = true) (hp : s.m.portOn p = true ∨ (s.m.isPair = true ∧ 32 ≤ p))
    (h1 : 1 ≤ h) (hw : h ≤ s.m.cfg.ringW (s.m.endOfPort p).1) : exec (.probeReturn p h d) s = .next { s with
      m := (s.m.probeBack ((s.m.endOfPort p).1, northHop (s.m.endOfPort p).2
        (s.m.cfg.ringW (s.m.endOfPort p).1) h) (s.m.endOfPort p).2 d).afterRing (s.m.endOfPort p).1 } := by
  have hport : (s.m.portOn p || (s.m.isPair && decide (32 ≤ p))) = true := by simpa using hp
  show execProbeReturn p h d s = _
  simp [execProbeReturn, onModule, hr, hport, h1, hw]

/-! ### The start of a rejoin -/

/-- Whether a rejoin of the segment starts of itself: the leader acts, the segment may be rejoined and is not unstable, and
the partner's end can close (R116). -/
def Module.rejoinStarts (m : Module) (r g : Nat) : Bool :=
  m.rgiUp && m.acts && m.mayRejoin r g && !(m.seg r g).unstable && m.partnerEndOk r g

theorem exec_rejoinStart : exec (.rejoinStart r g) s = .next { s with
    m := if s.m.rejoinStarts r g then s.m.beginRejoin r g none else s.m } := rfl

theorem Module.mayRejoin_iff (m : Module) : m.mayRejoin r g = true ↔ m.segDown r g = true ∧ (m.ring r).rejoin = none ∧
    ((m.seg r g).quarantined = false ∨ (m.seg r g).eligible = true) := by
  simp [Module.mayRejoin, and_assoc]

/-- A whole segment, a rejoin on the ring, a quarantine in force or an unstable segment each keep a rejoin from starting. -/
theorem Module.rejoinStarts_barred {m : Module} (h : m.segDown r g = false ∨ (m.ring r).rejoin ≠ none ∨
    ((m.seg r g).quarantined = true ∧ (m.seg r g).eligible = false) ∨ (m.seg r g).unstable = true) :
    m.rejoinStarts r g = false := by
  rcases h with hwhole | hruns | ⟨hq, he⟩ | hu
  · simp [Module.rejoinStarts, Module.mayRejoin, hwhole]
  · simp [Module.rejoinStarts, Module.mayRejoin, hruns]
  · simp [Module.rejoinStarts, Module.mayRejoin, hq, he]
  · simp [Module.rejoinStarts, hu]

/-! ### The ends of a watch and of a quarantine -/

theorem exec_rejoinWatchExpire {j : Rejoin} (hr : s.m.rgiUp = true) (hj : (s.m.ring r).rejoin = some j)
    (hp : j.phase = 2) : exec (.rejoinWatchExpire r j.segment) s = .next { s with
      m := s.m.modRing r (fun x => { x with rejoin := none }) } := by
  show execRejoinWatchExpire r j.segment s = _
  simp [execRejoinWatchExpire, onModule, hr, hj, hp]

theorem exec_quarantineExpire (hr : s.m.rgiUp = true) (hq : (s.m.seg r g).quarantined = true) :
    exec (.quarantineExpire r g) s = .next { s with
      m := s.m.modSeg r g (fun x => { x with eligible := true }) } := by
  show execQuarantineExpire r g s = _
  simp [execQuarantineExpire, onModule, hr, hq]

end Machine

open Machine

/-- Settles O31: each command by its equation, the refused rejoins by the conditions of a start; that ports from 32 on stand for
the partner's is log 40. -/
theorem probesRejoinQuarantine : Obligations.ProbesRejoinQuarantine := by
  refine fun s hr => ⟨fun p h d hp h1 hw => exec_probeReturn hr hp h1 hw, fun r g hbar => ?_,
    fun r g ha hd hn hq hu hok => ?_, fun r j hj hp => ?_, fun r g hq => ?_⟩
  · rw [exec_rejoinStart, Module.rejoinStarts_barred hbar, if_neg Bool.false_ne_true]
  · have hmay : s.m.mayRejoin r g = true := s.m.mayRejoin_iff.2 ⟨hd, hn, hq⟩
    have hstarts : s.m.rejoinStarts r g = true := by simp [Module.rejoinStarts, hr, ha, hmay, hu, hok]
    rw [exec_rejoinStart, if_pos hstarts]
  · exact ⟨_, ⟨exec_rejoinWatchExpire hr hj hp, rfl, rfl⟩, rfl, Module.modRing_ring _ _ _,
      fun r' hne => Module.modRing_other _ _ hne⟩
  · exact ⟨_, ⟨exec_quarantineExpire hr hq, rfl, rfl⟩, rfl, Module.modSeg_seg _ _ _ _,
      fun r' hne => Module.modRing_other _ _ hne⟩

end Sys2Proof

/-! ## Diagnostic requests (R116, R120, R121, R149, R394, R427) -/

namespace Sys2Proof

open Machine

/-! ### A request within its ranges -/

section
variable {m : Module} {x : Session} {req : DcpReq} {op len : Nat}

/-- A request that is served has moved no more than its session and what is journalled when its own effect begins. -/
theorem Served.only (h : Served m x req op len) : SessOnly m (dcpTaken m x req) := by
  obtain ⟨-, -, -, -, -, -, hreplaces, -⟩ := h
  exact dcpTaken_only m x req hreplaces

variable {i : Instr} {s : State} {inRange : Bool} {run : Module → Session → Module × Option Answer} {n : Module}

/-- A request in range completes with what its own effect answers. -/
theorem replies_inRange {st fl : Nat} {pl : List Byte}
    (he : exec i s = onModule s (fun m => m.dcpRequest req op len inRange run)) (h : Served s.m x req op len)
    (hop : op ∈ definedOps) (hin : inRange = true)
    (hr : run (dcpTaken s.m x req) (dcpSession x req) = (n, some (st, fl, pl))) : Replies i s x req op n st fl pl := by
  subst hin
  exact replies_of h hop he hr

/-- A request in range whose reply comes later, or has left already, completes with what its own effect moves. -/
theorem exec_inRange_silent
    (he : exec i s = onModule s (fun m => m.dcpRequest req op len inRange run)) (h : Served s.m x req op len)
    (hop : op ∈ definedOps) (hin : inRange = true)
    (hr : run (dcpTaken s.m x req) (dcpSession x req) = (n, none)) : exec i s = .next { s with m := n } := by
  subst hin
  rw [he, onModule, dcpRequest_served h hop, hr]

end

/-! ### What the common steps of a request leave alone -/

section
variable {m n : Module}

theorem SessOnly.port (h : SessOnly m n) (p : Nat) : n.port p = m.port p := h.field (·.port p) fun _ _ _ _ _ _ _ => rfl

theorem SessOnly.cfg (h : SessOnly m n) : n.cfg = m.cfg := h.field (·.cfg) fun _ _ _ _ _ _ _ => rfl

theorem SessOnly.acts (h : SessOnly m n) : n.acts = m.acts := h.field (·.acts) fun _ _ _ _ _ _ _ => rfl

theorem SessOnly.up (h : SessOnly m n) (i : Island) : n.up i = m.up i := h.field (·.up i) fun _ _ _ _ _ _ _ => rfl

theorem SessOnly.mapped (h : SessOnly m n) (w : Wk) : n.mapped w = m.mapped w :=
  h.field (·.mapped w) fun _ _ _ _ _ _ _ => rfl

theorem SessOnly.ringServed (h : SessOnly m n) (r : Nat) : n.ringServed r = m.ringServed r :=
  h.field (·.ringServed r) fun _ _ _ _ _ _ _ => rfl

theorem SessOnly.mayRejoin (h : SessOnly m n) (r g : Nat) : n.mayRejoin r g = m.mayRejoin r g :=
  h.field (·.mayRejoin r g) fun _ _ _ _ _ _ _ => rfl

theorem SessOnly.partnerEndOk (h : SessOnly m n) (r g : Nat) : n.partnerEndOk r g = m.partnerEndOk r g :=
  h.field (·.partnerEndOk r g) fun _ _ _ _ _ _ _ => rfl

theorem SessOnly.rollTable (h : SessOnly m n) : n.rollTable = m.rollTable :=
  h.field (·.rollTable) fun _ _ _ _ _ _ _ => rfl

end

namespace Machine

/-! ### Counters returned and cleared (R121, R427) -/

theorem Module.satClear_only (m : Module) : JournalOnly m m.satClear := by
  unfold Module.satClear
  split
  · exact .refl m
  · exact m.clear_only _ _ _ _

/-- The counters of a port at 0. -/
def Module.clearPort (m : Module) (p : Nat) : Module :=
  m.modPort p (fun q => { q with counters := List.replicate 12 0 })

/-- Clearing ports moves nothing but the ports. -/
theorem Module.clearPorts_only (l : List Nat) (m : Module) :
    JournalOnly { m with ports := (l.foldl Module.clearPort m).ports } (l.foldl Module.clearPort m) :=
  List.foldlRecOn (motive := fun n : Module => JournalOnly { m with ports := n.ports } n) l _ (.refl m)
    fun _ hn _ _ => hn.ports_trans (.refl _)

theorem Module.clearPorts_other {l : List Nat} {q : Nat} (h : q ∉ l) (m : Module) :
    (l.foldl Module.clearPort m).port q = m.port q :=
  List.foldlRecOn (motive := fun n : Module => n.port q = m.port q) l _ rfl fun _ hn _ hp =>
    (Module.modPort_other _ (ne_of_mem_of_not_mem hp h).symm).trans hn

/-- A port that is cleared stays cleared over the ports after it. -/
theorem Module.clearPorts_mem {l : List Nat} {q : Nat} (h : q ∈ l) {m : Module} (hq : q < m.ports.length) :
    (l.foldl Module.clearPort m).port q = { m.port q with counters := List.replicate 12 0 } := by
  induction l generalizing m with
  | nil => cases h
  | cons p t ih =>
    have hlen : q < (m.clearPort p).ports.length := hq.trans_eq (m.modPort_length p _).symm
    rw [List.foldl_cons]
    by_cases ht : q ∈ t
    · rw [ih ht hlen]
      by_cases hp : q = p
      · subst hp
        rw [Module.clearPort, Module.modPort_same _ hq]
      · rw [Module.clearPort, Module.modPort_other _ hp]
    · obtain rfl : q = p := (List.mem_cons.1 h).resolve_right ht
      rw [Module.clearPorts_other ht, Module.clearPort, Module.modPort_same _ hq]

/-- The ports from `first` on, `count` of them. -/
def portsFrom (first count : Nat) : List Nat := (List.range count).map (· + first)

theorem mem_portsFrom {first count p : Nat} : p ∈ portsFrom first count ↔ first ≤ p ∧ p < first + count := by
  simp only [portsFrom, List.mem_map, List.mem_range]
  constructor
  · rintro ⟨k, hk, rfl⟩
    omega
  · rintro ⟨h1, h2⟩
    exact ⟨p - first, by omega, by omega⟩

/-- The module whose counters of some ports have been returned. -/
def Module.countersRead (m : Module) (first count : Nat) : Module :=
  ((portsFrom first count).foldl Module.clearPort m).satClear

theorem Module.countersRead_only (m : Module) (first count : Nat) :
    JournalOnly { m with ports := (m.countersRead first count).ports } (m.countersRead first count) :=
  ((Module.clearPorts_only _ m).trans (Module.satClear_only _)).ports_of

theorem Module.countersRead_port (m : Module) (first count p : Nat) :
    (m.countersRead first count).port p = ((portsFrom first count).foldl Module.clearPort m).port p :=
  JournalOnly.port (Module.satClear_only _) p

/-! ### Ring commands for the host (R394) -/

theorem Module.ringDiag_acts {x : Session} {seq op : Nat} {run : Module → Module × Option Answer} (ha : m.acts = true)
    (hu : m.up .rgi = true) : m.ringDiag x seq op run = ((run m).1.flushDiag, (run m).2) := by
  simp [Module.ringDiag, ha, hu]

end Machine

open Machine

section
variable {s : State} {req : DcpReq} {x : Session}

/-! ### The commands -/

theorem diagPortCounters_replies {first count : Nat} (hin : 1 ≤ count ∧ first + count ≤ 32)
    (h : Served s.m x req 0x0700 4) : Replies (.diagPortCounters req first count) s x req 0x0700
      ((dcpTaken s.m x req).countersRead first count) stOk 0
      (((List.range count).map (fun i => ((s.m.port (i + first)).counters.map (le 2)).flatten)).flatten) := by
  refine replies_inRange rfl h (by decide) (decide_eq_true hin) ?_
  simp only [List.map_map, Function.comp_def, h.only.port]
  rfl

theorem diagModuleCounters_replies (h : Served s.m x req 0x0708 0) :
    Replies (.diagModuleCounters req) s x req 0x0708 ((dcpTaken s.m x req).setDcpCounters (fun _ => 0)).satClear stOk 0
      (((dcpTaken s.m x req).dcpCounters.map (le 2)).flatten) :=
  replies_inRange rfl h (by decide) rfl rfl

theorem diagWorkerCounters_unmapped {r h : Nat} (hin : r < 32 ∧ 1 ≤ h ∧ h ≤ 256) (hm : s.m.mapped (r, h) = false)
    (hv : Served s.m x req 0x0701 4) : Replies (.diagWorkerCounters req r h) s x req 0x0701 (dcpTaken s.m x req)
      stNotFound 0 [] := by
  refine replies_inRange rfl hv (by decide) (decide_eq_true hin) ?_
  simp [hv.only.mapped, hm]

theorem diagLatchClear_unmapped {r h : Nat} (hin : r < 32 ∧ h ≤ 256)
    (hw : ((s.m.cfg.workersOf r).map (·.1)).filter (fun (w : Wk) => decide (h = 0 ∨ w.2 = h)) = [])
    (hv : Served s.m x req 0x0703 4) : Replies (.diagLatchClear req r h) s x req 0x0703 (dcpTaken s.m x req)
      stNotFound 0 [] := by
  refine replies_inRange rfl hv (by decide) (decide_eq_true hin) ?_
  simp only [hv.only.cfg, hw, if_true]

theorem diagRollCallRead_replies (first count : Nat) (h : Served s.m x req 0x0706 8) {a : Answer}
    (ha : a = readReply s.m.sweep.j first count 24 16384 (sortBy (fun (i : Nat) => (i : Int)) (s.m.rollTable.map (·.1)))
      (fun i => rollBytes (look {} s.m.rollTable i))) :
    Replies (.diagRollCallRead req first count) s x req 0x0706 (dcpTaken s.m x req) a.1 a.2.1 a.2.2 := by
  have hj : (dcpTaken s.m x req).sweep.j = s.m.sweep.j := h.only.field (·.sweep.j) fun _ _ _ _ _ _ _ => rfl
  refine replies_inRange rfl h (by decide) rfl ?_
  simp only [h.only.rollTable, hj, ← ha]

/-- The reply leaves first, and the island resets where it runs (R72). -/
theorem exec_diagIslandReset {i : Nat} (hin : 1 ≤ i ∧ i ≤ 7) (h : Served s.m x req 0x0707 1) {k : Module}
    (hk : k = (dcpTaken s.m x req).answer (dcpSession x req) req.seq 0x0707 stOk 0 []) :
    exec (.diagIslandReset req i) s = .next { s with
      m := if s.m.up (diagIsland i) then k.resetIsland (diagIsland i) 3 else k } := by
  subst hk
  refine exec_inRange_silent rfl h (by decide) (decide_eq_true hin) ?_
  rw [← h.only.up]
  rfl

section
variable (ha : s.m.acts = true) (hu : s.m.up .rgi = true)
include ha hu

/-- Where the leader acts, a ring command for the host runs on the module that has taken the request. -/
theorem Served.ringDiag {op len : Nat} (h : Served s.m x req op len) (run : Module → Module × Option Answer) :
    (dcpTaken s.m x req).ringDiag (dcpSession x req) req.seq op run =
      ((run (dcpTaken s.m x req)).1.flushDiag, (run (dcpTaken s.m x req)).2) :=
  Module.ringDiag_acts (h.only.acts.trans ha) ((h.only.up _).trans hu)

theorem exec_diagWorkerCounters {r h : Nat} (hin : r < 32 ∧ 1 ≤ h ∧ h ≤ 256) (hm : s.m.mapped (r, h) = true)
    (hv : Served s.m x req 0x0701 4) : exec (.diagWorkerCounters req r h) s = .next { s with
      m := (((dcpTaken s.m x req).waitRing (dcpSession x req) req.seq 0x0701 1 (r * 512 + h)).order (r, h) 0x17 []
        (.diag x.id req.seq 0x0701)).flushDiag } := by
  refine exec_inRange_silent rfl hv (by decide) (decide_eq_true hin) ?_
  simp only [hv.only.mapped, hm, if_true, hv.ringDiag ha hu]
  rfl

theorem exec_diagRingRejoin {r g : Nat} (hin : r < 32 ∧ g ≤ 256) (hg : g ≤ s.m.cfg.ringW r)
    (hs : s.m.ringServed r = true) (hm : s.m.mayRejoin r g = true) (hp : s.m.partnerEndOk r g = true)
    (hv : Served s.m x req 0x0702 4) : exec (.diagRingRejoin req r g) s = .next { s with
      m := (((dcpTaken s.m x req).waitRing (dcpSession x req) req.seq 0x0702 1 (r * 512 + g)).beginRejoin r g
        (some (x.id, req.seq))).flushDiag } := by
  refine exec_inRange_silent rfl hv (by decide) (decide_eq_true hin) ?_
  simp only [hv.only.ringServed, hs, hv.only.cfg, Nat.not_lt.2 hg, hv.only.mayRejoin, hm, hv.only.partnerEndOk, hp,
    Bool.true_eq_false, Bool.and_self, if_false, if_true, hv.ringDiag ha hu]
  rfl

theorem exec_diagLatchClear {r h : Nat} (hin : r < 32 ∧ h ≤ 256) {ws : List Wk}
    (hws : ws = ((s.m.cfg.workersOf r).map (·.1)).filter (fun (w : Wk) => decide (h = 0 ∨ w.2 = h))) (hw : ws ≠ [])
    (hv : Served s.m x req 0x0703 4) : exec (.diagLatchClear req r h) s = .next { s with
      m := (ws.foldl (fun m w => m.order w 0x16 [] (.diag x.id req.seq 0x0703))
        ((dcpTaken s.m x req).waitRing (dcpSession x req) req.seq 0x0703 ws.length (r * 512 + h))).flushDiag } := by
  refine exec_inRange_silent rfl hv (by decide) (decide_eq_true hin) ?_
  simp only [hv.only.cfg, ← hws, hw, if_false, hv.ringDiag ha hu]
  rfl

theorem exec_diagOwForce {r pin h : Nat} (hin : r < 32 ∧ pin ≤ 24 ∧ 1 ≤ h ∧ h ≤ 256) (hm : s.m.mapped (r, h) = true)
    (ht : (look {} s.m.cfg.workers (r, h) : WorkerEntry).typ = .dzc24) (hv : Served s.m x req 0x0704 4) :
    exec (.diagOwForce req r pin h) s = .next { s with
      m := (((dcpTaken s.m x req).waitRing (dcpSession x req) req.seq 0x0704 1 (r * 512 + h)).forcePull (r, h) pin
        (fun _ => .diag x.id req.seq 0x0704)).flushDiag } := by
  refine exec_inRange_silent rfl hv (by decide) (decide_eq_true hin) ?_
  simp only [hv.only.mapped, hm, hv.only.cfg, ht, decide_true, Bool.and_self, if_true, hv.ringDiag ha hu]
  rfl

theorem diagRollCall_replies {r : Nat} (hr : r < 32) (hs : s.m.ringServed r = true) (hv : Served s.m x req 0x0705 4) :
    Replies (.diagRollCall req r) s x req 0x0705 ((dcpTaken s.m x req).rollCall r).flushDiag stAccepted 0 [] := by
  refine replies_inRange rfl hv (by decide) (decide_eq_true hr) ?_
  simp only [hv.only.ringServed, hs, if_true, hv.ringDiag ha hu]

end

end

/-- Settles O58: each request by what its own effect moves from where the common steps of R367 leave the module; the counters
port by port, the ring commands by the module that waits for their replies. -/
theorem diagnosticCommands : Obligations.DiagnosticCommands := by
  intro s req x n
  refine ⟨fun first count h1 h32 hports hv => ?_, fun hv => ?_, fun ha hu => ⟨?_, ?_, ?_, ?_, ?_⟩, ?_, ?_, ?_⟩
  · have hn : ∀ p, n.port p = s.m.port p := hv.only.port
    refine ⟨_, diagPortCounters_replies ⟨h1, h32⟩ hv, n.countersRead_only first count, fun p => ⟨fun hp hlt => ?_,
      fun hout => ?_⟩⟩
    · have hlen : n.ports.length = 32 := (hv.only.field (·.ports.length) fun _ _ _ _ _ _ _ => rfl).trans hports
      have hin : p < n.ports.length := hlt.trans_le (h32.trans_eq hlen.symm)
      rw [Module.countersRead_port, Module.clearPorts_mem (mem_portsFrom.2 ⟨hp, hlt⟩) hin]
      exact congrArg (fun q : PortSt => ({ q with counters := List.replicate 12 0 } : PortSt)) (hn p)
    · have hmem : p ∉ portsFrom first count := fun hp => by
        obtain ⟨hle, hlt⟩ := mem_portsFrom.1 hp
        omega
      exact (Module.countersRead_port _ _ _ _).trans ((Module.clearPorts_other hmem _).trans (hn p))
  · have hclear := (n.setDcpCounters (fun _ => 0)).satClear_only
    exact ⟨_, diagModuleCounters_replies hv, hclear.field (·.dcpCounters) fun _ _ _ _ => rfl, hclear⟩
  · exact fun r h hr h1 h256 hm hv => exec_diagWorkerCounters ha hu ⟨hr, h1, h256⟩ hm hv
  · exact fun r g hr hg hw hs hm hp hv => exec_diagRingRejoin ha hu ⟨hr, hg.trans hw⟩ hg hs hm hp hv
  · exact fun r h hr h256 hv => ⟨fun hw => exec_diagLatchClear ha hu ⟨hr, h256⟩ rfl hw hv,
      fun hw => diagLatchClear_unmapped ⟨hr, h256⟩ hw hv⟩
  · exact fun r pin h hr hpin h1 h256 hm ht hv => exec_diagOwForce ha hu ⟨hr, hpin, h1, h256⟩ hm ht hv
  · exact fun r hr hs hv => diagRollCall_replies ha hu hr hs hv
  · exact fun r h hr h1 h256 hm hv => diagWorkerCounters_unmapped ⟨hr, h1, h256⟩ hm hv
  · exact fun first count hv => ⟨_, rfl, diagRollCallRead_replies first count hv rfl⟩
  · exact fun i h1 h7 hv => ⟨_, rfl, exec_diagIslandReset ⟨h1, h7⟩ hv rfl⟩

end Sys2Proof

/-! ## What a loop over the module keeps, and frames that leave the ends of the rings (R106, R115) -/

namespace Sys2Proof

open Machine

/-- Of the module only what it has sent has moved, and nothing sent is taken back (log 7). -/
def SendsOnly (m n : Module) : Prop := ∃ sent, n = { m with outbox := sent ++ m.outbox }

/-- Of a ring only what it counts of collecting frames sent has moved (R147, R385). -/
def CountsOnly (x y : RingSt) : Prop :=
  y = { x with frameTime := y.frameTime, rereadSlots := y.rereadSlots, outN := y.outN, outS := y.outS }

/-- Frames have left the ends of the rings: of the module only the outbox has moved, to which they were added, and what the
rings count of them. -/
def FramesLeave (m n : Module) : Prop :=
  n = { m with rings := n.rings, outbox := n.outbox } ∧ m.outbox <:+ n.outbox ∧ ∀ r, CountsOnly (m.ring r) (n.ring r)

section
variable {α : Type} {m n k : Module} {f : Module → α → Module}

theorem SendsOnly.refl (m : Module) : SendsOnly m m := ⟨[], rfl⟩

theorem SendsOnly.trans (h : SendsOnly m n) (g : SendsOnly n k) : SendsOnly m k := by
  obtain ⟨a, rfl⟩ := h
  obtain ⟨b, rfl⟩ := g
  exact ⟨b ++ a, by rw [List.append_assoc]⟩

theorem SendsOnly.ite {c : Prop} [Decidable c] (h : SendsOnly m n) (g : SendsOnly m k) :
    SendsOnly m (if c then n else k) := by
  split
  · exact h
  · exact g

theorem SendsOnly.foldl (hf : ∀ m x, SendsOnly m (f m x)) (l : List α) (m : Module) : SendsOnly m (l.foldl f m) :=
  List.foldlRecOn (motive := SendsOnly m) l f (.refl m) fun n hn x _ => hn.trans (hf n x)

theorem SendsOnly.keeps (h : SendsOnly m n) : n = { m with outbox := n.outbox } := by
  obtain ⟨sent, rfl⟩ := h
  rfl

theorem SendsOnly.outbox (h : SendsOnly m n) : ∃ sent, n.outbox = sent ++ m.outbox := by
  obtain ⟨sent, rfl⟩ := h
  exact ⟨sent, rfl⟩

theorem CountsOnly.refl (x : RingSt) : CountsOnly x x := rfl

theorem CountsOnly.trans {x y z : RingSt} (h : CountsOnly x y) (g : CountsOnly y z) : CountsOnly x z := by
  unfold CountsOnly at *
  rw [g, h]

theorem FramesLeave.refl (m : Module) : FramesLeave m m := ⟨rfl, List.suffix_rfl, fun _ => .refl _⟩

theorem FramesLeave.trans (h : FramesLeave m n) (g : FramesLeave n k) : FramesLeave m k := by
  obtain ⟨hkeep, hout, hring⟩ := h
  obtain ⟨gkeep, gout, gring⟩ := g
  exact ⟨by rw [gkeep, hkeep], hout.trans gout, fun r => (hring r).trans (gring r)⟩

theorem FramesLeave.foldl (hf : ∀ m x, FramesLeave m (f m x)) (l : List α) (m : Module) : FramesLeave m (l.foldl f m) :=
  List.foldlRecOn (motive := FramesLeave m) l f (.refl m) fun n hn x _ => hn.trans (hf n x)

/-- What each turn of a loop that sends frames achieves for its element, and later frames keep, holds for every element. -/
theorem FramesLeave.foldl_does {P : Module → α → Prop} (hf : ∀ m x, FramesLeave m (f m x))
    (hdo : ∀ n x, FramesLeave m n → P (f n x) x) (hkeep : ∀ n k x, FramesLeave n k → P n x → P k x) (l : List α) :
    ∀ x ∈ l, P (l.foldl f m) x := by
  induction l generalizing m with
  | nil => nofun
  | cons a t ih =>
    intro x hx
    rcases List.mem_cons.1 hx with rfl | hx
    · exact hkeep _ _ _ (.foldl hf t (f m x)) (hdo m x (.refl m))
    · exact ih (fun n y h => hdo n y ((hf m a).trans h)) x hx

theorem SendsOnly.framesLeave (h : SendsOnly m n) : FramesLeave m n := by
  obtain ⟨sent, rfl⟩ := h
  exact ⟨rfl, List.suffix_append _ _, fun _ => .refl _⟩

/-- A view that reads neither the rings nor the outbox is as it was. -/
theorem FramesLeave.field (h : FramesLeave m n) (v : Module → α)
    (hv : ∀ m rings outbox, v { m with rings := rings, outbox := outbox } = v m) : v n = v m := by
  rw [h.1, hv]

theorem FramesLeave.outbox (h : FramesLeave m n) : m.outbox ⊆ n.outbox := h.2.1.subset

theorem FramesLeave.counts (h : FramesLeave m n) (r : Nat) : CountsOnly (m.ring r) (n.ring r) := h.2.2 r

theorem FramesLeave.cfg (h : FramesLeave m n) : n.cfg = m.cfg := h.field Module.cfg fun _ _ _ => rfl

theorem FramesLeave.part (h : FramesLeave m n) (r : Nat) : (n.ring r).part = (m.ring r).part := by
  rw [h.counts r]

theorem FramesLeave.servingEnds (h : FramesLeave m n) (r : Nat) : n.servingEnds r = m.servingEnds r := by
  unfold Module.servingEnds
  rw [h.part, h.cfg]

end

section
variable {m n : Module} {r : Nat} {south : Bool} {f : EndFrame}

/-- A frame that has left stays so while others leave. -/
theorem LeftEnd.later (h : LeftEnd m r south f) (hl : FramesLeave m n) : LeftEnd n r south f := by
  have hport : n.ownPort r south = m.ownPort r south := hl.field (·.ownPort r south) fun _ _ _ => rfl
  have htime : n.departure f = m.departure f := hl.field (·.departure f) fun _ _ _ => rfl
  unfold LeftEnd at *
  rw [hport, htime]
  exact ⟨fun p hp => hl.outbox (h.1 p hp), fun hp => hl.outbox (h.2 hp)⟩

end

namespace Machine

section
variable (m : Module) (r : Nat) (south : Bool)

/-! ### One frame -/

theorem Module.sendEnd_sends (f : EndFrame) : SendsOnly m (m.sendEnd r south f) :=
  ⟨[m.endOut r south f], Module.sendEnd_eq m r south f⟩

theorem Module.sendEnd_left (f : EndFrame) : LeftEnd (m.sendEnd r south f) r south f := by
  rw [Module.sendEnd_eq]
  unfold Module.endOut
  refine ⟨fun p hp => ?_, fun hp => ?_⟩
  · rw [show m.ownPort r south = some p from hp]
    exact List.mem_cons_self
  · rw [show m.ownPort r south = none from hp]
    exact List.mem_cons_self

theorem Module.modRing_leaves (f : RingSt → RingSt) (hf : ∀ x, CountsOnly x (f x)) : FramesLeave m (m.modRing r f) := by
  refine ⟨rfl, List.suffix_rfl, fun r' => ?_⟩
  by_cases h : r' = r
  · rw [h, Module.modRing_ring]
    exact hf _
  · rw [Module.modRing_other _ _ h]
    exact .refl _

/-! ### A broadcast (R91) -/

theorem Module.bcast_sends (opcode : Nat) (payload : List Byte) : SendsOnly m (m.bcast r opcode payload) :=
  .ite (.foldl (fun m _ => m.sendEnd_sends _ _ _) _ m) (.refl m)

theorem Module.bcast_left (ha : m.acts = true) (opcode : Nat) (payload : List Byte) : ∀ e ∈ m.servingEnds r,
    LeftEnd (m.bcast r opcode payload) r e.1 (.command opcode 0 false 0 payload) := by
  unfold Module.bcast
  rw [if_pos ha]
  exact FramesLeave.foldl_does (P := fun n (e : Bool × Nat) => LeftEnd n r e.1 (.command opcode 0 false 0 payload))
    (fun m _ => (m.sendEnd_sends _ _ _).framesLeave) (fun n _ _ => n.sendEnd_left _ _ _)
    (fun _ _ _ hl h => LeftEnd.later h hl) _

/-- A broadcast to every ring leaves each of their serving ends. -/
theorem Module.bcasts_left (ha : m.acts = true) (opcode : Nat) {payload : Module → List Byte}
    (hp : ∀ m rings outbox, payload { m with rings := rings, outbox := outbox } = payload m) (l : List Nat) :
    ∀ r ∈ l, ∀ e ∈ m.servingEnds r, LeftEnd (l.foldl (fun m r => m.bcast r opcode (payload m)) m) r e.1
      (.command opcode 0 false 0 (payload m)) := by
  refine FramesLeave.foldl_does
    (P := fun n r => ∀ e ∈ m.servingEnds r, LeftEnd n r e.1 (.command opcode 0 false 0 (payload m)))
    (fun m r => (m.bcast_sends _ _ _).framesLeave) (fun n r hn => ?_) (fun _ _ _ hl h e he => (h e he).later hl) l
  have hacts : n.acts = true := (hn.field Module.acts fun _ _ _ => rfl).trans ha
  rw [← hn.servingEnds r, ← hn.field payload hp]
  exact n.bcast_left r hacts opcode _

/-! ### FREEZE and RELEASE (R144, R147) -/

theorem Module.freezeFrame_sends (tStep id action first last : Nat) :
    SendsOnly m (m.freezeFrame r tStep id action first last) := by
  have hnorth : SendsOnly m (if first ≤ min last (m.ring r).part.north then
      m.sendRing r false 0x02 0 false 0
        (le 8 tStep ++ [id, action, first - 1, min last (m.ring r).part.north - 1] ++ zeros 4) else m) :=
    .ite (m.sendEnd_sends _ _ _) (.refl m)
  exact .ite (.ite (hnorth.trans (Module.sendEnd_sends _ _ _ _)) hnorth) (.refl m)

theorem Module.burstRelease_sends (n : Nat) (b : Burst) : SendsOnly m (m.burstRelease n b) :=
  m.freezeFrame_sends _ _ _ _ _ _

end

end Machine

end Sys2Proof

/-! ## Estimates, verdict stages and abandoned bursts (R125, R147, R232, R244, R245, R424) -/

namespace Sys2Proof

namespace Machine

section
variable {s : State}

/-! ### The stages -/

theorem exec_verdictStage_new {k : Nat} (hj : s.m.judges = true) (he : s.m.sweep.estimated = some k)
    (hv : s.m.sweep.verdicts ≠ some k) : exec .verdictStage s = .next { s with m := s.m.stageSweep k } := by
  show execVerdictStage s = _
  simp [execVerdictStage, onModule, hj, he, hv]

/-- Without an estimate that is newer than the newest verdict stage, limits are held (R72, R232). -/
theorem exec_verdictStage_held (hj : s.m.judges = true)
    (he : ∀ k, s.m.sweep.estimated = some k → s.m.sweep.verdicts = some k) :
    exec .verdictStage s = .next { s with m := s.m.stageHeld } := by
  show execVerdictStage s = _
  cases hk : s.m.sweep.estimated with
  | none => simp [execVerdictStage, onModule, hj, hk]
  | some k => simp [execVerdictStage, onModule, hj, hk, he k hk]

theorem exec_verdictStage_idle (hj : s.m.judges = false) : exec .verdictStage s = .next s := by
  show execVerdictStage s = _
  simp [execVerdictStage, onModule, hj]

theorem exec_fastRowEval : exec .fastRowEval s = .next { s with
    m := if s.m.judges && s.m.acts then s.m.fastStage else s.m } := rfl

theorem exec_fastRowEval_idle (h : s.m.judges = false ∨ s.m.acts = false) : exec .fastRowEval s = .next s := by
  rw [exec_fastRowEval, if_neg (by rcases h with h | h <;> simp [h])]

end

/-- Of the sticky bits asked for, those that are not live go (R424). -/
theorem Module.mem_clearSticky (m : Module) (n : Nat) :
    n ∈ m.clearSticky.al.sticky ↔ n ∈ m.al.sticky ∧ (n ∉ m.al.clearReq ∨ n ∈ m.live) := by
  simp [Module.clearSticky]

end Machine

open Machine

/-- Settles O42: each stage by the branch of its command, and the sticky bits by the filter that the stage ends with. -/
theorem verdictStagesAndStickyBits : Obligations.VerdictStagesAndStickyBits := by
  refine ⟨fun s => ⟨fun k hj he hv => exec_verdictStage_new hj he hv, fun k hj he hv => ?_, fun hj he => ?_,
    fun hj ha => ⟨_, rfl, fun hsame => ?_, fun hmoved => ?_⟩, fun hj => ?_, fun ha => exec_fastRowEval_idle (.inr ha)⟩,
    fun m n => ⟨m.mem_clearSticky n, rfl, rfl, rfl, rfl⟩⟩
  · exact exec_verdictStage_held hj fun k' hk => by rwa [← hk, he]
  · exact exec_verdictStage_held hj fun k hk => by simp [he] at hk
  · rw [exec_fastRowEval, hj, ha, Bool.and_true, if_pos rfl, Module.fastStage, if_pos hsame]
  · rw [exec_fastRowEval, hj, ha, Bool.and_true, if_pos rfl, Module.fastStage, if_neg hmoved]
  · exact ⟨exec_verdictStage_idle hj, exec_fastRowEval_idle (.inl hj)⟩

namespace Machine

section
variable {s : State} {m : Module} {n : Nat} {b : Burst}

/-! ### An estimate -/

theorem exec_estimateComplete {man : Manifest} (he : s.m.estimates = true) (hn : s.m.nextManifest = some man) :
    exec .estimateComplete s = .next { s with m := s.m.estimateSweep man } := by
  show execEstimateComplete s = _
  simp [execEstimateComplete, onModule, Module.estimateComplete, he, hn]

theorem exec_estimateComplete_idle (h : s.m.estimates = false ∨ s.m.nextManifest = none) :
    exec .estimateComplete s = .next s := by
  show execEstimateComplete s = _
  rcases h with h | h <;> simp [execEstimateComplete, onModule, Module.estimateComplete, h]

/-- On a minute sweep of the period it was sampled under, the estimate asks for a round of the charge mirror (R193). -/
theorem Module.estimateSweep_asksRound {man : Manifest} (h : minuteSweep (m.periodOf man.sweep) man.sweep = true) :
    (m.estimateSweep man).cal.charge.due = true := by
  show (_ || minuteSweep (m.periodOf man.sweep) man.sweep) = true
  rw [h, Bool.or_true]

/-! ### A burst that is abandoned -/

theorem exec_burstAbandon (hr : s.m.runs = true) (hu : s.m.up .rgi = true) (n : Nat) :
    exec (.burstAbandon n) s = .next { s with m := s.m.burstAbandon n } := by
  show execBurstAbandon n s = _
  simp [execBurstAbandon, onModule, hr, hu]

@[simp] theorem Module.modBurst_burst (m : Module) (n : Nat) (f : BurstSt → BurstSt) :
    (m.modBurst n f).burst n = f (m.burst n) := look_put_same _ _ _ _

theorem Module.modBurst_other (m : Module) {n n' : Nat} (f : BurstSt → BurstSt) (h : n' ≠ n) :
    (m.modBurst n f).burst n' = m.burst n' := look_put_other _ _ _ _ _ h.symm

/-- The module with a burst released and counted as abandoned. -/
def Module.abandoned (m : Module) (n : Nat) (b : Burst) : Module :=
  (m.burstRelease n b).modBurst n fun x => { x with active := none, abandonedN := x.abandonedN + 1 }

theorem Module.burstAbandon_none (h : (m.burst n).active = none) : m.burstAbandon n = m := by
  simp [Module.burstAbandon, h]

theorem Module.burstAbandon_some (h : (m.burst n).active = some b) : m.burstAbandon n =
    (m.abandoned n b).raise .rgi cBurstAbandoned sevWarning scString n := by
  simp [Module.burstAbandon, h, Module.abandoned]

/-- The release only sends, so of the bursts only the abandoned one has moved. -/
theorem Module.burstRelease_burst (m : Module) (n : Nat) (b : Burst) (n' : Nat) :
    (m.burstRelease n b).burst n' = m.burst n' := by
  obtain ⟨sent, h⟩ := m.burstRelease_sends n b
  rw [h]
  rfl

theorem Module.burstAbandon_burst (h : (m.burst n).active = some b) (n' : Nat) :
    (m.burstAbandon n).burst n' = (m.abandoned n b).burst n' := by
  rw [Module.burstAbandon_some h]
  exact (Module.raise_only _ _ _ _ _ _ _ _).field (·.burst n') fun _ _ _ _ => rfl

end

end Machine

/-- Settles O40: the estimate by the last fields it writes, and the burst by a release that only sends. -/
theorem estimatesAndBursts : Obligations.EstimatesAndBursts := by
  refine ⟨fun s => ⟨fun man he hn => ?_, exec_estimateComplete_idle⟩,
    fun s n hr hu => ⟨fun h => ?_, fun b h => ⟨_, ⟨exec_burstAbandon hr hu n, rfl, rfl⟩, ?_, ?_, fun n' hne => ?_, ?_⟩⟩⟩
  · exact ⟨_, ⟨exec_estimateComplete he hn, rfl, rfl⟩, rfl, rfl, rfl, Module.estimateSweep_asksRound⟩
  · rw [exec_burstAbandon hr hu, Module.burstAbandon_none h]
  · show JournalOnly _ (s.m.burstAbandon n)
    rw [Module.burstAbandon_some h]
    exact Module.raise_only _ _ _ _ _ _ _ _
  · refine (Module.burstAbandon_burst h n).trans ?_
    rw [Module.abandoned, Module.modBurst_burst, Module.burstRelease_burst]
  · refine (Module.burstAbandon_burst h n').trans ?_
    rw [Module.abandoned, Module.modBurst_other _ _ hne, Module.burstRelease_burst]
  · show (s.m.burstAbandon n).holds _ _ _ = _
    rw [Module.burstAbandon_some h]
    exact Module.raise_holds _ _ _ _ _ _ _ _

end Sys2Proof

/-! ## The SWEEP frame and the heartbeat (R102, R128, R269) -/

namespace Sys2Proof

namespace Machine

section
variable {s : State} {m : Module}

/-! ### Collecting frames -/

/-- SLOT_LEN of the first `n` slots of a collecting frame from an end (R102). -/
def Module.slotLens (m : Module) (r : Nat) (south : Bool) (n : Nat) : List Nat :=
  (List.range n).map (fun i => m.slotLenOf (r, if south then m.cfg.ringW r - i else i + 1))

theorem Module.countOut_leaves (m : Module) (r : Nat) (south : Bool) : FramesLeave m
    (m.modRing r (fun x => if south then { x with outS := x.outS + 1 } else { x with outN := x.outN + 1 })) := by
  refine m.modRing_leaves r _ fun x => ?_
  cases south <;> rfl

theorem Module.sendCollect_leaves (m : Module) (r : Nat) (south : Bool) (kind : CollectKind) (k n : Nat) :
    FramesLeave m (m.sendCollect r south kind k n) :=
  (m.countOut_leaves r south).trans (Module.sendEnd_sends _ _ _ _).framesLeave

theorem Module.sendCollect_left (m : Module) (r : Nat) (south : Bool) (kind : CollectKind) (k n : Nat) :
    LeftEnd (m.sendCollect r south kind k n) r south (.collect kind k (m.slotLens r south n)) :=
  Module.sendEnd_left _ _ _ _

/-- The ring with the line time of its next SWEEP frame noted and nothing reread yet (R385). -/
def Module.sweepTimed (m : Module) (r : Nat) : Module :=
  m.modRing r (fun x => { x with
    frameTime := (greatestN ((m.servingEnds r).map (fun e => m.lineTime (m.servedWorkers r e.1)))).getD 0
    rereadSlots := 0 })

theorem Module.sweepTimed_leaves (m : Module) (r : Nat) : FramesLeave m (m.sweepTimed r) :=
  m.modRing_leaves r _ fun _ => rfl

theorem Module.sendSweep_eq (m : Module) (r k : Nat) : m.sendSweep r k =
    (m.servingEnds r).foldl (fun m e => m.sendCollect r e.1 .sweep k e.2) (m.sweepTimed r) := rfl

theorem Module.sendSweep_leaves (m : Module) (r k : Nat) : FramesLeave m (m.sendSweep r k) :=
  (m.sweepTimed_leaves r).trans (.foldl (fun m _ => m.sendCollect_leaves _ _ _ _ _) _ _)

/-- The SWEEP frame of a ring that an end with so many hops sends. -/
def Module.sweepFrame (m : Module) (r k : Nat) (e : Bool × Nat) : EndFrame := .collect .sweep k (m.slotLens r e.1 e.2)

theorem Module.sweepFrame_later {n : Module} (h : FramesLeave m n) (r k : Nat) (e : Bool × Nat) :
    n.sweepFrame r k e = m.sweepFrame r k e := h.field (·.sweepFrame r k e) fun _ _ _ => rfl

theorem Module.sendSweep_left (m : Module) (r k : Nat) :
    ∀ e ∈ m.servingEnds r, LeftEnd (m.sendSweep r k) r e.1 (m.sweepFrame r k e) := by
  rw [Module.sendSweep_eq]
  refine FramesLeave.foldl_does (P := fun n (e : Bool × Nat) => LeftEnd n r e.1 (m.sweepFrame r k e))
    (fun m _ => m.sendCollect_leaves _ _ _ _ _) (fun n e hn => ?_) (fun _ _ _ hl h => LeftEnd.later h hl) _
  rw [← Module.sweepFrame_later ((m.sweepTimed_leaves r).trans hn)]
  exact n.sendCollect_left r e.1 .sweep k e.2

/-! ### Every ring -/

/-- The SWEEP frames of the sweep before the newest, on every ring. -/
def Module.sendSweeps (m : Module) : Module := m.cfg.rings.foldl (fun m r => m.sendSweep r m.lastSweep) m

theorem Module.sendSweeps_leaves (m : Module) : FramesLeave m m.sendSweeps :=
  .foldl (fun m _ => m.sendSweep_leaves _ _) _ m

theorem Module.sendSweeps_left (m : Module) : ∀ r ∈ m.cfg.rings, ∀ e ∈ m.servingEnds r,
    LeftEnd m.sendSweeps r e.1 (m.sweepFrame r m.lastSweep e) := by
  refine FramesLeave.foldl_does
    (P := fun n r => ∀ e ∈ m.servingEnds r, LeftEnd n r e.1 (m.sweepFrame r m.lastSweep e))
    (fun m r => m.sendSweep_leaves _ _) (fun n r hn e he => ?_) (fun _ _ _ hl h e he => (h e he).later hl) _
  have hlast : n.lastSweep = m.lastSweep := hn.field (·.lastSweep) fun _ _ _ => rfl
  rw [← Module.sweepFrame_later hn, hlast]
  exact n.sendSweep_left r _ e (by rwa [hn.servingEnds])

theorem exec_sweepFrameSend : exec .sweepFrameSend s = .next { s with
    m := if s.m.schedules && s.m.up .rgi && s.m.readoutOpen s.m.lastSweep then s.m.sendSweeps else s.m } := rfl

theorem exec_sweepFrameSend_idle (h : s.m.schedules = false ∨ s.m.readoutOpen s.m.lastSweep = false) :
    exec .sweepFrameSend s = .next s := by
  rw [exec_sweepFrameSend, if_neg (by rcases h with h | h <;> simp [h])]

/-! ### The heartbeat -/

/-- HEARTBEATs on every ring. -/
def Module.heartbeats (m : Module) : Module := m.cfg.rings.foldl Module.heartbeat m

theorem Module.heartbeats_sends (m : Module) : SendsOnly m m.heartbeats := .foldl (fun m _ => m.bcast_sends _ _ _) _ m

theorem Module.heartbeats_left (m : Module) (ha : m.acts = true) : ∀ r ∈ m.cfg.rings, ∀ e ∈ m.servingEnds r,
    LeftEnd m.heartbeats r e.1 (.command 0x21 0 false 0 m.heartbeatPayload) :=
  m.bcasts_left ha 0x21 (fun _ _ _ => rfl) _

theorem exec_heartbeatSend : exec .heartbeatSend s = .next { s with
    m := if s.m.runs && s.m.acts && s.m.up .rgi && s.m.up .vsi && s.m.conf?.isSome && decide (s.m.dorm.phase ≠ .dormant) then
        s.m.heartbeats
      else s.m } := rfl

theorem exec_readoutClose_idle (h : s.m.schedules = false) : exec .readoutClose s = .next s := by
  show execReadoutClose s = _
  simp [execReadoutClose, onModule, h]

end

end Machine

open Machine

/-- Settles O37: the frames leave in two loops, over the rings and over the serving ends of each, and what one turn of a loop
has sent the later ones keep. -/
theorem sweepFramesAndHeartbeats : Obligations.SweepFramesAndHeartbeats := by
  refine fun s => ⟨fun hs hu ho => ⟨{ s with m := s.m.sendSweeps }, ⟨?_, rfl, rfl⟩, ?_, ?_, s.m.sendSweeps_left⟩,
    fun hr ha hu hv hc hd => ⟨{ s with m := s.m.heartbeats }, ⟨?_, rfl, rfl⟩, ?_, ?_, s.m.heartbeats_left ha⟩,
    fun hs => ⟨exec_sweepFrameSend_idle (.inl hs), exec_readoutClose_idle hs⟩,
    fun ho => exec_sweepFrameSend_idle (.inr ho), fun ha => ?_⟩
  · rw [exec_sweepFrameSend, hs, hu, ho]
    rfl
  · exact s.m.sendSweeps_leaves.1
  · exact s.m.sendSweeps_leaves.counts
  · rw [exec_heartbeatSend, if_pos]
    simp [hr, ha, hu, hv, hd, Option.isSome_iff_ne_none.2 hc]
  · exact s.m.heartbeats_sends.keeps
  · exact s.m.heartbeats_sends.outbox
  · rw [exec_heartbeatSend, if_neg (by simp [ha])]

end Sys2Proof

/-! ## The rebuild that a boot has asked for (R194, R196, R219, R220) -/

namespace Sys2Proof

open Machine

/-- Of the module only the estimate, its records in Caldera and the journalling have moved, and whether a rebuild is due has
not. -/
def EstimateOnly (m n : Module) : Prop :=
  n = { m with est := n.est, cal := n.cal, al := n.al, jou := n.jou, outbox := n.outbox } ∧ n.est.due = m.est.due

section
variable {α : Type} {m n k : Module}

theorem EstimateOnly.refl (m : Module) : EstimateOnly m m := ⟨rfl, rfl⟩

theorem EstimateOnly.trans (h : EstimateOnly m n) (g : EstimateOnly n k) : EstimateOnly m k := by
  obtain ⟨hkeep, hdue⟩ := h
  obtain ⟨gkeep, gdue⟩ := g
  exact ⟨by rw [gkeep, hkeep], gdue.trans hdue⟩

theorem EstimateOnly.foldl {f : Module → α → Module} (hf : ∀ m x, EstimateOnly m (f m x)) (l : List α) (m : Module) :
    EstimateOnly m (l.foldl f m) :=
  List.foldlRecOn (motive := EstimateOnly m) l f (.refl m) fun n hn x _ => hn.trans (hf n x)

theorem EstimateOnly.ite {c : Prop} [Decidable c] (h : EstimateOnly m n) (g : EstimateOnly m k) :
    EstimateOnly m (if c then n else k) := by
  split
  · exact h
  · exact g

theorem JournalOnly.estimateOnly (h : JournalOnly m n) : EstimateOnly m n := by
  have hest : n.est = m.est := h.field (·.est) fun _ _ _ _ => rfl
  have hcal : n.cal = m.cal := h.field (·.cal) fun _ _ _ _ => rfl
  refine ⟨?_, by rw [hest]⟩
  rw [hest, hcal]
  exact h

theorem EstimateOnly.raiseIf {c : Prop} [Decidable c] {src : Island} {code sev scope inst : Nat} {v : Int} {p : List Byte}
    (h : EstimateOnly m n) : EstimateOnly m (if c then n.raise src code sev scope inst v p else n) :=
  .ite (h.trans (Module.raise_only _ _ _ _ _ _ _ _).estimateOnly) h

theorem EstimateOnly.jotIf {c : Prop} [Decidable c] {src : Island} {code sev scope inst row alert : Nat} {v : Int}
    {p : List Byte} (h : EstimateOnly m n) :
    EstimateOnly m (if c then n.jot src code sev scope inst v p row alert else n) :=
  .ite (h.trans (Module.jot_only _ _ _ _ _ _ _ _ _ _).estimateOnly) h

end

namespace Machine

section
variable (m : Module)

/-! ### The parts of a rebuild -/

theorem Module.modCell_estimateOnly (e : Nat) (f : CellSt → CellSt) : EstimateOnly m (m.modCell e f) := ⟨rfl, rfl⟩

theorem Module.handRecord_estimateOnly (e oldCap : Nat) (exempt : Bool) :
    EstimateOnly m (m.handRecord e oldCap exempt) :=
  EstimateOnly.trans ⟨rfl, rfl⟩ (Module.jot_only _ _ _ _ _ _ _ _ _ _).estimateOnly

theorem Module.firstEstimate_estimateOnly (e : Nat) : EstimateOnly m (m.firstEstimate e) :=
  (m.modCell_estimateOnly e _).trans (Module.handRecord_estimateOnly _ _ _ _)

theorem Module.restoreString_estimateOnly (n : Nat) : EstimateOnly m (m.restoreString n) := by
  unfold Module.restoreString
  split
  · exact .ite ⟨rfl, rfl⟩ (.refl m)
  · exact .refl m

theorem Module.restoreBay_estimateOnly (p : Nat × Nat) : EstimateOnly m (m.restoreBay p) := .ite ⟨rfl, rfl⟩ (.refl m)

theorem Module.repairCopies_estimateOnly (e : Nat) (r : CapRec) : EstimateOnly m (m.repairCopies e r) :=
  .ite (.refl m) (.ite ⟨rfl, rfl⟩ ⟨rfl, rfl⟩)

theorem Module.restoreCapacity_estimateOnly (e : Nat) : EstimateOnly m (m.restoreCapacity e) := by
  unfold Module.restoreCapacity
  dsimp only
  split
  case h_1 r _ =>
    exact .jotIf ((m.modCell_estimateOnly e _).trans (Module.repairCopies_estimateOnly _ e r))
  case h_2 => exact (m.modCell_estimateOnly e _).trans (Module.handRecord_estimateOnly _ _ _ _)
  case h_3 => exact m.modCell_estimateOnly e _

theorem Module.restoreImpedance_estimateOnly (e : Nat) : EstimateOnly m (m.restoreImpedance e) := by
  unfold Module.restoreImpedance
  split
  · exact .refl m
  · exact .ite (m.modCell_estimateOnly e _) (.refl m)

theorem Module.restoreCharge_estimateOnly (e : Nat) : EstimateOnly m (m.restoreCharge e).1 := by
  unfold Module.restoreCharge
  split
  · split
    · exact ⟨rfl, rfl⟩
    · exact m.firstEstimate_estimateOnly e
  · exact m.firstEstimate_estimateOnly e

/-- A cell from Caldera (R194, R219, R220). -/
theorem Module.restoreCell_estimateOnly (e : Nat) :
    EstimateOnly m (((m.restoreCapacity e).restoreImpedance e).restoreCharge e).1 :=
  ((m.restoreCapacity_estimateOnly e).trans (Module.restoreImpedance_estimateOnly _ e)).trans
    (Module.restoreCharge_estimateOnly _ e)

/-- The module without an estimate, from which a rebuild starts. -/
def Module.unestimated : Module := { m with est := {} }

/-- The module with the values of its strings and bays from Caldera (R194). -/
def Module.restoredSums : Module :=
  let m := m.unestimated.strNos.foldl Module.restoreString m.unestimated
  m.cal.charge.bays.foldl Module.restoreBay m

/-- One cell from Caldera, and the count of those whose charge word was not valid. -/
def restoreStep (a : Module × Nat) (e : Nat) : Module × Nat :=
  let x := ((a.1.restoreCapacity e).restoreImpedance e).restoreCharge e
  (x.1, if x.2 then a.2 else a.2 + 1)

theorem Module.restoredSums_estimateOnly : EstimateOnly m.unestimated m.restoredSums :=
  EstimateOnly.trans (.foldl Module.restoreString_estimateOnly _ _) (.foldl Module.restoreBay_estimateOnly _ _)

theorem restoreSteps_estimateOnly (l : List Nat) (a : Module × Nat) : EstimateOnly a.1 (l.foldl restoreStep a).1 :=
  List.foldlRecOn (motive := fun b : Module × Nat => EstimateOnly a.1 b.1) l restoreStep (.refl a.1)
    fun b hb e _ => hb.trans (b.1.restoreCell_estimateOnly e)

/-- Every cell of the map from Caldera, and the count of those whose charge word was not valid. -/
def Module.restoredCells : Module × Nat := (m.cfg.channels.map (fun x => x.1)).foldl restoreStep (m, 0)

/-- The end of a rebuild: the cell state stands, and what was lost is reported (R194, R219). -/
def Module.endRebuild (invalid : Nat) (es : List Nat) : Module :=
  let m : Module := { m with est := { m.est with
    ready := true, gapPending := if 0 < es.length - invalid then some m.cal.charge.plant else none } }
  let m := if 0 < invalid ∧ m.cal.charge.setId ≠ 0 then
      m.raise .esi cSocMirrorInvalid sevWarning scDomain 0 (invalid : Int) (int32s [(invalid : Int)]) else m
  let lost := (es.filter (fun e => (m.cell e).capLost)).length
  if 0 < lost then m.raise .esi cCapacityLost sevWarning scDomain 0 (lost : Int) (int32s [(lost : Int)]) else m

theorem Module.endRebuild_estimateOnly (invalid : Nat) (es : List Nat) : EstimateOnly m (m.endRebuild invalid es) :=
  .raiseIf (.raiseIf ⟨rfl, rfl⟩)

theorem Module.rebuildCells_eq : m.rebuildCells =
    m.restoredSums.restoredCells.1.endRebuild m.restoredSums.restoredCells.2
      (m.restoredSums.cfg.channels.map (fun x => x.1)) := by
  unfold Module.rebuildCells Module.endRebuild Module.restoredCells Module.restoredSums Module.unestimated restoreStep
  dsimp only

theorem Module.rebuildCells_estimateOnly : EstimateOnly m.unestimated m.rebuildCells := by
  rw [Module.rebuildCells_eq]
  exact (m.restoredSums_estimateOnly.trans (restoreSteps_estimateOnly _ (m.restoredSums, 0))).trans
    (Module.endRebuild_estimateOnly _ _ _)

theorem Module.rebuildDue_idle (h : m.est.due = false) : m.rebuildDue = m := by
  simp [Module.rebuildDue, h]

theorem Module.rebuildDue_keeps : m.rebuildDue = { m with
    est := m.rebuildDue.est, cal := m.rebuildDue.cal, al := m.rebuildDue.al, jou := m.rebuildDue.jou
    outbox := m.rebuildDue.outbox } := by
  unfold Module.rebuildDue
  split
  · exact m.rebuildCells_estimateOnly.1
  · rfl

theorem Module.rebuildDue_done : m.rebuildDue.est.due = false := by
  unfold Module.rebuildDue
  split
  · exact m.rebuildCells_estimateOnly.2
  case isFalse h => simpa using h

end

end Machine

end Sys2Proof

/-! ## GEYSER and the sweep that it opens (R123, R124, R141, R147, R355) -/

namespace Sys2Proof

namespace Machine

section
variable (m : Module)

/-! ### One ring after another -/

/-- An update that changes nothing the second time, of every ring of a list. -/
theorem Module.modRings_ring (l : List Nat) {f : RingSt → RingSt} (hf : ∀ x, f (f x) = f x) (r : Nat) :
    (l.foldl (fun m r => m.modRing r f) m).ring r = if r ∈ l then f (m.ring r) else m.ring r := by
  induction l generalizing m with
  | nil => rfl
  | cons a t ih =>
    rw [List.foldl_cons, ih]
    by_cases ha : r = a
    · subst ha
      simp [hf]
    · simp [Module.modRing_other _ _ ha, ha]

theorem Module.modRings_keeps (l : List Nat) (f : RingSt → RingSt) : l.foldl (fun m r => m.modRing r f) m =
    { m with rings := (l.foldl (fun m r => m.modRing r f) m).rings } :=
  List.foldlRecOn (motive := fun n : Module => n = { m with rings := n.rings }) l _ rfl fun n hn r _ => by
    rw [hn]
    rfl

/-! ### The period that begins -/

/-- A ring in a new period: nothing of it has left or come back yet (R147). -/
def RingSt.opened (x : RingSt) : RingSt := { x with outN := 0, outS := 0, readN := false, readS := false }

theorem Module.openPeriod_keeps : m.openPeriod = { m with rings := m.openPeriod.rings } := m.modRings_keeps _ _

theorem Module.openPeriod_ring {r : Nat} (h : r ∈ m.cfg.rings) : m.openPeriod.ring r = (m.ring r).opened :=
  (m.modRings_ring m.cfg.rings (f := RingSt.opened) (fun _ => rfl) r).trans (if_pos h)

/-! ### The frames of the new sweep -/

/-- The sweeps a failover owes, with none of their rereads due any more. -/
def Module.rereadsDone (m : Module) : Module :=
  { m with sweep := { m.sweep with owed := m.sweep.owed.map (fun o => (o.1, false)) } }

theorem Module.sendReread_leaves (r : Nat) (south : Bool) (k n : Nat) : FramesLeave m (m.sendReread r south k n) := by
  unfold Module.sendReread
  split
  · exact .refl m
  · exact (m.sendCollect_leaves r south .reread k n).trans (Module.modRing_leaves _ _ _ fun _ => rfl)

/-- REREAD frames of one sweep from every end of every ring under the newest turn points. -/
def Module.rereadSweep (m : Module) (k : Nat) : Module :=
  m.cfg.rings.foldl (fun m r => [false, true].foldl (fun m e => m.sendReread r e k (m.newestHops r e)) m) m

theorem Module.rereadSweep_leaves (k : Nat) : FramesLeave m (m.rereadSweep k) :=
  .foldl (fun m _ => .foldl (fun m _ => m.sendReread_leaves _ _ _ _) _ m) _ m

/-- GEYSERs on every ring. -/
def Module.geysers (m : Module) : Module := m.cfg.rings.foldl (fun m r => m.bcast r 0x01 m.geyserPayload) m

/-- The GEYSERs and the rereads that follow the first of them. -/
def Module.sweepFrames (m : Module) : Module :=
  ((m.geysers.sweep.owed.filter (fun o => o.2)).map (fun o => o.1)).foldl Module.rereadSweep m.geysers

theorem Module.geysers_leave : FramesLeave m m.geysers :=
  .foldl (fun m _ => (m.bcast_sends _ _ _).framesLeave) _ m

theorem Module.sweepFrames_after : FramesLeave m.geysers m.sweepFrames := .foldl Module.rereadSweep_leaves _ _

theorem Module.sweepFrames_leave : FramesLeave m m.sweepFrames := m.geysers_leave.trans m.sweepFrames_after

theorem Module.sweepFrames_left (ha : m.acts = true) : ∀ r ∈ m.cfg.rings, ∀ e ∈ m.servingEnds r,
    LeftEnd m.sweepFrames r e.1 (.command 0x01 0 false 0 m.geyserPayload) := fun r hr e he =>
  (m.bcasts_left ha 0x01 (payload := Module.geyserPayload) (fun _ _ _ => rfl) _ r hr e he).later m.sweepFrames_after

/-! ### GEYSER_SEND -/

/-- The next sweep, with the frames that open it where the RGI runs. -/
def Module.beginSweep (m : Module) : Module :=
  let m := m.nextSweep.openPeriod
  if m.up .rgi then m.sweepFrames.rereadsDone else m

theorem Module.beginSweep_keeps : m.beginSweep = { m with
    sweep := { m.nextSweep.sweep with owed := m.beginSweep.sweep.owed }
    rings := m.beginSweep.rings, outbox := m.beginSweep.outbox } := by
  unfold Module.beginSweep
  dsimp only
  have hopen := m.nextSweep.openPeriod_keeps
  split
  · rw [Module.rereadsDone, m.nextSweep.openPeriod.sweepFrames_leave.1, hopen]
    rfl
  · rw [hopen]
    rfl

end

section
variable {s : State} {m : Module} {r : Nat}

theorem Module.beginSweep_up (hu : m.up .rgi = true) :
    m.beginSweep = m.nextSweep.openPeriod.sweepFrames.rereadsDone := by
  refine if_pos ?_
  rw [Module.openPeriod_keeps]
  exact hu

@[simp] theorem Module.nextSweep_cfg (m : Module) : m.nextSweep.cfg = m.cfg := rfl

@[simp] theorem Module.nextSweep_ring (m : Module) (r : Nat) : m.nextSweep.ring r = m.ring r := rfl

@[simp] theorem Module.rereadsDone_ring (m : Module) (r : Nat) : m.rereadsDone.ring r = m.ring r := rfl

theorem Module.newPeriod_ring (hr : r ∈ m.cfg.rings) : m.nextSweep.openPeriod.ring r = (m.ring r).opened := by
  rw [Module.openPeriod_ring _ (by rwa [Module.nextSweep_cfg]), Module.nextSweep_ring]

theorem Module.newPeriod_servingEnds (hr : r ∈ m.cfg.rings) :
    m.nextSweep.openPeriod.servingEnds r = m.servingEnds r := by
  unfold Module.servingEnds
  rw [Module.newPeriod_ring hr]
  rw [m.nextSweep.openPeriod_keeps]
  rfl

theorem Module.beginSweep_ring (hu : m.up .rgi = true) (hr : r ∈ m.cfg.rings) :
    CountsOnly (m.ring r).opened (m.beginSweep.ring r) := by
  rw [Module.beginSweep_up hu, Module.rereadsDone_ring, ← Module.newPeriod_ring hr]
  exact m.nextSweep.openPeriod.sweepFrames_leave.counts r

/-- The owed sweeps have no part in what an end has sent. -/
theorem Module.rereadsDone_left {south : Bool} {f : EndFrame} (h : LeftEnd m r south f) : LeftEnd m.rereadsDone r south f := by
  have htime : m.rereadsDone.departure f = m.departure f := by
    unfold Module.departure
    split <;> rfl
  refine ⟨h.1, fun hp => ?_⟩
  rw [htime]
  exact h.2 hp

theorem Module.beginSweep_left (hu : m.up .rgi = true) (ha : m.acts = true) (hr : r ∈ m.cfg.rings) :
    ∀ e ∈ m.servingEnds r, LeftEnd m.beginSweep r e.1 (.command 0x01 0 false 0 m.beginSweep.geyserPayload) := by
  intro e he
  have hopen := m.nextSweep.openPeriod_keeps
  have hacts : m.nextSweep.openPeriod.acts = true := by
    rw [hopen]
    exact ha
  have hcfg : m.nextSweep.openPeriod.cfg = m.cfg := by
    rw [hopen]
    rfl
  have hpay : m.beginSweep.geyserPayload = m.nextSweep.openPeriod.geyserPayload := by
    rw [m.beginSweep_keeps, hopen]
    rfl
  rw [hpay, Module.beginSweep_up hu]
  exact Module.rereadsDone_left (Module.sweepFrames_left _ hacts r (by rwa [hcfg]) e (by rwa [Module.newPeriod_servingEnds hr]))

theorem Module.rereadOwed_geysers (m : Module) : m.geysers.rereadOwed = m.sweepFrames.rereadsDone := by
  unfold Module.rereadOwed Module.rereadsDone Module.sweepFrames Module.rereadSweep
  dsimp only

theorem Module.schedules_acts (h : m.schedules = true) : m.acts = true := by
  simp only [Module.schedules, Bool.and_eq_true] at h
  obtain ⟨⟨⟨⟨-, hacts⟩, -⟩, -⟩, -⟩ := h
  exact hacts

theorem exec_geyserSend (hs : s.m.schedules = true) :
    exec .geyserSend s = .next { s with m := s.m.rebuildDue.beginSweep } := by
  show execGeyserSend s = _
  unfold execGeyserSend onModule Module.beginSweep
  dsimp only
  rw [if_pos hs, ← Module.rereadOwed_geysers]
  rfl

theorem exec_geyserSend_idle (hs : s.m.schedules = false) : exec .geyserSend s = .next s := by
  show execGeyserSend s = _
  simp [execGeyserSend, onModule, hs]

/-- A rebuild leaves alone the sweep pipeline and all that the next sweep is taken from. -/
theorem Module.rebuildDue_nextSweep (m : Module) : m.rebuildDue.nextSweep.sweep = m.nextSweep.sweep := by
  rw [m.rebuildDue_keeps]
  rfl

/-- The sample instants follow each other by one period (R123). -/
theorem Module.nextInstant_later (h : m.sweep.tj ≠ 0) : m.nextInstant = m.sweep.tj + m.sweep.period * 1000000 := by
  simp [Module.nextInstant, h]

theorem Module.beginSweep_sweep (m : Module) :
    m.beginSweep.sweep = { m.nextSweep.sweep with owed := m.beginSweep.sweep.owed } := by
  rw [m.beginSweep_keeps]

theorem Module.beginSweep_frame (m : Module) : m.beginSweep =
    { m with sweep := m.beginSweep.sweep, rings := m.beginSweep.rings, outbox := m.beginSweep.outbox } := by
  rw [m.beginSweep_keeps]

theorem Module.beginSweep_est (m : Module) : m.beginSweep.est = m.est := by
  rw [m.beginSweep_keeps]

/-- In a new period no collecting frame of a ring is back, and its partition is as it was. -/
theorem Module.beginSweep_opened (hu : m.up .rgi = true) (hr : r ∈ m.cfg.rings) : (m.beginSweep.ring r).readN = false ∧
    (m.beginSweep.ring r).readS = false ∧ (m.beginSweep.ring r).part = (m.ring r).part := by
  rw [Module.beginSweep_ring hu hr]
  exact ⟨rfl, rfl, rfl⟩

end

end Machine

open Machine

/-- Settles O36: the sweep begins behind the rebuild, which leaves alone what it is taken from; a serving end's GEYSER leaves in
the two loops over the rings and their ends, and stays sent through the rereads. -/
theorem geyserAdvancesSweep : Obligations.GeyserAdvancesSweep := by
  refine fun s => ⟨fun hs => ⟨{ s with m := s.m.rebuildDue.beginSweep }, ⟨exec_geyserSend hs, rfl, rfl⟩, fun hd => ?_, ?_,
    fun hz => ?_, ?_, fun hu hd r hr => ?_⟩, exec_geyserSend_idle⟩
  · rw [Module.rebuildDue_idle _ hd]
    exact s.m.beginSweep_frame
  · rw [Module.beginSweep_sweep, Module.rebuildDue_nextSweep]
    rfl
  · rw [Module.beginSweep_sweep, Module.rebuildDue_nextSweep]
    exact Module.nextInstant_later hz
  · rw [Module.beginSweep_est]
    exact s.m.rebuildDue_done
  · rw [Module.rebuildDue_idle _ hd]
    obtain ⟨hnorth, hsouth, hpart⟩ := Module.beginSweep_opened hu hr
    have hacts : s.m.acts = true := Module.schedules_acts hs
    exact ⟨hnorth, hsouth, hpart, Module.beginSweep_left hu hacts hr⟩

end Sys2Proof

/-! ## Manifests (R127, R137, R138, R346) -/

namespace Sys2Proof

open Machine

/-- Of the module only what a manifest ages has moved, beside the journalling: workers and bursts. -/
def AgesOnly (m n : Module) : Prop :=
  n = { m with workers := n.workers, bursts := n.bursts, al := n.al, jou := n.jou, outbox := n.outbox }

section
variable {α : Type} {m n k : Module}

theorem AgesOnly.refl (m : Module) : AgesOnly m m := rfl

theorem AgesOnly.trans (h : AgesOnly m n) (g : AgesOnly n k) : AgesOnly m k := by
  unfold AgesOnly at *
  rw [g, h]

theorem AgesOnly.foldl {f : Module → α → Module} (hf : ∀ m x, AgesOnly m (f m x)) (l : List α) (m : Module) :
    AgesOnly m (l.foldl f m) :=
  List.foldlRecOn (motive := AgesOnly m) l f (.refl m) fun n hn x _ => hn.trans (hf n x)

theorem JournalOnly.agesOnly (h : JournalOnly m n) : AgesOnly m n := by
  have hworkers : n.workers = m.workers := h.field (·.workers) fun _ _ _ _ => rfl
  have hbursts : n.bursts = m.bursts := h.field (·.bursts) fun _ _ _ _ => rfl
  unfold AgesOnly
  rw [hworkers, hbursts]
  exact h

end

namespace Machine

section
variable (m : Module) (man : Manifest)

/-! ### The ages of the workers (R138) -/

/-- The age of a worker at a manifest: 0 where it is used, one more where it is missing. -/
def Module.agedWorker (w : Wk) : Module :=
  m.modWk w (fun x => { x with age := if decide (w ∈ man.used) then 0 else bump8 x.age })

theorem Module.agedWorker_age (w : Wk) :
    ((m.agedWorker man w).wk w).age = if w ∈ man.used then 0 else bump8 (m.wk w).age := by
  simp [Module.agedWorker]

/-- STALE of a worker follows its age. -/
theorem Module.ageWorker_eq (w : Wk) : m.ageWorker man w =
    (let n := m.agedWorker man w
     if decide (w ∈ man.used) then n.clear .rgi cStale scWorker (wkInst w)
     else if 3 ≤ (n.wk w).age then n.raise .rgi cStale sevWarning scWorker (wkInst w) ((n.wk w).age : Int)
       (int32s [((n.wk w).age : Int)])
     else n) := rfl

theorem Module.ageWorker_used {w : Wk} (h : w ∈ man.used) :
    m.ageWorker man w = (m.agedWorker man w).clear .rgi cStale scWorker (wkInst w) := by
  rw [Module.ageWorker_eq]
  exact if_pos (decide_eq_true h)

theorem Module.ageWorker_missing {w : Wk} (h : w ∉ man.used) (ha : 3 ≤ bump8 (m.wk w).age) :
    m.ageWorker man w = (m.agedWorker man w).raise .rgi cStale sevWarning scWorker (wkInst w)
      (((m.agedWorker man w).wk w).age : Int) (int32s [(((m.agedWorker man w).wk w).age : Int)]) := by
  rw [Module.ageWorker_eq]
  refine (if_neg (by simpa using h)).trans (if_pos ?_)
  rwa [Module.agedWorker_age, if_neg h]

theorem Module.ageWorker_only (w : Wk) : JournalOnly (m.agedWorker man w) (m.ageWorker man w) := by
  rw [Module.ageWorker_eq]
  dsimp only
  split
  · exact Module.clear_only _ _ _ _ _
  · split
    · exact Module.raise_only _ _ _ _ _ _ _ _
    · exact .refl _

theorem Module.ageWorker_age (w : Wk) :
    ((m.ageWorker man w).wk w).age = if w ∈ man.used then 0 else bump8 (m.wk w).age := by
  rw [(m.ageWorker_only man w).field (fun n => n.wk w) fun _ _ _ _ => rfl, Module.agedWorker_age]

theorem Module.ageWorker_agesOnly (w : Wk) : AgesOnly m (m.ageWorker man w) :=
  .trans (n := m.agedWorker man w) rfl (m.ageWorker_only man w).agesOnly

theorem Module.burstMissedCheck_agesOnly (n k : Nat) (seen : List Wk) : AgesOnly m (m.burstMissedCheck n k seen) := by
  unfold Module.burstMissedCheck
  split
  · exact .refl m
  case h_2 b _ =>
    dsimp only
    split
    · exact .trans (n := m.modBurst n fun x => { x with active := none, missed := x.missed + 1 }) rfl
        (Module.raise_only _ _ _ _ _ _ _ _).agesOnly
    · exact .refl m

/-! ### A manifest is taken (R127) -/

/-- Workers, strings and bursts as a manifest leaves them. -/
def Module.agedBy : Module :=
  let m := m.cfg.workers.foldl (fun m (w : Wk × WorkerEntry) => m.ageWorker man w.1) m
  let m := m.strNos.foldl (fun m s =>
    m.setCond ((m.cfg.workersOfString s).any (fun (w : Wk × WorkerEntry) => decide (3 ≤ (m.wk w.1).age))) .rgi cStale
      sevWarning scString s) m
  m.strNos.foldl (fun m s => m.burstMissedCheck s man.sweep man.used) m

/-- The manifests held with one more, newest first. -/
def Module.keptManifests : List Manifest :=
  (man :: m.sweep.manifests.filter (fun x => x.sweep ≠ man.sweep)).take (if m.pair.role = .syncing then 256 else 16)

theorem Module.takeManifest_eq : m.takeManifest man = { m.agedBy man with sweep := { (m.agedBy man).sweep with
    manifests := (m.agedBy man).keptManifests man
    missedRun := if man.used = [] then (m.agedBy man).sweep.missedRun + 1 else 0 } } := by
  unfold Module.takeManifest Module.agedBy Module.keptManifests
  dsimp only

theorem Module.agedBy_agesOnly : AgesOnly m (m.agedBy man) := by
  unfold Module.agedBy
  refine .trans (.trans (.foldl (fun m w => ?_) _ m) (.foldl (fun m n => ?_) _ _)) (.foldl (fun m n => ?_) _ _)
  · exact m.ageWorker_agesOnly man w.1
  · exact (m.setCond_only _ _ _ _ _ _ _).agesOnly
  · exact m.burstMissedCheck_agesOnly n man.sweep man.used

theorem Module.takeManifest_keeps : m.takeManifest man = { m with
    workers := (m.takeManifest man).workers, bursts := (m.takeManifest man).bursts
    sweep := { m.sweep with
      manifests := (m.takeManifest man).sweep.manifests, missedRun := (m.takeManifest man).sweep.missedRun }
    al := (m.takeManifest man).al, jou := (m.takeManifest man).jou, outbox := (m.takeManifest man).outbox } := by
  rw [Module.takeManifest_eq, m.agedBy_agesOnly man]

theorem Module.keptManifests_head : (m.keptManifests man).head? = some man := by
  unfold Module.keptManifests
  split <;> rfl

theorem Module.takeManifest_manifests :
    (m.takeManifest man).sweep.manifests = (m.agedBy man).keptManifests man := by rw [Module.takeManifest_eq]

theorem Module.takeManifest_head : (m.takeManifest man).sweep.manifests.head? = some man := by
  rw [Module.takeManifest_manifests, Module.keptManifests_head]

/-! ### The manifest of one sweep (R127, R137) -/

/-- The manifest that the leader makes of a sweep. -/
def Module.manifestOf (k : Nat) : Manifest :=
  { sweep := k, dropped := decide (k ∈ m.sweep.dropped), used := m.usedSlots k, bursts := m.sweep.burstsIn
    bal := m.sweep.balIn, tGap := m.bootGaps k, dormant := m.dormantSpan k, vOut := m.sweep.vOutIn, gen := m.pair.gen }

/-- The module with all that waited for a manifest placed in that of sweep `k`. -/
def Module.placed (k : Nat) : Module :=
  { m with
    sweep := { m.sweep with burstsIn := [], balIn := [], dormIn := none, dropped := dropFrom m.sweep.dropped k }
    dorm := { m.dorm with bootEntry := none }
    est := { m.est with gapPending := none } }

/-- The module that has fixed and taken the manifest of sweep `k`. -/
def Module.manifested (k : Nat) : Module := (m.placed k).takeManifest (m.manifestOf k)

theorem Module.closeSweep_held {k : Nat} (h : m.readoutOpen k = false) : m.closeSweep k = m := by
  simp [Module.closeSweep, h]

theorem Module.closeSweep_open {k : Nat} (h : m.readoutOpen k = true) : m.closeSweep k =
    if (m.manifested k).isPair then (m.manifested k).emit (.pairManifest (m.manifestOf k)) else m.manifested k := by
  unfold Module.closeSweep
  rw [if_pos h]
  unfold Module.manifested Module.manifestOf Module.placed
  dsimp only

theorem Module.manifested_keeps (k : Nat) : m.manifested k = { m with
    workers := (m.manifested k).workers, bursts := (m.manifested k).bursts
    sweep := { m.sweep with
      burstsIn := [], balIn := [], dormIn := none, dropped := dropFrom m.sweep.dropped k
      manifests := (m.manifested k).sweep.manifests, missedRun := (m.manifested k).sweep.missedRun }
    dorm := { m.dorm with bootEntry := none }, est := { m.est with gapPending := none }
    al := (m.manifested k).al, jou := (m.manifested k).jou, outbox := (m.manifested k).outbox } := by
  have h := (m.placed k).takeManifest_keeps (m.manifestOf k)
  rw [← Module.manifested] at h
  generalize m.manifested k = n at h ⊢
  exact h

theorem Module.manifested_head (k : Nat) : (m.manifested k).sweep.manifests.head? = some (m.manifestOf k) :=
  Module.takeManifest_head _ _

theorem Module.closeSweep_cfg_owed (k : Nat) :
    (m.closeSweep k).cfg = m.cfg ∧ (m.closeSweep k).sweep.owed = m.sweep.owed := by
  cases h : m.readoutOpen k with
  | false =>
    rw [Module.closeSweep_held m h]
    exact ⟨rfl, rfl⟩
  | true =>
    have hkeeps := m.manifested_keeps k
    rw [Module.closeSweep_open m h]
    generalize m.manifested k = n at hkeeps ⊢
    rw [hkeeps]
    split <;> exact ⟨rfl, rfl⟩

/-! ### The close of the readout (R127, R147, R355) -/

/-- A ring whose readout has closed (R147). -/
def RingSt.closed (x : RingSt) : RingSt := { x with readN := false, readS := false }

theorem Module.closePeriod_keeps : m.closePeriod = { m with rings := m.closePeriod.rings } := m.modRings_keeps _ _

theorem Module.closePeriod_ring {r : Nat} (h : r ∈ m.cfg.rings) : m.closePeriod.ring r = (m.ring r).closed :=
  (m.modRings_ring m.cfg.rings (f := RingSt.closed) (fun _ => rfl) r).trans (if_pos h)

/-- The manifests of the sweeps a failover owes, in their order. -/
def Module.closeOwed : Module := m.sweep.owed.foldl (fun m (o : Nat × Bool) => m.closeSweep o.1) m

/-- The module that owes no sweep any more. -/
def Module.oweNone : Module := { m with sweep := { m.sweep with owed := [] } }

/-- The manifest of the sweep before the newest, and the end of its readout. -/
def Module.closeReadout : Module := (m.closeOwed.oweNone.closeSweep m.closeOwed.lastSweep).closePeriod

theorem Module.closeOwed_cfg : m.closeOwed.cfg = m.cfg :=
  List.foldlRecOn (motive := fun n : Module => n.cfg = m.cfg) _ _ rfl fun n hn o _ =>
    (n.closeSweep_cfg_owed o.1).1.trans hn

theorem Module.closeReadout_owed : m.closeReadout.sweep.owed = [] := by
  rw [Module.closeReadout, Module.closePeriod_keeps]
  exact (m.closeOwed.oweNone.closeSweep_cfg_owed _).2

theorem Module.closeReadout_ring {r : Nat} (h : r ∈ m.cfg.rings) :
    (m.closeReadout.ring r).readN = false ∧ (m.closeReadout.ring r).readS = false := by
  have hcfg : (m.closeOwed.oweNone.closeSweep m.closeOwed.lastSweep).cfg = m.cfg :=
    (m.closeOwed.oweNone.closeSweep_cfg_owed _).1.trans m.closeOwed_cfg
  rw [Module.closeReadout, Module.closePeriod_ring _ (by rwa [hcfg])]
  exact ⟨rfl, rfl⟩

/-- Without owed sweeps only that before the newest is closed. -/
theorem Module.closeReadout_unowed (h : m.sweep.owed = []) : m.closeReadout = (m.closeSweep m.lastSweep).closePeriod := by
  have howed : m.closeOwed = m := by simp [Module.closeOwed, h]
  have hnone : m.oweNone = m := by rw [Module.oweNone, ← h]
  rw [Module.closeReadout, howed, hnone]

theorem Module.closeReadout_manifested (hw : m.sweep.owed = []) (ho : m.readoutOpen m.lastSweep = true) :
    m.closeReadout = { m.manifested m.lastSweep with rings := m.closeReadout.rings, outbox := m.closeReadout.outbox } := by
  rw [Module.closeReadout_unowed m hw, Module.closePeriod_keeps, Module.closeSweep_open m ho]
  generalize m.manifested m.lastSweep = n
  split <;> rfl

/-- In a pair the manifest goes to the follower (R127). -/
theorem Module.closeReadout_sent (hw : m.sweep.owed = []) (ho : m.readoutOpen m.lastSweep = true)
    (hp : m.isPair = true) : m.closeReadout.outbox.head? = some (.pairManifest (m.manifestOf m.lastSweep)) := by
  have hkeeps := m.manifested_keeps m.lastSweep
  rw [Module.closeReadout_unowed m hw, Module.closePeriod_keeps, Module.closeSweep_open m ho]
  generalize m.manifested m.lastSweep = n at hkeeps ⊢
  have hpair : n.isPair = true := by
    rw [hkeeps]
    exact hp
  rw [if_pos hpair]
  rfl

theorem Module.closeReadout_keeps (hw : m.sweep.owed = []) (ho : m.readoutOpen m.lastSweep = true) :
    m.closeReadout = { m with
      workers := m.closeReadout.workers, bursts := m.closeReadout.bursts, rings := m.closeReadout.rings
      sweep := { m.sweep with
        burstsIn := [], balIn := [], dormIn := none, owed := [], dropped := m.closeReadout.sweep.dropped
        manifests := m.closeReadout.sweep.manifests, missedRun := m.closeReadout.sweep.missedRun }
      al := m.closeReadout.al, jou := m.closeReadout.jou, outbox := m.closeReadout.outbox
      dorm := { m.dorm with bootEntry := none }, est := { m.est with gapPending := none } } := by
  have hclose := m.closeReadout_manifested hw ho
  have htaken := m.manifested_keeps m.lastSweep
  generalize m.closeReadout = t at hclose ⊢
  generalize m.manifested m.lastSweep = n at hclose htaken
  rw [hclose, htaken, ← hw]

theorem Module.closeReadout_head (hw : m.sweep.owed = []) (ho : m.readoutOpen m.lastSweep = true) :
    m.closeReadout.sweep.manifests.head? = some (m.manifestOf m.lastSweep) := by
  rw [Module.closeReadout_manifested m hw ho, ← m.manifested_head]

/-! ### The provisional manifest (R346) -/

/-- The manifest that a follower makes of a sweep by itself. -/
def Module.provisionalOf (k : Nat) : Manifest := { sweep := k, used := m.usedSlots k, gen := m.pair.gen }

/-- The module that has taken a provisional manifest, and makes no second one. -/
def Module.provided : Module :=
  { m.takeManifest man with sweep := { (m.takeManifest man).sweep with prov := some man } }

theorem Module.provided_keeps : m.provided man = { m with
    workers := (m.provided man).workers, bursts := (m.provided man).bursts
    sweep := { m.sweep with
      prov := some man, manifests := (m.provided man).sweep.manifests, missedRun := (m.provided man).sweep.missedRun }
    al := (m.provided man).al, jou := (m.provided man).jou, outbox := (m.provided man).outbox } := by
  have h := m.takeManifest_keeps man
  unfold Module.provided
  generalize m.takeManifest man = n at h ⊢
  rw [h]

end

section
variable {s : State}

theorem exec_readoutClose (hs : s.m.schedules = true) : exec .readoutClose s = .next { s with m := s.m.closeReadout } := by
  show execReadoutClose s = _
  unfold execReadoutClose onModule Module.closeReadout Module.closeOwed Module.oweNone
  dsimp only
  rw [if_pos hs]

theorem exec_provisionalManifest (hr : s.m.runs = true) (hu : s.m.up .rgi = true) (hrole : s.m.pair.role = .ready)
    (ho : s.m.readoutOpen s.m.lastSweep = true) (hp : s.m.sweep.prov = none)
    (ha : look [] s.m.sweep.accepted s.m.lastSweep ≠ []) : exec .provisionalManifest s = .next { s with
      m := s.m.provided (s.m.provisionalOf s.m.lastSweep) } := by
  show execProvisionalManifest s = _
  unfold execProvisionalManifest onModule Module.provided Module.provisionalOf
  dsimp only
  rw [if_pos (by simp [hr, hu, hrole, ho, hp, ha])]

theorem exec_provisionalManifest_idle (h : s.m.pair.role ≠ .ready ∨ s.m.sweep.prov ≠ none) :
    exec .provisionalManifest s = .next s := by
  have hidle : s.m.pair.role = .ready → s.m.sweep.prov.isNone = false := fun hrole => by
    rw [Option.isNone_eq_false_iff, Option.isSome_iff_ne_none]
    exact h.resolve_left (not_not_intro hrole)
  show execProvisionalManifest s = _
  unfold execProvisionalManifest onModule
  dsimp only
  rw [if_neg]
  by_cases hrole : s.m.pair.role = .ready
  · simp [hidle hrole]
  · simp [hrole]

end

end Machine

open Machine

/-- Settles O38: every part that a manifest ages is kept but for workers, bursts and journalling, so that what is taken and sent
behind it is that of the state before. -/
theorem manifestsFixSlots : Obligations.ManifestsFixSlots := by
  refine fun s => ⟨fun hs hw ho => ?_, fun hs => ⟨{ s with m := s.m.closeReadout }, ⟨exec_readoutClose hs, rfl, rfl⟩,
    s.m.closeReadout_owed, fun r hr => s.m.closeReadout_ring hr⟩, fun hs hw ho => ?_, fun m man w => ?_, ?_, ?_⟩
  · refine ⟨{ s with m := s.m.closeReadout }, s.m.manifestOf s.m.lastSweep, ⟨exec_readoutClose hs, rfl, rfl⟩, ?_, rfl, rfl, rfl,
      rfl, rfl, rfl, rfl, rfl, decide_eq_true_iff, ?_, ?_, s.m.closeReadout_sent hw ho⟩
    · exact s.m.closeReadout_head hw ho
    · dsimp only
      rw [s.m.closeReadout_keeps hw ho]
    · dsimp only
      rw [s.m.closeReadout_keeps hw ho]
  · rw [exec_readoutClose hs, Module.closeReadout_unowed _ hw, Module.closeSweep_held _ ho]
  · exact ⟨m.ageWorker_age man w, fun hused => by
        rw [Module.ageWorker_used m man hused]
        exact Module.clear_holds _ _ _ _ _ (by decide), fun hmiss hage => by
        rw [Module.ageWorker_missing m man hmiss hage]
        exact Module.raise_holds _ _ _ _ _ _ _ _⟩
  · refine fun hr hu hrole ho hp ha => ⟨{ s with m := s.m.provided (s.m.provisionalOf s.m.lastSweep) },
      s.m.provisionalOf s.m.lastSweep, ⟨exec_provisionalManifest hr hu hrole ho hp ha, rfl, rfl⟩, rfl, rfl, rfl, rfl, rfl,
      rfl, rfl, ?_, ?_⟩
    · dsimp only
      rw [s.m.provided_keeps]
    · dsimp only
      rw [s.m.provided_keeps]
  · exact exec_provisionalManifest_idle

end Sys2Proof

/-! ## Dormancy and its wake sources (R165 to R170, R312, R382) -/

namespace Sys2Proof

open Machine

namespace Machine

/-! ### Sessions and ports that end with the entry (R119, R372) -/

section
variable (m : Module)

/-- A session that is left over has none of the numbers that were closed. -/
theorem Module.closeEach_sessions (l : List Session) : ∀ x ∈ (l.foldl (fun m y => m.closeSession y.id) m).dcp.sessions,
    x ∈ m.dcp.sessions ∧ ∀ y ∈ l, x.id ≠ y.id := by
  induction l generalizing m with
  | nil => exact fun x hx => ⟨hx, nofun⟩
  | cons y t ih =>
    intro x hx
    obtain ⟨hclosed, hrest⟩ := ih (m.closeSession y.id) x hx
    obtain ⟨hopen, hy⟩ := List.mem_filter.1 hclosed
    exact ⟨hopen, List.forall_mem_cons.2 ⟨of_decide_eq_true hy, hrest⟩⟩

theorem Module.closeSessions_sessions : m.closeSessions.dcp.sessions = [] :=
  List.eq_nil_iff_forall_not_mem.2 fun x hx =>
    have ⟨hopen, hclosed⟩ := m.closeEach_sessions m.dcp.sessions x hx
    hclosed x hopen rfl

/-- A port that dies moves ports and free values, and journals its tone. -/
theorem Module.portDead_only (p : Nat) :
    JournalOnly { m with ports := (m.portDead p).ports, free := (m.portDead p).free } (m.portDead p) :=
  Module.toneChange_only _ p .dead

theorem Module.portsDead_dcp (f : Nat → Bool) : (m.portsDead f).dcp = m.dcp := by
  refine List.foldlRecOn (motive := fun n : Module => n.dcp = m.dcp) _ _ rfl fun n hn p _ => ?_
  split
  · exact ((n.portDead_only p).field Module.dcp fun _ _ _ _ => rfl).trans hn
  · exact hn

end

/-! ### The entry goes on (R165, R166) -/

section
variable {m : Module}

theorem Module.sleep_waits (h : m.entryWaits = true) : m.sleep = m := if_pos (.inr h)

/-- DORMANT_ENTER on every ring. -/
def Module.sendDormant (m : Module) : Module := m.cfg.rings.foldl (fun m r => m.bcast r 0x50 m.dormantPayload) m

theorem Module.sendDormant_sends (m : Module) : SendsOnly m m.sendDormant :=
  .foldl (fun m r => m.bcast_sends r 0x50 _) _ m

theorem Module.sendDormant_left (ha : m.acts = true) : ∀ r ∈ m.cfg.rings, ∀ e ∈ m.servingEnds r,
    LeftEnd m.sendDormant r e.1 (.command 0x50 0 false 0 m.dormantPayload) :=
  m.bcasts_left ha 0x50 (fun _ _ _ => rfl) m.cfg.rings

/-- Of the module the frames move the outbox, and the entry notes the rings they have gone to. -/
theorem Module.sleep_sends (hp : m.dorm.phase = .entering) (hw : m.entryWaits = false) (hn : m.dorm.ringsEntered = [])
    (hr : m.cfg.rings ≠ []) : m.sleep = { m with
      dorm := { m.dorm with ringsEntered := m.cfg.rings }, outbox := m.sendDormant.outbox } := by
  have hstep : m.sleep = { m.sendDormant with
      dorm := { m.sendDormant.dorm with ringsEntered := m.sendDormant.cfg.rings } } := by
    rw [Module.sleep, if_neg (by simp [hp, hw]), if_pos ⟨hn, hr⟩]
    rfl
  rw [hstep, m.sendDormant_sends.keeps]
  rfl

theorem Module.sleep_left (hp : m.dorm.phase = .entering) (hw : m.entryWaits = false) (hn : m.dorm.ringsEntered = [])
    (ha : m.acts = true) : ∀ r ∈ m.cfg.rings, ∀ e ∈ m.servingEnds r,
      LeftEnd m.sleep r e.1 (.command 0x50 0 false 0 m.dormantPayload) := by
  intro r hr
  have hleft := Module.sendDormant_left ha r hr
  rw [m.sendDormant_sends.keeps] at hleft
  rw [Module.sleep_sends hp hw hn (List.ne_nil_of_mem hr)]
  exact hleft

theorem Module.sleep_ends (hp : m.dorm.phase = .entering) (hw : m.entryWaits = false)
    (h : m.dorm.ringsEntered ≠ [] ∨ m.cfg.rings = []) : m.sleep.dorm.phase = .dormant ∧ m.sleep.sweep.running = false ∧
      m.sleep.sw.suspended = true ∧ m.sleep.dcp.sessions = [] := by
  have hsent : ¬ (m.dorm.ringsEntered = [] ∧ m.cfg.rings ≠ []) := fun ⟨hn, hr⟩ => h.elim (· hn) hr
  rw [Module.sleep, if_neg (by simp [hp, hw]), if_neg hsent]
  refine ⟨rfl, rfl, rfl, ?_⟩
  dsimp only
  rw [Module.portsDead_dcp, Module.closeSessions_sessions]

/-! ### A wake source (R168 to R170) -/

theorem Module.wakeSource_dormant (hr : m.runs = true) (hp : m.dorm.phase = .dormant) : m.wakeSource = m.wake false := by
  simp [Module.wakeSource, hr, hp]

theorem Module.wakeSource_entering (hr : m.runs = true) (hp : m.dorm.phase = .entering) :
    m.wakeSource = m.abortDormant := by
  simp [Module.wakeSource, hr, hp]

theorem Module.wakeSource_awake (hr : m.runs = true) (hp : m.dorm.phase = .awake ∨ m.dorm.phase = .waking) :
    m.wakeSource = { m with dorm := { m.dorm with survey := false } } := by
  rcases hp with hp | hp <;> simp [Module.wakeSource, hr, hp]

end

/-! ### The commands -/

section
variable {s : State}

theorem exec_dormantWakeRing (p : Nat) : exec (.dormantWakeRing p) s = .next { s with
    m := if s.m.portOn p then s.m.wakeSource else s.m } := rfl

theorem exec_pcsDcReadyRise (hr : s.m.runs = true) : exec .pcsDcReadyRise s = .next { s with
    m := (Module.wakeSource { s.m with sup := { s.m.sup with dcReady := true } }).scarabRun } := by
  have hon : s.m.sup.phase = .on := (of_decide_eq_true hr).1
  show execPcsDcReadyRise s = _
  rw [execPcsDcReadyRise, onModule, if_pos hon]

theorem exec_pairLaneWake (hr : s.m.runs = true) (hpair : s.m.isPair = true) (hp : s.m.dorm.phase = .dormant) :
    exec .pairLaneWake s = .next { s with m := s.m.wake false } := by
  show execPairLaneWake s = _
  simp [execPairLaneWake, onModule, hr, hpair, hp]

theorem exec_pairLaneWake_idle (hp : s.m.dorm.phase ≠ .dormant) : exec .pairLaneWake s = .next s := by
  show execPairLaneWake s = _
  simp [execPairLaneWake, onModule, hp]

theorem exec_dormantSurveyExpire (hr : s.m.runs = true) (hp : s.m.dorm.phase = .dormant)
    (hh : s.m.cfg.dorm.surveyH ≠ 0) : exec .dormantSurveyExpire s = .next { s with m := s.m.wake true } := by
  show execDormantSurveyExpire s = _
  simp [execDormantSurveyExpire, onModule, hr, hp, hh]

theorem exec_dormantSurveyExpire_idle (hp : s.m.dorm.phase ≠ .dormant) : exec .dormantSurveyExpire s = .next s := by
  show execDormantSurveyExpire s = _
  simp [execDormantSurveyExpire, onModule, hp]

/-- DOMAIN.WAKE with both numbers is a wake source for a module that is not awake for good (R382). -/
theorem exec_domainWake_matching (hr : s.m.runs = true) (hp : s.m.dorm.phase ≠ .awake) :
    exec (.domainWake s.m.sup.serial s.m.dorm.wakeTag) s = .next { s with m := s.m.wakeSource } := by
  show execDomainWake _ _ s = _
  simp [execDomainWake, onModule, hr, hp]

theorem exec_domainWake_wrongTag {tag : Nat} (hr : s.m.runs = true) (hp : s.m.dorm.phase = .dormant)
    (ht : tag ≠ s.m.dorm.wakeTag) : exec (.domainWake s.m.sup.serial tag) s = .next { s with m := s.m.countDcp 4 } := by
  show execDomainWake _ _ s = _
  simp [execDomainWake, onModule, hr, hp, ht]

theorem exec_domainWake_awake (n tag : Nat) (hp : s.m.dorm.phase = .awake) (hs : s.m.dorm.survey = false) :
    exec (.domainWake n tag) s = .next s := by
  show execDomainWake _ _ s = _
  simp [execDomainWake, onModule, hp, hs]

theorem exec_domainWake_other {n : Nat} (tag : Nat) (hn : n ≠ s.m.sup.serial) :
    exec (.domainWake n tag) s = .next s := by
  show execDomainWake _ _ s = _
  simp [execDomainWake, onModule, hn]

end

end Machine

open Machine

/-- Settles O46: every source by what it means in each phase of dormancy, the entry by its two steps, of which the first moves
only what is sent and the rings noted. -/
theorem wakeSources : Obligations.WakeSources := by
  refine fun s hr => ⟨fun m hm => ⟨Module.wakeSource_dormant hm, fun hp => ⟨Module.wakeSource_entering hm hp, rfl, rfl⟩,
    Module.wakeSource_awake hm⟩, fun p hp => ?_, fun p hp => ?_, exec_pcsDcReadyRise hr, exec_pairLaneWake hr,
    fun hp => ⟨exec_pairLaneWake_idle hp, exec_dormantSurveyExpire_idle hp⟩, exec_dormantSurveyExpire hr,
    fun tag hp => ?_, fun tag => exec_domainWake_awake _ tag, fun hp => ?_, fun n tag => exec_domainWake_other tag,
    fun hp => ⟨Module.sleep_waits, fun hw hn hrings => ?_, Module.sleep_ends hp⟩⟩
  · rw [exec_dormantWakeRing, if_pos hp]
  · rw [exec_dormantWakeRing, if_neg (Bool.eq_false_iff.1 hp)]
  · by_cases ht : tag = s.m.dorm.wakeTag
    · rw [if_pos ht, ht, exec_domainWake_matching hr (by simp [hp]), Module.wakeSource_dormant hr hp]
    · rw [if_neg ht, exec_domainWake_wrongTag hr hp ht]
  · rw [exec_domainWake_matching hr (by simp [hp]), Module.wakeSource_entering hr hp]
  · have hsent := Module.sleep_sends hp hw hn hrings
    exact ⟨by rw [hsent], by rw [hsent], Module.sleep_left hp hw hn⟩

end Sys2Proof

/-! ## Domain status, SERVICE, dormancy and restart by command (R168, R375, R383) -/

namespace Sys2Proof

open Machine

/-- A command that may start the module anew boots with what its own effect leaves. -/
theorem boots_of_onBoot {i : Instr} {s : State} {f : Machine.Module → Machine.Module} {n : Machine.Module}
    (he : exec i s = onBoot s f) (hn : f s.m = n) : Boots i s n := by
  subst hn
  exact he

namespace Machine

/-! ### SERVICE and its bays -/

/-- Every bay is DEAD or in SERVICE, as DOMAIN.SERVICE needs (R383). -/
def Module.mayService (m : Module) : Bool :=
  m.cfg.bays.all (fun b => decide ((m.bInst b).state = 0 ∨ (m.bInst b).state = 6))

theorem Module.mayService_iff {m : Module} :
    m.mayService = true ↔ ∀ b ∈ m.cfg.bays, (m.bInst b).state = 0 ∨ (m.bInst b).state = 6 := by
  simp [Module.mayService]

/-- The record of the change is all that SERVICE moves beside itself (log 49). -/
theorem Module.setService_only (m : Module) (on : Bool) :
    JournalOnly { m with dcp := { m.dcp with service := on } } (m.setService on) :=
  Module.jot_only _ _ _ _ _ _ _ _ _ _

theorem Module.setService_service (m : Module) (on : Bool) : (m.setService on).dcp.service = on :=
  (m.setService_only on).field (·.dcp.service) fun _ _ _ _ => rfl

theorem Module.refuse_only (m : Module) (x : Session) (seq op scope id inst hold row : Nat) :
    JournalOnly m (m.refuse x seq op scope id inst hold row).1 := m.jotCommand_only _ _ _ _ _ _ _ _ _

/-! ### The end of the restart delay (R383, log 78) -/

/-- The delay of DOMAIN.RESTART ends: a leader whose partner can take over offers a handover in its place. -/
def Module.restartDue (m : Module) : Module :=
  if m.runs ∧ m.dcp.restart then
    if m.isPair && m.leads && m.partnerReady then
      Module.startHandover { m with dcp := { m.dcp with restart := false }, pair := { m.pair with then_ := 1 } }
    else m.restart
  else m

theorem exec_restartDelayExpire (s : State) : exec .restartDelayExpire s = onBoot s Module.restartDue := rfl

section
variable {m : Module}

theorem Module.restartDue_idle (h : m.dcp.restart = false) : m.restartDue = m := by
  simp [Module.restartDue, h]

theorem Module.restartDue_restarts (hr : m.runs = true) (hd : m.dcp.restart = true)
    (h : m.isPair = false ∨ m.leads = false ∨ m.partnerReady = false) : m.restartDue = m.restart := by
  rw [Module.restartDue, if_pos ⟨hr, hd⟩, if_neg]
  rcases h with h | h | h <;> simp [h]

/-- A leader whose partner can take over, with no handover under way, offers the next point (R351, R353). -/
theorem Module.startHandover_offers (ha : m.acts = true) (hp : m.partnerReady = true) (ho : m.pair.offered = none)
    (hacc : m.pair.accepted = none) : m.startHandover = { m with
      pair := { m.pair with wantHandover := true, offered := some m.nextHandover }
      outbox := .pairHandover 0 m.nextHandover :: m.outbox } := by
  have hmay : (m.acts && m.partnerReady && m.pair.offered.isNone && m.pair.accepted.isNone) = true := by
    simp [ha, hp, ho, hacc]
  exact if_pos hmay

theorem Module.acts_leads (h : m.acts = true) : m.leads = true := (Bool.and_eq_true_iff.1 h).1

theorem Module.restartDue_offers (hr : m.runs = true) (hd : m.dcp.restart = true) (hpair : m.isPair = true)
    (ha : m.acts = true) (hp : m.partnerReady = true) (ho : m.pair.offered = none) (hacc : m.pair.accepted = none) :
    m.restartDue = { m with
      dcp := { m.dcp with restart := false }
      pair := { m.pair with then_ := 1, wantHandover := true, offered := some m.nextHandover }
      outbox := .pairHandover 0 m.nextHandover :: m.outbox } := by
  rw [Module.restartDue, if_pos ⟨hr, hd⟩, if_pos (by simp [hpair, Module.acts_leads ha, hp])]
  exact Module.startHandover_offers
    (m := { m with dcp := { m.dcp with restart := false }, pair := { m.pair with then_ := 1 } }) ha hp ho hacc

end

end Machine

section
variable {m n : Machine.Module}

theorem SessOnly.mayService (h : SessOnly m n) : n.mayService = m.mayService :=
  h.field Module.mayService fun _ _ _ _ _ _ _ => rfl

theorem SessOnly.mayDormant (h : SessOnly m n) : n.mayDormant = m.mayDormant :=
  h.field Module.mayDormant fun _ _ _ _ _ _ _ => rfl

end

/-! ### The requests -/

section
variable {s : State} {req : DcpReq} {x : Session}

theorem domainStatus_replies (h : Served s.m x req 0x0100 0) : Replies (.domainStatus req) s x req 0x0100
    (dcpTaken s.m x req) stOk 0 (dcpTaken s.m x req).recStatus :=
  replies_inRange rfl h (by decide) rfl rfl

theorem domainService_replies (h : Served s.m x req 0x0101 0) (hb : s.m.mayService = true) :
    Replies (.domainService req) s x req 0x0101 ((dcpTaken s.m x req).setService true) stOk 0
      (((dcpTaken s.m x req).setService true).cmdResult scDomain 0xFFFF 0xFF 0 0xFFFF) :=
  replies_inRange rfl h (by decide) rfl (if_pos (h.only.mayService.trans hb))

theorem domainService_refused (h : Served s.m x req 0x0101 0) (hb : s.m.mayService ≠ true) :
    Replies (.domainService req) s x req 0x0101
      ((dcpTaken s.m x req).refuse (dcpSession x req) req.seq 0x0101 scDomain 0xFFFF 0xFF 0 0xFFFF).1 stStateReject 0
      ((dcpTaken s.m x req).cmdResult scDomain 0xFFFF 0xFF 0 0xFFFF) :=
  replies_inRange rfl h (by decide) rfl (if_neg fun hall => hb (h.only.mayService.symm.trans hall))

theorem domainResume_replies (h : Served s.m x req 0x0102 0) : Replies (.domainResume req) s x req 0x0102
    ((dcpTaken s.m x req).setService false) stOk 0
    (((dcpTaken s.m x req).setService false).cmdResult scDomain 0xFFFF 0xFF 0 0xFFFF) :=
  replies_inRange rfl h (by decide) rfl rfl

theorem domainDormant_replies {tag : Nat} (ht : tag < 2 ^ 128) (h : Served s.m x req 0x0103 16)
    (hd : s.m.mayDormant = true) {k : Machine.Module}
    (hk : k = ((dcpTaken s.m x req).clearAll .rgi cDormantWorkerFault).enterDormant tag) :
    Replies (.domainDormant req tag) s x req 0x0103 k stOk 0 (k.cmdResult scDomain 0xFFFF 0xFF 0 0xFFFF) := by
  subst hk
  exact replies_inRange rfl h (by decide) (decide_eq_true ht) (if_pos (h.only.mayDormant.trans hd))

theorem domainRestart_replies {d : Nat} (hd : d ≤ 10000) (h : Served s.m x req 0x0104 4) :
    Replies (.domainRestart req d) s x req 0x0104
      { dcpTaken s.m x req with dcp := { (dcpTaken s.m x req).dcp with restart := true } } stOk 0 [] :=
  replies_inRange rfl h (by decide) (decide_eq_true hd) rfl

end

/-- Settles O50: each request by its own effect on the module that has taken it, and the end of the restart delay by what it
leaves: a boot, an offered handover that keeps the boot number, or nothing. -/
theorem domainCommands : Obligations.DomainCommands := by
  refine fun s req => ⟨fun x => ?_, fun hr hd => ⟨fun h => ?_, fun hpair ha hp ho hacc => ?_⟩, fun hd => ?_⟩
  · refine ⟨domainStatus_replies, fun h => ⟨fun hb => ?_, fun ⟨b, hb, h0, h6⟩ => ?_⟩, fun h => ?_, fun tag ht h hd => ?_,
      fun d hd h => domainRestart_replies hd h⟩
    · exact ⟨domainService_replies h (Module.mayService_iff.2 hb), Module.setService_service _ _,
        Module.setService_only _ _⟩
    · have hbays : s.m.mayService ≠ true := fun hall => (Module.mayService_iff.1 hall b hb).elim h0 h6
      exact ⟨_, Module.refuse_only _ _ _ _ _ _ _ _ _, domainService_refused h hbays⟩
    · exact ⟨domainResume_replies h, Module.setService_service _ _⟩
    · exact ⟨_, rfl, domainDormant_replies ht h hd rfl⟩
  · exact boots_of_onBoot (exec_restartDelayExpire s) (Module.restartDue_restarts hr hd h)
  · have hdue := Module.restartDue_offers hr hd hpair ha hp ho hacc
    refine ⟨_, answers_of_onBoot (exec_restartDelayExpire s) ?_, ?_⟩
    · rw [hdue]
    · simp only [hdue, and_self]
  · have hsame := Module.restartDue_idle hd
    rw [exec_restartDelayExpire, onBoot, hsame, if_pos rfl]
    rfl

end Sys2Proof

/-! ## Mirror rounds and capacity records of Caldera (R193, R217, R218, R220) -/

namespace Sys2Proof

open Machine

/-- What a step of a fold establishes and the others keep holds at its end. `I` is what every step may lean on. -/
theorem foldl_establishes {α β : Type} {g : β → α → β} {I P : β → Prop} {l : List α} {x : α} (hx : x ∈ l) {b : β}
    (hb : I b) (hI : ∀ b y, I b → I (g b y)) (hset : ∀ b, I b → P (g b x)) (hkeep : ∀ b y, I b → P b → P (g b y)) :
    P (l.foldl g b) := by
  obtain ⟨l₁, l₂, rfl⟩ := List.append_of_mem hx
  rw [List.foldl_append, List.foldl_cons]
  have hbefore : I (l₁.foldl g b) := List.foldlRecOn l₁ g hb fun b hb y _ => hI b y hb
  have hafter : I (l₂.foldl g (g (l₁.foldl g b) x)) ∧ P (l₂.foldl g (g (l₁.foldl g b) x)) :=
    List.foldlRecOn (motive := fun b => I b ∧ P b) l₂ g ⟨hI _ x hbefore, hset _ hbefore⟩
      fun b ⟨hi, hp⟩ y _ => ⟨hI b y hi, hkeep b y hi hp⟩
  exact hafter.2

/-- Of the module only words of the charge mirror have moved. -/
def ChargeWordsOnly (m n : Module) : Prop :=
  n = { m with cal := { m.cal with charge := { m.cal.charge with
    cells := n.cal.charge.cells, strs := n.cal.charge.strs, bays := n.cal.charge.bays } } }

section
variable {m n k : Module}

theorem ChargeWordsOnly.refl (m : Module) : ChargeWordsOnly m m := rfl

theorem ChargeWordsOnly.trans (h : ChargeWordsOnly m n) (g : ChargeWordsOnly n k) : ChargeWordsOnly m k := by
  unfold ChargeWordsOnly at h g ⊢
  rw [g, h]

theorem ChargeWordsOnly.cell (h : ChargeWordsOnly m n) : n.cell = m.cell := (congrArg Module.cell h).trans rfl

theorem ChargeWordsOnly.mirCell (h : ChargeWordsOnly m n) : n.mirCell = m.mirCell :=
  (congrArg Module.mirCell h).trans rfl

theorem ChargeWordsOnly.mirStr (h : ChargeWordsOnly m n) : n.mirStr = m.mirStr := (congrArg Module.mirStr h).trans rfl

theorem ChargeWordsOnly.seq (h : ChargeWordsOnly m n) : n.cal.charge.seq = m.cal.charge.seq :=
  (congrArg (fun k : Module => k.cal.charge.seq) h).trans rfl

end

namespace Machine

/-! ### The charge mirror (R193) -/

section
variable {m : Module} {n : Nat}

/-- A cell that waits for its first base keeps its old word (log 59). -/
theorem Module.writeWord_waiting {e : Nat} (hw : waiting (m.cell e) = true) : m.writeWord (0, e) = m := by
  simp [Module.writeWord, hw]

theorem Module.writeWord_cell {e : Nat} (hw : waiting (m.cell e) = false) : m.writeWord (0, e) = { m with
    cal := { m.cal with charge := { m.cal.charge with
      cells := put m.cal.charge.cells e (m.mirCell (m.cal.charge.seq + 1) e).word } } } := by
  simp [Module.writeWord, hw]

theorem Module.writeWord_only (m : Module) (x : Nat × Nat) : ChargeWordsOnly m (m.writeWord x) := by
  match x with
  | (0, e) =>
    cases hw : waiting (m.cell e) with
    | true => rw [Module.writeWord_waiting hw]; exact .refl m
    | false => rw [Module.writeWord_cell hw]; rfl
  | (1, _) => rfl
  | (_ + 2, _) => rfl

theorem Module.writeWord_cells (m : Module) (x : Nat × Nat) (e : Nat) : look 0 (m.writeWord x).cal.charge.cells e =
    if x = (0, e) ∧ waiting (m.cell e) = false then (m.mirCell (m.cal.charge.seq + 1) e).word
    else look 0 m.cal.charge.cells e := by
  match x with
  | (0, i) =>
    cases hw : waiting (m.cell i) with
    | true =>
      rw [Module.writeWord_waiting hw, if_neg]
      rintro ⟨⟨⟩, hbased⟩
      exact absurd hbased (by simp [hw])
    | false =>
      rw [Module.writeWord_cell hw]
      by_cases hi : i = e
      · subst hi; simp [hw]
      · simp [hi]
  | (1, _) => simp [Module.writeWord]
  | (_ + 2, _) => simp [Module.writeWord]

theorem Module.writeWord_strs (m : Module) (x : Nat × Nat) (i : Nat) : look 0 (m.writeWord x).cal.charge.strs i =
    if x = (1, i) then (m.mirStr (m.cal.charge.seq + 1) i).word else look 0 m.cal.charge.strs i := by
  match x with
  | (0, e) =>
    cases hw : waiting (m.cell e) with
    | true => simp [Module.writeWord_waiting hw]
    | false => simp [Module.writeWord_cell hw]
  | (1, j) => by_cases hj : j = i <;> simp [Module.writeWord, hj]
  | (_ + 2, _) => simp [Module.writeWord]

theorem Module.writeWords_only (l : List (Nat × Nat)) (m : Module) : ChargeWordsOnly m (l.foldl Module.writeWord m) :=
  List.foldlRecOn (motive := ChargeWordsOnly m) l _ (.refl m) fun k hk x _ => hk.trans (k.writeWord_only x)

theorem Module.writeWords_cells {l : List (Nat × Nat)} {e : Nat} (hx : (0, e) ∈ l) (hw : waiting (m.cell e) = false) :
    look 0 (l.foldl Module.writeWord m).cal.charge.cells e = (m.mirCell (m.cal.charge.seq + 1) e).word := by
  refine foldl_establishes (I := ChargeWordsOnly m)
    (P := fun k => look 0 k.cal.charge.cells e = (m.mirCell (m.cal.charge.seq + 1) e).word)
    hx (.refl m) (fun k x hk => hk.trans (k.writeWord_only x)) (fun k hk => ?_) fun k x hk hP => ?_
  · rw [Module.writeWord_cells, hk.cell, hk.mirCell, hk.seq, if_pos ⟨rfl, hw⟩]
  · rw [Module.writeWord_cells, hk.mirCell, hk.seq, hP, ite_self]

theorem Module.writeWords_strs {l : List (Nat × Nat)} {i : Nat} (hx : (1, i) ∈ l) :
    look 0 (l.foldl Module.writeWord m).cal.charge.strs i = (m.mirStr (m.cal.charge.seq + 1) i).word := by
  refine foldl_establishes (I := ChargeWordsOnly m)
    (P := fun k => look 0 k.cal.charge.strs i = (m.mirStr (m.cal.charge.seq + 1) i).word)
    hx (.refl m) (fun k x hk => hk.trans (k.writeWord_only x)) (fun k hk => ?_) fun k x hk hP => ?_
  · rw [Module.writeWord_strs, hk.mirStr, hk.seq, if_pos rfl]
  · rw [Module.writeWord_strs, hk.mirStr, hk.seq, hP, ite_self]

/-- The module after the words of a charge round that a millisecond writes. -/
def Module.roundWords (m : Module) (n : Nat) : Module :=
  ((m.chargeWords.drop n).take wordsPerMs).foldl Module.writeWord m

/-- The charge mirror after those words: with the round's next place, or with its header. -/
def Module.roundMirror (m : Module) (n : Nat) : ChargeMirror :=
  let k := m.roundWords n
  let h := k.cal.charge
  if n + wordsPerMs < m.chargeWords.length then { h with round := some (n + wordsPerMs) }
  else { h with setId := k.sets.active.setId, seq := h.seq + 1, plant := k.plant, round := none }

theorem Module.roundMirror_cells (m : Module) (n : Nat) :
    (m.roundMirror n).cells = (m.roundWords n).cal.charge.cells := by
  unfold Module.roundMirror
  dsimp only
  split <;> rfl

theorem Module.roundMirror_strs (m : Module) (n : Nat) : (m.roundMirror n).strs = (m.roundWords n).cal.charge.strs := by
  unfold Module.roundMirror
  dsimp only
  split <;> rfl

theorem Module.roundWords_only (m : Module) (n : Nat) : ChargeWordsOnly m (m.roundWords n) := Module.writeWords_only _ m

/-- Before its last words a round leaves the header as it was. -/
theorem Module.roundMirror_next (h : n + wordsPerMs < m.chargeWords.length) :
    (m.roundMirror n).round = some (n + wordsPerMs) ∧ (m.roundMirror n).seq = m.cal.charge.seq ∧
      (m.roundMirror n).setId = m.cal.charge.setId ∧ (m.roundMirror n).plant = m.cal.charge.plant := by
  rw [Module.roundMirror, if_pos h, m.roundWords_only n]
  exact ⟨rfl, rfl, rfl, rfl⟩

theorem Module.roundMirror_last (h : m.chargeWords.length ≤ n + wordsPerMs) :
    (m.roundMirror n).round = none ∧ (m.roundMirror n).seq = m.cal.charge.seq + 1 ∧
      (m.roundMirror n).setId = m.sets.active.setId ∧ (m.roundMirror n).plant = m.plant := by
  rw [Module.roundMirror, if_neg h.not_gt, m.roundWords_only n]
  exact ⟨rfl, rfl, rfl, rfl⟩

theorem Module.chargeRound_goesOn (hr : m.cal.charge.round = some n) (hc : m.calOk = true)
    (hs : m.cal.charge.stopped = false) (hm : m.mayMirror = true) :
    m.chargeRound = { m with cal := { m.cal with charge := m.roundMirror n } } := by
  refine Eq.trans (?_ : _ = { m.roundWords n with cal := { (m.roundWords n).cal with charge := m.roundMirror n } }) ?_
  · unfold Module.chargeRound
    simp only [hr]
    rw [if_neg (by simp [hc]), if_neg (by simp [hs, hm])]
    rfl
  · rw [m.roundWords_only n]

theorem Module.chargeRound_halts (hr : m.cal.charge.round = some n) (hc : m.calOk = false) :
    m.chargeRound = { m with cal := { m.cal with charge := { m.cal.charge with stopped := true } } } := by
  simp [Module.chargeRound, hr, hc]

/-! ### The impedance mirror (R220) -/

/-- The impedance words after those of a round that a millisecond writes. -/
def Module.roundImp (m : Module) (n : Nat) : List (Nat × Nat) :=
  (((m.cfg.channels.map (fun x => x.1)).drop n).take wordsPerMs).foldl
    (fun l e => put l e (m.mirImp (m.cal.impSeq + 1) e).word) m.cal.imp

theorem Module.impedanceRound_goesOn (hr : m.cal.impRound = some n) (hc : m.calOk = true)
    (hs : m.cal.impStopped = false) (hm : m.mayMirror = true) : m.impedanceRound = { m with
      cal := if n + wordsPerMs < m.cfg.channels.length then
          { m.cal with imp := m.roundImp n, impRound := some (n + wordsPerMs) }
        else { m.cal with
          imp := m.roundImp n, impRound := none, impSet := m.sets.active.setId, impSeq := m.cal.impSeq + 1 } } := by
  unfold Module.impedanceRound
  simp only [hr]
  rw [if_neg (by simp [hc]), if_neg (by simp [hs, hm]), List.length_map]
  split <;> rfl

theorem Module.roundImp_word {x : Nat × ChannelEntry} (hx : x ∈ (m.cfg.channels.drop n).take wordsPerMs) :
    look 0 (m.roundImp n) x.1 = (m.mirImp (m.cal.impSeq + 1) x.1).word := by
  have hmem : x.1 ∈ ((m.cfg.channels.map (fun x => x.1)).drop n).take wordsPerMs := by
    rw [← List.map_drop, ← List.map_take]
    exact List.mem_map_of_mem hx
  refine foldl_establishes (I := fun _ => True)
    (P := fun l => look 0 l x.1 = (m.mirImp (m.cal.impSeq + 1) x.1).word)
    hmem trivial (fun _ _ _ => trivial) (fun l _ => look_put_same _ _ _ _) fun l e _ hP => ?_
  by_cases he : e = x.1
  · rw [he, look_put_same]
  · rw [look_put_other _ _ _ _ _ he, hP]

end

/-! ### The rounds that begin -/

section
variable {s : State}

theorem exec_chargeMirrorRound : exec .chargeMirrorRound s = .next { s with
    m := if s.m.mayMirror && s.m.cal.charge.due then s.m.beginCharge false else s.m } := rfl

theorem exec_impedanceMirrorRound : exec .impedanceMirrorRound s = .next { s with
    m := if s.m.mayMirror && s.m.cal.impDue then s.m.beginImpedance false else s.m } := rfl

theorem exec_chargeMirrorRound_idle (h : s.m.mayMirror = false ∨ s.m.cal.charge.due = false) :
    exec .chargeMirrorRound s = .next s := by
  rw [exec_chargeMirrorRound, if_neg (by rcases h with h | h <;> simp [h])]

theorem exec_impedanceMirrorRound_idle (h : s.m.mayMirror = false ∨ s.m.cal.impDue = false) :
    exec .impedanceMirrorRound s = .next s := by
  rw [exec_impedanceMirrorRound, if_neg (by rcases h with h | h <;> simp [h])]

/-- The write stop forbids every round (R193). -/
theorem Module.mayMirror_stopped {m : Module} (h : m.calOk = false) : m.mayMirror = false := by
  simp [Module.mayMirror, h]

/-! ### Capacity records (R217, R218) -/

theorem exec_capacityRecordWrite {e : Nat} (hr : s.m.runs = true) (hu : s.m.up .mgi = true) (hc : s.m.calOk = true)
    (he : s.m.cal.capWait.find? s.m.capReady = some e) :
    exec .capacityRecordWrite s = .next { s with m := s.m.writeCapacity e } := by
  show execCapacityRecordWrite s = _
  simp [execCapacityRecordWrite, onModule, hr, hu, hc, he]

theorem exec_capacityRecordWrite_idle (h : s.m.calOk = false ∨ s.m.cal.capWait.find? s.m.capReady = none) :
    exec .capacityRecordWrite s = .next s := by
  show execCapacityRecordWrite s = _
  rcases h with h | h <;> simp [execCapacityRecordWrite, onModule, h]

end

section
variable (m : Module) (e : Nat)

theorem Module.writeCapacity_capA : (m.writeCapacity e).cal.capA = put m.cal.capA e (m.capRecord e).bytes := rfl

theorem Module.writeCapacity_capB : (m.writeCapacity e).cal.capB = put m.cal.capB e (m.capRecord e).bytes := rfl

theorem Module.not_mem_capWait_writeCapacity : e ∉ (m.writeCapacity e).cal.capWait :=
  fun h => ((m.mem_capWait_writeCapacity e e).1 h).2 rfl

theorem Module.not_mem_capExempt_writeCapacity : e ∉ (m.writeCapacity e).cal.capExempt :=
  fun h => ((mem_dropFrom _ _ _).1 h).2 rfl

theorem Module.writeCapacity_cell : (m.writeCapacity e).cell e = { m.cell e with writePending := false } :=
  look_put_same _ _ _ _

theorem Module.writeCapacity_cell_other {e' : Nat} (h : e' ≠ e) : (m.writeCapacity e).cell e' = m.cell e' :=
  look_put_other _ _ _ _ _ h.symm

end

end Machine

/-- Settles O41: each round by the millisecond that it runs in, whose words the fold's own steps establish, and the record by
the two copies that its write puts. -/
theorem calderaRounds : Obligations.CalderaRounds := by
  refine fun s => ⟨fun hm hd => ?_, fun hm hd => ?_, fun hd => exec_chargeMirrorRound_idle (.inr hd),
    fun hd => exec_impedanceMirrorRound_idle (.inr hd), fun m n hr hc hs hm => ?_,
    fun m n hr hc => Module.chargeRound_halts hr hc, fun m n hr hc hs hm => ?_, fun e hr hu hc he => ?_,
    fun he => exec_capacityRecordWrite_idle (.inr he), fun hc => ?_⟩
  · rw [exec_chargeMirrorRound, hm, hd, Bool.and_true, if_pos rfl]
    rfl
  · rw [exec_impedanceMirrorRound, hm, hd, Bool.and_true, if_pos rfl]
    rfl
  · refine ⟨m.roundMirror n, Module.chargeRound_goesOn hr hc hs hm, ?_, Module.roundMirror_next, Module.roundMirror_last⟩
    rintro ⟨kind, i⟩ hx
    refine ⟨?_, ?_⟩
    · rintro rfl hw
      rw [Module.roundMirror_cells]
      exact Module.writeWords_cells hx hw
    · rintro rfl
      rw [Module.roundMirror_strs]
      exact Module.writeWords_strs hx
  · refine ⟨_, Module.impedanceRound_goesOn hr hc hs hm, fun x hx => ?_, fun hle => ?_⟩
    · refine Eq.trans ?_ (Module.roundImp_word hx)
      split <;> rfl
    · rw [if_neg hle.not_gt]
  · refine ⟨_, ⟨exec_capacityRecordWrite hr hu hc he, rfl, rfl⟩, ?_, ?_, s.m.not_mem_capWait_writeCapacity e,
      s.m.not_mem_capExempt_writeCapacity e, s.m.writeCapacity_cell e, fun e' hne => ⟨?_, ?_, ?_⟩, rfl⟩
    · rw [Module.writeCapacity_capA, look_put_same]
    · rw [Module.writeCapacity_capB, look_put_same]
    · exact s.m.writeCapacity_cell_other e hne
    · rw [Module.writeCapacity_capA, look_put_other _ _ _ _ _ hne.symm]
    · rw [Module.writeCapacity_capB, look_put_other _ _ _ _ _ hne.symm]
  · have hm := Module.mayMirror_stopped hc
    exact ⟨exec_chargeMirrorRound_idle (.inl hm), exec_impedanceMirrorRound_idle (.inl hm),
      exec_capacityRecordWrite_idle (.inl hc)⟩

end Sys2Proof

/-! ## Commands on strings, bays, latches, switches and precharge (R239, R286, R307, R308, R391) -/

namespace Sys2Proof

open Machine

section
variable {m n : Machine.Module}

theorem SessOnly.ackCount (h : SessOnly m n) (row scope inst : Nat) :
    n.ackCount row scope inst = m.ackCount row scope inst :=
  h.field (·.ackCount row scope inst) fun _ _ _ _ _ _ _ => rfl

theorem SessOnly.switchRefuses (h : SessOnly m n) (c : Nat) (on : Bool) : n.switchRefuses c on = m.switchRefuses c on :=
  h.field (·.switchRefuses c on) fun _ _ _ _ _ _ _ => rfl

theorem SessOnly.swiServes (h : SessOnly m n) : n.swiServes = m.swiServes := h.field (·.swiServes) fun _ _ _ _ _ _ _ => rfl

theorem SessOnly.swc (h : SessOnly m n) (c : Nat) : n.swc c = m.swc c := h.field (·.swc c) fun _ _ _ _ _ _ _ => rfl

theorem SessOnly.swCfg (h : SessOnly m n) (c : Nat) : n.swCfg c = m.swCfg c := h.field (·.swCfg c) fun _ _ _ _ _ _ _ => rfl

theorem SessOnly.pre (h : SessOnly m n) : n.pre = m.pre := h.field (·.pre) fun _ _ _ _ _ _ _ => rfl

theorem SessOnly.pch (h : SessOnly m n) (c : Nat) : n.pch c = m.pch c := h.field (·.pch c) fun _ _ _ _ _ _ _ => rfl

theorem SessOnly.pend (h : SessOnly m n) : n.dcp.pend = m.dcp.pend := h.field (·.dcp.pend) fun _ _ _ _ _ _ _ => rfl

theorem JournalOnly.pch (h : JournalOnly m n) (c : Nat) : n.pch c = m.pch c := h.field (·.pch c) fun _ _ _ _ => rfl

/-- The result of a command says nothing of the precharge channels. -/
theorem PreKeeps.cmdResult {c : Nat} (h : PreKeeps c m n) (scope id inst hold row : Nat) :
    n.cmdResult scope id inst hold row = m.cmdResult scope id inst hold row := by
  rw [h.1]
  rfl

end

namespace Machine

/-! ### The acknowledgement of latches (R239) -/

section
variable {rules : List (Nat × Rule)} {row scope inst : Nat}

/-- An acknowledged latch is no longer one that an acknowledgement reaches. -/
theorem ackRec_acked (key : VKey) (v : VRec) : ackRec rules row scope inst (key, { v with acked := true }) = false := by
  simp [ackRec]

/-- Where what is picked is changed to what is not, nothing is left to pick. -/
theorem filter_map_picked {α : Type} {p : α → Bool} {f : α → α} (hf : ∀ x, p (f x) = false) (l : List α) :
    (l.map (fun x => if p x then f x else x)).filter p = [] := by
  simp only [List.filter_eq_nil_iff, List.mem_map]
  rintro _ ⟨x, -, rfl⟩
  by_cases hx : p x = true
  · rw [if_pos hx, hf]
    exact Bool.false_ne_true
  · rwa [if_neg hx]

theorem ackAll_leaves_none (l : List (VKey × VRec)) :
    (ackAll rules row scope inst l).filter (ackRec rules row scope inst) = [] :=
  filter_map_picked (fun x => ackRec_acked x.1 x.2) l

end

section
variable (m : Module) (row scope inst : Nat)

theorem Module.ackRows_keeps : m.ackRows row scope inst = { m with ver := { m.ver with
    recs := (m.ackRows row scope inst).ver.recs, fast := (m.ackRows row scope inst).ver.fast
    outTrips := (m.ackRows row scope inst).ver.outTrips } } := rfl

theorem Module.ackRows_outTrips_leaves_none :
    (m.ackRows row scope inst).ver.outTrips.filter (fun (o : VKey × Rule × Curve × Curve × VRec) =>
      ackRec [(o.1.row, o.2.1)] row scope inst (o.1, o.2.2.2.2)) = [] :=
  filter_map_picked (α := VKey × Rule × Curve × Curve × VRec)
    (p := fun o => ackRec [(o.1.row, o.2.1)] row scope inst (o.1, o.2.2.2.2))
    (fun o => ackRec_acked o.1 o.2.2.2.2) m.ver.outTrips

/-- Nothing is left for the same acknowledgement to reach. -/
theorem Module.ackRows_ackCount : (m.ackRows row scope inst).ackCount row scope inst = 0 := by
  have hrows : ((m.ackRows row scope inst).ver.recs ++ (m.ackRows row scope inst).ver.fast).filter
      (ackRec (m.ackRows row scope inst).cfg.rules row scope inst) = [] := by
    rw [List.filter_append]
    exact List.append_eq_nil_iff.2 ⟨ackAll_leaves_none _, ackAll_leaves_none _⟩
  rw [Module.ackCount, hrows, Module.ackRows_outTrips_leaves_none]
  rfl

end

/-! ### What refuses SWITCH.SET (R307, R308) -/

section
variable {m : Module} {c : Nat}

theorem Module.switchRefuses_unused (h : (m.swCfg c).load = .unused) (on : Bool) : m.switchRefuses c on = true := by
  simp [Module.switchRefuses, h]

theorem Module.switchRefuses_latched (h : (m.swc c).state = 5) : m.switchRefuses c true = true := by
  simp [Module.switchRefuses, h]

theorem Module.switchRefuses_sequenced {b : Nat} (hb : m.seqBay c = some b) (h6 : (m.bInst b).state ≠ 6) (on : Bool) :
    m.switchRefuses c on = true := by
  simp [Module.switchRefuses, hb, h6]

end

/-! ### The reset of a latch (R308) -/

section
variable (ch : SwCh) (m : Module) (n : Nat) (on : Bool)

theorem SwCh.turnedOn_counts : (ch.turnedOn m n).shorts = ch.shorts ∧ (ch.turnedOn m n).cause = ch.cause := by
  unfold SwCh.turnedOn
  split
  · exact ⟨rfl, rfl⟩
  · rw [Module.hold_eq]
    exact ⟨rfl, rfl⟩

/-- A commanded state moves neither the count of shorts nor the cause of a latch. -/
theorem SwCh.applied_counts : (ch.applied m n on).shorts = ch.shorts ∧ (ch.applied m n on).cause = ch.cause := by
  unfold SwCh.applied SwCh.obeyed
  split_ifs
  any_goals exact ⟨rfl, rfl⟩
  exact (ch.told m n on).turnedOn_counts m n

theorem SwCh.applied_off (h : ch.state ≠ 5) : (ch.applied m n false).state = 0 := by
  have htold : (ch.told m n false).state ≠ 5 := h
  have hoff : (ch.told m n false).obeyed m n false = (ch.told m n false).off := by simp [SwCh.obeyed, htold]
  exact congrArg SwCh.state hoff

/-- A channel whose latch and counts are cleared, before its commanded state is applied. -/
def SwCh.unlatched : SwCh := { ch with shorts := 0, cause := 0, state := if ch.state = 5 then 0 else ch.state }

theorem SwCh.unlatched_state_ne : ch.unlatched.state ≠ 5 := by
  by_cases h : ch.state = 5 <;> simp [SwCh.unlatched, h]

theorem Module.turnOn_holds (code scope inst : Nat) : (m.turnOn n).holds code scope inst = m.holds code scope inst := by
  unfold Module.turnOn
  split <;> rfl

/-- A commanded state raises and ends no condition. -/
theorem Module.applySw_holds (code scope inst : Nat) :
    (m.applySw n on).holds code scope inst = m.holds code scope inst := by
  unfold Module.applySw
  dsimp only
  split_ifs
  any_goals rfl
  exact Module.turnOn_holds _ _ _ _ _

/-- The module whose channel has lost its latch and the condition of it. -/
def Module.unlatch : Module := (m.modSw n SwCh.unlatched).clear .swi cSwitchLatched scSwitch n

theorem Module.unlatch_step : SwStep n m (m.unlatch n) (m.swc n).unlatched :=
  (m.modSw_step n _).only (Module.clear_only _ _ _ _ _)

theorem Module.unlatch_holds : (m.unlatch n).holds cSwitchLatched scSwitch n = false :=
  Module.clear_holds _ _ _ _ _ (by decide)

variable {m n}

theorem Module.resetLatch_latched (h : (m.swc n).state = 5) :
    m.resetLatch n = (m.unlatch n).applySw n ((m.unlatch n).swc n).commanded := if_pos (decide_eq_true h)

/-- A latched channel whose latch is reset does what its commanded state says. -/
theorem Module.resetLatch_step (hn : n < m.sw.chans.length) (h : (m.swc n).state = 5) :
    SwStep n m (m.resetLatch n) ((m.swc n).unlatched.applied m n (m.swc n).commanded) := by
  have hstep := m.unlatch_step n
  rw [Module.resetLatch_latched h]
  exact SwStep.next hstep (g := fun y b => y.applied b n y.commanded)
    (Module.applySw_step _ n _ (hn.trans_eq hstep.2.1.symm)) fun y => SwCh.applied_same hstep.1.same y n _

theorem Module.resetLatch_holds (h : (m.swc n).state = 5) :
    (m.resetLatch n).holds cSwitchLatched scSwitch n = false := by
  rw [Module.resetLatch_latched h, Module.applySw_holds, Module.unlatch_holds]

end

/-! ### The reset of a precharge channel (R286) -/

section
variable (m : Module) (c : Nat)

/-- A precharge channel without SHORT verdicts behind it, and out of LOCKOUT. -/
def PreCh.forgiven (ch : PreCh) : PreCh :=
  { ch with shortCount := 0, state := if decide (ch.state = 6) then 0 else ch.state }

/-- The module whose channel is reset; where no change of state sends the run record, it leaves by itself (log 75). -/
def Module.forgive : Module :=
  let k := m.putPch c (m.pch c).forgiven
  if k.isPair && !decide ((m.pch c).state = 6) then k.emit (.pairRun c (k.preRecord c)) else k

theorem Module.forgive_only : JournalOnly (m.putPch c (m.pch c).forgiven) (m.forgive c) := by
  unfold Module.forgive
  dsimp only
  split
  · exact Module.emit_only _ _
  · exact .refl _

variable {m c}

theorem Module.forgive_keeps (h : c < m.pre.length) : PreKeeps c m (m.forgive c) :=
  (m.putPch_spec c _ h).2.2.trans (.of_only (m.forgive_only c))

theorem Module.forgive_pch (h : c < m.pre.length) : (m.forgive c).pch c = (m.pch c).forgiven.withWord m := by
  obtain ⟨-, hpch, -⟩ := m.putPch_spec c (m.pch c).forgiven h
  rw [← hpch, Module.pch, (m.forgive_only c).pre]
  rfl

theorem Module.forgive_shortCount (h : c < m.pre.length) : ((m.forgive c).pch c).shortCount = 0 := by
  rw [Module.forgive_pch h, PreCh.withWord_eq]
  rfl

theorem Module.forgive_state (h : c < m.pre.length) :
    ((m.forgive c).pch c).state = if (m.pch c).state = 6 then 0 else (m.pch c).state := by
  rw [Module.forgive_pch h, PreCh.withWord_eq]
  simp only [PreCh.forgiven, decide_eq_true_eq]

end

/-- The record of a direct command, and its answer ACCEPTED (log 130), move nothing beyond its effect. -/
theorem Module.directDone_only (m : Module) (x : Session) (seq op scope id inst : Nat) :
    JournalOnly m (m.directDone x seq op scope id inst).1 := m.jotCommand_only _ _ _ _ _ _ _ _ _

end Machine

/-! ### The requests -/

/-- The commands on a string or a bay that wait for the next verdict stage, with their codes (Table 15-18). -/
def eventCommands : List ((DcpReq → Nat → Instr) × Nat) :=
  [(.stringClose, 0x0400), (.stringOpen, 0x0401), (.stringService, 0x0402), (.stringRelease, 0x0403),
   (.stringUnlock, 0x0404), (.bayEnergise, 0x0410), (.bayDrain, 0x0411), (.bayService, 0x0412), (.bayRelease, 0x0413)]

theorem eventCommand_queues {p : (DcpReq → Nat → Instr) × Nat} (hp : p ∈ eventCommands) : p.2 ∈ definedOps ∧
    ∀ req id s, exec (p.1 req id) s = onModule s (fun m => m.queueEvent req p.2 id) := by
  fin_cases hp <;> exact ⟨by decide, fun _ _ _ => rfl⟩

section
variable {s : State} {req : DcpReq} {x : Session}

/-- A queued event command as it waits for its delivery (R391). -/
def queuedEvent (m : Machine.Module) (x : Session) (req : DcpReq) (op id : Nat) : PendCmd :=
  { session := x.id, seq := req.seq, opcode := op, ident := id, epoch := (m.isl.getD 0 {}).epoch }

theorem exec_eventCommand {i : Instr} {op id : Nat} (he : exec i s = onModule s (fun m => m.queueEvent req op id))
    (hop : op ∈ definedOps) (h : Served s.m x req op 4) : exec i s = .next { s with m := { dcpTaken s.m x req with
      dcp := { (dcpTaken s.m x req).dcp with
        pend := s.m.dcp.pend ++ [queuedEvent (dcpTaken s.m x req) x req op id] } } } := by
  rw [← h.only.pend]
  exact exec_inRange_silent he h hop rfl rfl

theorem latchAck_replies (row inst : Nat) {scope : Nat} (hs : scope ≤ 4) (h : Served s.m x req 0x0420 8)
    {n : Machine.Module} (hn : n = dcpTaken s.m x req) : Replies (.latchAck req row scope inst) s x req 0x0420
      ((n.ackRows row scope inst).jotDirect (dcpSession x req) req.seq 0x0420 stOk scDomain inst scope row
        ((n.ackRows row scope inst).cmdResult scDomain 0xFFFF 0xFF 0 row)) stOk 0
      (le 2 (sat16 (s.m.ackCount row scope inst))) := by
  subst hn
  refine replies_inRange rfl h (by decide) (decide_eq_true hs) ?_
  simp only [h.only.ackCount]

theorem switchSet_refused {c st : Nat} (hin : c < 24 ∧ st ≤ 1) (h : Served s.m x req 0x0430 4)
    (hr : s.m.switchRefuses c (decide (st = 1)) = true) : Replies (.switchSet req c st) s x req 0x0430
      ((dcpTaken s.m x req).refuse (dcpSession x req) req.seq 0x0430 scSwitch c (s.m.swc c).state 0 0xFFFF).1
      stStateReject 0 ((dcpTaken s.m x req).cmdResult scSwitch c (s.m.swc c).state 0 0xFFFF) := by
  refine replies_inRange rfl h (by decide) (decide_eq_true hin) ?_
  simp only [h.only.switchRefuses, hr, if_true, h.only.swc]
  rfl

theorem switchSet_replies {c st : Nat} (hin : c < 24 ∧ st ≤ 1) (h : Served s.m x req 0x0430 4)
    (hr : s.m.switchRefuses c (decide (st = 1)) = false) (hs : s.m.swiServes = true) (hu : s.m.up .vsi = true)
    {j : Machine.Module}
    (hj : j = ((dcpTaken s.m x req).setImage c (decide (st = 1))).applySw c (decide (st = 1))) :
    Replies (.switchSet req c st) s x req 0x0430
      (j.directDone (dcpSession x req) req.seq 0x0430 scSwitch c (j.swc c).state).1 stAccepted 0
      (j.cmdResult scSwitch c (j.swc c).state 0 0xFFFF) := by
  subst hj
  refine replies_inRange rfl h (by decide) (decide_eq_true hin) ?_
  simp only [h.only.switchRefuses, hr, h.only.swiServes, hs, h.only.up, hu, Bool.false_eq_true, if_false, Bool.and_self,
    if_true]
  rfl

theorem switchReset_replies {c : Nat} (hc : c < 24) (h : Served s.m x req 0x0431 4)
    (hl : (s.m.swCfg c).load ≠ .unused) (hs : s.m.swiServes = true) {j : Machine.Module}
    (hj : j = (dcpTaken s.m x req).resetLatch c) : Replies (.switchReset req c) s x req 0x0431
      (j.directDone (dcpSession x req) req.seq 0x0431 scSwitch c (j.swc c).state).1 stAccepted 0
      (j.cmdResult scSwitch c (j.swc c).state 0 0xFFFF) := by
  subst hj
  have hone : c ≠ 255 := by omega
  refine replies_inRange rfl h (by decide) (decide_eq_true (.inl hc)) ?_
  simp only [h.only.swCfg, hl, and_false, if_false, h.only.swiServes, hs, if_true, hone]
  rfl

theorem prechargeReset_replies {c : Nat} (hc : c < 4) (h : Served s.m x req 0x0440 4) (hu : s.m.up .pwi = true)
    {j : Machine.Module} (hj : j = (dcpTaken s.m x req).forgive c) : Replies (.prechargeReset req c) s x req 0x0440
      (j.directDone (dcpSession x req) req.seq 0x0440 scPrecharge c (j.pch c).state).1 stAccepted 0
      (j.cmdResult scPrecharge c (j.pch c).state 0 0xFFFF) := by
  subst hj
  refine replies_inRange rfl h (by decide) (decide_eq_true hc) ?_
  simp only [h.only.up, hu, if_true]
  rfl

end

/-- Settles O56: each request by its own effect on the module that has taken it, and the effects by what they do to the
latches and the channels that they name. -/
theorem stringBayAndDirectCommands : Obligations.StringBayAndDirectCommands := by
  intro s req x n
  refine ⟨fun p hp id h => ?_, fun row scope inst hscope h => ?_, fun m row scope inst => ?_,
    fun c st hc hst h => ⟨?_, ?_⟩, fun m c => ⟨Module.switchRefuses_unused, Module.switchRefuses_latched,
      fun b => Module.switchRefuses_sequenced⟩,
    fun c hc h hload hserves => ?_, fun m c hc h5 => ?_, fun c hc hlen h hu => ?_⟩
  · obtain ⟨hop, he⟩ := eventCommand_queues hp
    exact ⟨_, rfl, rfl, rfl, rfl, exec_eventCommand (he req id s) hop h⟩
  · exact ⟨_, Module.jot_only _ _ _ _ _ _ _ _ _ _, latchAck_replies row inst hscope h rfl⟩
  · exact ⟨m.ackRows_ackCount row scope inst, m.ackRows_keeps row scope inst⟩
  · exact fun hr => ⟨_, n.refuse_only _ _ _ _ _ _ _ _, switchSet_refused ⟨hc, hst⟩ h hr⟩
  · exact fun hr hs hu => ⟨_, _, rfl, Module.directDone_only _ _ _ _ _ _ _,
      switchSet_replies ⟨hc, hst⟩ h hr hs hu rfl⟩
  · exact ⟨_, Module.directDone_only _ _ _ _ _ _ _, switchReset_replies hc h hload hserves rfl⟩
  · obtain ⟨hkeeps, -, hch⟩ := Module.resetLatch_step hc h5
    obtain ⟨hshorts, hcause⟩ := (m.swc c).unlatched.applied_counts m c (m.swc c).commanded
    rw [hch hc]
    refine ⟨hkeeps, hshorts, hcause, Module.resetLatch_holds h5, fun hoff => ?_⟩
    rw [hoff]
    exact SwCh.applied_off _ _ _ (m.swc c).unlatched_state_ne
  · have hin : c < n.pre.length := hlen.trans_eq (congrArg List.length h.only.pre.symm)
    have hkeeps := Module.forgive_keeps hin
    have hdone := Module.directDone_only (n.forgive c) (dcpSession x req) req.seq 0x0440 scPrecharge c
      ((n.forgive c).pch c).state
    refine ⟨_, hkeeps.trans (.of_only hdone), ?_, ?_, ?_⟩
    · rw [hdone.pch, Module.forgive_shortCount hin]
    · rw [hdone.pch, Module.forgive_state hin, h.only.pch]
    · rw [hdone.pch, ← hkeeps.cmdResult]
      exact prechargeReset_replies hc h hu rfl

end Sys2Proof

/-! ## Strings and bays on the steps of Scarab (R256, R259, R261) -/

namespace Sys2Proof

/-- A string or bay whose step begins on entry `n` at `start`, on the data of `sweep` (R259): nothing of the step before
it stands. -/
def Inst.onEntry (i : Inst) (n start sweep : Nat) : Inst :=
  { i with
    step := some n, issued := false, stepStart := start, stepSweep := sweep, vMatchSweep := none, granted := false
    dzsTrue := false, result := 0, waiting := 0, stepFailed := false, polled := false, fresh := false }

namespace Machine

section
variable (m : Module) (k : InstKey)

/-! ### One string or bay rewritten -/

@[simp] theorem Module.modInst_inst (f : Inst → Inst) : (m.modInst k f).inst k = f (m.inst k) := by
  rw [Module.modInst, Module.setInst_inst, if_pos rfl]

@[simp] theorem Module.modInst_ms (f : Inst → Inst) : (m.modInst k f).ms = m.ms := by cases k <;> rfl

@[simp] theorem Module.detach_inst (k' : InstKey) : (m.detach k).inst k' = m.inst k' := by cases k' <;> rfl

@[simp] theorem Module.detach_ms : (m.detach k).ms = m.ms := rfl

theorem Module.enter_inst (n : Nat) : ∃ sweep, (m.enter k n).inst k = (m.inst k).onEntry n m.ms sweep :=
  ⟨_, m.modInst_inst k _⟩

/-! ### The end of a step (R259) -/

/-- The module whose string or bay leaves its step: a failed DZS step is noted (R271). -/
def Module.leaveStep (ok : Bool) (st : Step) : Module :=
  if ok = false ∧ st.kind = 2 then (m.detach k).modInst k (fun i => { i with dzsFailed := true }) else m.detach k

theorem Module.leaveStep_ms (ok : Bool) (st : Step) : (m.leaveStep k ok st).ms = m.ms := by
  unfold Module.leaveStep
  split <;> simp

theorem Module.leaveStep_state (ok : Bool) (st : Step) : ((m.leaveStep k ok st).inst k).state = (m.inst k).state := by
  unfold Module.leaveStep
  split <;> simp

variable {m k}

theorem Module.advance_inst {n : Nat} (h : (m.inst k).step = some n) (ok : Bool) : ∃ sweep, (m.advance k ok).inst k =
    ((m.leaveStep k ok (look {} (m.seqOf k).steps n)).inst k).onEntry
      (if ok then (look {} (m.seqOf k).steps n).success else (look {} (m.seqOf k).steps n).failure) m.ms sweep := by
  rw [Module.advance, h, ← m.leaveStep_ms k ok (look {} (m.seqOf k).steps n)]
  exact Module.enter_inst _ _ _

/-! ### The step in flight -/

/-- Over the built-in fallback of R254 no step stands. -/
theorem Module.not_illegal_of_standing {st : Step} (h : m.standing k = some st) : (m.inst k).illegal ≠ 2 := by
  intro hi
  cases hs : (m.inst k).step <;> simp [Module.standing, hs, hi] at h

variable {s : State}

/-- A delay ends no step of another kind, and none where no action has been issued. -/
theorem exec_scarabDelayExpire_idle (h : ∀ st, s.m.standing k = some st → st.kind ≠ 6) :
    exec (.scarabDelayExpire k) s = .next s := by
  show execScarabDelayExpire k s = _
  cases hst : s.m.standing k with
  | none => simp [execScarabDelayExpire, onModule, hst]
  | some st => simp [execScarabDelayExpire, onModule, hst, h st hst]

/-- A step without a TIMEOUT does not time out, nor does one whose action has not been issued. -/
theorem exec_scarabStepTimeout_idle (hi : (s.m.inst k).illegal ≠ 2)
    (h : ∀ st, s.m.standing k = some st → st.timeout = 0) : exec (.scarabStepTimeout k) s = .next s := by
  show execScarabStepTimeout k s = _
  cases hst : s.m.standing k with
  | none => simp [execScarabStepTimeout, onModule, hi, hst]
  | some st => simp [execScarabStepTimeout, onModule, hi, hst, h st hst]

variable (hon : s.m.scarabOn = true) (hk : s.m.hasInst k = true)
include hon hk

theorem exec_scarabDelayExpire_delay {st : Step} (hst : s.m.standing k = some st) (h6 : st.kind = 6) :
    exec (.scarabDelayExpire k) s = .next { s with m := (s.m.advance k true).scarabRun } := by
  show execScarabDelayExpire k s = _
  simp [execScarabDelayExpire, onModule, hon, hk, hst, h6]

theorem exec_scarabStepTimeout_fails (hi : (s.m.inst k).illegal ≠ 2) {st : Step} (hst : s.m.standing k = some st)
    (ht : st.timeout ≠ 0) :
    exec (.scarabStepTimeout k) s = .next { s with m := (s.m.advance k false).scarabRun } := by
  show execScarabStepTimeout k s = _
  simp [execScarabStepTimeout, onModule, hon, hk, hi, hst, ht]

theorem exec_scarabStepTimeout_fallback (hi : (s.m.inst k).illegal = 2) :
    exec (.scarabStepTimeout k) s = .next { s with m := (s.m.fallbackEnd k).scarabRun } := by
  show execScarabStepTimeout k s = _
  simp [execScarabStepTimeout, onModule, hon, hk, hi]

end

end Machine

open Machine

/-- Settles O43: the next step by what an entry leaves of the one before, and the two expiries by the step that stands. -/
theorem scarabStepsAdvance : Obligations.ScarabStepsAdvance := by
  refine ⟨fun m k ok n hn => ?_, fun s k hon hk => ⟨fun st => exec_scarabDelayExpire_delay hon hk, fun st hst h6 => ?_,
    fun hi st => exec_scarabStepTimeout_fails hon hk hi, exec_scarabStepTimeout_fallback hon hk, fun st hst h0 => ?_,
    fun hnone => ⟨?_, fun hi => ?_⟩⟩⟩
  · obtain ⟨sweep, he⟩ := Module.advance_inst hn ok
    rw [he]
    exact ⟨rfl, rfl, rfl, rfl, m.leaveStep_state k ok _⟩
  · exact exec_scarabDelayExpire_idle (by simp [hst, h6])
  · exact exec_scarabStepTimeout_idle (Module.not_illegal_of_standing hst) (by simp [hst, h0])
  · exact exec_scarabDelayExpire_idle (by simp [hnone])
  · exact exec_scarabStepTimeout_idle hi (by simp [hnone])

end Sys2Proof

/-! ## The start of a template (R256, R261) -/

namespace Sys2Proof

namespace Machine

section
variable {m : Module} {k : InstKey}

/-- The entry that the sequence table names for an event of a string or bay. -/
def Module.entryOf (m : Module) (k : InstKey) (ev : Nat) : Nat :=
  match k with
  | .str _ => m.cfg.seq.strEntry.getD ev 0xFFFF
  | .bay _ => m.cfg.seq.bayEntry.getD ev 0xFFFF

theorem Module.startTemplate_none {ev : Nat} (h : m.entryOf k ev = 0xFFFF) (ill : Nat) :
    m.startTemplate k ev ill = (m, false) := if_pos h

theorem Module.startTemplate_entry {ev : Nat} (h : m.entryOf k ev ≠ 0xFFFF) (ill : Nat) : m.startTemplate k ev ill =
    (((m.endTemplate k).modInst k (fun i => { i with event := some ev, illegal := ill })).enter k (m.entryOf k ev), true) :=
  if_neg h

theorem Module.startTemplate_inst {ev : Nat} (h : m.entryOf k ev ≠ 0xFFFF) (ill : Nat) : ∃ start sweep,
    (m.startTemplate k ev ill).1.inst k = Inst.onEntry
      { (m.endTemplate k).inst k with event := some ev, illegal := ill } (m.entryOf k ev) start sweep := by
  rw [Module.startTemplate_entry h,
    ← (m.endTemplate k).modInst_inst k (fun i => { i with event := some ev, illegal := ill })]
  exact ⟨_, Module.enter_inst _ _ _⟩

theorem Module.endTemplate_state (m : Module) (k : InstKey) : ((m.endTemplate k).inst k).state = (m.inst k).state := by
  simp [Module.endTemplate]

/-- A template that ends releases its zero hold (R264). -/
theorem Module.endTemplate_zeroHold (m : Module) (k : InstKey) : ((m.endTemplate k).inst k).zeroHold = false := by
  simp [Module.endTemplate]

end

end Machine

open Machine

/-- Settles O45: with an entry, by what ending the template before it and entering the step leave of the string
or bay. -/
theorem templatesStartAtEntry : Obligations.TemplatesStartAtEntry := by
  refine fun m k ev ill => ⟨fun hno => Module.startTemplate_none hno ill, fun hentry => ?_⟩
  obtain ⟨start, sweep, he⟩ := Module.startTemplate_inst hentry ill
  rw [he]
  exact ⟨congrArg Prod.snd (Module.startTemplate_entry hentry ill), rfl, rfl, m.endTemplate_state k,
    m.endTemplate_zeroHold k⟩

end Sys2Proof

/-! ## Timed events and acknowledgements of Scarab (R255, R257, R258, R263, R271) -/

namespace Sys2Proof

namespace Machine

section
variable {s : State} {n b c : Nat}

/-! ### The poll of a DZS-2 (R258) -/

theorem exec_dzsReadPoll : exec (.dzsReadPoll n) s = .next { s with
    m := if s.m.scarabOn && s.m.hasInst (.str n) && s.m.waitsDzs (.str n) then s.m.readDzs n else s.m } := rfl

/-! ### The end of INSERT_WAIT_MAX (R263) -/

theorem exec_insertWaitExpire_waiting {k : Nat} (hon : s.m.scarabOn = true) (hn : s.m.hasInst (.str n) = true)
    (h2 : (s.m.sInst n).state = 2) (hmax : s.m.cfg.seq.insertWaitMax ≠ 0) (hk : (s.m.sInst n).step = some k) :
    exec (.insertWaitExpire n) s = .next { s with
      m := ((s.m.jotDom .vsi eInsertTimeout sevInfo scString n).advance (.str n) false).scarabRun } := by
  show execInsertWaitExpire n s = _
  simp [execInsertWaitExpire, onModule, hon, hn, h2, hmax, hk]

theorem exec_insertWaitExpire_idle (h2 : (s.m.sInst n).state ≠ 2) : exec (.insertWaitExpire n) s = .next s := by
  show execInsertWaitExpire n s = _
  simp [execInsertWaitExpire, onModule, h2]

/-! ### The end of the recover delay (R271) -/

theorem exec_recoverDelayExpire_due (hon : s.m.scarabOn = true) (hn : s.m.hasInst (.str n) = true)
    (h7 : (s.m.sInst n).state = 7) (hstep : (s.m.sInst n).step = none)
    (hf : (s.m.sInst n).faults.length < s.m.cfg.seq.faultLimit) : exec (.recoverDelayExpire n) s = .next { s with
      m := (s.m.deliverAll (.str n) 5).1.scarabRun } := by
  show execRecoverDelayExpire n s = _
  simp [execRecoverDelayExpire, onModule, hon, hn, h7, hstep, hf]

theorem exec_recoverDelayExpire_limit (hf : s.m.cfg.seq.faultLimit ≤ (s.m.sInst n).faults.length) :
    exec (.recoverDelayExpire n) s = .next s := by
  show execRecoverDelayExpire n s = _
  simp [execRecoverDelayExpire, onModule, hf.not_gt]

/-! ### A bay without a string (R255) -/

theorem exec_bayEmptyExpire_empty (hon : s.m.scarabOn = true) (hb : s.m.hasInst (.bay b) = true)
    (hst : (s.m.bInst b).state = 2 ∨ (s.m.bInst b).state = 3) (he : s.m.included b = []) :
    exec (.bayEmptyExpire b) s = .next { s with m := (s.m.deliverAll (.bay b) 1).1.scarabRun } := by
  show execBayEmptyExpire b s = _
  simp [execBayEmptyExpire, onModule, hon, hb, hst, he]

theorem exec_bayEmptyExpire_included (he : s.m.included b ≠ []) : exec (.bayEmptyExpire b) s = .next s := by
  show execBayEmptyExpire b s = _
  simp [execBayEmptyExpire, onModule, he]

/-! ### Acknowledgements (R257) -/

/-- The SWI's answer reaches the SWITCH steps whose operand names the channel. -/
theorem exec_switchCommandAck : exec (.switchCommandAck c) s = .next { s with
    m := if s.m.scarabOn && s.m.swiServes then
        s.m.acked (fun k st => st.kind = 3 &&
          decide ((s.m.cfg.baySwitch.getD (s.m.bayOfKey k) []).getD st.operand 255 = c)) (s.m.swAccepts c)
      else s.m } := rfl

/-- The PWI's answer is taken from its channel and reaches the PRECHARGE steps of the bay. -/
theorem exec_prechargeCommandAck_answered {ok : Bool} (hon : s.m.scarabOn = true) (ha : (s.m.pch c).answer = some ok) :
    exec (.prechargeCommandAck c) s = .next { s with
      m := Module.acked { s.m with pre := modAt s.m.pre c (fun ch => { ch with answer := none }) }
        (fun k st => st.kind = 4 && decide (s.m.bayOfKey k = c)) ok } := by
  show execPrechargeCommandAck c s = _
  simp only [execPrechargeCommandAck, onModule, ha]
  exact congrArg (fun m => Host.Outcome.next { s with m := m }) (if_pos hon)

theorem exec_prechargeCommandAck_idle (ha : (s.m.pch c).answer = none) :
    exec (.prechargeCommandAck c) s = .next s := by
  show execPrechargeCommandAck c s = _
  simp only [execPrechargeCommandAck, onModule, ha]

end

end Machine

open Machine

/-- Settles O44: each timed event and each acknowledgement by its command. -/
theorem scarabTimedEvents : Obligations.ScarabTimedEvents := by
  refine fun s hon => ⟨fun n hn hw => ?_, fun n hn hw => ?_, fun n k hn => exec_insertWaitExpire_waiting hon hn,
    fun n => exec_insertWaitExpire_idle, fun n hn => exec_recoverDelayExpire_due hon hn,
    fun n => exec_recoverDelayExpire_limit, fun b hb => exec_bayEmptyExpire_empty hon hb,
    fun b => exec_bayEmptyExpire_included, fun c hserves => ?_, fun c hserves => ?_,
    fun c ok ha => ⟨_, rfl, exec_prechargeCommandAck_answered hon ha⟩, fun c => exec_prechargeCommandAck_idle⟩
  · rw [exec_dzsReadPoll, if_pos (by simp [hon, hn, hw])]
  · rw [exec_dzsReadPoll, if_neg (by simp [hw])]
  · rw [exec_switchCommandAck, if_pos (by simp [hon, hserves])]
    rfl
  · rw [exec_switchCommandAck, if_neg (by simp [hserves])]

end Sys2Proof

/-! ## Runs and faults of a precharge channel (R283, R284, R286, R288, R290, R291) -/

namespace Sys2Proof

open Machine

/-- Precharge channel `c` goes from `m` to `n` and then stands as `ch` but for its Caldera word (R286); nothing else but
journalling moves. -/
def PreStep (c : Nat) (m n : Module) (ch : PreCh) : Prop :=
  PreKeeps c m n ∧ c < n.pre.length ∧ n.pch c = ch.withWord m

section
variable {m n k : Module} {c : Nat} {ch : PreCh}

/-- What is not of the precharge channels and is not journalling is as it was. -/
theorem PreKeeps.field {α : Type} (f : Module → α) (h : PreKeeps c m n)
    (hf : ∀ m pre al jou outbox, f { m with pre := pre, al := al, jou := jou, outbox := outbox } = f m) : f n = f m := by
  rw [h.1, hf]

theorem PreKeeps.preCfg (h : PreKeeps c m n) (d : Nat) : n.preCfg d = m.preCfg d :=
  h.field (·.preCfg d) fun _ _ _ _ _ => rfl

theorem PreKeeps.now (h : PreKeeps c m n) : n.time.now = m.time.now := h.field (·.time.now) fun _ _ _ _ _ => rfl

theorem PreKeeps.withWord (h : PreKeeps c m n) (ch : PreCh) : ch.withWord n = ch.withWord m :=
  h.field (ch.withWord ·) fun _ _ _ _ _ => rfl

/-- The retry delay left depends on the last SHORT alone of what a channel holds (R286). -/
theorem PreKeeps.preRetryLeft (h : PreKeeps c m n) (hlast : (n.pch c).lastShort = (m.pch c).lastShort)
    (hcount : (n.pch c).shortCount = (m.pch c).shortCount)
    (hplant : (n.pch c).lastShortPlant = (m.pch c).lastShortPlant) : n.preRetryLeft c = m.preRetryLeft c := by
  have hp : n.plant = m.plant := h.field (·.plant) fun _ _ _ _ _ => rfl
  have hboot : n.dcp.bootAt = m.dcp.bootAt := h.field (·.dcp.bootAt) fun _ _ _ _ _ => rfl
  simp only [Module.preRetryLeft, hlast, hcount, hplant, h.preCfg, h.now, hp, hboot]

theorem PreStep.pch_eq (h : PreStep c m n ch) : n.pch c = { ch with stored := (n.pch c).stored } := by
  rw [h.2.2]
  exact ch.withWord_eq m

theorem PreStep.spec (h : PreStep c m n ch) : PreKeeps c m n ∧ n.pch c = { ch with stored := (n.pch c).stored } :=
  ⟨h.1, h.pch_eq⟩

theorem PreStep.only (h : PreStep c m n ch) (g : JournalOnly n k) : PreStep c m k ch :=
  ⟨h.1.trans (.of_only g), h.2.1.trans_eq (congrArg List.length g.pre.symm), (g.pch c).trans h.2.2⟩

theorem PreStep.after (g : PreKeeps c m n) (h : PreStep c n k ch) : PreStep c m k ch :=
  ⟨g.trans h.1, h.2.1, h.2.2.trans (g.withWord ch)⟩

theorem Module.putPch_preStep (h : c < m.pre.length) (ch : PreCh) : PreStep c m (m.putPch c ch) ch := by
  obtain ⟨-, hpch, hkeeps⟩ := m.putPch_spec c ch h
  exact ⟨hkeeps, m.putPch_length c ch h, hpch⟩

end

namespace Machine

/-! ### The beginning of a run (R283, R286) -/

/-- A channel whose run begins. -/
def PreCh.begun (ch : PreCh) (e : PreEntry) (now : Nat) : PreCh :=
  { ch.low with
    disabled := [], fastCount := 0, enabledSync := false, state := preSegment e ch.vTarget ch.vOut, preEn := true
    done := false, probeAt := now, lockRun := 0, missRun := 0
    active := if e.shedEn then (List.range e.phases).take e.minPhases else List.range e.phases
    iSet := if preSegment e ch.vTarget ch.vOut = 1 then preFloor e else 0 }

/-- A channel whose START is accepted (R283). -/
def PreCh.accepted (ch : PreCh) (vTarget : Nat) : PreCh :=
  { ch with vTarget := vTarget, stands := true, done := false, disabled := [], answer := some true }

/-- The beginning of a run reads nothing of the Caldera word, which is written anew. -/
theorem PreCh.begun_withWord (ch : PreCh) (m : Module) (e : PreEntry) (now : Nat) :
    ((ch.withWord m).begun e now).withWord m = (ch.begun e now).withWord m := by
  unfold PreCh.withWord
  split <;> rfl

theorem preSegment_below {e : PreEntry} {v : Nat} {vOut : Int} (h : 100 * vOut < (e.probePct * v : Nat)) :
    preSegment e v vOut = 1 := if_pos (decide_eq_true h)

theorem preSegment_above {e : PreEntry} {v : Nat} {vOut : Int} (h : (e.probePct * v : Nat) ≤ 100 * vOut) :
    preSegment e v vOut = 2 := if_neg (by simpa [preBelow] using h)

section
variable {m : Module} {c v : Nat}

theorem Module.preBegin_step (h : c < m.pre.length) :
    PreStep c m (m.preBegin c) ((m.pch c).begun (m.preCfg c) m.time.now) := Module.putPch_preStep h _

theorem Module.preAnswer_length (h : c < m.pre.length) (ok : Bool) : c < (m.preAnswer c ok).pre.length :=
  h.trans_eq (modAt_length _ _ _).symm

/-- What is put after an answer is all that is left of the channel. -/
theorem Module.preAnswer_putPch_step (h : c < m.pre.length) (ok : Bool) (ch : PreCh) :
    PreStep c m ((m.preAnswer c ok).putPch c ch) ch :=
  .after (.of_mod m c _) (Module.putPch_preStep (Module.preAnswer_length h ok) ch)

/-! ### START (R283, R291) -/

theorem Module.preStart_refused (h : m.preRefusal c v ≠ 0) : JournalOnly (m.preAnswer c false) (m.preStart c v) := by
  simp only [Module.preStart, h, decide_false, ne_eq, not_false_eq_true, if_true]
  exact Module.jot_only _ _ _ _ _ _ _ _ _ _

/-- The module whose channel has taken an accepted START. -/
def Module.preTaken (m : Module) (c v : Nat) : Module := (m.preAnswer c true).putPch c ((m.pch c).accepted v)

theorem Module.preTaken_step (h : c < m.pre.length) : PreStep c m (m.preTaken c v) ((m.pch c).accepted v) :=
  Module.preAnswer_putPch_step h true _

theorem Module.preTaken_retryLeft (h : c < m.pre.length) : (m.preTaken c v).preRetryLeft c = m.preRetryLeft c := by
  have hstep : PreStep c m (m.preTaken c v) _ := Module.preTaken_step h
  apply hstep.1.preRetryLeft <;> rw [hstep.pch_eq] <;> rfl

variable (h : c < m.pre.length) (hok : m.preRefusal c v = 0)
include hok

/-- The course of an accepted START by the state it finds (Table 11-5). -/
theorem Module.preStart_accepted : m.preStart c v =
    if (m.pch c).state = 0 then
      if (m.preTaken c v).preRetryLeft c = 0 then (m.preTaken c v).preBegin c
      else (m.preTaken c v).putPch c { (m.pch c).accepted v with state := 4 }
    else if (m.pch c).state = 2 ∨ (m.pch c).state = 3 then
      (m.preAnswer c true).putPch c { (m.pch c).accepted v with
        state := preSegment (m.preCfg c) v (m.pch c).vOut, probeAt := m.time.now }
    else m.preTaken c v := by
  simp only [Module.preStart, hok]
  rfl

include h

theorem Module.preStart_begins (h0 : (m.pch c).state = 0) (hleft : m.preRetryLeft c = 0) :
    PreStep c m (m.preStart c v) (((m.pch c).accepted v).begun (m.preCfg c) m.time.now) := by
  have htaken : PreStep c m (m.preTaken c v) _ := Module.preTaken_step h
  obtain ⟨hkeeps, hlen, hpch⟩ := htaken
  obtain ⟨hbegin, hlen', hpch'⟩ := Module.preBegin_step hlen
  rw [Module.preStart_accepted hok, if_pos h0, Module.preTaken_retryLeft h, if_pos hleft]
  refine ⟨hkeeps.trans hbegin, hlen', ?_⟩
  rw [hpch', hkeeps.withWord, hpch, hkeeps.preCfg, hkeeps.now, PreCh.begun_withWord]

theorem Module.preStart_waits (h0 : (m.pch c).state = 0) (hleft : 0 < m.preRetryLeft c) :
    PreStep c m (m.preStart c v) { (m.pch c).accepted v with state := 4 } := by
  obtain ⟨hkeeps, hlen, -⟩ := Module.preTaken_step (v := v) h
  rw [Module.preStart_accepted hok, if_pos h0, Module.preTaken_retryLeft h, if_neg hleft.ne']
  exact .after hkeeps (Module.putPch_preStep hlen _)

theorem Module.preStart_retargets (hst : (m.pch c).state = 1 ∨ (m.pch c).state = 4) :
    PreStep c m (m.preStart c v) ((m.pch c).accepted v) := by
  rw [Module.preStart_accepted hok, if_neg (by omega), if_neg (by omega)]
  exact Module.preTaken_step h

theorem Module.preStart_goesOn (hst : (m.pch c).state = 2 ∨ (m.pch c).state = 3) :
    PreStep c m (m.preStart c v) { (m.pch c).accepted v with
      state := preSegment (m.preCfg c) v (m.pch c).vOut, probeAt := m.time.now } := by
  rw [Module.preStart_accepted hok, if_neg (by omega), if_pos hst]
  exact Module.preAnswer_putPch_step h true _

end

/-! ### STOP and the end of the retry delay (R286, R291) -/

section
variable {m : Module} {c : Nat} (h : c < m.pre.length)
include h

theorem Module.preStop_locked (h6 : (m.pch c).state = 6) :
    PreStep c m (m.preStop c) { m.pch c with stands := false, answer := some true } := by
  rw [Module.preStop, if_pos h6]
  exact Module.putPch_preStep h _

theorem Module.preStop_stops (h6 : (m.pch c).state ≠ 6) : PreStep c m (m.preStop c)
    { (m.pch c).low with state := 0, stands := false, done := false, answer := some true } := by
  rw [Module.preStop, if_neg h6]
  exact Module.putPch_preStep h _

end

section
variable {s : State} {c : Nat}

theorem exec_prechargeStart (hu : s.m.up .pwi = true) (hl : s.m.leads = true) (v : Nat) :
    exec (.prechargeStart c v) s = .next { s with m := s.m.preStart c v } := by
  show execPrechargeStart c v s = _
  simp [execPrechargeStart, onModule, hu, hl]

theorem exec_prechargeStop (hu : s.m.up .pwi = true) :
    exec (.prechargeStop c) s = .next { s with m := s.m.preStop c } := by
  show execPrechargeStop c s = _
  simp [execPrechargeStop, onModule, hu]

theorem exec_retryDelayExpire_stands (hu : s.m.up .pwi = true) (hl : s.m.leads = true) (h4 : (s.m.pch c).state = 4)
    (hst : (s.m.pch c).stands = true) (hused : s.m.preUsed c = true) :
    exec (.retryDelayExpire c) s = .next { s with m := s.m.preBegin c } := by
  show execRetryDelayExpire c s = _
  simp [execRetryDelayExpire, onModule, hu, hl, h4, hst, hused]

theorem exec_retryDelayExpire_withdrawn (hu : s.m.up .pwi = true) (hl : s.m.leads = true)
    (h4 : (s.m.pch c).state = 4) (hst : (s.m.pch c).stands = false) :
    exec (.retryDelayExpire c) s = .next { s with m := s.m.putPch c { s.m.pch c with state := 0 } } := by
  show execRetryDelayExpire c s = _
  simp [execRetryDelayExpire, onModule, hu, hl, h4, hst]

end

/-! ### A fault (R286, R290) -/

/-- A channel after a SHORT: it waits for its retry, or is in LOCKOUT once the count passes RETRY_MAX. -/
def PreCh.shorted (ch : PreCh) (e : PreEntry) (now plant : Nat) : PreCh :=
  { ch.low with
    fault := 1, done := false, shortCount := u8 (ch.shortCount + 1)
    state := if ch.state = 6 ∨ e.retryMax < u8 (ch.shortCount + 1) then 6 else 4
    lastShort := some now, lastShortPlant := plant
    before := some (ch.state, ch.shortCount, ch.lastShort, ch.lastShortPlant) }

/-- A channel after another fault, which does not end LOCKOUT, by the model's choice (log 25). -/
def PreCh.faulted (ch : PreCh) (code : Nat) : PreCh :=
  { ch.low with fault := code, done := false, state := if ch.state = 6 then 6 else 5, before := none }

section
variable {m : Module} {c f : Nat}

/-- The module after a SHORT, before LOCKOUT is raised. -/
def Module.preShorted (m : Module) (c : Nat) : Module :=
  (m.putPch c ((m.pch c).shorted (m.preCfg c) m.time.now m.plant)).raise .pwi cPrechargeFault sevWarning scPrecharge c 1

theorem Module.preFault_short : m.preFault c 1 =
    if (m.pch c).state = 6 ∨ (m.preCfg c).retryMax < u8 ((m.pch c).shortCount + 1) then
      (m.preShorted c).raise .pwi cPrechargeLockout sevWarning scPrecharge c (u8 ((m.pch c).shortCount + 1))
    else m.preShorted c := by
  simp only [Module.preFault, Module.preShorted, PreCh.shorted, ← Bool.decide_or, decide_eq_true_eq]
  rfl

theorem Module.preFault_other (hf : f ≠ 1) : m.preFault c f =
    (m.putPch c ((m.pch c).faulted f)).raise .pwi cPrechargeFault sevWarning scPrecharge c f := if_neg hf

/-- The condition of a fault holds, and stands beside the one of LOCKOUT. -/
theorem Module.preFault_holds (m : Module) (c f : Nat) :
    (m.preFault c f).holds cPrechargeFault scPrecharge c = true := by
  by_cases hf : f = 1
  · subst hf
    have hshort : (m.preShorted c).holds cPrechargeFault scPrecharge c = true := Module.raise_holds _ _ _ _ _ _ _ _
    rw [Module.preFault_short]
    split
    · rw [Module.raise_other _ _ _ _ _ _ _ _ _ _ _ (by decide) (by decide), hshort]
    · exact hshort
  · rw [Module.preFault_other hf]
    exact Module.raise_holds _ _ _ _ _ _ _ _

section
variable (h : c < m.pre.length)
include h

theorem Module.preFault_short_step :
    PreStep c m (m.preFault c 1) ((m.pch c).shorted (m.preCfg c) m.time.now m.plant) := by
  have hstep : PreStep c m (m.preShorted c) _ := (Module.putPch_preStep h _).only (Module.raise_only _ _ _ _ _ _ _ _)
  rw [Module.preFault_short]
  split
  · exact hstep.only (Module.raise_only _ _ _ _ _ _ _ _)
  · exact hstep

theorem Module.preFault_other_step (hf : f ≠ 1) : PreStep c m (m.preFault c f) ((m.pch c).faulted f) := by
  rw [Module.preFault_other hf]
  exact (Module.putPch_preStep h _).only (Module.raise_only _ _ _ _ _ _ _ _)

/-- Every fault ends the run with the outputs low. -/
theorem Module.preFault_ends (f : Nat) : PreKeeps c m (m.preFault c f) ∧ PreCh.outputsLow ((m.preFault c f).pch c) ∧
    ((m.preFault c f).pch c).fault = f ∧ ((m.preFault c f).pch c).done = false := by
  by_cases hf : f = 1
  · subst hf
    have hstep := Module.preFault_short_step h
    rw [hstep.pch_eq]
    exact ⟨hstep.1, ⟨rfl, rfl, rfl, rfl⟩, rfl, rfl⟩
  · have hstep := Module.preFault_other_step h hf
    rw [hstep.pch_eq]
    exact ⟨hstep.1, ⟨rfl, rfl, rfl, rfl⟩, rfl, rfl⟩

end
end

/-! ### The verdict of PROBE and a low source (R284, R290) -/

theorem PreCh.driven_of_probe {ch : PreCh} (h1 : ch.state = 1) (hen : ch.preEn = true) : ch.driven = true := by
  simp [PreCh.driven, PreCh.switching, h1, hen]

section
variable {s : State} {c ms : Nat}

theorem exec_probeTimeout_short (hu : s.m.up .pwi = true) (h1 : (s.m.pch c).state = 1)
    (hen : (s.m.pch c).preEn = true)
    (hms : (ms = (s.m.preCfg c).tProbe ∧ (s.m.pch c).iSet = preFloor (s.m.preCfg c)) ∨ 10 * (s.m.preCfg c).tProbe ≤ ms) :
    exec (.probeTimeout c ms) s = .next { s with m := s.m.preFault c 1 } := by
  show execProbeTimeout c ms s = _
  simp only [execProbeTimeout, onModule, hu, h1, PreCh.driven_of_probe h1 hen, hms, and_self, if_true]

theorem exec_probeTimeout_goesOn (hms : ms < 10 * (s.m.preCfg c).tProbe)
    (hgo : ms ≠ (s.m.preCfg c).tProbe ∨ (s.m.pch c).iSet ≠ preFloor (s.m.preCfg c)) :
    exec (.probeTimeout c ms) s = .next s := by
  have hno : ¬((ms = (s.m.preCfg c).tProbe ∧ (s.m.pch c).iSet = preFloor (s.m.preCfg c)) ∨
      10 * (s.m.preCfg c).tProbe ≤ ms) := by
    rw [not_or, not_and_or]
    exact ⟨hgo, hms.not_ge⟩
  show execProbeTimeout c ms s = _
  simp only [execProbeTimeout, onModule, hno, and_false, if_false]

theorem exec_srcLow (hu : s.m.up .pwi = true) (hd : (s.m.pch c).driven = true) :
    exec (.srcLow c) s = .next { s with m := s.m.preFault c 6 } := by
  show execSrcLow c s = _
  simp [execSrcLow, onModule, hu, hd]

end

/-! ### A driver's fault (R290) -/

/-- The module that takes back the SHORT of the same 10 us, by the model's choice of an operand that tells of it (log 115). -/
def Module.preUnshort (m : Module) (c : Nat) : Module := { m with pre := modAt m.pre c PreCh.unshort }

theorem PreCh.unshort_short {ch : PreCh} {st n p : Nat} {l : Option Nat} (hb : ch.before = some (st, n, l, p))
    (hf : ch.fault = 1) : ch.unshort = { ch with state := st, shortCount := n, lastShort := l, lastShortPlant := p } := by
  simp [PreCh.unshort, hb, hf]

theorem Module.preUnshort_driver_step {m : Module} {c : Nat} (h : c < m.pre.length) :
    PreStep c m ((m.preUnshort c).preFault c 4) ((m.pch c).unshort.faulted 4) := by
  have hstep := Module.preFault_other_step (m := m.preUnshort c) (h.trans_eq (modAt_length _ _ _).symm)
    (show 4 ≠ 1 by decide)
  rw [show (m.preUnshort c).pch c = _ from m.pch_mod c _ h] at hstep
  exact .after (.of_mod m c _) hstep

section
variable {s : State} (hu : s.m.up .pwi = true) (hl : s.m.leads = true) (c : Nat)
include hu hl

theorem exec_driverFault_alone : exec (.driverFault c false) s = .next { s with m := s.m.preFault c 4 } := by
  show execDriverFault c false s = _
  simp [execDriverFault, onModule, hu, hl]

theorem exec_driverFault_same :
    exec (.driverFault c true) s = .next { s with m := (s.m.preUnshort c).preFault c 4 } := by
  show execDriverFault c true s = _
  simp [execDriverFault, onModule, hu, hl, Module.preUnshort]

end

/-! ### Crossings of I_FAST (R288) -/

/-- The crossings of I_FAST within the last 1 ms, the one of now among them. -/
def PreCh.crossings (ch : PreCh) (now : Nat) : List Nat := (now :: ch.fastWin).filter (fun t => now < t + 1000000)

theorem PreCh.crossings_length (ch : PreCh) (now : Nat) :
    (ch.crossings now).length = (ch.fastWin.filter (fun t => now < t + 1000000)).length + 1 := by
  rw [PreCh.crossings, List.filter_cons_of_pos (by simp), List.length_cons]

/-- A channel whose phase has crossed I_FAST: the phase is off until its next turn-on, and the crossing counts. -/
def PreCh.crossed (ch : PreCh) (h now : Nat) : PreCh :=
  { (ch.quiet h).modLeg h (fun l => { l with off := true }) with
    fastCount := bump16 ch.fastCount
    fastWin := if 16 ≤ (ch.crossings now).length then [] else ch.crossings now }

section
variable (ch : PreCh) {h : Nat} (now : Nat)

theorem PreCh.crossed_eq : ch.crossed h now = { ch with
    fastCount := bump16 ch.fastCount, fastWin := (ch.crossed h now).fastWin
    pwm := (ch.crossed h now).pwm, legs := (ch.crossed h now).legs } := rfl

theorem PreCh.crossed_pwm_low (hp : h < ch.pwm.length) : (ch.crossed h now).pwm[h]? = some (false, false) := by
  show (modAt ch.pwm h _)[h]? = _
  rw [modAt_getElem?, if_pos rfl, List.getElem?_eq_getElem hp]
  rfl

theorem PreCh.crossed_pwm_other {g : Nat} (hg : g ≠ h) : (ch.crossed h now).pwm[g]? = ch.pwm[g]? := by
  show (modAt ch.pwm h _)[g]? = _
  simp [hg.symm]

theorem PreCh.crossed_leg (hl : h < ch.legs.length) : (ch.crossed h now).leg h = { off := true } := by
  show (modAt (modAt ch.legs h _) h _).getD h {} = _
  rw [modAt_getD_same _ _ _ _ (hl.trans_eq (modAt_length _ _ _).symm), modAt_getD_same _ _ _ _ hl]

theorem PreCh.crossed_leg_other {g : Nat} (hg : g ≠ h) : (ch.crossed h now).leg g = ch.leg g := by
  show (modAt (modAt ch.legs h _) h _).getD g {} = _
  rw [modAt_getD_other _ _ _ _ _ hg.symm, modAt_getD_other _ _ _ _ _ hg.symm]
  rfl

end

/-- The module whose phase has crossed I_FAST. -/
def Module.preCrossed (m : Module) (c h : Nat) : Module :=
  { m with pre := modAt m.pre c (fun _ => (m.pch c).crossed h m.time.now) }

section
variable {m : Module} {c : Nat} (hc : c < m.pre.length) (h : Nat)
include hc

theorem Module.preCrossed_pch : (m.preCrossed c h).pch c = (m.pch c).crossed h m.time.now := m.pch_mod c _ hc

/-- The sixteenth crossing is a SHORT of the channel that it leaves. -/
theorem Module.preCrossed_short_step : PreStep c m ((m.preCrossed c h).preFault c 1)
    (((m.pch c).crossed h m.time.now).shorted (m.preCfg c) m.time.now m.plant) := by
  have hstep := Module.preFault_short_step (m := m.preCrossed c h) (hc.trans_eq (modAt_length _ _ _).symm)
  rw [Module.preCrossed_pch hc] at hstep
  exact .after (.of_mod m c _) hstep

end

section
variable {s : State} (hu : s.m.up .pwi = true) (hl : s.m.leads = true) (c h : Nat)
include hu hl

theorem exec_fastLimit : exec (.fastLimit c h) s = .next { s with
    m := if 16 ≤ ((s.m.pch c).crossings s.m.time.now).length then (s.m.preCrossed c h).preFault c 1
      else s.m.preCrossed c h } := by
  show execFastLimit c h s = _
  simp only [execFastLimit, onModule, hu, hl, and_self, if_true]
  rfl

end

end Machine

open Machine

/-- A command that only replaces the module answers with it. -/
theorem Answers.of_exec {i : Instr} {s : State} {n : Module} (h : exec i s = .next { s with m := n }) :
    Answers i s { s with m := n } := ⟨h, rfl, rfl⟩

/-- Settles O15: a START by what it finds the channel in, a STOP by whether it is in LOCKOUT, and the end of the retry
delay by whether the START stands. -/
theorem prechargeRunBegins : Obligations.PrechargeRunBegins := by
  refine ⟨fun s c v hc hu hl => ?_, fun m c hc => ?_⟩
  · have hstart : Answers (.prechargeStart c v) s _ := .of_exec (exec_prechargeStart hu hl v)
    have hstop : Answers (.prechargeStop c) s _ := .of_exec (exec_prechargeStop hu)
    refine ⟨fun hno => ⟨_, hstart, Module.preStart_refused hno⟩, fun hok h0 hleft => ⟨_, hstart, ?_⟩,
      fun hok h0 hleft => ⟨_, hstart, (Module.preStart_waits hc hok h0 hleft).spec⟩,
      fun hok hst => ⟨_, hstart, (Module.preStart_retargets hc hok hst).spec⟩,
      fun hok hst => ⟨_, hstart, (Module.preStart_goesOn hc hok hst).spec⟩, ⟨_, hstop, ?_⟩,
      exec_retryDelayExpire_stands hu hl, fun h4 hst =>
        ⟨_, .of_exec (exec_retryDelayExpire_withdrawn hu hl h4 hst), (Module.putPch_preStep hc _).spec⟩⟩
    · have hstep := Module.preStart_begins hc hok h0 hleft
      refine ⟨hstep.1, ?_⟩
      rw [hstep.pch_eq]
      exact ⟨rfl, rfl, rfl, rfl, rfl, rfl, rfl, rfl, rfl, rfl⟩
    · by_cases h6 : (s.m.pch c).state = 6
      · have hstep := Module.preStop_locked hc h6
        refine ⟨hstep.1, ?_, ?_, fun _ => hstep.pch_eq, fun hne => absurd h6 hne⟩ <;> rw [hstep.pch_eq]
      · have hstep := Module.preStop_stops hc h6
        refine ⟨hstep.1, ?_⟩
        rw [hstep.pch_eq]
        exact ⟨rfl, rfl, fun h => absurd h h6, fun _ => ⟨rfl, rfl, rfl, rfl, rfl, rfl⟩⟩
  · have hstep := Module.preBegin_step hc
    refine ⟨hstep.1, ?_⟩
    rw [hstep.pch_eq]
    refine ⟨rfl, rfl, rfl, rfl, rfl, fun hlow => ?_, fun hhigh => ?_⟩
    · simp [PreCh.begun, preSegment_below hlow]
    · simp [PreCh.begun, preSegment_above hhigh]

/-- Settles O16: a SHORT and another fault by what each leaves of the channel, and each command that detects a fault by
the fault that it ends in. That LOCKOUT stays over another fault (log 25) and that a SHORT is taken back (log 115) are the
model's choices. -/
theorem prechargeFaultsStop : Obligations.PrechargeFaultsStop := by
  refine fun s c hc hu => ⟨fun f => ?_, ?_, fun h1 hen => ⟨fun hi => ?_, fun ms hms => ?_, fun ms => ?_⟩,
    fun hl => ⟨exec_driverFault_alone hu hl c, _, .of_exec (exec_driverFault_same hu hl c), ?_⟩, exec_srcLow hu,
    fun hl h => ⟨_, .of_exec (exec_fastLimit hu hl c h), ?_⟩⟩
  · obtain ⟨hkeeps, hlow, hfault, hdone⟩ := Module.preFault_ends hc f
    refine ⟨hkeeps, hlow, hfault, hdone, s.m.preFault_holds c f, fun hf => ?_⟩
    rw [(Module.preFault_other_step hc hf).pch_eq]
    exact ⟨rfl, rfl⟩
  · rw [(Module.preFault_short_step hc).pch_eq]
    exact ⟨rfl, rfl, rfl⟩
  · exact exec_probeTimeout_short hu h1 hen (.inl ⟨rfl, hi⟩)
  · exact exec_probeTimeout_short hu h1 hen (.inr hms)
  · exact exec_probeTimeout_goesOn
  · have hstep := Module.preUnshort_driver_step hc
    refine ⟨hstep.1, ?_⟩
    rw [hstep.pch_eq]
    refine ⟨⟨rfl, rfl, rfl, rfl⟩, rfl, fun st n l p hb hf => ?_⟩
    rw [PreCh.unshort_short hb hf]
    exact ⟨rfl, rfl, rfl⟩
  · have hlen := (s.m.pch c).crossings_length s.m.time.now
    by_cases h16 : 16 ≤ ((s.m.pch c).crossings s.m.time.now).length
    · have hstep := Module.preCrossed_short_step hc h
      rw [if_pos h16]
      refine ⟨hstep.1, ?_⟩
      rw [hstep.pch_eq]
      exact ⟨rfl, fun h4 _ => List.getElem?_replicate_of_lt h4, fun _ => ⟨rfl, rfl, rfl, rfl, rfl⟩, fun hlt => by omega⟩
    · rw [if_neg h16]
      refine ⟨.of_mod _ c _, ?_⟩
      rw [Module.preCrossed_pch hc]
      exact ⟨rfl, fun _ => PreCh.crossed_pwm_low _ _, fun hge => by omega, fun _ => ⟨PreCh.crossed_eq _ _,
        fun g hg => ⟨PreCh.crossed_pwm_other _ _ hg, PreCh.crossed_leg_other _ _ hg⟩,
        fun hh => by rw [PreCh.crossed_leg _ _ hh]; exact ⟨rfl, rfl⟩⟩⟩

end Sys2Proof

/-! ## The Carapace apart from the rest of the module, and safe over every step (R319, R337)

A trip, a reset and a settling of the outputs are the only operations that move outputs or latched causes. Of a bay each of
them takes a safe one to a safe one and a de-energised one to a de-energised one, or leaves no output energised that R319
forbids. -/

namespace Sys2Proof

namespace Machine

/-! ### Commands of the module alone (R337) -/

/-- Every command that neither reaches the Carapace nor reads its report rewrites the module alone. -/
theorem exec_eq_onModule {i : Instr} (h : reachesCarapace i = false) (hr : i ≠ .carapaceReportRx) :
    ∃ f : Module → Module, ∀ s, exec i s = onModule s f := by
  cases i with
  | carapaceReportRx => exact absurd rfl hr
  | powerUp | carapaceSupplyLoss | leverLeaveLocked | leverReachLocked | carapaceSelfTestPass | carapaceSample
  | carapaceMeanTick | bcsNoValid | bcsDegradedExpire | bcsDiscrepancy | bcsModeLinkChange | toneLossTrip
  | safetyChannelOpen | safetyChannelClose | safetyDiscrepancy | safetyTestPulse | tripReqHigh | tripOutputTest
  | bankChange | keyReset | keyStuck | keyReleaseStuck | cpiInternalFault | cpxFrameRx | cpxLost | carapaceBankStart
  | toneWindow | portLinkDown | timePulse | islandReset | restartDelayExpire | handoverPoint | leadTokenChange
  | updateActTime | updateActivate | trialExpire => cases h
  | _ =>
    unfold exec
    exact ⟨_, fun _ => rfl⟩

theorem exec_leavesCarapace {i : Instr} (h : reachesCarapace i = false) (s : State) :
    ∃ t, exec i s = .next t ∧ t.cara = s.cara ∧ t.pending = s.pending := by
  by_cases hr : i = .carapaceReportRx
  · subst hr
    exact ⟨_, rfl, rfl, rfl⟩
  · obtain ⟨f, hf⟩ := exec_eq_onModule h hr
    exact ⟨_, hf s, rfl, rfl⟩

/-! ### Safe bays -/

/-- Neither output of a bay is energised. -/
def CaraBay.Dark (x : CaraBay) : Prop := x.out0 = false ∧ x.out1 = false

/-- A bay goes on without leaving what R319 asks of it: a safe one stays safe, one without outputs gains none. -/
def CaraBay.Calms (x y : CaraBay) : Prop := (CaraBay.safe x → CaraBay.safe y) ∧ (x.Dark → y.Dark)

theorem CaraBay.Dark.safe {x : CaraBay} (h : x.Dark) : CaraBay.safe x := fun _ => h

theorem CaraBay.Dark.calms {y : CaraBay} (h : y.Dark) (x : CaraBay) : x.Calms y := ⟨fun _ => h.safe, fun _ => h⟩

theorem CaraBay.Calms.refl (x : CaraBay) : x.Calms x := ⟨id, id⟩

/-- A bay whose latched causes and outputs are as they were. -/
theorem CaraBay.Calms.of_same {x y : CaraBay} (hc : y.causes = x.causes) (h0 : y.out0 = x.out0) (h1 : y.out1 = x.out1) :
    x.Calms y := by
  simp only [CaraBay.Calms, CaraBay.safe, CaraBay.Dark, hc, h0, h1, imp_self, and_self]

theorem forall_mem_iff_getD {α : Type} {P : α → Prop} {d : α} (hd : P d) (l : List α) :
    (∀ x ∈ l, P x) ↔ ∀ i, P (l.getD i d) := by
  rw [List.forall_mem_iff_getElem]
  refine ⟨fun h i => ?_, fun h i hi => by rw [← List.getD_eq_getElem l d hi]; exact h i⟩
  by_cases hi : i < l.length
  · rw [List.getD_eq_getElem l d hi]
    exact h i hi
  · rw [List.getD_eq_default l d (Nat.le_of_not_lt hi)]
    exact hd

variable {c d : Carapace}

theorem Carapace.safe_iff_bay : Carapace.safe c ↔ c.bays.length = 4 ∧ (∀ b, CaraBay.safe (c.bay b)) ∧
    (c.state ≠ .run ∨ c.slotInvalid = true → ∀ b, (c.bay b).Dark) := by
  have hdark : CaraBay.Dark {} := ⟨rfl, rfl⟩
  exact and_congr Iff.rfl (and_congr (forall_mem_iff_getD hdark.safe _)
    (imp_congr Iff.rfl (forall_mem_iff_getD (P := CaraBay.Dark) hdark _)))

theorem Carapace.safe_of_dark (hl : d.bays.length = 4) (h : ∀ b, (d.bay b).Dark) : Carapace.safe d :=
  Carapace.safe_iff_bay.2 ⟨hl, fun b => (h b).safe, fun _ => h⟩

/-- The bays alone move, each without leaving what R319 asks of it. -/
theorem Carapace.safe_of_calms (h : Carapace.safe c) (hk : BaysOnly c d) (hb : ∀ b, (c.bay b).Calms (d.bay b)) :
    Carapace.safe d := by
  obtain ⟨hl, hs, hd⟩ := Carapace.safe_iff_bay.1 h
  have hslot : d.slotInvalid = c.slotInvalid := by rw [hk.1]
  refine Carapace.safe_iff_bay.2 ⟨hk.2.trans hl, fun b => (hb b).1 (hs b), fun hoff b => (hb b).2 (hd ?_ b)⟩
  rwa [hk.state, hslot] at hoff

theorem Carapace.modBay_safe (h : Carapace.safe c) (b : Nat) {f : CaraBay → CaraBay} (hf : ∀ x : CaraBay, x.Calms (f x)) :
    Carapace.safe (c.modBay b f) := by
  refine Carapace.safe_of_calms h (c.modBay_baysOnly b f) fun b' => ?_
  rw [Carapace.modBay_bay]
  split
  · exact hf _
  · exact .refl _

/-- What keeps the Carapace safe at each turn of a loop keeps it safe over the loop. -/
theorem Carapace.foldl_safe {f : Carapace → Nat → Carapace} (hf : ∀ c k, Carapace.safe c → Carapace.safe (f c k))
    (l : List Nat) (h : Carapace.safe c) : Carapace.safe (l.foldl f c) := by
  induction l generalizing c with
  | nil => exact h
  | cons k t ih => exact ih (hf c k h)

/-! ### The operations that move outputs and latches -/

theorem Carapace.trip_safe (h : Carapace.safe c) (b k : Nat) : Carapace.safe (c.trip b k) := by
  unfold Carapace.trip
  split
  · exact Carapace.modBay_safe h b fun x => CaraBay.Dark.calms ⟨rfl, rfl⟩ x
  · exact h

theorem Carapace.tripIf_safe {p : Prop} [Decidable p] (h : Carapace.safe c) (b k : Nat) :
    Carapace.safe (if p then c.trip b k else c) := by
  split
  · exact Carapace.trip_safe h b k
  · exact h

theorem Carapace.trips_safe (h : Carapace.safe c) (l : List Nat) (k : Nat) :
    Carapace.safe (l.foldl (fun c b => c.trip b k) c) :=
  Carapace.foldl_safe (fun _ b hc => Carapace.trip_safe hc b k) l h

theorem Carapace.applyInput_safe (h : Carapace.safe c) (k : Nat) : Carapace.safe (c.applyInput k) := by
  have step : ∀ {c : Carapace} (on : Bool) (l : List Nat) (j : Nat), Carapace.safe c →
      Carapace.safe (if on then l.foldl (fun c b => c.trip b j) c else c) := fun on l j hc => by
    cases on with
    | false => exact hc
    | true => exact Carapace.trips_safe hc l j
  exact step _ _ _ (step _ _ _ h)

theorem Carapace.applyInputs_safe (h : Carapace.safe c) : Carapace.safe c.applyInputs :=
  Carapace.foldl_safe (fun _ k hc => Carapace.applyInput_safe hc k) _ h

/-- Settled outputs are safe whatever they were before (R319). -/
theorem Carapace.settle_safe (hl : c.bays.length = 4) : Carapace.safe c.settle := by
  refine ⟨by simpa [Carapace.settle] using hl, ?_, ?_⟩
  · simp only [Carapace.settle, List.forall_mem_map, CaraBay.safe]
    intro x _ hx
    simp [hx]
  · simp only [Carapace.settle, List.forall_mem_map]
    rintro (hs | hi) x _
    · simp [hs]
    · simp [hi]

theorem Carapace.recheck_safe (h : Carapace.safe c) (b : Nat) : Carapace.safe (c.recheck b) :=
  Carapace.tripIf_safe (Carapace.tripIf_safe h _ _) _ _

theorem Carapace.meanTick_safe (h : Carapace.safe c) (b : Nat) : Carapace.safe (c.meanTick b) :=
  have hcount : ∀ nD nC, Carapace.safe (c.modBay b fun x => { x with nDis := nD, nChg := nC }) := fun _ _ =>
    Carapace.modBay_safe h b fun _ => .of_same rfl rfl rfl
  Carapace.tripIf_safe (Carapace.tripIf_safe (hcount _ _) _ _) _ _

theorem Carapace.forget_dark (b : Nat) : (c.forget.bay b).Dark := by
  rw [c.forget_bay]
  exact ⟨rfl, rfl⟩

theorem Carapace.internalFault_safe (hl : c.bays.length = 4) : Carapace.safe c.internalFault := by
  refine ⟨c.internalFault_baysOnly.2.trans hl, ?_, fun _ => ?_⟩ <;>
    simp [Carapace.internalFault, Carapace.forget, CaraBay.safe]

theorem Carapace.readSlot_safe (h : Carapace.safe c) (code : SlotCode) : Carapace.safe (c.readSlot code) := by
  unfold Carapace.readSlot
  dsimp only
  split
  case isTrue hsame => exact ⟨h.1, h.2.1, fun hoff => h.2.2 (by rwa [← hsame] at hoff)⟩
  case isFalse => exact Carapace.applyInputs_safe (Carapace.settle_safe h.1)

theorem Carapace.unlatches_length (wire : Bool) (l : List Nat) :
    (l.foldl (fun c b => c.unlatch wire b) c).bays.length = c.bays.length :=
  (BaysOnly.foldl (fun c b => Carapace.modBay_baysOnly c b _) l c).2

/-- A sample moves neither latches nor outputs. -/
theorem CaraBay.take_keeps (x : CaraBay) (p q : Int) : (x.take p q).causes = x.causes ∧ (x.take p q).out0 = x.out0 ∧
    (x.take p q).out1 = x.out1 ∧ (x.take p q).chA = x.chA.take p ∧ (x.take p q).chB = x.chB.take q := by
  unfold CaraBay.take
  dsimp only
  split
  · exact ⟨rfl, rfl, rfl, rfl, rfl⟩
  · split <;> exact ⟨rfl, rfl, rfl, rfl, rfl⟩

/-! ### The sample and the other bays, read by index -/

/-- Every bay with one sample of both its channels taken. -/
def Carapace.sampled (c : Carapace) (raw : List Int) : Carapace :=
  { c with bays := c.bays.zipIdx.map (fun (p : CaraBay × Nat) =>
      p.1.take (raw.getD (2 * p.2) 0) (raw.getD (2 * p.2 + 1) 0)) }

theorem Carapace.sampled_baysOnly (raw : List Int) : BaysOnly c (c.sampled raw) :=
  ⟨rfl, by simp [Carapace.sampled]⟩

theorem Carapace.sampled_bay (raw : List Int) {b : Nat} (hb : b < c.bays.length) :
    (c.sampled raw).bay b = (c.bay b).take (raw.getD (2 * b) 0) (raw.getD (2 * b + 1) 0) :=
  getD_zipIdx_map_of_lt c.bays (fun p => p.1.take (raw.getD (2 * p.2) 0) (raw.getD (2 * p.2 + 1) 0)) hb {} {}

theorem Carapace.sampled_safe (h : Carapace.safe c) (raw : List Int) : Carapace.safe (c.sampled raw) := by
  refine Carapace.safe_of_calms h (Carapace.sampled_baysOnly raw) fun b => ?_
  by_cases hb : b < c.bays.length
  · rw [Carapace.sampled_bay raw hb]
    obtain ⟨hc, h0, h1, -⟩ := (c.bay b).take_keeps (raw.getD (2 * b) 0) (raw.getD (2 * b + 1) 0)
    exact .of_same hc h0 h1
  · have hout : (c.sampled raw).bays.length ≤ b := (Carapace.sampled_baysOnly raw).2.symm ▸ Nat.le_of_not_lt hb
    have hd : (c.sampled raw).bay b = {} := List.getD_eq_default _ _ hout
    rw [hd]
    exact CaraBay.Dark.calms ⟨rfl, rfl⟩ _

/-- The Carapace once it has counted and sent the CPX frame of the millisecond (R332). -/
def Carapace.framed (c : Carapace) : Carapace :=
  { c with seq := (c.seq + 1) % 65536, sent := some (Carapace.cpxFrame { c with seq := (c.seq + 1) % 65536 }) }

theorem Carapace.framed_safe (h : Carapace.safe c) : Carapace.safe c.framed := h

theorem execCarapaceMeanTick_eq (s : State) : execCarapaceMeanTick s = if s.cara.state = .run then
    caraNext s ((List.range 4).foldl Carapace.meanTick s.cara).framed else .next s := by
  unfold execCarapaceMeanTick Carapace.framed
  dsimp only

/-! ### Every command keeps the Carapace safe (R319) -/

/-- A command that completes leaves the Carapace safe. -/
def EndsSafe (o : Host.Outcome State Fault Refusal) : Prop := ∀ t, o = .next t → Carapace.safe t.cara

variable {s : State}

theorem endsSafe_next {t : State} (h : Carapace.safe t.cara) : EndsSafe (.next t) := by
  rintro _ ⟨⟩
  exact h

theorem endsSafe_onBoth (h : Carapace.safe c) (m : Module) : EndsSafe (onBoth s c m) := endsSafe_next h

theorem endsSafe_caraNext (h : Carapace.safe c) : EndsSafe (caraNext s c) := endsSafe_onBoth h _

theorem endsSafe_ite {p : Prop} [Decidable p] {a b : Host.Outcome State Fault Refusal} (ha : p → EndsSafe a)
    (hb : ¬p → EndsSafe b) : EndsSafe (if p then a else b) := by
  split
  case isTrue h => exact ha h
  case isFalse h => exact hb h

theorem endsSafe_onBoot (h : Carapace.safe s.cara) (f : Module → Module) : EndsSafe (onBoot s f) := by
  refine endsSafe_onBoth ?_ _
  split
  · exact h
  · exact Carapace.readSlot_safe h _

section
variable (h : Carapace.safe s.cara)
include h

theorem endsSafe_caraIf {p : Prop} [Decidable p] (hc : Carapace.safe c) : EndsSafe (if p then caraNext s c else .next s) :=
  endsSafe_ite (fun _ => endsSafe_caraNext hc) fun _ => endsSafe_next h

theorem endsSafe_caraUnless {p : Prop} [Decidable p] (hc : Carapace.safe c) :
    EndsSafe (if p then .next s else caraNext s c) :=
  endsSafe_ite (fun _ => endsSafe_next h) fun _ => endsSafe_caraNext hc

theorem endsSafe_powerUp (a b peer jumper : Bool) : EndsSafe (execPowerUp a b peer jumper s) := by
  refine endsSafe_ite (fun _ => endsSafe_next h) fun _ => endsSafe_onBoth ?_ _
  split
  case isTrue hoff =>
    have hdark := h.2.2 (.inl fun g => by simp [hoff] at g)
    exact ⟨h.1, h.2.1, fun _ => hdark⟩
  case isFalse => exact Carapace.readSlot_safe h _

theorem endsSafe_carapaceSelfTestPass (links : List Bool) (bank tl : Nat) :
    EndsSafe (execCarapaceSelfTestPass links bank tl s) := by
  refine endsSafe_caraIf h (Carapace.applyInputs_safe (Carapace.settle_safe ?_))
  simpa using h.1

theorem endsSafe_carapaceMeanTick : EndsSafe (execCarapaceMeanTick s) := by
  have hbays := Carapace.foldl_safe (fun _ b hc => Carapace.meanTick_safe hc b) (List.range 4) h
  rw [execCarapaceMeanTick_eq]
  exact endsSafe_caraIf h (Carapace.framed_safe hbays)

theorem endsSafe_tripOutputTest (b out : Nat) (opens conducts : Bool) :
    EndsSafe (execTripOutputTest b out opens conducts s) := by
  have hmod : Carapace.safe (s.cara.outputTested b out opens conducts) := by
    refine Carapace.modBay_safe (c := { s.cara with tested := (s.cara.tested + 1) % 8 }) h b fun x => ?_
    unfold CaraBay.tested
    split <;> exact .of_same rfl rfl rfl
  refine endsSafe_caraIf h ?_
  split
  · exact hmod
  · exact Carapace.trip_safe hmod b 10

theorem endsSafe_bankChange (bank tl : Nat) : EndsSafe (execBankChange bank tl s) := by
  refine endsSafe_onBoth ?_ _
  split <;> exact h

theorem endsSafe_keyReset (bank tl : Nat) : EndsSafe (execKeyReset bank tl s) := by
  refine endsSafe_ite (fun _ => endsSafe_onBoth ?_ _) fun _ => endsSafe_next h
  refine Carapace.foldl_safe (fun _ b hc => Carapace.recheck_safe hc b) _ (Carapace.settle_safe ?_)
  exact (Carapace.unlatches_length s.m.ver.tripReq (List.range 4)).trans h.1

theorem endsSafe_carapaceBankStart (ok : Bool) : EndsSafe (execCarapaceBankStart ok s) := by
  have hf : Carapace.safe s.cara.internalFault := Carapace.internalFault_safe h.1
  refine endsSafe_ite (fun _ => endsSafe_ite (fun _ => endsSafe_onBoth ?_ _)
    fun _ => endsSafe_ite (fun _ => endsSafe_onBoth ?_ _) fun _ => endsSafe_onBoth ?_ _) fun _ => endsSafe_next h
  all_goals exact hf

theorem endsSafe_toneWindow (port : Nat) (hasA hasB hasS : Bool) (codeErr : Nat) :
    EndsSafe (execToneWindow port hasA hasB hasS codeErr s) := by
  unfold execToneWindow
  cases windowClass hasA hasB hasS with
  | none => exact endsSafe_onBoth h _
  | some t =>
    refine endsSafe_onBoth ?_ _
    split <;> exact h

theorem endsSafe_bcsModeLinkChange (bay chan : Nat) : EndsSafe (execBcsModeLinkChange bay chan s) := by
  refine endsSafe_caraIf h (Carapace.modBay_safe h bay fun x => ?_)
  split <;> exact .of_same rfl rfl rfl

theorem endsSafe_islandReset (i : Island) (cause : ResetCause) : EndsSafe (execIslandReset i cause s) :=
  endsSafe_ite (fun _ => endsSafe_next h) fun _ => endsSafe_ite
    (fun _ => endsSafe_ite (fun _ => endsSafe_next h) fun _ => endsSafe_onBoth (Carapace.internalFault_safe h.1) _)
    fun _ => endsSafe_onBoot h _

theorem endsSafe_timePulse (i : Island) (ticks : Nat) : EndsSafe (execTimePulse i ticks s) :=
  endsSafe_ite (fun _ => endsSafe_next h) fun _ => endsSafe_ite (fun _ => endsSafe_next h) fun _ => endsSafe_next h

theorem endsSafe_exec (i : Instr) : EndsSafe (exec i s) := by
  cases hr : reachesCarapace i with
  | false =>
    obtain ⟨t, ht, hc, -⟩ := exec_leavesCarapace hr s
    rw [ht]
    exact endsSafe_next (hc ▸ h)
  | true =>
    cases i with
    | powerUp => exact endsSafe_powerUp h _ _ _ _
    | carapaceSupplyLoss =>
      exact endsSafe_caraNext (Carapace.safe_of_dark (s.cara.forget_baysOnly.2.trans h.1) s.cara.forget_dark)
    | leverLeaveLocked =>
      exact endsSafe_ite (fun _ => endsSafe_onBoth (by exact h) _) fun _ => endsSafe_next h
    | carapaceSelfTestPass => exact endsSafe_carapaceSelfTestPass h _ _ _
    | carapaceSample => exact endsSafe_caraIf h (Carapace.sampled_safe h _)
    | carapaceMeanTick => exact endsSafe_carapaceMeanTick h
    | bcsNoValid => exact endsSafe_caraUnless h (Carapace.trip_safe h _ _)
    | bcsDegradedExpire =>
      exact endsSafe_caraIf h (Carapace.modBay_safe (Carapace.trip_safe h _ _) _ fun _ => .of_same rfl rfl rfl)
    | bcsDiscrepancy => exact endsSafe_caraIf h (Carapace.modBay_safe h _ fun _ => .of_same rfl rfl rfl)
    | bcsModeLinkChange => exact endsSafe_bcsModeLinkChange h _ _
    | toneLossTrip => exact endsSafe_caraIf h (Carapace.trip_safe h _ _)
    | safetyChannelOpen => exact endsSafe_caraNext (Carapace.applyInput_safe (by exact h) _)
    | safetyDiscrepancy => exact endsSafe_caraUnless h (Carapace.applyInput_safe (by exact h) _)
    | safetyTestPulse => exact endsSafe_caraNext (Carapace.applyInput_safe (by exact h) _)
    | tripReqHigh => exact endsSafe_caraIf h (Carapace.trips_safe (by exact h) _ _)
    | tripOutputTest => exact endsSafe_tripOutputTest h _ _ _ _
    | bankChange => exact endsSafe_bankChange h _ _
    | keyReset => exact endsSafe_keyReset h _ _
    | keyStuck => exact endsSafe_caraUnless h (by exact h)
    | cpiInternalFault => exact endsSafe_caraUnless h (Carapace.internalFault_safe h.1)
    | cpxFrameRx => exact endsSafe_caraUnless h (by exact h)
    | cpxLost => exact endsSafe_caraUnless h (by exact h)
    | carapaceBankStart => exact endsSafe_carapaceBankStart h _
    | toneWindow => exact endsSafe_toneWindow h _ _ _ _ _
    | timePulse => exact endsSafe_timePulse h _ _
    | islandReset => exact endsSafe_islandReset h _ _
    | leverReachLocked =>
      unfold exec
      exact endsSafe_onBoot (s := { s with cara := { s.cara with locked := true } }) h _
    | restartDelayExpire | handoverPoint | leadTokenChange | updateActTime | updateActivate | trialExpire =>
      unfold exec
      exact endsSafe_onBoot h _
    | keyReleaseStuck | portLinkDown | safetyChannelClose =>
      exact endsSafe_next (by exact h)
    | _ => cases hr

end

end Machine

open Machine

/-- Settles O5: at reset no bay holds a trip and no output is energised. -/
theorem carapaceSafeAtReset : Obligations.CarapaceSafeAtReset := by
  refine ⟨rfl, ?_, fun _ => ?_⟩ <;> simp [State.reset, CaraBay.safe]

/-- Settles O6: a step runs the command in front, which ends safe, or idles, which leaves the Carapace as it was. -/
theorem carapaceSafeKeptByStep : Obligations.CarapaceSafeKeptByStep := by
  intro s t h hstep
  cases hq : s.pending with
  | nil =>
    rw [step_empty hq] at hstep
    cases hstep
    exact h
  | cons i rest =>
    rw [stepRunsFrontCommand i rest s hq] at hstep
    exact endsSafe_exec (s := { s with pending := rest }) h i t hstep

/-- Settles O7, from the form of the commands that do not reach the Carapace. -/
theorem moduleCommandsLeaveCarapace : Obligations.ModuleCommandsLeaveCarapace :=
  fun _ h s => exec_leavesCarapace h s

/-- Settles O8: such a command is one function of the module, which does not see the Carapace. -/
theorem moduleIgnoresCarapace : Obligations.ModuleIgnoresCarapace := by
  intro i h hr s c t u ht hu
  obtain ⟨f, hf⟩ := exec_eq_onModule h hr
  rw [hf] at ht hu
  cases ht
  cases hu
  rfl

end Sys2Proof

/-! ## Trips, bay currents, means, the bank and CPX (R320 to R327, R330 to R334)

Each command of the Carapace rewrites one bay, one wired input with its bays, or each bay by what the bay itself and the
values in force say, so every clause is a fact about one bay. -/

namespace Sys2Proof

open Machine

section
variable {c d : Carapace}

/-- What the bays do beside an input leaves what is kept. -/
theorem CaraKeeps.baysOnly {e : Carapace} {k : Nat} (h : CaraKeeps c d k) (g : BaysOnly d e) : CaraKeeps c e k := by
  obtain ⟨hd, hl, hi, ho⟩ := h
  obtain ⟨he, hl'⟩ := g
  have hin : e.inputs = d.inputs := by rw [he]
  refine ⟨?_, hl'.trans hl, hin ▸ hi, hin ▸ ho⟩
  rw [hin, he, hd]

theorem BaysOnly.limit (h : BaysOnly c d) (b k : Nat) : d.limit b k = c.limit b k := by rw [h.1]; rfl

theorem BaysOnly.vals (h : BaysOnly c d) : d.vals = c.vals := by rw [h.1]; rfl

end

namespace Machine

variable {s : State} {c d : Carapace}

/-! ### One bay rewritten -/

/-- A command that rewrites one bay. -/
theorem modBay_next (b : Nat) (f : CaraBay → CaraBay) (hb : b < s.cara.bays.length) :
    ∃ t, caraNext s (s.cara.modBay b f) = .next t ∧ CaraOnly s t ∧ BaysOnly s.cara t.cara ∧ OtherBays s.cara t.cara b ∧
      t.cara.bay b = f (s.cara.bay b) := by
  refine ⟨_, rfl, caraNext_only _ _ rfl, s.cara.modBay_baysOnly b f, fun b' hne => ?_, ?_⟩
  · exact (Carapace.modBay_bay _ _ _ _).trans (if_neg fun e => hne e.1.symm)
  · exact (Carapace.modBay_bay _ _ _ _).trans (if_pos ⟨rfl, hb⟩)

/-- A trip of a running Carapace is one bay rewritten. -/
theorem Carapace.trip_eq_modBay (h : c.state = .run) (b k : Nat) :
    c.trip b k = c.modBay b (fun x => CaraBay.tripped x k) := if_pos h

theorem trip_next (h : s.cara.state = .run) {b : Nat} (hb : b < s.cara.bays.length) (k : Nat) :
    ∃ t, caraNext s (s.cara.trip b k) = .next t ∧ CaraOnly s t ∧ BaysOnly s.cara t.cara ∧
      TripsBay s.cara t.cara b k := by
  rw [Carapace.trip_eq_modBay h]
  obtain ⟨t, ht, honly, hk, hother, hbay⟩ := modBay_next b (fun x => CaraBay.tripped x k) hb
  exact ⟨t, ht, honly, hk, hbay, hother⟩

/-! ### Trips (R322, R324, R327) -/

theorem exec_bcsNoValid {b : Nat} (ha : (s.cara.bay b).chA.valid = false) (hb : (s.cara.bay b).chB.valid = false) :
    exec (.bcsNoValid b) s = caraNext s (s.cara.trip b 8) := by
  show execBcsNoValid b s = _
  simp [execBcsNoValid, ha, hb]

theorem exec_bcsDegradedExpire (h : s.cara.state = .run) {b : Nat} (hd : (s.cara.bay b).degraded = true) :
    exec (.bcsDegradedExpire b) s =
      caraNext s (s.cara.modBay b (fun x => { CaraBay.tripped x 8 with bcs24h := true })) := by
  show execBcsDegradedExpire b s = _
  have htwice : (s.cara.trip b 8).modBay b (fun x => { x with bcs24h := true }) =
      s.cara.modBay b (fun x => { CaraBay.tripped x 8 with bcs24h := true }) := by
    rw [Carapace.trip_eq_modBay h]
    simp only [Carapace.modBay, Carapace.mk.injEq, true_and, and_true]
    refine List.ext_getElem? fun i => ?_
    simp only [modAt_getElem?]
    split
    · rw [Option.map_map]
      rfl
    · rfl
  rw [← htwice]
  exact if_pos ⟨h, hd⟩

theorem exec_toneLossTrip {p : Nat} (hs : s.cara.tones.getD p .dead = .silent) (ht : s.cara.vals.tl ≠ 0) :
    exec (.toneLossTrip p) s = caraNext s (s.cara.trip (p / 8) 4) := if_pos ⟨hs, ht⟩

theorem exec_toneLossTrip_off (p : Nat) (ht : s.cara.vals.tl = 0) : exec (.toneLossTrip p) s = .next s :=
  if_neg fun g => g.2 ht

theorem tripReqHigh_next (h : s.cara.state = .run) (hl : s.cara.bays.length = 4) (hr : s.m.ver.tripReq = true) :
    ∃ t, exec .tripReqHigh s = .next t ∧ CaraOnly s t ∧ BaysOnly { s.cara with tripReq := true } t.cara ∧
      ∀ b, b < 4 → t.cara.bay b = CaraBay.tripped (s.cara.bay b) 7 := by
  have hx : exec .tripReqHigh s = caraNext s (Carapace.tripAll { s.cara with tripReq := true } 7) := if_pos hr
  refine ⟨_, hx, caraNext_only _ _ rfl, BaysOnly.foldl (fun c b => c.trip_baysOnly b 7) _ _, fun b hb => ?_⟩
  refine (Carapace.trips_bay (List.range 4) { s.cara with tripReq := true } 7 b h (hl.symm ▸ hb)).trans ?_
  exact if_pos (List.mem_range.2 hb)

/-! ### Wired inputs (R325, R326) -/

/-- One wired input rewritten. -/
def Carapace.modInput (c : Carapace) (k : Nat) (f : SafeIn → SafeIn) : Carapace :=
  { c with inputs := modAt c.inputs k f }

theorem Carapace.modInput_keeps (c : Carapace) (k : Nat) (f : SafeIn → SafeIn) : CaraKeeps c (c.modInput k f) k :=
  ⟨rfl, rfl, modAt_length _ _ _, fun _ hj => modAt_getD_other _ _ _ _ _ hj.symm⟩

theorem Carapace.modInput_same {k : Nat} (hk : k < c.inputs.length) (f : SafeIn → SafeIn) :
    (c.modInput k f).inputs.getD k {} = f (c.inputs.getD k {}) := modAt_getD_same _ _ _ _ hk

theorem inputBays_lt {k b : Nat} (hk : k < 5) (hb : b ∈ inputBays k) : b < 4 := by
  unfold inputBays at hb
  split at hb
  · exact List.mem_range.1 hb
  · have := List.mem_singleton.1 hb
    omega

/-- What a wired input calls for at every bay, there or not. -/
theorem Carapace.applyInput_every (h : c.state = .run) (hl : c.bays.length = 4) {k : Nat} (hk : k < 5) (b : Nat) :
    (c.applyInput k).bay b = if b ∈ inputBays k then CaraBay.wired (c.bay b) (c.inputs.getD k {}) k else c.bay b := by
  by_cases hb : b < 4
  · exact c.applyInput_bay k h (hl.symm ▸ hb)
  · have hlen := (c.applyInput_baysOnly k).2
    have hin : b ∉ inputBays k := fun g => hb (inputBays_lt hk g)
    rw [if_neg hin]
    unfold Carapace.bay
    rw [List.getD_eq_default _ _ (by omega), List.getD_eq_default _ _ (by omega)]

section
variable (h : s.cara.state = .run) (hl : s.cara.bays.length = 4) (hi : s.cara.inputs.length = 5) {k : Nat} (hk : k < 5)
  (f : SafeIn → SafeIn)
include h hl hi hk

/-- An input that changes calls for its trips. -/
theorem modInput_next : ∃ t, caraNext s ((s.cara.modInput k f).applyInput k) = .next t ∧ CaraOnly s t ∧
    CaraKeeps s.cara t.cara k ∧ t.cara.inputs.getD k {} = f (s.cara.inputs.getD k {}) ∧
    ∀ b, t.cara.bay b = if b ∈ inputBays k then CaraBay.wired (s.cara.bay b) (t.cara.inputs.getD k {}) k
      else s.cara.bay b := by
  have hbays := (s.cara.modInput k f).applyInput_baysOnly k
  refine ⟨_, rfl, caraNext_only _ _ rfl, (s.cara.modInput_keeps k f).baysOnly hbays, ?_, fun b => ?_⟩
  · exact (congrArg (fun l => l.getD k {}) hbays.inputs).trans (Carapace.modInput_same (hi.symm ▸ hk) f)
  · refine (Carapace.applyInput_every (c := s.cara.modInput k f) h hl hk b).trans ?_
    rw [← hbays.inputs]
    rfl

end

/-- A channel of an input that reads OFF (R325). -/
def SafeIn.opened (i : SafeIn) (chan : Nat) : SafeIn :=
  let i := if chan = 0 then { i with open1 := true } else { i with open2 := true }
  { i with bothSeen := i.bothSeen || (i.open1 && i.open2) }

theorem SafeIn.opened_eq (i : SafeIn) (chan : Nat) : i.opened chan = { i with
    open1 := i.open1 || decide (chan = 0), open2 := i.open2 || decide (chan ≠ 0)
    bothSeen := i.bothSeen || ((i.open1 || decide (chan = 0)) && (i.open2 || decide (chan ≠ 0))) } := by
  by_cases h : chan = 0 <;> simp [SafeIn.opened, h]

theorem SafeIn.opened_isOpen (i : SafeIn) (chan : Nat) : (i.opened chan).isOpen = true := by
  by_cases h : chan = 0 <;> simp [SafeIn.opened, SafeIn.isOpen, h]

theorem exec_safetyChannelOpen (k chan : Nat) :
    exec (.safetyChannelOpen k chan) s = caraNext s ((s.cara.modInput k (·.opened chan)).applyInput k) := rfl

/-- A channel of an input that reads ON again (R325). -/
def SafeIn.closed (i : SafeIn) (chan : Nat) : SafeIn :=
  let i := if chan = 0 then { i with open1 := false } else { i with open2 := false }
  if i.open1 || i.open2 then i else if i.bothSeen then { i with disc := false, bothSeen := false } else i

theorem SafeIn.closed_eq (i : SafeIn) (chan : Nat) : i.closed chan =
    (let open1 := i.open1 && decide (chan ≠ 0)
     let open2 := i.open2 && decide (chan = 0)
     let clears := !open1 && !open2 && i.bothSeen
     { i with open1 := open1, open2 := open2, disc := i.disc && !clears, bothSeen := i.bothSeen && !clears }) := by
  obtain ⟨o1, o2, disc, both, -, -, -, -⟩ := i
  unfold SafeIn.closed
  by_cases h : chan = 0
  · cases o2 <;> cases both <;> simp [h]
  · cases o1 <;> cases both <;> simp [h]

theorem exec_safetyChannelClose (k chan : Nat) :
    exec (.safetyChannelClose k chan) s = caraNext s (s.cara.modInput k (·.closed chan)) := rfl

/-- An input whose discrepancy has latched (R325). -/
def SafeIn.differs (i : SafeIn) : SafeIn := { i with disc := true, bothSeen := false }

theorem exec_safetyDiscrepancy {k : Nat} (h : (s.cara.inputs.getD k {}).open1 ≠ (s.cara.inputs.getD k {}).open2) :
    exec (.safetyDiscrepancy k) s = caraNext s ((s.cara.modInput k SafeIn.differs).applyInput k) := if_neg h

theorem exec_safetyDiscrepancy_agree {k : Nat}
    (h : (s.cara.inputs.getD k {}).open1 = (s.cara.inputs.getD k {}).open2) :
    exec (.safetyDiscrepancy k) s = .next s := if_pos h

/-- An input after the test pulse of one of its T outputs (R326). -/
def SafeIn.pulsed (i : SafeIn) (out : Nat) (seen low : Bool) : SafeIn :=
  if out = 0 then { i with ossd1 := low && !i.open1, cross1 := seen && !(low && !i.open1) }
  else { i with ossd2 := low && !i.open2, cross2 := seen && !(low && !i.open2) }

/-- A pulse seen on the other channel, of an output that draws its current, is a cross-short. -/
theorem SafeIn.pulsed_isCross (i : SafeIn) (out : Nat) : (i.pulsed out true false).isCross = true := by
  by_cases h : out = 0 <;> simp [SafeIn.pulsed, SafeIn.isCross, h]

theorem exec_safetyTestPulse (k out : Nat) (seen low : Bool) : exec (.safetyTestPulse k out seen low) s =
    caraNext s ((s.cara.modInput k (·.pulsed out seen low)).applyInput k) := rfl

/-! ### Loops over the bays -/

/-- What a turn of a loop makes of bay `b` it makes of it alone, from that bay and from what is beside the bays. -/
structure BayLoop (f : Carapace → Nat → Carapace) (g : Carapace → Nat → CaraBay) : Prop where
  keeps : ∀ c b, BaysOnly c (f c b)
  same : ∀ c b, c.state = .run → b < c.bays.length → (f c b).bay b = g c b
  other : ∀ c b b', b' ≠ b → (f c b).bay b' = c.bay b'
  local_ : ∀ c d b, BaysOnly c d → d.bay b = c.bay b → g d b = g c b

namespace BayLoop

variable {f : Carapace → Nat → Carapace} {g : Carapace → Nat → CaraBay}

theorem foldl_other (h : BayLoop f g) {l : List Nat} {b : Nat} (hb : b ∉ l) (c : Carapace) :
    (l.foldl f c).bay b = c.bay b := by
  induction l generalizing c with
  | nil => rfl
  | cons a t ih =>
    obtain ⟨hne, ht⟩ := not_or.1 (fun e => hb (List.mem_cons.2 e))
    exact (ih ht _).trans (h.other c a b hne)

theorem foldl_bay (h : BayLoop f g) {l : List Nat} (hnd : l.Nodup) {b : Nat} (hm : b ∈ l) (c : Carapace)
    (hs : c.state = .run) (hb : b < c.bays.length) : (l.foldl f c).bay b = g c b := by
  induction l generalizing c with
  | nil => cases hm
  | cons a t ih =>
    obtain ⟨hat, hnd'⟩ := List.nodup_cons.1 hnd
    have hk := h.keeps c a
    rcases List.mem_cons.1 hm with rfl | ht
    · exact (h.foldl_other hat _).trans (h.same c b hs hb)
    · have hne : b ≠ a := fun e => hat (e ▸ ht)
      exact (ih hnd' ht _ (hk.state.trans hs) (hk.2.symm ▸ hb)).trans (h.local_ _ _ b hk (h.other c a b hne))

/-- The loop over the four bays. -/
theorem range_bay (h : BayLoop f g) (c : Carapace) (hs : c.state = .run) (hl : c.bays.length = 4) {b : Nat} (hb : b < 4) :
    ((List.range 4).foldl f c).bay b = g c b :=
  h.foldl_bay List.nodup_range (List.mem_range.2 hb) c hs (hl.symm ▸ hb)

end BayLoop

theorem Carapace.modBay_same {b : Nat} (hb : b < c.bays.length) (f : CaraBay → CaraBay) :
    (c.modBay b f).bay b = f (c.bay b) := (Carapace.modBay_bay _ _ _ _).trans (if_pos ⟨rfl, hb⟩)

theorem Carapace.modBay_otherBay {b b' : Nat} (hne : b' ≠ b) (f : CaraBay → CaraBay) :
    (c.modBay b f).bay b' = c.bay b' := (Carapace.modBay_bay _ _ _ _).trans (if_neg fun e => hne e.1.symm)

theorem Carapace.tripIf_baysOnly (p : Prop) [Decidable p] (c : Carapace) (b k : Nat) :
    BaysOnly c (if p then c.trip b k else c) := by
  split
  · exact c.trip_baysOnly b k
  · exact .refl c

theorem Carapace.tripIf_other (p : Prop) [Decidable p] (c : Carapace) (k : Nat) {b b' : Nat} (hne : b' ≠ b) :
    (if p then c.trip b k else c).bay b' = c.bay b' := by
  split
  · unfold Carapace.trip
    split
    · exact Carapace.modBay_otherBay hne _
    · rfl
  · rfl

theorem Carapace.tripIf_same (p : Prop) [Decidable p] (c : Carapace) (k : Nat) {b : Nat} (hs : c.state = .run)
    (hb : b < c.bays.length) :
    (if p then c.trip b k else c).bay b = if p then CaraBay.tripped (c.bay b) k else c.bay b := by
  split
  · rw [Carapace.trip_eq_modBay hs]
    exact Carapace.modBay_same hb _
  · rfl

/-- The cause of a mean beyond its limit: DIRECTION where the direction is not permitted (R323). -/
def Carapace.meanCause (c : Carapace) (b k cause : Nat) : Nat :=
  if c.vals.codes.getD (2 * b + k) 0 = 0 then 3 else cause

theorem Carapace.meanCause_congr (h : BaysOnly c d) (b k cause : Nat) : d.meanCause b k cause = c.meanCause b k cause := by
  unfold Carapace.meanCause
  rw [h.vals]

/-- A bay tripped for its discharge where `p` holds, and for its charge where `q` does. -/
def Carapace.tripMeans (c : Carapace) (b : Nat) (p q : Prop) [Decidable p] [Decidable q] : Carapace :=
  let c := if p then c.trip b (c.meanCause b 0 1) else c
  if q then c.trip b (c.meanCause b 1 2) else c

section
variable (c : Carapace) {b : Nat} (p q : Prop) [Decidable p] [Decidable q]

theorem Carapace.tripMeans_baysOnly : BaysOnly c (c.tripMeans b p q) :=
  (Carapace.tripIf_baysOnly p c b _).trans (Carapace.tripIf_baysOnly q _ b _)

theorem Carapace.tripMeans_other {b' : Nat} (hne : b' ≠ b) : (c.tripMeans b p q).bay b' = c.bay b' :=
  (Carapace.tripIf_other q _ _ hne).trans (Carapace.tripIf_other p c _ hne)

theorem Carapace.tripMeans_same (hs : c.state = .run) (hb : b < c.bays.length) : (c.tripMeans b p q).bay b =
    CaraBay.exceeded (c.bay b) (decide p) (decide q) (c.meanCause b 0 1) (c.meanCause b 1 2) := by
  have hk := Carapace.tripIf_baysOnly p c b (c.meanCause b 0 1)
  unfold Carapace.tripMeans
  dsimp only
  rw [Carapace.meanCause_congr hk, Carapace.tripIf_same q _ _ (hk.state.trans hs) (hk.2.symm ▸ hb), Carapace.tripIf_same p c _ hs hb]
  simp only [CaraBay.exceeded, decide_eq_true_eq]

end

/-! ### The means of a millisecond (R323) -/

/-- How often in a row a mean of a bay in direction `k` has been beyond its limit. -/
def Carapace.runOf (c : Carapace) (b k : Nat) (l : List Int) (n : Nat) : Nat :=
  if meanAbove l (c.limit b k) then n + 1 else 0

/-- The counts of a bay's means. -/
def Carapace.counted (c : Carapace) (b : Nat) : CaraBay :=
  { c.bay b with nDis := c.runOf b 0 (c.bay b).dis (c.bay b).nDis, nChg := c.runOf b 1 (c.bay b).chg (c.bay b).nChg }

/-- A bay after one millisecond of R323. -/
def Carapace.ticked (c : Carapace) (b : Nat) : CaraBay :=
  CaraBay.exceeded (c.counted b) (decide (5 ≤ (c.counted b).nDis)) (decide (5 ≤ (c.counted b).nChg))
    (c.meanCause b 0 1) (c.meanCause b 1 2)

/-- The Carapace with the means of a bay counted. -/
def Carapace.counts (c : Carapace) (b : Nat) : Carapace :=
  c.modBay b (fun x => { x with nDis := (c.counted b).nDis, nChg := (c.counted b).nChg })

theorem Carapace.meanTick_eq (c : Carapace) (b : Nat) :
    c.meanTick b = (c.counts b).tripMeans b (5 ≤ (c.counted b).nDis) (5 ≤ (c.counted b).nChg) := rfl

theorem Carapace.meanTick_loop : BayLoop Carapace.meanTick Carapace.ticked where
  keeps c b := (Carapace.modBay_baysOnly c b _).trans (Carapace.tripMeans_baysOnly (c.counts b) _ _)
  same c b hs hb := by
    have hcount : BaysOnly c (c.counts b) := Carapace.modBay_baysOnly c b _
    rw [Carapace.meanTick_eq, Carapace.tripMeans_same (c.counts b) _ _ hs ((Carapace.modBay_length c b _).symm ▸ hb),
      Carapace.meanCause_congr hcount, Carapace.meanCause_congr hcount, Carapace.counts, Carapace.modBay_same hb]
    rfl
  other c b b' hne := (Carapace.tripMeans_other (c.counts b) _ _ hne).trans (Carapace.modBay_otherBay hne _)
  local_ c d b hk hb := by
    unfold Carapace.ticked Carapace.counted Carapace.runOf
    rw [hk.limit, hk.limit, Carapace.meanCause_congr hk, Carapace.meanCause_congr hk, hb]

theorem meanTick_next (h : s.cara.state = .run) (hl : s.cara.bays.length = 4) :
    ∃ t, exec .carapaceMeanTick s = .next t ∧ CaraOnly s t ∧
      t.cara = Carapace.framed { s.cara with bays := t.cara.bays } ∧ ∀ b, b < 4 → t.cara.bay b = s.cara.ticked b := by
  have hk := BaysOnly.foldl Carapace.meanTick_loop.keeps (List.range 4) s.cara
  have hbay := fun b (hb : b < 4) => Carapace.meanTick_loop.range_bay s.cara h hl hb
  have hx : exec .carapaceMeanTick s = caraNext s ((List.range 4).foldl Carapace.meanTick s.cara).framed := by
    show execCarapaceMeanTick s = _
    rw [execCarapaceMeanTick_eq, if_pos h]
  generalize (List.range 4).foldl Carapace.meanTick s.cara = d at hk hbay hx
  exact ⟨_, hx, caraNext_only _ _ rfl, congrArg Carapace.framed hk.1, hbay⟩

theorem meanAbove_iff {l : List Int} (lim : Int) (h : l.length = 10) : meanAbove l lim = true ↔ 10 * lim < sumI l := by
  simp [meanAbove, h]

/-- A direction that is not permitted has the least limit of Table 13-3. -/
theorem codeLimit_zero : codeLimit 0 = 500000 := rfl

/-! ### The key reset (R331, R332, R334) -/

/-- The Carapace with the bank adopted, before any latch clears. -/
def Carapace.adopted (c : Carapace) (bank tl : Nat) (wire : Bool) : Carapace :=
  { c with
    bank := bankCodes bank, bankTl := tl % 4, own := some { codes := bankCodes bank, tl := tl % 4 }, sealChanged := false
    partner := if c.cpxLost then none else c.partner, tripReq := wire }

theorem Carapace.present_congr (h : BaysOnly c d) {b : Nat} (hb : d.bay b = c.bay b) (wire : Bool) (k : Nat) :
    d.present wire b k = c.present wire b k := by
  have htones : d.tones = c.tones := by rw [h.1]
  unfold Carapace.present
  rw [hb, h.limit, h.limit, h.vals, h.inputs, htones]

/-- A bay with the latches that a key reset clears taken away (R334). -/
def Carapace.unlatched (c : Carapace) (wire : Bool) (b : Nat) : CaraBay :=
  let left := (c.bay b).causes.filter (fun k => c.present wire b k)
  { c.bay b with causes := left, bcs24h := (c.bay b).bcs24h && decide (8 ∈ left), dead0 := false, dead1 := false }

theorem Carapace.unlatch_loop (wire : Bool) :
    BayLoop (fun c b => c.unlatch wire b) (fun c b => c.unlatched wire b) where
  keeps c b := c.modBay_baysOnly b _
  same c b _ hb := Carapace.modBay_same hb _
  other c b b' hne := Carapace.modBay_otherBay hne _
  local_ c d b hk hb := by
    unfold Carapace.unlatched
    simp only [hb, Carapace.present_congr hk hb]

/-- A bay with the trips of an adopted limit. -/
def Carapace.rechecked (c : Carapace) (b : Nat) : CaraBay :=
  CaraBay.exceeded (c.bay b) (meanAbove (c.bay b).dis (c.limit b 0)) (meanAbove (c.bay b).chg (c.limit b 1))
    (c.meanCause b 0 1) (c.meanCause b 1 2)

theorem Carapace.recheck_eq (c : Carapace) (b : Nat) : c.recheck b = c.tripMeans b
    (meanAbove (c.bay b).dis (c.limit b 0) = true) (meanAbove (c.bay b).chg (c.limit b 1) = true) := by
  have hk := Carapace.tripIf_baysOnly (meanAbove (c.bay b).dis (c.limit b 0) = true) c b (c.meanCause b 0 1)
  unfold Carapace.tripMeans
  rw [← hk.limit b 1]
  rfl

theorem Carapace.recheck_loop : BayLoop Carapace.recheck Carapace.rechecked where
  keeps c b := c.tripMeans_baysOnly _ _
  same c b hs hb := by
    rw [Carapace.recheck_eq, Carapace.tripMeans_same c _ _ hs hb, Bool.decide_eq_true, Bool.decide_eq_true]
    rfl
  other c b b' hne := c.tripMeans_other _ _ hne
  local_ c d b hk hb := by
    unfold Carapace.rechecked
    rw [hk.limit, hk.limit, Carapace.meanCause_congr hk, Carapace.meanCause_congr hk, hb]

/-- The Carapace after a key reset. -/
def Carapace.keyReset (c : Carapace) (bank tl : Nat) (wire : Bool) : Carapace :=
  (List.range 4).foldl Carapace.recheck
    (Carapace.settle ((List.range 4).foldl (fun c b => c.unlatch wire b) (c.adopted bank tl wire)))

theorem Carapace.keyReset_baysOnly (c : Carapace) (bank tl : Nat) (wire : Bool) :
    BaysOnly (c.adopted bank tl wire) (c.keyReset bank tl wire) :=
  ((BaysOnly.foldl (Carapace.unlatch_loop wire).keeps _ _).trans (Carapace.settle_baysOnly _)).trans
    (BaysOnly.foldl Carapace.recheck_loop.keeps _ _)

theorem Carapace.keyReset_bay (c : Carapace) (bank tl : Nat) (wire : Bool) (h : c.state = .run) (hl : c.bays.length = 4)
    {b : Nat} (hb : b < 4) : (c.keyReset bank tl wire).bay b =
      (let a := c.adopted bank tl wire
       CaraBay.exceeded ((a.unlatched wire b).settled c.slotInvalid) (meanAbove (c.bay b).dis (a.limit b 0))
        (meanAbove (c.bay b).chg (a.limit b 1)) (a.meanCause b 0 1) (a.meanCause b 1 2)) := by
  have hu := BaysOnly.foldl (Carapace.unlatch_loop wire).keeps (List.range 4) (c.adopted bank tl wire)
  have hub := (Carapace.unlatch_loop wire).range_bay (c.adopted bank tl wire) h hl hb
  unfold Carapace.keyReset
  generalize (List.range 4).foldl (fun c b => c.unlatch wire b) (c.adopted bank tl wire) = e at hu hub
  have hs := hu.trans e.settle_baysOnly
  have hrun : e.state = .run := hu.state.trans h
  have hlen : e.bays.length = 4 := hu.2.trans hl
  have hslot : e.slotInvalid = c.slotInvalid := by rw [hu.1]; rfl
  have hbay : e.settle.bay b = ((c.adopted bank tl wire).unlatched wire b).settled c.slotInvalid := by
    rw [e.settle_bay hrun (hlen.symm ▸ hb), hub, hslot]
  rw [Carapace.recheck_loop.range_bay e.settle (hs.state.trans h) (hs.2.trans hl) hb]
  unfold Carapace.rechecked
  rw [hbay, hs.limit, hs.limit, Carapace.meanCause_congr hs, Carapace.meanCause_congr hs]
  rfl

theorem Module.noteLock_eq (m : Module) (c : Carapace) :
    m.noteLock c = { m with sup := { m.sup with lockSeen := m.sup.lockSeen || c.lockStop } } := by
  cases hl : c.lockStop <;> simp [Module.noteLock, hl]

theorem exec_keyReset (h : s.cara.state = .run) (hk : s.cara.keyStuck = false) (bank tl : Nat) :
    exec (.keyReset bank tl) s = onBoth s (s.cara.keyReset bank tl s.m.ver.tripReq)
      (Module.noteLock { s.m with sup := { s.m.sup with coverOff := false } }
        (s.cara.keyReset bank tl s.m.ver.tripReq)) := by
  show execKeyReset bank tl s = _
  exact if_pos ⟨h, hk⟩

theorem exec_keyReset_stuck (hk : s.cara.keyStuck = true) (bank tl : Nat) : exec (.keyReset bank tl) s = .next s :=
  if_neg fun g => by simp [hk] at g

theorem keyReset_next (h : s.cara.state = .run) (hk : s.cara.keyStuck = false) (hl : s.cara.bays.length = 4)
    (bank tl : Nat) : ∃ t, exec (.keyReset bank tl) s = .next t ∧ t.pending = s.pending ∧
      t.m = { s.m with sup := { s.m.sup with
        coverOff := false, lockSeen := s.m.sup.lockSeen || t.cara.lockStop } } ∧
      BaysOnly (s.cara.adopted bank tl s.m.ver.tripReq) t.cara ∧ ∀ b, b < 4 → t.cara.bay b =
        (let a := s.cara.adopted bank tl s.m.ver.tripReq
         CaraBay.exceeded ((a.unlatched s.m.ver.tripReq b).settled s.cara.slotInvalid)
          (meanAbove (s.cara.bay b).dis (a.limit b 0)) (meanAbove (s.cara.bay b).chg (a.limit b 1))
          (a.meanCause b 0 1) (a.meanCause b 1 2)) := by
  have hbay := fun b (hb : b < 4) => s.cara.keyReset_bay bank tl s.m.ver.tripReq h hl hb
  have hkeep := s.cara.keyReset_baysOnly bank tl s.m.ver.tripReq
  have hx := exec_keyReset h hk bank tl
  generalize s.cara.keyReset bank tl s.m.ver.tripReq = d at hbay hkeep hx
  exact ⟨_, hx, rfl, Module.noteLock_eq _ d, hkeep, hbay⟩

/-! ### The bank and CPX (R331, R332) -/

theorem bankChange_next (h : s.cara.state = .run) (bank tl : Nat) :
    ∃ t, exec (.bankChange bank tl) s = .next t ∧ t.pending = s.pending ∧
      t.m = { s.m with sup := { s.m.sup with coverOff := true } } ∧
      t.cara = { s.cara with
        bank := bankCodes bank, bankTl := tl % 4, sealChanged := s.cara.sealChanged ||
          Carapace.bankDiffers { s.cara with bank := bankCodes bank, bankTl := tl % 4 } } := by
  refine ⟨_, rfl, rfl, rfl, ?_⟩
  dsimp only
  rw [if_pos h]

/-- Where own values are in force, the bank as it reads is not among the values applied. -/
theorem Carapace.vals_of_own {own : CaraVals} (hc : c.own = some own) (hd : d.own = some own)
    (hp : d.partner = c.partner) : d.vals = c.vals := by
  unfold Carapace.vals
  rw [hc, hd, hp]
  rfl

end Machine

/-- Settles O4: each part is a field of the reset state. -/
theorem resetStands : Obligations.ResetStands :=
  ⟨rfl, rfl, rfl, rfl, by decide, rfl, rfl, rfl, rfl, rfl, rfl, rfl, by decide⟩

/-- Settles O9: a trip is one bay rewritten, and a wired input that changes calls for its trips at each of its bays. -/
theorem carapaceTripsLatch : Obligations.CarapaceTripsLatch := by
  refine ⟨fun s h hl => ⟨fun b hb hA hB => ?_, fun b hb hd => ?_, fun p hp hs ht => ?_,
    fun p ht => exec_toneLossTrip_off p ht, tripReqHigh_next h hl, fun hr => if_neg (by simp [hr])⟩,
    fun s h hl hi k hk => ⟨fun chan => ?_, fun hne => ?_, exec_safetyDiscrepancy_agree, fun out seen low => ?_,
      fun chan => ?_⟩⟩
  · obtain ⟨t, ht, honly, hbays, hbay, hother⟩ := trip_next h (hl.symm ▸ hb) 8
    exact ⟨t, (exec_bcsNoValid hA hB).trans ht, honly, hbays, hbay, hother⟩
  · obtain ⟨t, ht, honly, hbays, hother, hbay⟩ :=
      modBay_next b (fun x => { CaraBay.tripped x 8 with bcs24h := true }) (hl.symm ▸ hb)
    exact ⟨t, (exec_bcsDegradedExpire h hd).trans ht, honly, hbays, hbay, hother⟩
  · obtain ⟨t, hx, honly, hbays, htrip⟩ := trip_next (b := p / 8) h (hl.symm ▸ by omega) 4
    exact ⟨t, (exec_toneLossTrip hs ht).trans hx, honly, hbays, htrip⟩
  · obtain ⟨t, ht, honly, hkeeps, hin, hbay⟩ := modInput_next h hl hi hk (·.opened chan)
    exact ⟨t, (exec_safetyChannelOpen k chan).trans ht, honly, hkeeps, hin.trans (SafeIn.opened_eq _ _),
      hin ▸ SafeIn.opened_isOpen _ _, hbay⟩
  · obtain ⟨t, ht, honly, hkeeps, hin, hbay⟩ := modInput_next h hl hi hk SafeIn.differs
    exact ⟨t, (exec_safetyDiscrepancy hne).trans ht, honly, hkeeps, hin, hbay⟩
  · obtain ⟨t, ht, honly, hkeeps, hin, hbay⟩ := modInput_next h hl hi hk (·.pulsed out seen low)
    refine ⟨t, (exec_safetyTestPulse k out seen low).trans ht, honly, hkeeps, hin, ?_, hbay⟩
    rintro rfl rfl
    exact hin ▸ SafeIn.pulsed_isCross _ _
  · exact ⟨_, exec_safetyChannelClose k chan, caraNext_only _ _ rfl, s.cara.modInput_keeps k _, rfl,
      (Carapace.modInput_same (hi.symm ▸ hk) _).trans (SafeIn.closed_eq _ _)⟩

/-- Settles O11: the tick is a loop over the bays, each of which counts and trips by its own means. -/
theorem meanTickTripsAtFifth : Obligations.MeanTickTripsAtFifth := by
  intro s h hl
  obtain ⟨t, ht, honly, hcara, hbay⟩ := meanTick_next h hl
  refine ⟨t, ht, honly, hcara, fun b hb => ⟨hbay b hb, fun d _ => ⟨rfl, fun h0 => ?_⟩, fun l lim => meanAbove_iff lim⟩⟩
  rw [Carapace.limit, h0, codeLimit_zero]

/-- Settles O12: the bank by its one write, the key reset by its three loops over the bays, CPX by what the combined values
are made of. -/
theorem bankKeyAndCpx : Obligations.BankKeyAndCpx := by
  intro s h
  refine ⟨fun bank tl => ?_, fun bank tl hk hl => ?_, fun bank tl hk => exec_keyReset_stuck hk bank tl, ?_, ?_, fun f => ?_,
    ?_⟩
  · obtain ⟨t, ht, hp, hm, hc⟩ := bankChange_next h bank tl
    refine ⟨t, ht, hp, hm, by rw [hc], ?_, ?_⟩
    · split
      · rfl
      case isFalse hown =>
        obtain ⟨own, hown⟩ := Option.ne_none_iff_exists'.1 hown
        exact Carapace.vals_of_own hown (by rw [hc]; exact hown) (by rw [hc])
    · rw [hc, Bool.or_eq_true, Carapace.bankDiffers_iff]
  · obtain ⟨t, ht, hp, hm, hkeep, hbay⟩ := keyReset_next h hk hl bank tl
    have hc : { t.cara with bays := s.cara.bays } = s.cara.adopted bank tl s.m.ver.tripReq := by rw [hkeep.1]; rfl
    refine ⟨t, ht, hp, hm, hkeep.1, fun b hb => ?_⟩
    rw [hc]
    exact hbay b hb
  all_goals have hon : s.cara.state ≠ .off := by simp [h]
  · exact ⟨_, if_neg hon, caraNext_only _ _ rfl, rfl⟩
  · exact ⟨_, rfl, caraNext_only _ _ rfl, rfl⟩
  · refine ⟨_, if_neg hon, caraNext_only _ _ rfl, rfl, fun v hv => ?_⟩
    unfold Carapace.vals
    dsimp only
    rw [hv]
    rfl
  · exact ⟨_, if_neg hon, caraNext_only _ _ rfl, rfl, rfl⟩

end Sys2Proof

/-! ## Bay current channels and the module's copy of the report (R320 to R322, R336) -/

namespace Sys2Proof

namespace Machine

variable {s : State}

/-! ### A channel and a bay take a sample (R320, R322) -/

theorem BcsChan.take_volts {ch : BcsChan} {raw : Int} (hl : ch.linked = false) (lo : -11000000 ≤ raw) (hi : raw ≤ 11000000) :
    ch.take raw = { ch with valid := !ch.faulted, cur := raw * 5 } := by
  simp [BcsChan.take, bcsCurrent, hl, lo, hi]

theorem BcsChan.take_loop {ch : BcsChan} {raw : Int} (hl : ch.linked = true) (lo : 3600000 ≤ raw) (hi : raw ≤ 21000000) :
    ch.take raw = { ch with valid := !ch.faulted, cur := (raw - 12000000) * 25 / 4 } := by
  simp [BcsChan.take, bcsCurrent, hl, lo, hi]

/-- A sample finds neither the mode nor a fault of its channel, and a faulted channel stays invalid (R321). -/
theorem BcsChan.take_keeps (ch : BcsChan) (raw : Int) : (ch.faulted = true → (ch.take raw).valid = false) ∧
    (ch.take raw).faulted = ch.faulted ∧ (ch.take raw).linked = ch.linked := by
  unfold BcsChan.take
  cases bcsCurrent ch.linked raw with
  | none => exact ⟨fun _ => rfl, rfl, rfl⟩
  | some i => exact ⟨fun h => by simp [h], rfl, rfl⟩

section
variable (x : CaraBay) (p q : Int)

theorem CaraBay.take_both (ha : (x.chA.take p).valid = true) (hb : (x.chB.take q).valid = true) :
    (x.take p q).dis = (max (-(x.chA.take p).cur) (-(x.chB.take q).cur) :: x.dis).take 10 ∧
    (x.take p q).chg = (max (x.chA.take p).cur (x.chB.take q).cur :: x.chg).take 10 ∧
    (x.take p q).okRun = x.okRun + 1 := by
  simp [CaraBay.take, ha, hb]

/-- One valid channel gives both currents, and marks the bay degraded. -/
theorem CaraBay.take_one (h : (x.chA.take p).valid = !(x.chB.take q).valid) :
    (x.take p q).degraded = true ∧ (x.take p q).okRun = 0 ∧
    (let i := if (x.chA.take p).valid then (x.chA.take p).cur else (x.chB.take q).cur
     (x.take p q).dis = (-i :: x.dis).take 10 ∧ (x.take p q).chg = (i :: x.chg).take 10) := by
  cases hb : (x.chB.take q).valid <;> simp [CaraBay.take, h, hb]

theorem CaraBay.take_none (ha : (x.chA.take p).valid = false) (hb : (x.chB.take q).valid = false) :
    (x.take p q).dis = [] ∧ (x.take p q).chg = [] ∧ (x.take p q).nDis = 0 ∧ (x.take p q).nChg = 0 := by
  simp [CaraBay.take, ha, hb]

end

/-! ### The commands -/

theorem exec_carapaceSample (h : s.cara.state = .run) (raw : List Int) :
    exec (.carapaceSample raw) s = caraNext s (s.cara.sampled raw) := if_pos h

/-- A bay with one of its inputs faulted (R321). -/
def CaraBay.faultedAt (x : CaraBay) (chan : Nat) : CaraBay :=
  if chan = 0 then { x with chA := { x.chA with faulted := true, valid := false } }
  else { x with chB := { x.chB with faulted := true, valid := false } }

theorem exec_bcsModeLinkChange (h : s.cara.state = .run) (b chan : Nat) :
    exec (.bcsModeLinkChange b chan) s = caraNext s (s.cara.modBay b (·.faultedAt chan)) := if_pos h

theorem exec_bcsDiscrepancy {b : Nat} (ha : (s.cara.bay b).chA.valid = true) (hb : (s.cara.bay b).chB.valid = true)
    (hd : 1000000 < ((s.cara.bay b).chA.cur - (s.cara.bay b).chB.cur).natAbs) : exec (.bcsDiscrepancy b) s =
      caraNext s (s.cara.modBay b (fun x => { x with discrepancy := true, agreeRun := 0 })) := if_pos ⟨ha, hb, hd⟩

/-! ### What holds in the alert map after a condition is set (R416) -/

section
variable (m : Module) (src : Island) (sev : Nat) (v : Int) (p : List Byte) {code scope inst : Nat}

theorem Module.holds_iff_mem : m.holds code scope inst = true ↔ Cond.mk code scope (m.instOf code inst) ∈ m.al.conds := by
  unfold Module.holds
  rw [List.any_eq_true]
  constructor
  · rintro ⟨⟨a, b, i⟩, hm, hq⟩
    simp only [Bool.and_eq_true, decide_eq_true_eq] at hq
    obtain ⟨⟨rfl, rfl⟩, rfl⟩ := hq
    exact hm
  · intro h
    exact ⟨_, h, by simp⟩

theorem Module.instOf_inj {inst' : Nat} (h : m.instOf code inst' = m.instOf code inst) : inst' = inst := by
  unfold Module.instOf at h
  split at h <;> omega

theorem Module.mem_raise {c : Cond} (hc : c.code ≠ cJournalQueueFull) :
    c ∈ (m.raise src code sev scope inst v p).al.conds ↔ c ∈ m.al.conds ∨ c = ⟨code, scope, m.instOf code inst⟩ := by
  unfold Module.raise
  split
  case isTrue h => exact ⟨.inl, fun g => g.elim id fun e => e ▸ m.holds_iff_mem.1 h⟩
  case isFalse =>
    rw [← List.mem_singleton (a := c), ← List.mem_append]
    exact ⟨fun g => (Module.jotCond_new _ _ _ _ _ _ _ _ _ c g).resolve_right hc,
      fun g => Module.jotCond_conds _ _ _ _ _ _ _ _ _ c g⟩

theorem Module.mem_clear {c : Cond} (hc : c.code ≠ cJournalQueueFull) :
    c ∈ (m.clear src code scope inst).al.conds ↔ c ∈ m.al.conds ∧ c ≠ ⟨code, scope, m.instOf code inst⟩ := by
  unfold Module.clear
  split
  case isTrue =>
    rw [← mem_dropFrom]
    exact ⟨fun g => (Module.jotCond_new _ _ _ _ _ _ _ _ _ c g).resolve_right hc,
      fun g => Module.jotCond_conds _ _ _ _ _ _ _ _ _ c g⟩
  case isFalse h => exact ⟨fun g => ⟨g, fun e => h (m.holds_iff_mem.2 (e ▸ g))⟩, And.left⟩

/-- Setting a condition at one place leaves every other as it holds; JOURNAL_QUEUE_FULL may rise through a record. -/
theorem Module.setCond_otherInst (on : Bool) {code' scope' inst' : Nat} (hf : code' ≠ cJournalQueueFull)
    (hne : code' ≠ code ∨ scope' ≠ scope ∨ inst' ≠ inst) :
    (m.setCond on src code sev scope inst v).holds code' scope' inst' = m.holds code' scope' inst' := by
  have hi : (m.setCond on src code sev scope inst v).instOf code' inst' = m.instOf code' inst' := by
    rw [Module.setCond_only m on src code sev scope inst v]
    rfl
  have hk : Cond.mk code' scope' (m.instOf code' inst') ≠ ⟨code, scope, m.instOf code inst⟩ := by
    intro e
    obtain ⟨rfl, rfl, hinst⟩ := Cond.mk.inj e
    exact (hne.resolve_left (by simp)).resolve_left (by simp) (m.instOf_inj hinst)
  rw [Bool.eq_iff_iff, Module.holds_iff_mem, Module.holds_iff_mem, hi]
  cases on with
  | true => exact (m.mem_raise src sev v [] hf).trans (or_iff_left hk)
  | false => exact (m.mem_clear src hf).trans (and_iff_left hk)

end

/-! ### The report of the Carapace (R336) -/

/-- What the report says of bay `b`. -/
def Module.bayConds (m : Module) (r : CaraReport) (b : Nat) : Module :=
  (m.setCond (r.degraded.getD b false) .cpi cBcsDegraded sevWarning scBay b).setCond (r.discrepancy.getD b false) .cpi
    cBcsDiscrepancy sevWarning scBay b

/-- What the report says of the module as a whole. -/
def Module.flagConds (m : Module) (r : CaraReport) : Module :=
  (((m.setCond (bitAt r.flags 0) .cpi cSealChanged).setCond (bitAt r.flags 1) .cpi cSealMismatch).setCond
    (bitAt r.flags 2) .cpi cCpxLost).setCond (bitAt r.flags 3) .cpi cKeyStuck

section
variable (m : Module) (r : CaraReport)

theorem Module.reportConds_eq : m.reportConds =
    (List.range 4).foldl (fun m' b => m'.bayConds m.rep b) (m.flagConds m.rep) := rfl

theorem Module.bayConds_only (b : Nat) : JournalOnly m (m.bayConds r b) :=
  (Module.setCond_only _ _ _ _ _ _ _ _).trans (Module.setCond_only _ _ _ _ _ _ _ _)

theorem Module.flagConds_only : JournalOnly m (m.flagConds r) :=
  (((Module.setCond_only _ _ _ _ _ _ _ _).trans (Module.setCond_only _ _ _ _ _ _ _ _)).trans
    (Module.setCond_only _ _ _ _ _ _ _ _)).trans (Module.setCond_only _ _ _ _ _ _ _ _)

theorem Module.bayConds_holds (b : Nat) :
    (m.bayConds r b).holds cBcsDegraded scBay b = r.degraded.getD b false ∧
    (m.bayConds r b).holds cBcsDiscrepancy scBay b = r.discrepancy.getD b false := by
  refine ⟨?_, Module.setCond_holds _ _ _ _ _ _ _ _ (by decide)⟩
  rw [Module.bayConds, Module.setCond_otherInst _ _ _ _ _ (by decide) (.inl (by decide))]
  exact Module.setCond_holds _ _ _ _ _ _ _ _ (by decide)

/-- What the report says of one bay leaves the conditions of another bay, or of the module, as they are. -/
theorem Module.bayConds_other {b code scope inst : Nat} (hf : code ≠ cJournalQueueFull) (hne : scope ≠ scBay ∨ inst ≠ b) :
    (m.bayConds r b).holds code scope inst = m.holds code scope inst := by
  rw [Module.bayConds, Module.setCond_otherInst _ _ _ _ _ hf (.inr hne),
    Module.setCond_otherInst _ _ _ _ _ hf (.inr hne)]

theorem Module.baysConds_only (l : List Nat) : JournalOnly m (l.foldl (fun m b => m.bayConds r b) m) := by
  induction l generalizing m with
  | nil => rfl
  | cons b t ih => exact (m.bayConds_only r b).trans (ih _)

theorem Module.baysConds_other {l : List Nat} {code scope inst : Nat} (hf : code ≠ cJournalQueueFull)
    (hne : scope ≠ scBay ∨ inst ∉ l) :
    (l.foldl (fun m b => m.bayConds r b) m).holds code scope inst = m.holds code scope inst := by
  induction l generalizing m with
  | nil => rfl
  | cons b t ih =>
    rw [List.foldl_cons, ih _ (hne.imp id fun g e => g (List.mem_cons_of_mem _ e)),
      m.bayConds_other r hf (hne.imp id (List.ne_of_not_mem_cons))]

theorem Module.baysConds_holds {l : List Nat} (hnd : l.Nodup) {b : Nat} (hb : b ∈ l) :
    (l.foldl (fun m b => m.bayConds r b) m).holds cBcsDegraded scBay b = r.degraded.getD b false ∧
    (l.foldl (fun m b => m.bayConds r b) m).holds cBcsDiscrepancy scBay b = r.discrepancy.getD b false := by
  induction l generalizing m with
  | nil => cases hb
  | cons a t ih =>
    obtain ⟨hat, hnd⟩ := List.nodup_cons.1 hnd
    rcases List.mem_cons.1 hb with rfl | ht
    · rw [List.foldl_cons, Module.baysConds_other _ _ (by decide) (.inr hat),
        Module.baysConds_other _ _ (by decide) (.inr hat)]
      exact m.bayConds_holds r b
    · exact ih _ hnd ht

/-- The four conditions of the report's flags are of four codes. -/
theorem Module.flagConds_holds : (m.flagConds r).holds cSealChanged scModule 0 = bitAt r.flags 0 ∧
    (m.flagConds r).holds cSealMismatch scModule 0 = bitAt r.flags 1 ∧
    (m.flagConds r).holds cCpxLost scModule 0 = bitAt r.flags 2 ∧
    (m.flagConds r).holds cKeyStuck scModule 0 = bitAt r.flags 3 := by
  have other : ∀ (n : Module) (on : Bool) (code code' : Nat), code' ≠ cJournalQueueFull → code' ≠ code →
      (n.setCond on .cpi code).holds code' scModule 0 = n.holds code' scModule 0 := fun n on _ _ hf hne =>
    n.setCond_otherInst _ _ _ on hf (.inl hne)
  have same : ∀ (n : Module) (on : Bool) (code : Nat), code ≠ cJournalQueueFull →
      (n.setCond on .cpi code).holds code scModule 0 = on := fun n on code hf => n.setCond_holds _ _ _ _ _ _ _ hf
  unfold Module.flagConds
  refine ⟨?_, ?_, ?_, same _ _ _ (by decide)⟩
  · rw [other _ _ cKeyStuck _ (by decide) (by decide), other _ _ cCpxLost _ (by decide) (by decide),
      other _ _ cSealMismatch _ (by decide) (by decide), same _ _ _ (by decide)]
  · rw [other _ _ cKeyStuck _ (by decide) (by decide), other _ _ cCpxLost _ (by decide) (by decide), same _ _ _ (by decide)]
  · rw [other _ _ cKeyStuck _ (by decide) (by decide), same _ _ _ (by decide)]

end

theorem exec_carapaceReportRx_runs (hc : s.cara.state ≠ .off) (hr : s.m.runs = true) :
    exec .carapaceReportRx s = .next { s with
      m := (Module.reportConds { s.m with rep := s.cara.report }).tripEvents.scarabRun } := by
  show execCarapaceReportRx s = _
  unfold execCarapaceReportRx
  rw [onModule_eq, if_pos ⟨hc, hr⟩]

theorem exec_carapaceReportRx_idle (h : s.cara.state = .off ∨ s.m.runs = false) :
    exec .carapaceReportRx s = .next s := by
  show execCarapaceReportRx s = _
  unfold execCarapaceReportRx
  rw [onModule_eq, if_neg]
  rintro ⟨hc, hr⟩
  exact h.elim hc fun g => by simp [hr] at g

end Machine

open Machine

/-- Settles O10: a sample is taken channel by channel and bay by bay, and each of the other commands is one bay rewritten. -/
theorem bayCurrentChannels : Obligations.BayCurrentChannels := by
  intro s hl
  refine ⟨fun raw h => ?_, fun x p q => ?_, fun ch raw hn hf lo hi => ?_, fun ch raw hn hf lo hi => ?_, BcsChan.take_keeps,
    fun links bank tl h => ?_, fun b chan h hb => ?_, fun b hb hA hB hd => ?_⟩
  · exact ⟨_, exec_carapaceSample h raw, caraNext_only _ _ rfl, Carapace.sampled_baysOnly raw,
      fun b hb => Carapace.sampled_bay raw (hl.symm ▸ hb)⟩
  · obtain ⟨hc, h0, h1, hA, hB⟩ := x.take_keeps p q
    refine ⟨_, rfl, hA, hB, hc, h0, h1, ?_⟩
    rw [hA, hB]
    refine ⟨x.take_both p q, fun ha hb => ?_, fun ha hb => ?_, x.take_none p q⟩
    · have := x.take_one p q (by rw [ha, hb]; rfl)
      rwa [if_pos ha] at this
    · have := x.take_one p q (by rw [ha, hb]; rfl)
      rwa [if_neg (by simp [ha])] at this
  · rw [BcsChan.take_volts hn lo hi]
    exact ⟨by simp [hf], rfl⟩
  · rw [BcsChan.take_loop hn lo hi]
    exact ⟨by simp [hf], rfl⟩
  · obtain ⟨t, ht, honly, -, hbay⟩ := selfTestPass_energises links bank tl h hl
    refine ⟨t, ht, honly, fun b hb => ?_⟩
    have hlatch := CaraBay.heardAll_latchOnly s.cara.inputs b (List.range 5)
      (((s.cara.bay b).found links b).settled s.cara.slotInvalid)
    rw [← hbay b hb] at hlatch
    rw [hlatch]
    exact ⟨rfl, rfl, rfl, rfl⟩
  · obtain ⟨t, ht, honly, hk, hother, hbay⟩ := modBay_next b (·.faultedAt chan) (hl.symm ▸ hb)
    exact ⟨t, (exec_bcsModeLinkChange h b chan).trans ht, honly, hk, hother, hbay⟩
  · obtain ⟨t, ht, honly, hk, hother, hbay⟩ :=
      modBay_next b (fun x => { x with discrepancy := true, agreeRun := 0 }) (hl.symm ▸ hb)
    exact ⟨t, (exec_bcsDiscrepancy hA hB hd).trans ht, honly, hk, hother, hbay⟩

/-- Settles O14: the flags set four conditions of the module, then each bay its own two, which no later bay touches. -/
theorem reportIsCarapaceRecord : Obligations.ReportIsCarapaceRecord := by
  refine ⟨fun c => ⟨rfl, rfl, rfl, rfl, rfl, rfl, rfl⟩,
    fun s => ⟨fun hc hr => ⟨_, rfl, exec_carapaceReportRx_runs hc hr⟩, exec_carapaceReportRx_idle⟩, fun m => ?_⟩
  have flag : ∀ code, code ≠ cJournalQueueFull →
      m.reportConds.holds code scModule 0 = (m.flagConds m.rep).holds code scModule 0 := fun code hf =>
    Module.baysConds_other _ _ hf (.inl (by decide))
  obtain ⟨h0, h1, h2, h3⟩ := m.flagConds_holds m.rep
  exact ⟨(m.flagConds_only m.rep).trans (Module.baysConds_only _ _ _), (flag _ (by decide)).trans h0,
    (flag _ (by decide)).trans h1, (flag _ (by decide)).trans h2, (flag _ (by decide)).trans h3,
    fun b hb => Module.baysConds_holds _ _ List.nodup_range (List.mem_range.2 hb)⟩

end Sys2Proof

/-! ## The order in which a DCP request is examined (R367, R368, R374, R376 to R379) -/

namespace Sys2Proof

namespace Machine

section
variable {m : Module} {req : DcpReq} {op len : Nat} {inRange : Bool} {run : Module → Session → Module × Option Answer}

/-! ### Before the session is known -/

theorem Module.dcpUp_recovery (hu : m.dcpUp = true) : m.sup.recovery = false := by
  simp only [Module.dcpUp, Module.runs, Bool.and_eq_true, decide_eq_true_eq] at hu
  exact hu.1.1.2

theorem dcpRequest_down (hu : m.dcpUp = false) (hr : m.sup.phase = .on → m.sup.recovery = false) :
    m.dcpRequest req op len inRange run = m := by
  unfold Module.dcpRequest
  rw [if_neg fun g => by simp [hr g.1] at g, if_pos hu]

theorem dcpRequest_up (hu : m.dcpUp = true) : m.dcpRequest req op len inRange run =
    m.admitted (fun m => m.dcpTaken req op len inRange run) := by
  unfold Module.dcpRequest
  rw [if_neg fun g => by simp [Module.dcpUp_recovery hu] at g, if_neg (by simp [hu])]

theorem dcpRequest_overRate (hu : m.dcpUp = true) (h : 2000 ≤ m.thisSecond) :
    m.dcpRequest req op len inRange run = m.countDcp 6 := (dcpRequest_up hu).trans (if_pos h)

/-! ### With a session (steps 4 and 5 of R367) -/

section
variable (hu : m.dcpUp = true) (h : m.thisSecond < 2000)
include hu h

theorem dcpRequest_admitted :
    m.dcpRequest req op len inRange run = m.tallied.dcpTaken req op len inRange run :=
  (dcpRequest_up hu).trans (if_neg (by omega))

theorem dcpRequest_unknown (hx : m.session? req.session = none) :
    m.dcpRequest req op len inRange run = m.tallied.authReview.countDcp 3 := by
  have hs : m.tallied.authReview.session? req.session = none :=
    (Module.session_only m.tallied.authReview_only _).trans hx
  rw [dcpRequest_admitted hu h, Module.dcpTaken, hs]

variable {x : Session} (hx : m.session? req.session = some x)
include hx

theorem dcpRequest_known : m.dcpRequest req op len inRange run =
    (let a := m.tallied.authReview
     if req.unauth then a.countDcp 3
     else if req.macOk = false then a.authFailed
     else if x.confirmed = false ∧ op ≠ 0x0002 then a.countDcp 3
     else
      let n := a.heard x req
      let y := (n.session? x.id).getD x
      if isNew y req.seq = false then
        (n.countDcp 5).emit (.dcp y.port y.src y.id req.seq op stReplay (1 + rekeyDue y) (le 2 (origStatus y req.seq)))
      else if 16 ≤ n.waitingOf y.id then (n.countDcp 7).answer y req.seq op stBusy 0 []
      else (n.modSession y.id (accept req.seq)).serve y req op len inRange run) := by
  have hs : m.tallied.authReview.session? req.session = some x :=
    (Module.session_only m.tallied.authReview_only _).trans hx
  rw [dcpRequest_admitted hu h, Module.dcpTaken, hs]

theorem dcpRequest_unauth (hua : req.unauth = true) :
    m.dcpRequest req op len inRange run = m.tallied.authReview.countDcp 3 :=
  (dcpRequest_known hu h hx).trans (if_pos hua)

theorem dcpRequest_badMac (hua : req.unauth = false) (hmac : req.macOk = false) :
    m.dcpRequest req op len inRange run = m.tallied.authReview.authFailed :=
  (dcpRequest_known hu h hx).trans ((if_neg (by simp [hua])).trans (if_pos hmac))

theorem dcpRequest_unconfirmed (hua : req.unauth = false) (hmac : req.macOk = true) (hc : x.confirmed = false)
    (hop : op ≠ 0x0002) : m.dcpRequest req op len inRange run = m.tallied.authReview.countDcp 3 :=
  (dcpRequest_known hu h hx).trans
    ((if_neg (by simp [hua])).trans ((if_neg (by simp [hmac])).trans (if_pos ⟨hc, hop⟩)))

/-! ### From step 6 of R367 on -/

variable (hua : req.unauth = false) (hmac : req.macOk = true) (hc : x.confirmed = true ∨ op = 0x0002)
  (hrep : x.replaces = none)
include hua hmac hc hrep

theorem dcpRequest_valid : m.dcpRequest req op len inRange run =
    (let n := m.tallied.authReview.heard x req
     let y := dcpSession x req
     if isNew x req.seq = false then
       (n.countDcp 5).emit (.dcp y.port y.src y.id req.seq op stReplay (1 + rekeyDue y) (le 2 (origStatus y req.seq)))
     else if 16 ≤ m.waitingOf x.id then (n.countDcp 7).answer y req.seq op stBusy 0 []
     else (Sys2Proof.dcpTaken m x req).serve y req op len inRange run) := by
  have hnot : ¬(x.confirmed = false ∧ op ≠ 0x0002) := fun ⟨a, b⟩ => hc.elim (fun g => by simp [g] at a) b
  have hw : (m.tallied.authReview.heard x req).waitingOf x.id = m.waitingOf x.id := by
    rw [Module.heard_eq _ _ _ hrep]
    exact ((m.tallied_only.trans (SessOnly.of_only m.tallied.authReview_only)).trans (Module.modSession_only _ _ _)).waitingOf _
  rw [dcpRequest_known hu h hx]
  dsimp only
  rw [if_neg (by simp [hua]), if_neg (by simp [hmac]), if_neg hnot, heard_session m x req hrep hx, Option.getD_some, ← hw]
  rfl

end

/-! ### What is refused before it runs (steps 7 to 13 of R367) -/

section
variable {n : Module} {y : Session}

theorem serve_rekeyRequired (hs : 0x80000000 ≤ req.seq) (h3 : op ≠ 0x0003) (h4 : op ≠ 0x0004) :
    n.serve y req op len inRange run = n.answer y req.seq op stRekeyRequired 0 [] := by
  unfold Module.serve
  rw [if_pos ⟨hs, h3, h4⟩]

variable (hs : req.seq < 0x80000000)
include hs

theorem serve_badOpcode (hop : op ∉ definedOps) :
    n.serve y req op len inRange run = n.answer y req.seq op stBadOpcode 0 [] := by
  unfold Module.serve
  rw [if_neg (by omega), if_pos hop]

variable (hop : op ∈ definedOps)
include hop

theorem serve_privilege (hp : y.privilege < opPriv op) :
    n.serve y req op len inRange run = n.answer y req.seq op stPrivilege 0 [] := by
  unfold Module.serve
  rw [if_neg (by omega), if_neg (not_not_intro hop), if_pos hp]

variable (hp : opPriv op ≤ y.privilege)
include hp

theorem serve_roleReject (hr : n.roleRejects op = true) :
    n.serve y req op len inRange run = n.answer y req.seq op stRoleReject 0 n.rolePayload := by
  unfold Module.serve
  rw [if_neg (by omega), if_neg (not_not_intro hop), if_neg (by omega), if_pos hr]

variable (hr : n.roleRejects op = false)
include hr

theorem serve_stateReject (hst : n.stateAccepts op = false) : ∃ k, JournalOnly n k ∧
    n.serve y req op len inRange run = k.answer y req.seq op stStateReject 0 (n.cmdResult 0 0xFFFF 0xFF 0 0xFFFF) := by
  refine ⟨(n.refuse y req.seq op 0 0xFFFF 0xFF 0 0xFFFF).1, n.refuse_only y req.seq op 0 0xFFFF 0xFF 0 0xFFFF, ?_⟩
  unfold Module.serve
  rw [if_neg (by omega), if_neg (not_not_intro hop), if_neg (by omega), if_neg (by simp [hr]), if_pos hst]
  rfl

variable (hst : n.stateAccepts op = true)
include hst

/-- What is left of the order of R367 once the domain state accepts the request. -/
theorem serve_accepted : n.serve y req op len inRange run =
    (let r : Module × Option Answer :=
      if req.len ≠ len then (n, some (stParamLength, 0, []))
      else if inRange = false then (n, some (stParamRange, 0, []))
      else run n y
     match r.2 with
     | some a => r.1.answer y req.seq op a.1 a.2.1 a.2.2
     | none => r.1) := by
  unfold Module.serve
  rw [if_neg (by omega), if_neg (not_not_intro hop), if_neg (by omega), if_neg (by simp [hr]), if_neg (by simp [hst])]
    <;> rfl

theorem serve_paramLength (hl : req.len ≠ len) :
    n.serve y req op len inRange run = n.answer y req.seq op stParamLength 0 [] := by
  rw [serve_accepted hs hop hp hr hst, if_pos hl]

theorem serve_paramRange (hl : req.len = len) (hin : inRange = false) :
    n.serve y req op len inRange run = n.answer y req.seq op stParamRange 0 [] := by
  rw [serve_accepted hs hop hp hr hst, if_neg (not_not_intro hl), if_pos hin]

theorem serve_runs (hl : req.len = len) (hin : inRange = true) : n.serve y req op len inRange run =
    match (run n y).2 with
    | some a => (run n y).1.answer y req.seq op a.1 a.2.1 a.2.2
    | none => (run n y).1 := by
  rw [serve_accepted hs hop hp hr hst, if_neg (not_not_intro hl), if_neg (by simp [hin])]

end

end

/-- Counted under R374, before the request's own effect. -/
theorem dcpTaken_fields {m : Module} {x : Session} (req : DcpReq) (h : x.replaces = none) :
    Sys2Proof.dcpTaken m x req = { m with
      dcp := { m.dcp with
        sessions := (Sys2Proof.dcpTaken m x req).dcp.sessions, rateSec := m.ms / 1000, rateN := m.thisSecond + 1 }
      al := (Sys2Proof.dcpTaken m x req).al, jou := (Sys2Proof.dcpTaken m x req).jou
      outbox := (Sys2Proof.dcpTaken m x req).outbox } := by
  have hreview : m.tallied.authReview.dcp = m.tallied.dcp := by rw [m.tallied.authReview_only]
  have hdcp : (Sys2Proof.dcpTaken m x req).dcp.rateSec = m.ms / 1000 ∧
      (Sys2Proof.dcpTaken m x req).dcp.rateN = m.thisSecond + 1 := by
    unfold Sys2Proof.dcpTaken
    rw [Module.heard_eq _ _ _ h]
    simp only [Module.modSession, hreview]
    exact ⟨rfl, rfl⟩
  rw [← hdcp.1, ← hdcp.2]
  exact dcpTaken_only m x req h

end Machine

open Machine

/-- Settles O47: the steps before a session is known, those up to its confirmation, and then, on the module that has taken the
number, the refusals in their order. -/
theorem dcpRequestOrder : Obligations.DcpRequestOrder := by
  refine fun m req op len inRange run => ⟨dcpRequest_down, dcpRequest_overRate, fun hu h =>
    ⟨dcpRequest_unknown hu h, fun x hx => ⟨dcpRequest_unauth hu h hx, dcpRequest_badMac hu h hx,
      dcpRequest_unconfirmed hu h hx, dcpTaken_fields req, fun hua hmac hc hrep => ?_⟩⟩,
    fun y st flags payload => ⟨_, rfl⟩⟩
  have hvalid := dcpRequest_valid (len := len) (inRange := inRange) (run := run) hu h hx hua hmac hc hrep
  have hso := dcpTaken_only m x req hrep
  refine ⟨fun hnew => hvalid.trans (if_pos hnew), fun hnew hw => hvalid.trans ((if_neg (by simp [hnew])).trans (if_pos hw)),
    fun hw hnew => ?_⟩
  have hserve := hvalid.trans ((if_neg (by simp [hnew])).trans (if_neg (show ¬16 ≤ m.waitingOf x.id by omega)))
  rw [hserve, ← hso.roleRejects, ← hso.stateAccepts, ← hso.rolePayload, ← hso.cmdResult]
  exact ⟨serve_rekeyRequired, fun hs => ⟨serve_badOpcode hs, fun hop => ⟨serve_privilege (y := dcpSession x req) hs hop,
    fun hp => serve_roleReject hs hop hp, fun hp => serve_stateReject hs hop hp, fun hp hr hst =>
    ⟨serve_paramLength hs hop hp hr hst, serve_paramRange hs hop hp hr hst, serve_runs hs hop hp hr hst⟩⟩⟩⟩

end Sys2Proof

/-! ## Sessions (R364, R367, R370 to R372) -/

namespace Sys2Proof

open Machine

section
variable {m n : Module}

theorem SessOnly.openPayload (h : SessOnly m n) (id : Nat) : n.openPayload id = m.openPayload id :=
  h.field (·.openPayload id) fun _ _ _ _ _ _ _ => rfl

theorem SessOnly.key? (h : SessOnly m n) (id : Nat) : n.key? id = m.key? id :=
  h.field (·.key? id) fun _ _ _ _ _ _ _ => rfl

end

namespace Machine

section
variable {m : Module} {s : State} {req : DcpReq}

theorem Module.admitted_under {f : Module → Module} (h : m.thisSecond < 2000) : m.admitted f = f m.tallied := if_neg (by omega)

/-! ### An unused number (R370) -/

/-- The 32 numbers that are tried from a free value on. -/
def sessionNumbers (v : Nat) : List Nat := (List.range 32).map (fun i => (v + i) % 4294967295 + 1)

theorem sessionNumbers_nodup (v : Nat) : (sessionNumbers v).Nodup := by
  refine List.Nodup.map_on (fun i hi j hj h => ?_) List.nodup_range
  rw [List.mem_range] at hi hj
  omega

theorem mem_sessionNumbers {v n : Nat} (h : n ∈ sessionNumbers v) : 1 ≤ n ∧ n ≤ 4294967295 := by
  obtain ⟨i, -, rfl⟩ := List.mem_map.1 h
  omega

theorem Module.session_isSome_iff (id : Nat) : (m.session? id).isSome ↔ id ∈ m.dcp.sessions.map (·.id) := by
  simp [Module.session?, List.find?_isSome]

/-- Fewer sessions than numbers tried: one of the numbers is unused. -/
theorem Module.exists_unused (h : m.dcp.sessions.length < 32) (v : Nat) :
    ∃ n ∈ sessionNumbers v, m.session? n = none := by
  by_contra hall
  push Not at hall
  have hsub : sessionNumbers v ⊆ m.dcp.sessions.map (·.id) := fun n hn =>
    (Module.session_isSome_iff n).1 (Option.isSome_iff_ne_none.2 (hall n hn))
  have hlen := (List.subperm_of_subset (sessionNumbers_nodup v) hsub).length_le
  simp only [sessionNumbers, List.length_map, List.length_range] at hlen
  omega

theorem Module.drawSession_unused (h : m.dcp.sessions.length < 32) :
    1 ≤ m.drawSession ∧ m.drawSession ≤ 4294967295 ∧ m.session? m.drawSession = none := by
  have hdraw : m.drawSession = ((sessionNumbers (Config.freeValue m.free)).find?
      (fun n => (m.session? n).isNone)).getD 1 := rfl
  obtain ⟨n, hn, hfree⟩ := m.exists_unused h (Config.freeValue m.free)
  cases hf : (sessionNumbers (Config.freeValue m.free)).find? (fun n => (m.session? n).isNone) with
  | none =>
    have := List.find?_eq_none.1 hf n hn
    simp [hfree] at this
  | some id =>
    rw [hdraw, hf, Option.getD_some]
    obtain ⟨lo, hi⟩ := mem_sessionNumbers (List.mem_of_find?_eq_some hf)
    have hnone := List.find?_some hf
    exact ⟨lo, hi, by simpa using hnone⟩

/-! ### SESSION.OPEN without a session (R370, R371) -/

section
variable {keyId : Nat} (hu : s.m.dcpUp = true) (hrate : s.m.thisSecond < 2000) (hua : req.unauth = true)
  (h0 : req.session = 0) (hlen : req.len = 56)
include hu hrate hua h0 hlen

theorem exec_sessionOpen_unauth : exec (.sessionOpen req keyId) s = .next { s with
    m := match s.m.key? keyId with
      | none => s.m.tallied.countDcp 4
      | some k =>
        if s.m.sessionsFull then
          (s.m.tallied.countDcp 9).emit (.dcp req.port req.src 0 req.seq 0x0001 stSessionLimit 5 [])
        else
          let r := s.m.tallied.openSession req k none
          r.1.emit (.dcp req.port req.src r.2.1 req.seq 0x0001 stOk 1 r.2.2) } := by
  show execSessionOpen req keyId s = _
  unfold execSessionOpen
  rw [onModule_eq, if_pos ⟨hua, h0⟩, if_pos hu, Module.admitted_under hrate, Module.openUnauth,
    if_neg (not_not_intro hlen)]
  cases hk : s.m.key? keyId with
  | none =>
    have : s.m.tallied.key? keyId = none := hk
    rw [this]
  | some k =>
    have : s.m.tallied.key? keyId = some k := hk
    rw [this]
    rfl

theorem exec_sessionOpen_unknown (hk : s.m.key? keyId = none) :
    exec (.sessionOpen req keyId) s = .next { s with m := s.m.tallied.countDcp 4 } := by
  rw [exec_sessionOpen_unauth hu hrate hua h0 hlen, hk]

variable {k : HostKey} (hk : s.m.key? keyId = some k)
include hk

theorem exec_sessionOpen_full (hfull : s.m.sessionsFull = true) : exec (.sessionOpen req keyId) s = .next { s with
    m := (s.m.tallied.countDcp 9).emit (.dcp req.port req.src 0 req.seq 0x0001 stSessionLimit 5 []) } := by
  rw [exec_sessionOpen_unauth hu hrate hua h0 hlen, hk]
  simp only [if_pos hfull]

theorem exec_sessionOpen_opens (hfull : s.m.sessionsFull = false) : exec (.sessionOpen req keyId) s = .next { s with
    m := (s.m.tallied.openSession req k none).1.emit (.dcp req.port req.src s.m.drawSession req.seq 0x0001 stOk 1
      (s.m.openPayload s.m.drawSession)) } := by
  rw [exec_sessionOpen_unauth hu hrate hua h0 hlen, hk]
  simp only [if_neg (show ¬s.m.sessionsFull = true by simp [hfull])]
  rfl

end

/-! ### Requests of a session -/

section
variable {x : Session}

theorem sessionConfirm_replies (h : Served s.m x req 0x0002 0) : Replies (.sessionConfirm req) s x req 0x0002
    ((dcpTaken s.m x req).modSession x.id (fun y => { y with confirmed := true })) stOk 0
    ([x.privilege, 0] ++ le 2 s.m.cfg.network.sessionIdle) := by
  refine replies_inRange rfl h (by decide) rfl ?_
  rw [h.only.cfg]
  rfl

/-- The module with an earlier replacement of a session lapsed. -/
def Module.lapsed (m : Module) (id : Nat) : Module :=
  { m with dcp := { m.dcp with sessions := m.dcp.sessions.filter (fun y => y.replaces ≠ some id) } }

theorem sessionRekey_replies {keyId : Nat} {k : HostKey} (h : Served s.m x req 0x0003 56) (hk : s.m.key? keyId = some k) :
    Replies (.sessionRekey req keyId) s x req 0x0003
      (((dcpTaken s.m x req).lapsed x.id).openSession req k (some x.id)).1 stOk 0
      (s.m.openPayload ((dcpTaken s.m x req).lapsed x.id).drawSession) := by
  refine replies_inRange rfl h (by decide) rfl ?_
  have hkey : (dcpTaken s.m x req).key? keyId = some k := (h.only.key? keyId).trans hk
  rw [hkey, ← h.only.openPayload]
  rfl

theorem sessionEcho_replies (data : List Byte) (h : Served s.m x req 0x0005 data.length) (hd : data.length ≤ 1408) :
    Replies (.sessionEcho req data) s x req 0x0005 (dcpTaken s.m x req) stOk 0 data :=
  replies_inRange rfl h (by decide) (decide_eq_true hd) rfl

end

/-! ### Sessions that end (R370, R372) -/

theorem exec_sessionExpire_unknown {id : Nat} (h : s.m.session? id = none) :
    exec (.sessionConfirmExpire id) s = .next s ∧ exec (.sessionIdleExpire id) s = .next s := by
  refine ⟨?_, ?_⟩
  · show execSessionConfirmExpire id s = _
    unfold execSessionConfirmExpire
    rw [onModule_eq, h]
  · show execSessionIdleExpire id s = _
    unfold execSessionIdleExpire
    rw [onModule_eq, h]
    rfl

theorem exec_sessionConfirmExpire {id : Nat} {x : Session} (h : s.m.session? id = some x) :
    exec (.sessionConfirmExpire id) s = .next { s with m := if x.confirmed then s.m else s.m.closeSession id } := by
  show execSessionConfirmExpire id s = _
  unfold execSessionConfirmExpire
  rw [onModule_eq, h]

theorem exec_sessionIdleExpire {id : Nat} {x : Session} (h : s.m.session? id = some x) :
    exec (.sessionIdleExpire id) s = .next { s with m := s.m.closeSession id } := by
  show execSessionIdleExpire id s = _
  unfold execSessionIdleExpire
  rw [onModule_eq, h]
  rfl

theorem Module.closeSession_session (m : Module) (id id' : Nat) :
    (m.closeSession id).session? id' = if id' = id then none else m.session? id' := by
  unfold Module.closeSession Module.session?
  rw [List.find?_filter]
  split
  case isTrue h =>
    rw [List.find?_eq_none]
    intro y _
    simp [h]
  case isFalse h =>
    congr 1
    funext y
    by_cases hy : y.id = id'
    · simp [hy, h]
    · simp [hy]

theorem holder_closed (holder : Option Nat) (id : Nat) : (if holder = some id then none else holder) ≠ some id := by
  split
  · exact nofun
  case isFalse h => exact h

/-! ### Datagrams that fail early (R364, R367 steps 1 to 3) -/

section
variable {d : BadDatagram}

theorem exec_malformed_unheard (h : s.m.dcpHears = false ∨ d.fragmented = true) :
    exec (.dcpMalformedDatagram d) s = .next s := by
  show execDcpMalformedDatagram d s = _
  unfold execDcpMalformedDatagram
  rw [onModule_eq, if_pos h]

variable (hh : s.m.dcpHears = true) (hf : d.fragmented = false)
include hh hf

theorem exec_malformed_heard : exec (.dcpMalformedDatagram d) s = .next { s with
    m := s.m.admitted (fun m => m.takeMalformed d) } := by
  show execDcpMalformedDatagram d s = _
  unfold execDcpMalformedDatagram
  rw [onModule_eq, if_neg (by simp [hh, hf])]

theorem exec_malformed_overRate (hr : 2000 ≤ s.m.thisSecond) :
    exec (.dcpMalformedDatagram d) s = .next { s with m := s.m.countDcp 6 } := by
  rw [exec_malformed_heard hh hf, Module.admitted, if_pos hr]

variable (hr : s.m.thisSecond < 2000)
include hr

theorem exec_malformed_admitted : exec (.dcpMalformedDatagram d) s = .next { s with
    m := s.m.tallied.takeMalformed d } := by
  rw [exec_malformed_heard hh hf, Module.admitted_under hr]

theorem exec_malformed_short (h : d.size < 36 ∨ d.magicOk = false) :
    exec (.dcpMalformedDatagram d) s = .next { s with m := s.m.tallied.countDcp 0 } := by
  rw [exec_malformed_admitted hh hf hr, Module.takeMalformed, if_pos h]

variable (h1 : 36 ≤ d.size) (h2 : d.magicOk = true)
include h1 h2

theorem exec_malformed_length (h : 1408 < d.lengthField ∨ d.size ≠ 36 + d.lengthField) :
    exec (.dcpMalformedDatagram d) s = .next { s with m := s.m.tallied.lengthError d } := by
  rw [exec_malformed_admitted hh hf hr, Module.takeMalformed, if_neg (by simp [h2]; omega), if_pos h]

theorem exec_malformed_header (h3 : d.lengthField ≤ 1408) (h4 : d.size = 36 + d.lengthField)
    (h : d.version ≠ 1 ∨ d.status ≠ 0 ∨ d.reservedOk = false ∨ d.replyOrStream = true) :
    exec (.dcpMalformedDatagram d) s = .next { s with
      m := (s.m.tallied.countDcp 2).emit (.dcp d.port d.src d.session d.seq d.opcode stHeaderError 5 [1]) } := by
  rw [exec_malformed_admitted hh hf hr, Module.takeMalformed, if_neg (by simp [h2]; omega), if_neg (by omega), if_pos h]

end

end

end Machine

open Machine

/-- Settles O48: SESSION.OPEN by what it finds under the key, the requests of a session by their effects, the ends of sessions
by what a closed session takes with it, and malformed datagrams by the first step that they fail. -/
theorem sessionsOpenAndClose : Obligations.SessionsOpenAndClose := by
  intro s req
  refine ⟨fun keyId k hu hr hua h0 hlen hk hfull => ?_, fun x h => sessionConfirm_replies h, fun x keyId k h hk => ?_,
    fun x h => replies_inRange rfl h (by decide) rfl rfl, fun x data h hd => sessionEcho_replies data h hd,
    fun keyId hu hr hua h0 hlen => ⟨exec_sessionOpen_unknown hu hr hua h0 hlen,
      fun k hk hfull => exec_sessionOpen_full hu hr hua h0 hlen hk hfull⟩,
    fun id h => exec_sessionExpire_unknown h, fun id x h => ⟨fun hc => ?_, fun hc => ?_, exec_sessionIdleExpire h⟩,
    fun m id => ⟨?_, ?_, ?_, holder_closed _ id, holder_closed _ id, fun id' hne => ?_⟩,
    fun d h => exec_malformed_unheard h, fun d hh hf => ⟨exec_malformed_overRate hh hf, fun hr =>
      ⟨exec_malformed_short hh hf hr, exec_malformed_length hh hf hr, exec_malformed_header hh hf hr⟩⟩⟩
  · exact ⟨_, s.m.drawSession, ⟨exec_sessionOpen_opens hu hr hua h0 hlen hk hfull, rfl, rfl⟩, rfl, rfl, rfl,
      fun hlt => s.m.drawSession_unused hlt⟩
  · exact ⟨_, _, sessionRekey_replies h hk, _, List.mem_append_right _ (List.mem_singleton_self _), rfl, rfl, rfl, rfl⟩
  · rw [exec_sessionConfirmExpire h, if_neg (by simp [hc])]
  · rw [exec_sessionConfirmExpire h, if_pos hc]
  · rw [Module.closeSession_session, if_pos rfl]
  · simp [Module.closeSession]
  · simp [Module.closeSession]
  · rw [Module.closeSession_session, if_neg hne]

end Sys2Proof

/-! ## Identity and the host keys (R371, R380, R381) -/

namespace Sys2Proof

open Machine

section
variable {m n : Module}

theorem SessOnly.keys (h : SessOnly m n) : n.dcp.keys = m.dcp.keys := h.field (·.dcp.keys) fun _ _ _ _ _ _ _ => rfl

theorem SessOnly.calOk (h : SessOnly m n) : n.calOk = m.calOk := h.field (·.calOk) fun _ _ _ _ _ _ _ => rfl

theorem SessOnly.recIdentity (h : SessOnly m n) : n.recIdentity = m.recIdentity :=
  h.field (·.recIdentity) fun _ _ _ _ _ _ _ => rfl

end

namespace Machine

section
variable {m : Module} {s : State} {req : DcpReq} {x : Session}

theorem identityRead_replies (h : Served s.m x req 0x0010 0) :
    Replies (.identityRead req) s x req 0x0010 (dcpTaken s.m x req) stOk 0 s.m.recIdentity := by
  refine replies_inRange rfl h (by decide) rfl ?_
  rw [h.only.recIdentity]

theorem hostkeyList_replies (h : Served s.m x req 0x0011 0) :
    Replies (.hostkeyList req) s x req 0x0011 (dcpTaken s.m x req) stOk 0
      ([s.m.dcp.keys.length, 0, 0, 0] ++ (s.m.dcp.keys.map (fun k => le 32 k.key ++ [k.privilege] ++ zeros 7)).flatten) := by
  refine replies_inRange rfl h (by decide) rfl ?_
  rw [h.only.keys]

/-! ### The first key (R371) -/

section
variable {key keyId : Nat} (hu : s.m.dcpUp = true) (hr : s.m.thisSecond < 2000) (hst : s.m.stateAccepts 0x0012 = true)
  (hua : req.unauth = true) (h0 : req.session = 0) (hp : req.port = .svc) (hk : s.m.dcp.keys = []) (hl : req.len = 36)
include hu hr hst hua h0 hp hk hl

theorem exec_hostkeyAdd_first (p : Nat) : exec (.hostkeyAdd req key keyId p) s = .next { s with
    m := if p ≠ 2 then s.m.tallied.emit (.dcp .svc req.src 0 req.seq 0x0012 stParamRange 5 [])
      else if s.m.calOk then
        Module.emit { s.m with dcp := { s.m.tallied.dcp with keys := [{ key := key, keyId := keyId, privilege := p }] } }
          (.dcp .svc req.src 0 req.seq 0x0012 stOk 5 [0])
      else
        (s.m.tallied.jotCommand eCommandReject sevWarning 0x0012 stInternal 0 req.seq scDomain 0xFFFF
          (s.m.tallied.cmdResult scDomain 0xFFFF 0xFF 0 0xFFFF)).emit
          (.dcp .svc req.src 0 req.seq 0x0012 stInternal 5 []) } := by
  have hst' : ¬s.m.tallied.stateAccepts 0x0012 = false := fun g =>
    Bool.false_ne_true (g.symm.trans ((s.m.tallied_only.stateAccepts 0x0012).trans hst))
  show execHostkeyAdd req key keyId p s = _
  unfold execHostkeyAdd
  rw [onModule_eq]
  dsimp only
  rw [if_pos ⟨hua, h0, hp, hk⟩, if_pos hu, Module.admitted_under hr, Module.firstKey]
  dsimp only
  rw [if_neg hst', if_neg (not_not_intro hl), hp]
  rfl

end

/-! ### Keys added and removed by a session (R371) -/

section
variable {key keyId p : Nat} (h : Served s.m x req 0x0012 36) (hp : p ≤ 2)
include h hp

theorem exec_hostkeyAdd_session : exec (.hostkeyAdd req key keyId p) s = .next { s with
    m := s.m.dcpRequest req 0x0012 36 true (fun m x =>
      let l := addKey m.dcp.keys { key := key, keyId := keyId, privilege := p }
      if 16 < l.length ∨ hasAdmin l = false then (m, some (stParamRange, 0, []))
      else if m.calOk = false then m.internal x req.seq 0x0012 scDomain 0xFFFF
      else ({ m with dcp := { m.dcp with keys := l } }, some (stOk, 0, [keyIndex l keyId]))) } := by
  obtain ⟨-, -, -, hua, -⟩ := h
  show execHostkeyAdd req key keyId p s = _
  unfold execHostkeyAdd
  rw [onModule_eq]
  dsimp only
  rw [if_neg fun g => by simp [hua] at g, decide_eq_true hp]

theorem hostkeyAdd_refused (hbad : 16 < (addKey s.m.dcp.keys { key := key, keyId := keyId, privilege := p }).length ∨
      hasAdmin (addKey s.m.dcp.keys { key := key, keyId := keyId, privilege := p }) = false) :
    Replies (.hostkeyAdd req key keyId p) s x req 0x0012 (dcpTaken s.m x req) stParamRange 0 [] := by
  refine replies_of h (by decide) (exec_hostkeyAdd_session h hp) ?_
  dsimp only
  rw [h.only.keys, if_pos hbad]

theorem hostkeyAdd_replies (hcal : s.m.calOk = true)
    (hlen : (addKey s.m.dcp.keys { key := key, keyId := keyId, privilege := p }).length ≤ 16)
    (hadmin : hasAdmin (addKey s.m.dcp.keys { key := key, keyId := keyId, privilege := p }) = true) :
    Replies (.hostkeyAdd req key keyId p) s x req 0x0012 { dcpTaken s.m x req with dcp := { (dcpTaken s.m x req).dcp with
      keys := addKey s.m.dcp.keys { key := key, keyId := keyId, privilege := p } } } stOk 0
      [keyIndex (addKey s.m.dcp.keys { key := key, keyId := keyId, privilege := p }) keyId] := by
  refine replies_of h (by decide) (exec_hostkeyAdd_session h hp) ?_
  dsimp only
  rw [h.only.keys, h.only.calOk, if_neg (by simp [hadmin]; omega), if_neg (by simp [hcal])]

end

/-- The module with a key taken away and every session of it closed. -/
def Module.dropKey (m : Module) (keyId : Nat) : Module :=
  (m.dcp.sessions.filter (fun y => y.keyId = keyId)).foldl (fun m (y : Session) => m.closeSession y.id)
    { m with dcp := { m.dcp with keys := m.dcp.keys.filter (fun k => k.keyId ≠ keyId) } }

/-- Sessions closed one after another leave the keys. -/
theorem Module.closeEach_keys (m : Module) (l : List Session) :
    (l.foldl (fun m (y : Session) => m.closeSession y.id) m).dcp.keys = m.dcp.keys := by
  induction l generalizing m with
  | nil => rfl
  | cons z t ih => exact ih _

theorem Module.dropKey_keys (m : Module) (keyId : Nat) :
    (m.dropKey keyId).dcp.keys = m.dcp.keys.filter (fun k => k.keyId ≠ keyId) :=
  Module.closeEach_keys _ _

theorem Module.dropKey_sessions (m : Module) (keyId : Nat) : ∀ y ∈ (m.dropKey keyId).dcp.sessions, y.keyId ≠ keyId := by
  intro y hy hkey
  obtain ⟨hm, hz⟩ := Module.closeEach_sessions _ _ y hy
  exact hz y (List.mem_filter.2 ⟨hm, decide_eq_true hkey⟩) rfl

theorem Module.dropKey_key (m : Module) (keyId : Nat) : (m.dropKey keyId).key? keyId = none := by
  rw [Module.key?, Module.dropKey_keys, List.find?_eq_none]
  intro k hk
  simpa using (List.mem_filter.1 hk).2

theorem hostkeyRemove_replies {keyId : Nat} {k : HostKey} (h : Served s.m x req 0x0013 8) (hcal : s.m.calOk = true)
    (hk : s.m.key? keyId = some k) (hadmin : hasAdmin (s.m.dcp.keys.filter (fun j => j.keyId ≠ keyId)) = true) :
    Replies (.hostkeyRemove req keyId) s x req 0x0013 ((dcpTaken s.m x req).dropKey keyId) stOk 0 [] := by
  refine replies_inRange rfl h (by decide) rfl ?_
  dsimp only
  rw [h.only.key?, h.only.calOk, if_neg (by simp [hk]), if_neg (by rw [h.only.keys]; simp only [hadmin]; decide),
    if_neg (by simp [hcal])]
  rfl

end

end Machine

/-- Settles O49: the two reads by their records, the first key by the order in which it is examined, and the changes of the
list by what they leave in it. -/
theorem identityAndHostKeys : Obligations.IdentityAndHostKeys := by
  intro s req
  refine ⟨fun x h => identityRead_replies h, fun x h => hostkeyList_replies h,
    fun key keyId hu hr hcal hst hua h0 hp hk hl => ⟨?_, fun p hne => ?_⟩,
    fun x key keyId p h hp hcal => ⟨hostkeyAdd_replies h hp hcal, hostkeyAdd_refused h hp⟩,
    fun x keyId k h hcal hk hadmin => ⟨_, hostkeyRemove_replies h hcal hk hadmin, Module.dropKey_key _ _, ?_,
      Module.dropKey_sessions _ _⟩⟩
  · rw [exec_hostkeyAdd_first hu hr hst hua h0 hp hk hl, if_neg (by decide), if_pos hcal]
  · rw [exec_hostkeyAdd_first hu hr hst hua h0 hp hk hl, if_pos hne]
  · rw [Module.dropKey_keys, h.only.keys]

end Sys2Proof

/-! ## Data reads, bursts and streams (R384 to R388) -/

namespace Sys2Proof

open Machine

section
variable {m n : Module}

theorem SessOnly.archived (h : SessOnly m n) (str : Nat) : n.archived str = m.archived str :=
  h.field (·.archived str) fun _ _ _ _ _ _ _ => rfl

theorem SessOnly.subs (h : SessOnly m n) : n.dcp.subs = m.dcp.subs := h.field (·.dcp.subs) fun _ _ _ _ _ _ _ => rfl

theorem SessOnly.nextSub (h : SessOnly m n) : n.dcp.nextSub = m.dcp.nextSub :=
  h.field (·.dcp.nextSub) fun _ _ _ _ _ _ _ => rfl

end

namespace Machine

/-! ### The scan of R384 -/

/-- A scan takes as many indexes as fit, and stops at the first that does not. -/
theorem scanTake_eq (n : Nat) (l : List Nat) : scanTake n l = (l.take n, l[n]?) := by
  induction n generalizing l with
  | zero => cases l <;> rfl
  | succ n ih =>
    cases l with
    | nil => rfl
    | cons i t => simp [scanTake, ih]

theorem readReply_range {sweep first count size range : Nat} (h : count = 0 ∨ range ≤ first) (present : List Nat)
    (rec : Nat → List Byte) : readReply sweep first count size range present rec = (stParamRange, 0, []) := if_pos h

/-- The present indexes of a read's range. -/
def inScan (first count range : Nat) (present : List Nat) : List Nat :=
  present.filter (fun i => first ≤ i && i < min (first + count) range)

theorem readReply_spec (sweep first count size range : Nat) (present : List Nat) (rec : Nat → List Byte) (hc : 0 < count)
    (hr : first < range) : ∃ (ids : List Nat) (next : Nat) (more : Bool),
      readReply sweep first count size range present rec =
        (stOk, if more then 8 else 0, le 4 sweep ++ le 4 first ++
          le 2 (sat16 ((if more then next else min (first + count) range) - first)) ++ le 2 ids.length ++
          le 4 (if more ∨ first + count < range then next else naU32) ++ (ids.map (fun i => le 4 i ++ rec i)).flatten) ∧
      ids <+: inScan first count range present ∧ ids.length ≤ 1392 / (4 + size) ∧
      (more = true → ids.length = 1392 / (4 + size) ∧ (inScan first count range present)[ids.length]? = some next) ∧
      (more = false → ids = inScan first count range present ∧ next = min (first + count) range) := by
  have hstop : min (first + count) range < range ↔ first + count < range := by omega
  unfold readReply
  rw [if_neg (by omega)]
  dsimp only
  unfold inScan
  generalize (present.filter fun i => decide (first ≤ i) && decide (i < min (first + count) range)) = l
  generalize 1392 / (4 + size) = n
  obtain ⟨⟨ids, o⟩, hscan⟩ : ∃ r, scanTake n l = r := ⟨_, rfl⟩
  obtain ⟨rfl, ho⟩ := Prod.mk.inj ((scanTake_eq n l).symm.trans hscan)
  rw [hscan]
  cases o with
  | none =>
    have hall := List.take_of_length_le (List.getElem?_eq_none_iff.1 ho)
    exact ⟨l.take n, min (first + count) range, false, by simp [hstop], List.take_prefix n l, List.length_take_le n l,
      nofun, fun _ => ⟨hall, rfl⟩⟩
  | some next =>
    obtain ⟨hlt, -⟩ := List.getElem?_eq_some_iff.1 ho
    have hlen : (l.take n).length = n := List.length_take_of_le (Nat.le_of_lt hlt)
    exact ⟨l.take n, next, true, by simp, List.take_prefix n l, List.length_take_le n l,
      fun _ => ⟨hlen, by rw [hlen, ho]⟩, nofun⟩

/-! ### The reads as requests -/

/-- The data reads of Table 15-12 with their opcodes. -/
def readCommands : List ((DcpReq → Nat → Nat → Instr) × Nat) :=
  [(.readCellSoc, 0x0201), (.readCellImp, 0x0202), (.readCellCap, 0x0203), (.readWorker, 0x0204),
    (.readStringSoc, 0x0205), (.readStringState, 0x0206), (.readBaySoc, 0x0207), (.readBayState, 0x0208),
    (.readLimit, 0x0209), (.readRing, 0x020A), (.readPrecharge, 0x020B), (.readSwitch, 0x020C),
    (.readCarapace, 0x020D), (.readPair, 0x020E)]

section
variable {s : State} {req : DcpReq} {x : Session}

theorem dataRead_reads {p : (DcpReq → Nat → Nat → Instr) × Nat} (hp : p ∈ readCommands) : p.2 ∈ definedOps ∧
    ∀ req first count, exec (p.1 req first count) s = onModule s (fun m => m.readRequest req p.2 first count) := by
  simp only [readCommands, List.mem_cons, List.not_mem_nil, or_false] at hp
  rcases hp with rfl | rfl | rfl | rfl | rfl | rfl | rfl | rfl | rfl | rfl | rfl | rfl | rfl | rfl <;>
    exact ⟨by decide, fun _ _ _ => rfl⟩

theorem dataRead_replies {p : (DcpReq → Nat → Nat → Instr) × Nat} (hp : p ∈ readCommands) (first count : Nat)
    (h : Served s.m x req p.2 8) : Replies (p.1 req first count) s x req p.2 (dcpTaken s.m x req)
      ((dcpTaken s.m x req).dataRead p.2 first count).1 ((dcpTaken s.m x req).dataRead p.2 first count).2.1
      ((dcpTaken s.m x req).dataRead p.2 first count).2.2 := by
  obtain ⟨hop, he⟩ := dataRead_reads (s := s) hp
  exact replies_inRange (he req first count) h hop rfl rfl

theorem readBurstList_replies {str : Nat} (hs : str < 512) (h : Served s.m x req 0x0210 2) :
    Replies (.readBurstList req str) s x req 0x0210 (dcpTaken s.m x req) stOk 0
      (le 2 ((s.m.archived str).take 64).length ++ zeros 6 ++
        (((s.m.archived str).take 64).map (fun b => le 8 b.tStep)).flatten) := by
  refine replies_inRange rfl h (by decide) (decide_eq_true hs) ?_
  dsimp only
  rw [h.only.archived]

section
variable {str hop block : Nat} (h1 : str < 512) (h2 : 1 ≤ hop) (h3 : hop ≤ 256) (h4 : block < 24)
  (h : Served s.m x req 0x020F 16)
include h1 h2 h3 h4 h

theorem readBurst_unknown {tStep : Nat} (hb : ∀ b ∈ s.m.archived str, b.tStep ≠ tStep) (ht : tStep ≠ 0) :
    Replies (.readBurst req str hop block tStep) s x req 0x020F (dcpTaken s.m x req) stNotFound 0 [] := by
  have hnone : (s.m.archived str).find? (fun b => b.tStep = tStep) = none :=
    List.find?_eq_none.2 fun b hm => by simp [hb b hm]
  refine replies_inRange rfl h (by decide) (decide_eq_true ⟨h1, h2, h3, h4⟩) ?_
  dsimp only
  rw [h.only.archived, if_neg ht, hnone]

theorem readBurst_newest {b : Burst} {data : List Int} (hb : (s.m.archived str).head? = some b)
    (hd : find b.blocks (hop, block) = some data) :
    Replies (.readBurst req str hop block 0) s x req 0x020F (dcpTaken s.m x req) stOk 0
      (le 8 b.tStep ++ [bitsOf [true, decide (b.skipped ≠ [])]] ++ zeros 7 ++
        blockBytes (look {} s.m.cfg.workers ((s.m.cfg.str str).ring, hop) : WorkerEntry).typ data) := by
  refine replies_inRange rfl h (by decide) (decide_eq_true ⟨h1, h2, h3, h4⟩) ?_
  dsimp only
  rw [h.only.archived, if_pos rfl, hb]
  dsimp only
  rw [hd, h.only.cfg]

end

end

/-! ### What journalling leaves of the stored records (R419) -/

section
variable (m : Module)

theorem Module.enqueue_stored (k : Bool) (r : JRec) : (m.enqueue k r).jou.stored = m.jou.stored := by
  unfold Module.enqueue
  split
  · split <;> rfl
  · split <;> rfl

theorem Module.jotCond_stored (src : Island) (code sev scope inst : Nat) (v : Int) (p : List Byte) (fall : Bool) :
    (m.jotCond src code sev scope inst v p fall).jou.stored = m.jou.stored := by
  unfold Module.jotCond
  dsimp only
  split
  · split
    · exact m.enqueue_stored _ _
    · split
      · exact m.enqueue_stored _ _
      · rfl
  · exact m.enqueue_stored _ _

theorem Module.raise_stored (src : Island) (code sev scope inst : Nat) (v : Int) (p : List Byte) :
    (m.raise src code sev scope inst v p).jou.stored = m.jou.stored := by
  unfold Module.raise
  split
  · rfl
  · exact Module.jotCond_stored _ _ _ _ _ _ _ _ _

theorem Module.clear_stored (src : Island) (code scope inst : Nat) :
    (m.clear src code scope inst).jou.stored = m.jou.stored := by
  unfold Module.clear
  split
  · exact Module.jotCond_stored _ _ _ _ _ _ _ _ _
  · rfl

theorem Module.authReview_stored : m.authReview.jou.stored = m.jou.stored := by
  unfold Module.authReview
  split
  · exact m.clear_stored _ _ _ _
  · rfl

/-- Taking a request stores no record, so the newest of each series is the same. -/
theorem dcpTaken_newestSeq {x : Session} (req : DcpReq) (h : x.replaces = none) (dom : Bool) :
    (Sys2Proof.dcpTaken m x req).newestSeq dom = m.newestSeq dom := by
  have hstored : (Sys2Proof.dcpTaken m x req).jou.stored = m.jou.stored := by
    unfold Sys2Proof.dcpTaken
    rw [Module.heard_eq _ _ _ h]
    exact m.tallied.authReview_stored
  unfold Module.newestSeq
  rw [hstored]

/-! ### Subscriptions (R387) -/

/-- One row of Table 15-12: where the index spaces of a row and of the rows after it are the same, so is the choice. -/
theorem indexSpace_row {op k : Nat} {a b c d : Nat × Nat × List Nat × (Nat → List Byte)} (h : a.2.1 = c.2.1)
    (hs : b.2.1 = d.2.1) : (if op = k then a else b).2.1 = (if op = k then c else d).2.1 := by
  split
  · exact h
  · exact hs

/-- The index space of a read is fixed by its opcode (Table 15-12). -/
theorem Module.readTable_range (n : Module) (op : Nat) : (n.readTable op).2.1 = (m.readTable op).2.1 := by
  unfold Module.readTable
  dsimp only
  iterate 13 refine indexSpace_row rfl ?_
  rfl

/-- A subscription with its number and its RATE, as a session asks for it. -/
def Module.subscription (m : Module) (x : Session) (req : DcpReq) (kind decimate sev first count dest rate : Nat) : Subscr :=
  { id := m.dcp.nextSub, session := x.id, kind := kind, decimate := decimate, sevMin := sev, first := first
    count := count, destPort := dest, rate := rate, dst := req.src / 65536 * 65536 + dest % 65536
    sentDom := m.newestSeq true, sentLoc := m.newestSeq false }

/-- A subscription of RATE `rate` would go beyond a limit of its session, its module or STREAM_BUDGET. -/
def Module.streamsFull (m : Module) (x : Session) (rate : Nat) : Prop :=
  4 ≤ (m.dcp.subs.filter (fun d => d.session = x.id)).length ∨ 16 ≤ m.dcp.subs.length ∨
    m.cfg.network.streamBudget * 1000 < rate + (m.dcp.subs.map (·.rate)).foldl (· + ·) 0

end

section
variable {s : State} {req : DcpReq} {x : Session} {kind decimate sev first count dest : Nat}
  (h : Served s.m x req 0x0220 16) (h1 : 1 ≤ kind) (h9 : kind ≤ 9) (hd : 6 < kind ∨ (1 ≤ decimate ∧ decimate ≤ 255))
  (hs : kind ≠ 7 ∨ sev ≤ 4)
  (hr : ¬(2 ≤ kind ∧ kind ≤ 6) ∨ (count ≠ 0 ∧ first < (s.m.readTable (kindOp kind)).2.1))
include h h1 h9 hd hs hr

theorem streamSubscribe_full
    (hf : s.m.streamsFull x ((dcpTaken s.m x req).streamRate kind (max 1 decimate) first count)) :
    Replies (.streamSubscribe req kind decimate sev first count dest) s x req 0x0220 (dcpTaken s.m x req) stBusy 0 [] := by
  have hrange := s.m.readTable_range (dcpTaken s.m x req) (kindOp kind)
  refine replies_inRange rfl h (by decide) (decide_eq_true ⟨h1, h9, hd, hs⟩) ?_
  dsimp only
  rw [hrange, if_neg (by omega), h.only.subs, h.only.cfg]
  exact if_pos hf

theorem streamSubscribe_kept
    (hf : ¬s.m.streamsFull x ((dcpTaken s.m x req).streamRate kind (max 1 decimate) first count)) :
    Replies (.streamSubscribe req kind decimate sev first count dest) s x req 0x0220
      { dcpTaken s.m x req with dcp := { (dcpTaken s.m x req).dcp with
        nextSub := s.m.dcp.nextSub % 65535 + 1, subs := s.m.dcp.subs ++ [s.m.subscription x req kind decimate sev first count
          dest ((dcpTaken s.m x req).streamRate kind (max 1 decimate) first count)] } } stOk 0
      (le 2 s.m.dcp.nextSub ++ zeros 2 ++
        le 4 ((dcpTaken s.m x req).streamRate kind (max 1 decimate) first count)) := by
  have hrange := s.m.readTable_range (dcpTaken s.m x req) (kindOp kind)
  have hnew := dcpTaken_newestSeq s.m (x := x) req (by obtain ⟨-, -, -, -, -, -, hrep, -⟩ := h; exact hrep)
  refine replies_inRange rfl h (by decide) (decide_eq_true ⟨h1, h9, hd, hs⟩) ?_
  dsimp only
  rw [hrange, if_neg (by omega), h.only.subs, h.only.cfg, h.only.nextSub, hnew, hnew]
  exact if_neg hf

end

section
variable {s : State} {req : DcpReq} {x : Session} {id : Nat}

theorem streamUnsubscribe_ends (h : Served s.m x req 0x0221 2) (hm : ∃ d ∈ s.m.dcp.subs, d.id = id ∧ d.session = x.id) :
    Replies (.streamUnsubscribe req id) s x req 0x0221 { dcpTaken s.m x req with dcp := { (dcpTaken s.m x req).dcp with
      subs := s.m.dcp.subs.filter (fun d => !(d.id = id && d.session = x.id)) } } stOk 0 [] := by
  refine replies_inRange rfl h (by decide) rfl ?_
  dsimp only
  rw [h.only.subs]
  exact if_pos (by simpa [show (dcpSession x req).id = x.id from rfl] using hm)

theorem streamUnsubscribe_unknown (h : Served s.m x req 0x0221 2)
    (hm : ¬∃ d ∈ s.m.dcp.subs, d.id = id ∧ d.session = x.id) :
    Replies (.streamUnsubscribe req id) s x req 0x0221 (dcpTaken s.m x req) stNotFound 0 [] := by
  refine replies_inRange rfl h (by decide) rfl ?_
  dsimp only
  rw [h.only.subs]
  exact if_neg (by simpa [show (dcpSession x req).id = x.id from rfl] using hm)

theorem streamList_replies (h : Served s.m x req 0x0222 0) :
    Replies (.streamList req) s x req 0x0222 (dcpTaken s.m x req) stOk 0
      ([(s.m.dcp.subs.filter (fun d => d.session = x.id)).length, 0, 0, 0] ++
        ((s.m.dcp.subs.filter (fun d => d.session = x.id)).map (fun d => le 2 d.id ++ zeros 2 ++ subBytes d)).flatten) := by
  refine replies_inRange rfl h (by decide) rfl ?_
  dsimp only
  rw [h.only.subs]
  rfl

/-! ### Stream packets (R388) -/

/-- What a counter's advance leaves of DCP beside its counters. -/
theorem Module.countDcp_dcp (m : Module) (i : Nat) : (m.countDcp i).dcp =
    (m.setDcpCounters (fun j => if j = i then bump16 (m.dcpCounters.getD j 0) else m.dcpCounters.getD j 0)).dcp :=
  (Module.satCheck_only _ _ _ _).field (·.dcp) fun _ _ _ _ => rfl

section
variable {d : Subscr} (hd : s.m.dcp.subs.find? (fun d => d.id = id) = some d) (hu : s.m.dcpUp = true)
  (hr : s.m.pair.role ≠ .syncing)
include hd hu hr

theorem exec_streamSend_drop : exec (.streamSend id true) s = .next { s with m := Module.countDcp { s.m with
    dcp := { s.m.dcp with subs := s.m.dcp.subs.map (fun y => if y.id = id then { y with dropped := true } else y) } } 8 } := by
  show execStreamSend id true s = _
  unfold execStreamSend
  rw [onModule_eq, hd]
  dsimp only
  rw [if_neg (by simp [hu, hr]), if_pos rfl]

theorem exec_streamSend_sends : ∃ k : Module, k = ((List.range (s.m.streamParts d).length).zip (s.m.streamParts d)).foldl
      (fun m p => m.sendPart d (s.m.streamParts d).length p) s.m ∧
    exec (.streamSend id false) s = .next { s with m := { k with dcp := { k.dcp with
      subs := k.dcp.subs.map (fun y => if y.id = id then
        { y with sentDom := k.newestSeq true, sentLoc := k.newestSeq false } else y) } } } := by
  refine ⟨_, rfl, ?_⟩
  show execStreamSend id false s = _
  unfold execStreamSend
  rw [onModule_eq, hd]
  dsimp only
  rw [if_neg (by simp [hu, hr]), if_neg (by decide)]

end

theorem exec_streamSend_idle {b : Bool} (h : s.m.dcp.subs.find? (fun d => d.id = id) = none ∨ s.m.dcpUp = false) :
    exec (.streamSend id b) s = .next s := by
  show execStreamSend id b s = _
  unfold execStreamSend
  rw [onModule_eq]
  cases hf : s.m.dcp.subs.find? (fun d => d.id = id) with
  | none => rfl
  | some d =>
    dsimp only
    rw [if_pos (.inl (h.resolve_left (by simp [hf])))]

theorem Module.sendPart_sends (m : Module) {d : Subscr} {x : Session} (parts : Nat) (p : Nat × List Byte)
    (hx : m.session? d.session = some x) (hs : x.streamSeq + 1 < 0x80000000) :
    ∃ o, (m.sendPart d parts p).outbox = o :: m.outbox ∧ ∃ flags,
      o = .stream d.dst x.id d.id (0x0230 + d.kind) (x.streamSeq + 1) flags
        (le 2 d.id ++ le 2 p.1 ++ le 2 parts ++ zeros 2 ++ p.2) := by
  unfold Module.sendPart
  rw [hx]
  dsimp only
  rw [if_neg (by omega)]
  exact ⟨_, rfl, _, rfl⟩

end

end Machine

/-- Settles O51: every data read is one request over the scan of R384, and a burst is looked up in the archive. -/
theorem dataReads : Obligations.DataReads := by
  refine fun s req x => ⟨fun p hp first count h => dataRead_replies hp first count h,
    fun sweep first count size range present rec => ⟨fun h => readReply_range h present rec,
      readReply_spec sweep first count size range present rec⟩,
    fun str hs h => readBurstList_replies hs h, fun str hop block tStep h1 h2 h3 h4 h =>
    ⟨readBurst_unknown h1 h2 h3 h4 h, fun b data => readBurst_newest h1 h2 h3 h4 h⟩⟩

/-- Settles O52: each stream command by its own effect on the module that has taken it, and a packet by what it puts out. -/
theorem streamCommands : Obligations.StreamCommands := by
  intro s req
  refine ⟨fun x kind decimate sev first count dest h h1 h9 hd hs hr =>
      ⟨streamSubscribe_full h h1 h9 hd hs hr, fun hf => ⟨_, rfl, streamSubscribe_kept h h1 h9 hd hs hr hf⟩⟩,
    fun x id h => ⟨fun hm => ⟨_, rfl, fun d => ?_, streamUnsubscribe_ends h hm⟩, streamUnsubscribe_unknown h⟩,
    fun x h => streamList_replies h, fun id d hd hu hr => ⟨exec_streamSend_sends hd hu hr,
      ⟨_, ⟨exec_streamSend_drop hd hu hr, rfl, rfl⟩, ?_, ?_, ?_⟩⟩,
    fun id b h => exec_streamSend_idle h, fun m d x parts p hx hs => m.sendPart_sends parts p hx hs⟩
  · simp [imp_iff_not_or]
  all_goals rw [Module.countDcp_dcp]
  · rfl
  · intro e he hid
    obtain ⟨y, -, rfl⟩ := List.mem_map.1 he
    by_cases hy : y.id = id
    · simp [hy]
    · simp [hy] at hid
  · rfl

end Sys2Proof

/-! ## The journal is written (R417, R419, R420) -/

namespace Sys2Proof

open Machine

namespace Machine

/-! ### The number of a record (R417) -/

section
variable (m : Module) (r : JRec)

theorem Module.number_keeps : m.number true r = (m, r) := rfl

theorem Module.number_leader (h : m.leads = true) : m.number false r =
    (if m.isPair = true then
      Module.emit { m with jou := { m.jou with domNext := m.jou.domNext + 1 } } (.pairJournal { r with seq := m.jou.domNext })
    else { m with jou := { m.jou with domNext := m.jou.domNext + 1 } }, { r with seq := m.jou.domNext }) := if_pos h

theorem Module.number_local (h : m.leads = false) : m.number false r =
    ({ m with jou := { m.jou with locNext := m.jou.locNext + 1 } },
      { r with seq := m.jou.locNext, severity := min r.severity sevAlarm }) := if_neg (ne_true_of_eq_false h)

theorem Module.number_only (keeps : Bool) : JournalOnly m (m.number keeps r).1 := by
  cases keeps with
  | true => rfl
  | false =>
    cases h : m.leads with
    | true =>
      rw [m.number_leader r h]
      dsimp only
      split <;> rfl
    | false =>
      rw [m.number_local r h]
      rfl

/-- A number moves nothing of the journal but the two series. -/
theorem Module.number_jou (keeps : Bool) : ∃ dom loc,
    (m.number keeps r).1.jou = { m.jou with domNext := dom, locNext := loc } := by
  cases keeps with
  | true => exact ⟨_, _, rfl⟩
  | false =>
    cases h : m.leads with
    | true =>
      rw [m.number_leader r h]
      dsimp only
      split <;> exact ⟨_, _, rfl⟩
    | false =>
      rw [m.number_local r h]
      exact ⟨_, _, rfl⟩

/-- The number does not depend on the records that wait. -/
theorem Module.number_queue (keeps : Bool) (queue : List (Bool × JRec)) :
    (Module.number { m with jou := { m.jou with queue := queue } } keeps r).2 = (m.number keeps r).2 := by
  unfold Module.number
  split
  · rfl
  · show (if m.leads = true then _ else _ : Module × JRec).2 = _
    split <;> rfl

/-- A record goes behind those of its section while that has room. -/
theorem Module.storeRec_room (h : (m.jou.stored.filter (fun e => decide (e.1 = min r.severity 4))).length <
      sectionSlots (min r.severity 4)) : m.storeRec r = { m with jou := { m.jou with
    stored := m.jou.stored ++ [(min r.severity 4, { r with borrowed := false })] } } := by
  refine (if_pos h).trans ?_
  simp [Journal.place]

end

/-! ### A journal queue with room takes every record (R419) -/

section
variable {m : Module} (hu : m.up .mgi = true) (hq : m.jou.queue.length < 65536)
include hu hq

theorem Module.enqueue_room (k : Bool) (r : JRec) :
    m.enqueue k r = { m with jou := { m.jou with queue := m.jou.queue ++ [(k, r)] } } := by
  rw [Module.enqueue, if_pos hu, if_neg (by omega)]

theorem Module.jotCond_room (src : Island) (code sev scope inst : Nat) (v : Int) (p : List Byte) (fall : Bool) :
    (m.jotCond src code sev scope inst v p fall).al = m.al ∧ ∃ more,
      (m.jotCond src code sev scope inst v p fall).jou = { m.jou with queue := m.jou.queue ++ more } := by
  unfold Module.jotCond
  dsimp only
  split
  · split
    · rw [Module.enqueue_room hu hq]
      exact ⟨rfl, _, rfl⟩
    · split
      · rw [Module.enqueue_room hu hq]
        exact ⟨rfl, _, rfl⟩
      · exact ⟨rfl, [], by rw [List.append_nil]⟩
  · rw [Module.enqueue_room hu hq]
    exact ⟨rfl, _, rfl⟩

/-- A condition that ends while the queue has room is over, and its record goes behind those that wait. -/
theorem Module.clear_room (src : Island) (code scope inst : Nat) :
    (m.clear src code scope inst).holds code scope inst = false ∧ ∃ more,
      (m.clear src code scope inst).jou = { m.jou with queue := m.jou.queue ++ more } := by
  by_cases h : m.holds code scope inst
  · obtain ⟨hal, hjou⟩ := Module.jotCond_room (m := { m with al := { m.al with
      conds := dropFrom m.al.conds (Cond.mk code scope (m.instOf code inst)) } }) hu hq src code sevTrace scope
        (m.instOf code inst) naCurrent [] true
    have hi : (m.clear src code scope inst).instOf code inst = m.instOf code inst := by
      rw [Module.clear_only m src code scope inst]
      rfl
    refine ⟨?_, by rw [Module.clear, if_pos h]; exact hjou⟩
    unfold Module.holds
    rw [hi, Module.clear, if_pos h, hal, List.any_eq_false]
    rintro ⟨c, sc, i⟩ hc heq
    obtain ⟨-, hne⟩ := (mem_dropFrom _ _ _).1 hc
    simp at heq hne
    exact hne heq.1.1 heq.1.2 heq.2
  · rw [Module.clear, if_neg h]
    exact ⟨eq_false_of_ne_true h, [], by rw [List.append_nil]⟩

end

/-! ### The oldest waiting record (R420) -/

section
variable {m : Module}

theorem Module.nameCounter_idle {count name : Nat} (h : count ≠ 0xFFFF) : m.nameCounter count name = m :=
  if_neg fun ⟨hc, _⟩ => h hc

theorem Module.writeNext_empty (h : m.jou.queue = []) : m.writeNext = m := by
  unfold Module.writeNext
  rw [h]

variable {keeps : Bool} {r : JRec} {rest : List (Bool × JRec)} (hq : m.jou.queue = (keeps, r) :: rest)
  (hlen : rest.length < 65535) (hu : m.up .mgi = true)
  (hroom : (m.jou.stored.filter (fun e => decide (e.1 = min (m.number keeps r).2.severity 4))).length <
    sectionSlots (min (m.number keeps r).2.severity 4))
include hq hlen hu hroom

theorem Module.writeNext_room : JournalOnly m m.writeNext ∧
    m.writeNext.holds cJournalQueueFull scModule 0 = false ∧ rest <+: m.writeNext.jou.queue ∧
    m.writeNext.jou.stored = m.jou.stored ++ [(min (m.number keeps r).2.severity 4,
      { (m.number keeps r).2 with borrowed := false })] ∧
    m.writeNext.jou.dropped = m.jou.dropped ∧ m.writeNext.jou.tripOver = m.jou.tripOver := by
  have hnum := m.number_queue r keeps rest
  have honly : JournalOnly m (Module.number { m with jou := { m.jou with queue := rest } } keeps r).1 :=
    JournalOnly.trans (.of_fields _ _ _) (Module.number_only _ _ _)
  obtain ⟨dom, loc, hjou⟩ := Module.number_jou { m with jou := { m.jou with queue := rest } } r keeps
  have hup := (honly.field (·.up .mgi) fun _ _ _ _ => rfl).trans hu
  unfold Module.writeNext
  rw [hq]
  dsimp only
  rw [hnum]
  generalize (Module.number { m with jou := { m.jou with queue := rest } } keeps r).1 = n at honly hjou hup ⊢
  rw [n.storeRec_room _ (by rw [hjou]; exact hroom), hjou, if_pos (by exact Nat.lt_succ_of_lt hlen)]
  generalize hn' : ({ n with jou := _ } : Module) = n'
  obtain ⟨hholds, more, hafter⟩ := Module.clear_room (m := n') (by rw [← hn']; exact hup)
    (by rw [← hn']; exact Nat.lt_succ_of_lt hlen) .mgi cJournalQueueFull scModule 0
  rw [hafter, ← hn']
  exact ⟨honly.trans (JournalOnly.trans (.of_fields _ _ _) (hn' ▸ Module.clear_only n' _ _ _ _)), hn' ▸ hholds,
    List.prefix_append _ _, rfl, rfl, rfl⟩

end

section
variable {s : State}

theorem exec_journalWrite_off (h : s.m.runs = false ∨ s.m.up .mgi = false) : exec .journalWrite s = .next s := by
  show execJournalWrite s = _
  unfold execJournalWrite
  rw [onModule_eq, if_neg (by simpa [or_iff_not_imp_left] using h)]

theorem exec_journalWrite_named (hr : s.m.runs = true) (hu : s.m.up .mgi = true)
    (hd : s.m.writeNext.jou.dropped ≠ 0xFFFF) (ht : s.m.writeNext.jou.tripOver ≠ 0xFFFF) :
    exec .journalWrite s = .next { s with m := s.m.writeNext } := by
  show execJournalWrite s = _
  unfold execJournalWrite
  rw [onModule_eq, if_pos ⟨hr, hu⟩]
  dsimp only
  rw [Module.nameCounter_idle hd, Module.nameCounter_idle ht]

end

end Machine

/-- Settles O60: a number moves the two series alone, and the oldest record goes behind those of a section with room. -/
theorem journalWriteStores : Obligations.JournalWriteStores := by
  refine ⟨fun m keeps r => ⟨rfl, fun h => ?_, fun h => ?_, m.number_only r keeps⟩, fun s => exec_journalWrite_off,
    fun s hr hu => ⟨fun hq hd ht => ?_, fun keeps r rest hq hd ht hlen hroom => ?_⟩⟩
  · rw [m.number_leader r h]
    refine ⟨rfl, by dsimp only; split <;> rfl, fun hp => ?_⟩
    dsimp only
    rw [if_pos hp]
    rfl
  · rw [m.number_local r h]
    exact ⟨rfl, rfl⟩
  · have hsame := Module.writeNext_empty hq
    rw [exec_journalWrite_named hr hu (by rwa [hsame]) (by rwa [hsame]), hsame]
  · obtain ⟨honly, hholds, hrest, hstored, hdropped, hover⟩ := Module.writeNext_room hq hlen hu hroom
    exact ⟨_, ⟨exec_journalWrite_named hr hu (by rwa [hdropped]) (by rwa [hover]), rfl, rfl⟩, honly, hstored, hrest,
      hholds⟩

end Sys2Proof

/-! ## Commands on journal, alerts, pair and time (R351, R359, R392, R395, R396, R421, R422, R424, R425) -/

namespace Sys2Proof

open Machine

section
variable {m n : Module}

theorem SessOnly.linked (h : SessOnly m n) : n.linked = m.linked := h.field (·.linked) fun _ _ _ _ _ _ _ => rfl

theorem SessOnly.pair (h : SessOnly m n) : n.pair = m.pair := h.field (·.pair) fun _ _ _ _ _ _ _ => rfl

theorem SessOnly.sup (h : SessOnly m n) : n.sup = m.sup := h.field (·.sup) fun _ _ _ _ _ _ _ => rfl

theorem SessOnly.follows (h : SessOnly m n) : n.follows = m.follows := h.field (·.follows) fun _ _ _ _ _ _ _ => rfl

theorem SessOnly.leads (h : SessOnly m n) : n.leads = m.leads := h.field (·.leads) fun _ _ _ _ _ _ _ => rfl

theorem SessOnly.isPair (h : SessOnly m n) : n.isPair = m.isPair := h.field (·.isPair) fun _ _ _ _ _ _ _ => rfl

theorem SessOnly.partnerReady (h : SessOnly m n) : n.partnerReady = m.partnerReady :=
  h.field (·.partnerReady) fun _ _ _ _ _ _ _ => rfl

theorem SessOnly.time (h : SessOnly m n) : n.time = m.time := h.field (·.time) fun _ _ _ _ _ _ _ => rfl

theorem SessOnly.plant (h : SessOnly m n) : n.plant = m.plant := h.field (·.plant) fun _ _ _ _ _ _ _ => rfl

theorem SessOnly.timeActive (h : SessOnly m n) : n.timeActive = m.timeActive :=
  h.field (·.timeActive) fun _ _ _ _ _ _ _ => rfl

theorem SessOnly.holdoverS (h : SessOnly m n) : n.holdoverS = m.holdoverS := h.field (·.holdoverS) fun _ _ _ _ _ _ _ => rfl

end

namespace Machine

/-! ### What a waiting record leaves of the alert map and the journal -/

section
variable (m : Module) (k : Bool) (r : JRec)

theorem Module.enqueue_ackMark : (m.enqueue k r).jou.ackMark = m.jou.ackMark := by
  unfold Module.enqueue
  split
  · split <;> rfl
  · split <;> rfl

theorem Module.enqueue_clearReq : (m.enqueue k r).al.clearReq = m.al.clearReq := by
  unfold Module.enqueue
  split
  · split <;> rfl
  · split <;> rfl

end

/-! ### Requests that are refused in the present state -/

/-- A request refused in the present state answers COMMAND_RESULT, and its record is all that moves (R377). -/
theorem replies_refused {s : State} {req : DcpReq} {x : Session} {i : Instr} {op len scope id inst hold row : Nat}
    {inRange : Bool} {run : Module → Session → Module × Option Answer}
    (he : exec i s = onModule s (fun m => m.dcpRequest req op len inRange run)) (h : Served s.m x req op len)
    (hop : op ∈ definedOps) (hin : inRange = true)
    (hr : run (dcpTaken s.m x req) (dcpSession x req) =
      (dcpTaken s.m x req).refuse (dcpSession x req) req.seq op scope id inst hold row) :
    ∃ k, JournalOnly (dcpTaken s.m x req) k ∧
      Replies i s x req op k stStateReject 0 ((dcpTaken s.m x req).cmdResult scope id inst hold row) :=
  ⟨_, Module.refuse_only _ _ _ _ _ _ _ _ _, replies_inRange he h hop hin hr⟩

/-! ### Journal and alert map (R392, R421, R422, R424, R425) -/

section
variable {s : State} {req : DcpReq} {x : Session}

/-- The stored TRIP records that no acknowledgement has reached. -/
def Journal.unacked (j : Journal) : List (Nat × JRec) := j.stored.filter (fun e => isTrip e && !j.acked e)

theorem Journal.unacked_eq_zero_iff (j : Journal) :
    j.unacked.length = 0 ↔ ∀ e ∈ j.stored, e.2.severity = sevTrip → j.acked e = true := by
  simp [Journal.unacked, isTrip]

theorem journalStatus_replies (h : Served s.m x req 0x0500 0) :
    Replies (.journalStatus req) s x req 0x0500 (dcpTaken s.m x req) stOk 0
      (le 8 ((greatestN (((dcpTaken s.m x req).series true).map (·.seq))).getD 0) ++
        le 8 ((leastN (((dcpTaken s.m x req).series true).map (·.seq))).getD (dcpTaken s.m x req).jou.domNext) ++
        le 4 (dcpTaken s.m x req).jou.unacked.length ++ le 4 (dcpTaken s.m x req).jou.tripOver ++
        le 4 (dcpTaken s.m x req).jou.heldLost ++ zeros 4) :=
  replies_inRange rfl h (by decide) rfl rfl

theorem journalRead_replies {seq count mask : Nat} (h1 : 1 ≤ count) (h2 : count ≤ 1024) (h : Served s.m x req 0x0501 12) :
    Replies (.journalRead req seq count mask) s x req 0x0501 (dcpTaken s.m x req)
      ((dcpTaken s.m x req).journalReply seq count mask).1 ((dcpTaken s.m x req).journalReply seq count mask).2.1
      ((dcpTaken s.m x req).journalReply seq count mask).2.2 :=
  replies_inRange rfl h (by decide) (decide_eq_true ⟨h1, h2⟩) rfl

/-- The TRIP records up to number `upTo` are acknowledged, and the record of it waits (R421). -/
def Module.ackArchived (m : Module) (upTo : Nat) : Module :=
  Module.jot { m with jou := { m.jou with ackMark := some (max (m.jou.ackMark.getD 0) upTo) } } .mgi eJournalAck sevInfo
    scDomain 0xFFFFFFFF naCurrent (le 8 upTo ++ le 4 (m.newlyAcked upTo))

theorem Module.ackArchived_only (m : Module) (upTo : Nat) : JournalOnly m (m.ackArchived upTo) :=
  JournalOnly.trans (.of_fields _ _ _) (Module.jot_only _ _ _ _ _ _ _ _ _ _)

section
variable {upTo : Nat} (hu : upTo < 2 ^ 63) (h : Served s.m x req 0x0502 8) (hc : s.m.calOk = true)
include hu h hc

theorem journalAck_moves {newest : Nat}
    (hn : greatestN (((dcpTaken s.m x req).series true).map (·.seq)) = some newest) : ∃ k,
      JournalOnly (dcpTaken s.m x req) k ∧
      k.jou.ackMark = some (max ((dcpTaken s.m x req).jou.ackMark.getD 0) (min upTo newest)) ∧
      k.jou.stored = (dcpTaken s.m x req).jou.stored ∧
      Replies (.journalAckArchived req upTo) s x req 0x0502 k stOk 0
        (le 4 ((dcpTaken s.m x req).newlyAcked (min upTo newest))) := by
  refine ⟨_, (dcpTaken s.m x req).ackArchived_only (min upTo newest), (Module.enqueue_ackMark _ _ _).trans rfl,
    (Module.enqueue_stored _ _ _).trans rfl, replies_inRange rfl h (by decide) (decide_eq_true hu) ?_⟩
  dsimp only
  rw [h.only.calOk, hc, if_neg (by decide), hn]
  rfl

theorem journalAck_empty (hn : (dcpTaken s.m x req).series true = []) :
    Replies (.journalAckArchived req upTo) s x req 0x0502 (dcpTaken s.m x req) stOk 0 (le 4 0) := by
  refine replies_inRange rfl h (by decide) (decide_eq_true hu) ?_
  dsimp only
  rw [h.only.calOk, hc, if_neg (by decide), hn]
  rfl

end

theorem alertRead_replies (h : Served s.m x req 0x0510 0) :
    Replies (.alertRead req) s x req 0x0510 (dcpTaken s.m x req) stOk 0 (bitmapBytes (dcpTaken s.m x req).live ++
      bitmapBytes (dcpTaken s.m x req).al.sticky ++ bitmapBytes (dcpTaken s.m x req).al.mask) :=
  replies_inRange rfl h (by decide) rfl rfl

section
variable {bits : Bitmap} (hb : ∀ i ∈ bits, i < 256)
include hb

theorem alertClear_asks (h : Served s.m x req 0x0511 32) : ∃ k, JournalOnly (dcpTaken s.m x req) k ∧
    (∀ i, i ∈ k.al.clearReq ↔ i ∈ (dcpTaken s.m x req).al.clearReq ∨ i ∈ bits) ∧
    k.al.mask = (dcpTaken s.m x req).al.mask ∧ (∀ i ∈ (dcpTaken s.m x req).al.sticky, i ∈ k.al.sticky) ∧
    Replies (.alertClear req bits) s x req 0x0511 k stOk 0 [] := by
  refine ⟨_, JournalOnly.trans (.of_fields { (dcpTaken s.m x req).al with
      clearReq := addAll (dcpTaken s.m x req).al.clearReq bits } (dcpTaken s.m x req).jou (dcpTaken s.m x req).outbox)
    (Module.jot_only _ .mgi eAlertClear sevInfo scDomain 0xFFFFFFFF naCurrent (bitmapBytes bits) 0xFFFF 0xFFFF), fun i => ?_,
    (Module.enqueue_mask _ _ _).trans rfl, fun i hi => Module.enqueue_sticky _ _ _ hi,
    replies_inRange rfl h (by decide) (by simpa using hb) rfl⟩
  unfold Module.jot
  rw [Module.enqueue_clearReq]
  exact mem_addAll _ _ _

theorem alertMask_replaces (h : Served s.m x req 0x0512 32) : ∃ k, JournalOnly (dcpTaken s.m x req) k ∧
    (∀ i, i ∈ k.al.mask ↔ i ∈ bits) ∧ Replies (.alertMask req bits) s x req 0x0512 k stOk 0 [] := by
  refine ⟨_, JournalOnly.trans (.of_fields { (dcpTaken s.m x req).al with mask := addAll [] bits }
      (dcpTaken s.m x req).jou (dcpTaken s.m x req).outbox)
    (Module.jot_only _ .mgi eAlertMask sevInfo scDomain 0xFFFFFFFF naCurrent (bitmapBytes bits) 0xFFFF 0xFFFF), fun i => ?_,
    replies_inRange rfl h (by decide) (by simpa using hb) rfl⟩
  unfold Module.jot
  rw [Module.enqueue_mask]
  exact (mem_addAll _ _ _).trans (by simp)

end

/-! ### The pair (R351, R359, R395) -/

theorem pairStatus_replies (h : Served s.m x req 0x0800 0) :
    Replies (.pairStatus req) s x req 0x0800 (dcpTaken s.m x req) stOk 0 (dcpTaken s.m x req).recPair :=
  replies_inRange rfl h (by decide) rfl rfl

theorem pairHandover_starts (h : Served s.m x req 0x0801 0) (hl : s.m.linked = true)
    (hr : s.m.pair.partnerRole = some .ready) :
    Replies (.pairHandover req) s x req 0x0801 (dcpTaken s.m x req).startHandover stAccepted 0 [] := by
  refine replies_inRange rfl h (by decide) rfl ?_
  rw [if_pos (by rw [h.only.linked, h.only.pair, hl, hr]; rfl)]

theorem pairHandover_refused (h : Served s.m x req 0x0801 0)
    (hr : s.m.linked = false ∨ s.m.pair.partnerRole ≠ some .ready) : ∃ k, JournalOnly (dcpTaken s.m x req) k ∧
      Replies (.pairHandover req) s x req 0x0801 k stStateReject 0
        ((dcpTaken s.m x req).cmdResult scPair 0xFFFF 0xFF 5 0xFFFF) := by
  refine replies_refused rfl h (by decide) rfl ?_
  rw [if_neg (by rw [h.only.linked, h.only.pair]; simpa [or_iff_not_imp_left] using hr)]

section
variable (h : Served s.m x req 0x0802 0)
include h

theorem pairPark_locked (hl : s.m.sup.lever = .locked) : ∃ k, JournalOnly (dcpTaken s.m x req) k ∧
    Replies (.pairPark req) s x req 0x0802 k stStateReject 0
      ((dcpTaken s.m x req).cmdResult scPair 0xFFFF 0xFF 5 0xFFFF) := by
  refine replies_refused rfl h (by decide) rfl ?_
  rw [if_pos (by rw [h.only.sup, hl])]

variable (hl : s.m.sup.lever ≠ .locked)
include hl

theorem pairPark_already (hp : s.m.sup.parking = true ∨ s.m.sup.parked = true) :
    Replies (.pairPark req) s x req 0x0802 (dcpTaken s.m x req) stAccepted 0 [] := by
  refine replies_inRange rfl h (by decide) rfl ?_
  rw [h.only.sup, if_neg hl, if_pos hp]

variable (hp : s.m.sup.parking = false) (hd : s.m.sup.parked = false)
include hp hd

theorem pairPark_handsOver (h1 : s.m.isPair = true) (h2 : s.m.leads = true) (h3 : s.m.partnerReady = true) :
    Replies (.pairPark req) s x req 0x0802 (dcpTaken s.m x req).startHandover stAccepted 0 [] := by
  refine replies_inRange rfl h (by decide) rfl ?_
  rw [h.only.sup, if_neg hl, if_neg (by simp [hp, hd]), h.only.isPair, h.only.leads, h.only.partnerReady,
    if_pos (by simp [h1, h2, h3])]

theorem pairPark_begins (hn : s.m.isPair = false ∨ s.m.leads = false ∨ s.m.partnerReady = false) :
    Replies (.pairPark req) s x req 0x0802 (dcpTaken s.m x req).beginPark stAccepted 0 [] := by
  refine replies_inRange rfl h (by decide) rfl ?_
  rw [h.only.sup, if_neg hl, if_neg (by simp [hp, hd]), h.only.isPair, h.only.leads, h.only.partnerReady,
    if_neg (by rcases hn with hn | hn | hn <;> simp [hn])]

end

section
variable (m : Module)

theorem Module.beginPark_parks : JournalOnly { m with sup := { m.sup with parking := true } } m.beginPark ∧
    m.beginPark.holds cEjectRefused scModule 0 = false ∧ (m.isPair = true → m.beginPark.outbox.head? = some .pairPark) := by
  have hclear := m.clear_only .mgi cEjectRefused scModule 0
  have hends := m.clear_holds .mgi cEjectRefused scModule 0 (by decide)
  unfold Module.beginPark
  dsimp only
  generalize m.clear .mgi cEjectRefused = n at *
  have honly : JournalOnly { m with sup := { m.sup with parking := true } } { n with sup := { n.sup with parking := true } } := by
    rw [hclear]
    rfl
  have hpair : Module.isPair { n with sup := { n.sup with parking := true } } = m.isPair := by
    rw [hclear]
    rfl
  rw [hpair]
  split
  · exact ⟨honly.trans (Module.emit_only _ _), hends, fun _ => rfl⟩
  · exact ⟨honly, hends, fun hp => absurd hp ‹_›⟩

/-- A request for the leader's state moves the resynchronisation alone and leaves the rest of the pair. -/
theorem Module.askState_keeps : m.askState.pair.role = m.pair.role ∧ m.askState.pair.equalRun = m.pair.equalRun ∧
    m.askState.pair.accepted = m.pair.accepted ∧ m.askState.sweep = m.sweep := by
  unfold Module.askState
  split <;> exact ⟨rfl, rfl, rfl, rfl⟩

theorem Module.loseSync_syncs (h : m.follows = true) : m.loseSync.pair.role = .syncing ∧ m.loseSync.pair.equalRun = 0 ∧
    m.loseSync.pair.accepted = none ∧ m.loseSync.sweep.prov = none := by
  have hrole := Module.setRole_role (m := m) .syncing
  unfold Module.loseSync
  rw [if_pos h]
  dsimp only
  generalize hk : ({ m.setRole .syncing with sweep := _, pair := _ } : Module) = k
  obtain ⟨hr, he, ha, hs⟩ := k.askState_keeps
  rw [hr, he, ha, hs, ← hk]
  exact ⟨hrole, rfl, rfl, rfl⟩

end

theorem pairResync_asks (h : Served s.m x req 0x0803 0) (hf : s.m.follows = true) :
    Replies (.pairResync req) s x req 0x0803 (Module.loseSync { dcpTaken s.m x req with
      pair := { (dcpTaken s.m x req).pair with resync := { (dcpTaken s.m x req).pair.resync with failed := false } } })
      stAccepted 0 [] := by
  refine replies_inRange rfl h (by decide) rfl ?_
  dsimp only
  rw [h.only.follows, if_pos hf]

theorem pairResync_refused (h : Served s.m x req 0x0803 0) (hf : s.m.follows = false) :
    ∃ k, JournalOnly (dcpTaken s.m x req) k ∧ Replies (.pairResync req) s x req 0x0803 k stStateReject 0
      ((dcpTaken s.m x req).cmdResult scPair 0xFFFF 0xFF 0 0xFFFF) := by
  refine replies_refused rfl h (by decide) rfl ?_
  dsimp only
  rw [h.only.follows, if_neg (ne_true_of_eq_false hf)]

/-! ### The time of day (R396) -/

theorem timeStatus_replies (h : Served s.m x req 0x0900 0) :
    Replies (.timeStatus req) s x req 0x0900 (dcpTaken s.m x req) stOk 0
      ([timeCode s.m.time.state, sourceCode s.m.cfg.sweep.timeSource, s.m.timeActive, 0] ++
        le 8 s.m.plant ++ leI 4 (i32 (if s.m.follows then s.m.pair.partnerTime else s.m.time.servo)) ++
        le 8 s.m.time.grandmaster ++ le 4 s.m.holdoverS ++ zeros 4) := by
  refine replies_inRange rfl h (by decide) rfl ?_
  rw [h.only.time, h.only.cfg, h.only.timeActive, h.only.plant, h.only.follows, h.only.pair, h.only.holdoverS]

section
variable {sec : Nat} (h : Served s.m x req 0x0901 8)
include h

theorem timeSet_waits (hp : s.m.cfg.sweep.timeSource ≠ .ptp) : Replies (.timeSet req sec) s x req 0x0901
    { dcpTaken s.m x req with time := { (dcpTaken s.m x req).time with tod := some (sec, s.m.time.now) } } stOk 0
    [timeCode s.m.time.state] := by
  refine replies_inRange rfl h (by decide) rfl ?_
  dsimp only
  rw [h.only.cfg, if_neg hp, h.only.time]

theorem timeSet_refused (hp : s.m.cfg.sweep.timeSource = .ptp) : ∃ k, JournalOnly (dcpTaken s.m x req) k ∧
    Replies (.timeSet req sec) s x req 0x0901 k stStateReject 0
      ((dcpTaken s.m x req).cmdResult scTime 0xFFFF 0xFF 0 0xFFFF) := by
  refine replies_refused rfl h (by decide) rfl ?_
  dsimp only
  rw [h.only.cfg, if_pos hp]

end

end

end Machine

/-- Settles O57: each command by what it reads or moves of the module that has taken it. -/
theorem journalAlertPairTimeCommands : Obligations.JournalAlertPairTimeCommands := by
  intro s req x
  exact ⟨fun h => ⟨_, journalStatus_replies h, Journal.unacked_eq_zero_iff _⟩,
    fun seq count mask h1 h2 h => journalRead_replies h1 h2 h,
    fun upTo newest hu h hc hn => journalAck_moves hu h hc hn, fun upTo hu h hc hn => journalAck_empty hu h hc hn,
    alertRead_replies, fun bits hb h => alertClear_asks hb h, fun bits hb h => alertMask_replaces hb h, pairStatus_replies,
    fun h => ⟨pairHandover_starts h, pairHandover_refused h⟩,
    fun h => ⟨pairPark_locked h, pairPark_already h, fun hl hp hd =>
      ⟨pairPark_handsOver h hl hp hd, pairPark_begins h hl hp hd⟩⟩,
    fun m => ⟨by rw [m.beginPark_parks.1], m.beginPark_parks⟩,
    fun h => ⟨pairResync_asks h, pairResync_refused h⟩, fun m hm => m.loseSync_syncs hm, timeStatus_replies,
    fun sec h => ⟨timeSet_waits h, timeSet_refused h⟩⟩

end Sys2Proof

/-! ## A configuration set from BEGIN to READ (R389, R442 to R444) -/

namespace Sys2Proof

open Machine

section
variable {m n : Module}

theorem SessOnly.sets (h : SessOnly m n) : n.sets = m.sets := h.field (·.sets) fun _ _ _ _ _ _ _ => rfl

theorem SessOnly.free (h : SessOnly m n) : n.free = m.free := h.field (·.free) fun _ _ _ _ _ _ _ => rfl

theorem SessOnly.sweep (h : SessOnly m n) : n.sweep = m.sweep := h.field (·.sweep) fun _ _ _ _ _ _ _ => rfl

theorem SessOnly.conf? (h : SessOnly m n) : n.conf? = m.conf? := h.field (·.conf?) fun _ _ _ _ _ _ _ => rfl

theorem SessOnly.heldByOther (h : SessOnly m n) (x : Session) : n.heldByOther x = m.heldByOther x :=
  h.field (·.heldByOther x) fun _ _ _ _ _ _ _ => rfl

theorem SessOnly.descriptor (h : SessOnly m n) (slot : Nat) (y : SetSlot) : n.descriptor slot y = m.descriptor slot y :=
  h.field (·.descriptor slot y) fun _ _ _ _ _ _ _ => rfl

theorem SessOnly.adopts (h : SessOnly m n) (format : Nat) : n.adopts format = m.adopts format :=
  h.field (·.adopts format) fun _ _ _ _ _ _ _ => rfl

theorem SessOnly.slotFits (h : SessOnly m n) (y : SetSlot) : n.slotFits y = m.slotFits y :=
  h.field (·.slotFits y) fun _ _ _ _ _ _ _ => rfl

theorem SessOnly.actSweepOf (h : SessOnly m n) (k : Nat) : n.actSweepOf k = m.actSweepOf k :=
  h.field (·.actSweepOf k) fun _ _ _ _ _ _ _ => rfl

theorem SessOnly.slotBytes (h : SessOnly m n) (y : SetSlot) (off len : Nat) : n.slotBytes y off len = m.slotBytes y off len :=
  h.field (·.slotBytes y off len) fun _ _ _ _ _ _ _ => rfl

end

namespace Machine

theorem Module.jotDirect_only (m : Module) (x : Session) (seq op st scope inst : Nat) (value : Int) (row : Nat)
    (result : List Byte) : JournalOnly m (m.jotDirect x seq op st scope inst value row result) :=
  Module.jot_only _ _ _ _ _ _ _ _ _ _

/-- The holder of PENDING is no other session, whatever its datagram came with. -/
theorem Module.heldByOther_session (m : Module) (x : Session) (req : DcpReq) :
    m.heldByOther (dcpSession x req) = m.heldByOther x := rfl

theorem Module.heldByOther_own (m : Module) (x : Session) (h : m.sets.holder = some x.id) : m.heldByOther x = false := by
  simp [Module.heldByOther, h]

section
variable {s : State} {req : DcpReq} {x : Session}

/-! ### Loading and reading (R389) -/

theorem configStatus_replies (h : Served s.m x req 0x0300 0) :
    Replies (.configStatus req) s x req 0x0300 (dcpTaken s.m x req) stOk 0
      (s.m.descriptor 0 s.m.sets.active ++ s.m.descriptor 1 s.m.sets.pending ++ s.m.descriptor 2 s.m.sets.previous ++
        checkBytes s.m.sets.check) := by
  refine replies_inRange rfl h (by decide) rfl ?_
  rw [h.only.sets, h.only.descriptor, h.only.descriptor, h.only.descriptor]

section
variable {size fmt id : Nat} (h1 : 1 ≤ size) (h2 : size ≤ 0x00800000) (h : Served s.m x req 0x0301 16)
include h1 h2 h

theorem configBegin_busy (ho : s.m.heldByOther x = true) :
    Replies (.configBegin req size fmt id) s x req 0x0301 (dcpTaken s.m x req) stBusy 0 [] := by
  refine replies_inRange rfl h (by decide) (decide_eq_true ⟨h1, h2⟩) ?_
  rw [Module.heldByOther_session, h.only.heldByOther, if_pos ho]

theorem configBegin_empties (ho : s.m.heldByOther x = false) :
    Replies (.configBegin req size fmt id) s x req 0x0301 { dcpTaken s.m x req with
      sets := { (dcpTaken s.m x req).sets with
        pending := { state := 1, format := fmt, size := size, setId := id }, holder := some x.id } } stOk 0 [] := by
  refine replies_inRange rfl h (by decide) (decide_eq_true ⟨h1, h2⟩) ?_
  rw [Module.heldByOther_session, h.only.heldByOther, if_neg (ne_true_of_eq_false ho)]
  rfl

end

/-- A slot that a block of data has reached: complete once every byte of SIZE is there. -/
def SetSlot.withBlock (p : SetSlot) (off : Nat) (data : List Byte) : SetSlot :=
  { p with
    blocks := addBlock p.blocks off data, received := bytesHeld (addBlock p.blocks off data)
    state := if bytesHeld (addBlock p.blocks off data) = p.size then 2 else 1 }

section
variable {off : Nat} {data : List Byte} (h1 : 1 ≤ data.length) (h2 : data.length ≤ 1024)
  (h : Served s.m x req 0x0302 (12 + data.length)) (hh : s.m.sets.holder = some x.id)
  (hp : s.m.sets.pending.state = 1 ∨ s.m.sets.pending.state = 2) (ho : off + data.length ≤ s.m.sets.pending.size)
include h1 h2 h hh hp ho

theorem configBlock_crc :
    Replies (.configBlock req off false data) s x req 0x0302 (dcpTaken s.m x req) stCrcError 0 [] := by
  refine replies_inRange rfl h (by decide) (decide_eq_true ⟨h1, h2⟩) ?_
  rw [Module.heldByOther_session, h.only.heldByOther, s.m.heldByOther_own x hh, if_neg (by decide)]
  dsimp only
  rw [h.only.sets, if_neg (by rw [hh]; simp; omega), if_neg (by omega), if_pos rfl]

theorem configBlock_writes : Replies (.configBlock req off true data) s x req 0x0302
    ((dcpTaken s.m x req).modPending (fun _ => s.m.sets.pending.withBlock off data)) stOk 0 [] := by
  refine replies_inRange rfl h (by decide) (decide_eq_true ⟨h1, h2⟩) ?_
  rw [Module.heldByOther_session, h.only.heldByOther, s.m.heldByOther_own x hh, if_neg (by decide)]
  unfold Module.modPending
  dsimp only
  rw [h.only.sets, if_neg (by rw [hh]; simp; omega), if_neg (by omega), if_neg (by decide)]
  rfl

end

theorem configAbort_empties (h : Served s.m x req 0x0306 0) (ho : s.m.heldByOther x = false) : ∃ j,
    JournalOnly { dcpTaken s.m x req with sets := { (dcpTaken s.m x req).sets with pending := {}, holder := none } } j ∧
    Replies (.configAbort req) s x req 0x0306 j stOk 0 [] := by
  refine ⟨_, Module.jotDirect_only _ (dcpSession x req) req.seq 0x0306 stOk scConfig 1 naCurrent 0xFFFF
    ((dcpTaken s.m x req).cmdResult scConfig 1 0 0 0xFFFF), replies_inRange rfl h (by decide) rfl ?_⟩
  rw [Module.heldByOther_session, h.only.heldByOther, if_neg (ne_true_of_eq_false ho)]
  rfl

/-- The slot that CONFIG.READ names. -/
def SetsSt.named (t : SetsSt) (slot : Nat) : SetSlot :=
  if slot = 0 then t.active else if slot = 1 then t.pending else t.previous

section
variable {slot off len : Nat} (hs : slot ≤ 2) (h1 : 1 ≤ len) (h2 : len ≤ 1024) (h : Served s.m x req 0x0307 12)
include hs h1 h2 h

theorem configRead_empty (he : (s.m.sets.named slot).state = 0) :
    Replies (.configRead req slot off len) s x req 0x0307 (dcpTaken s.m x req) stNotFound 0 [] := by
  refine replies_inRange rfl h (by decide) (decide_eq_true ⟨hs, h1, h2⟩) ?_
  rw [h.only.sets]
  exact if_pos he

theorem configRead_beyond (he : (s.m.sets.named slot).state ≠ 0) (ho : (s.m.sets.named slot).size < off + len) :
    Replies (.configRead req slot off len) s x req 0x0307 (dcpTaken s.m x req) stParamRange 0 [] := by
  refine replies_inRange rfl h (by decide) (decide_eq_true ⟨hs, h1, h2⟩) ?_
  rw [h.only.sets]
  exact (if_neg he).trans (if_pos ho)

theorem configRead_returns (he : (s.m.sets.named slot).state ≠ 0) (ho : off + len ≤ (s.m.sets.named slot).size) :
    Replies (.configRead req slot off len) s x req 0x0307 { dcpTaken s.m x req with free := s.m.free + len } stOk 0
      (le 4 (crc32c (s.m.slotBytes (s.m.sets.named slot) off len)) ++ s.m.slotBytes (s.m.sets.named slot) off len) := by
  refine replies_inRange rfl h (by decide) (decide_eq_true ⟨hs, h1, h2⟩) ?_
  rw [← h.only.sets] at he ho
  rw [← h.only.sets, ← h.only.free, ← h.only.slotBytes]
  exact (if_neg he).trans (if_neg (Nat.not_lt.2 ho))

end

theorem Module.slotBytes_held (m : Module) {y : SetSlot} {off len i : Nat} {b : Byte} (hi : i < len)
    (hb : heldByte y.blocks (off + i) = some b) : (m.slotBytes y off len)[i]? = some b := by
  simp [Module.slotBytes, hi, hb]

/-! ### Checking (R389, R442, R444) -/

theorem configCheck_begins (h : Served s.m x req 0x0303 0) (hp : s.m.sets.pending.state ∈ [1, 2, 4, 5]) :
    Replies (.configCheck req) s x req 0x0303 ((dcpTaken s.m x req).modPending (fun q => { q with state := 3 }))
      stAccepted 0 [] := by
  refine replies_inRange rfl h (by decide) rfl ?_
  rw [h.only.sets]
  exact if_pos hp

theorem configCheck_refused (h : Served s.m x req 0x0303 0) (hp : s.m.sets.pending.state ∉ [1, 2, 4, 5]) :
    ∃ k, JournalOnly (dcpTaken s.m x req) k ∧ Replies (.configCheck req) s x req 0x0303 k stStateReject 0
      ((dcpTaken s.m x req).cmdResult scConfig 1 s.m.sets.pending.state 0 0xFFFF) := by
  refine replies_refused rfl h (by decide) rfl ?_
  rw [h.only.sets]
  exact if_neg hp

/-- The module once the checks of the bytes in PENDING have ended. -/
def Module.checkedPending (m : Module) (l : LoadedSet) : Module :=
  { m with sets := { m.sets with
    check := m.checkPending l
    pending := { m.sets.pending with
      state := if (m.checkPending l).result = stOk then 4 else 5, format := l.cfg.format, content := some l.cfg } } }

section
variable (hr : s.m.runs = true) (hp : s.m.sets.pending.state = 3)
include hr hp

theorem exec_configCheckDone : exec .configCheckDone s = .next { s with
    m := if (s.m.isPair && s.m.acts && s.m.linked && decide (s.m.pair.partnerRole = some .ready)) = true then
        (s.m.checkedPending (loadSet s.m.upd.ownerKey s.m.sets.pending.bytes)).streamSet 1
          (s.m.checkedPending (loadSet s.m.upd.ownerKey s.m.sets.pending.bytes)).sets.pending
      else s.m.checkedPending (loadSet s.m.upd.ownerKey s.m.sets.pending.bytes) } := by
  show execConfigCheckDone s = _
  unfold execConfigCheckDone
  rw [onModule_eq, if_pos ⟨hr, hp⟩]
  unfold Module.checkedPending
  simp only [decide_eq_true_eq]
  rfl

theorem exec_configCheckDone_alone
    (ha : s.m.isPair = false ∨ s.m.acts = false ∨ s.m.linked = false ∨ s.m.pair.partnerRole ≠ some .ready) :
    exec .configCheckDone s =
      .next { s with m := s.m.checkedPending (loadSet s.m.upd.ownerKey s.m.sets.pending.bytes) } := by
  rw [exec_configCheckDone hr hp, if_neg (by rcases ha with ha | ha | ha | ha <;> simp [ha])]

theorem exec_configCheckDone_streams (h1 : s.m.isPair = true) (h2 : s.m.acts = true) (h3 : s.m.linked = true)
    (h4 : s.m.pair.partnerRole = some .ready) : exec .configCheckDone s = .next { s with
      m := (s.m.checkedPending (loadSet s.m.upd.ownerKey s.m.sets.pending.bytes)).streamSet 1
        (s.m.checkedPending (loadSet s.m.upd.ownerKey s.m.sets.pending.bytes)).sets.pending } := by
  rw [exec_configCheckDone hr hp, if_pos (by simp [h1, h2, h3, h4])]

end

theorem exec_configCheckDone_idle (hp : s.m.sets.pending.state ≠ 3) : exec .configCheckDone s = .next s := by
  show execConfigCheckDone s = _
  unfold execConfigCheckDone
  rw [onModule_eq, if_neg fun h => hp h.2]

theorem Module.checkPending_incomplete (m : Module) (l : LoadedSet) (h : m.sets.pending.received ≠ m.sets.pending.size ∨
    l.cfg.size ≠ m.sets.pending.size ∨ l.cfg.setId ≠ m.sets.pending.setId) :
    (m.checkPending l).result = stSignatureError := by
  unfold Module.checkPending
  dsimp only
  rw [if_pos h]

/-! ### Activation and revert (R443) -/

section
variable {k : Nat} (h : Served s.m x req 0x0304 4)
include h

theorem configActivate_unchecked (hp : s.m.sets.pending.state ≠ 4) : ∃ j, JournalOnly (dcpTaken s.m x req) j ∧
    Replies (.configActivate req k) s x req 0x0304 j stStateReject 0
      ((dcpTaken s.m x req).cmdResult scConfig 1 s.m.sets.pending.state 0 0xFFFF) := by
  refine replies_refused rfl h (by decide) rfl ?_
  dsimp only
  rw [h.only.sets]
  exact if_pos hp

variable (hp : s.m.sets.pending.state = 4)
include hp

theorem configActivate_incompatible (ha : s.m.adopts s.m.sets.pending.format = false) :
    Replies (.configActivate req k) s x req 0x0304 (dcpTaken s.m x req) stSettingsIncompatible 0 [] := by
  refine replies_inRange rfl h (by decide) rfl ?_
  dsimp only
  rw [h.only.sets, if_neg (not_not.2 hp), h.only.adopts, if_pos ha]

variable (ha : s.m.adopts s.m.sets.pending.format = true)
include ha

theorem configActivate_unfit (hf : s.m.slotFits s.m.sets.pending = false) :
    Replies (.configActivate req k) s x req 0x0304 (dcpTaken s.m x req) stCheckFailed 0 [] := by
  refine replies_inRange rfl h (by decide) rfl ?_
  dsimp only
  rw [h.only.sets, if_neg (not_not.2 hp), h.only.adopts, if_neg (by simp [ha]), h.only.slotFits, if_pos hf]

variable {act : Nat} (hf : s.m.slotFits s.m.sets.pending = true) (hk : s.m.actSweepOf k = some act)
include hf hk

theorem configActivate_schedules (hc : s.m.conf? ≠ none) : ∃ j, JournalOnly (dcpTaken s.m x req) j ∧
    Replies (.configActivate req k) s x req 0x0304 (j.modPending (fun q => { q with state := 8, actSweep := act }))
      stOk 0 (le 4 act) := by
  have hj := (dcpTaken s.m x req).jotDirect_only (dcpSession x req) req.seq 0x0304 stOk scConfig 1 act 0xFFFF
    ((dcpTaken s.m x req).cmdResult scConfig 1 8 0 0xFFFF)
  refine ⟨_, hj, replies_inRange rfl h (by decide) rfl ?_⟩
  dsimp only
  rw [h.only.sets, if_neg (not_not.2 hp), h.only.adopts, if_neg (by simp [ha]), h.only.slotFits, if_neg (by simp [hf]),
    h.only.actSweepOf, hk]
  dsimp only
  rw [(SessOnly.of_only hj).conf?, h.only.conf?, if_neg (by simpa [Option.isNone_iff_eq_none] using hc)]

theorem configActivate_atOnce (hc : s.m.conf? = none) : ∃ j, JournalOnly (dcpTaken s.m x req) j ∧
    Replies (.configActivate req k) s x req 0x0304 j.takePending stOk 0 (le 4 s.m.sweep.j) := by
  have hj := (dcpTaken s.m x req).jotDirect_only (dcpSession x req) req.seq 0x0304 stOk scConfig 1 act 0xFFFF
    ((dcpTaken s.m x req).cmdResult scConfig 1 8 0 0xFFFF)
  refine ⟨_, hj, replies_inRange rfl h (by decide) rfl ?_⟩
  dsimp only
  rw [h.only.sets, if_neg (not_not.2 hp), h.only.adopts, if_neg (by simp [ha]), h.only.slotFits, if_neg (by simp [hf]),
    h.only.actSweepOf, hk]
  dsimp only
  rw [(SessOnly.of_only hj).conf?, h.only.conf?, hc, if_pos Option.isNone_none, (SessOnly.of_only hj).sweep, h.only.sweep]

end

section
variable {k act : Nat} (h : Served s.m x req 0x0305 4) (hp : s.m.sets.previous.state ≠ 0)
  (ha : s.m.adopts s.m.sets.previous.format = true) (hf : s.m.slotFits s.m.sets.previous = true)
  (hk : s.m.actSweepOf k = some act)
include h hp ha hf hk

theorem configRevert_schedules (hc : s.m.conf? ≠ none) : ∃ j, JournalOnly (dcpTaken s.m x req) j ∧
    Replies (.configRevert req k) s x req 0x0305 { j with sets := { j.sets with revertAt := some act } }
      stOk 0 (le 4 act) := by
  have hj := (dcpTaken s.m x req).jotDirect_only (dcpSession x req) req.seq 0x0305 stOk scConfig 2 act 0xFFFF
    ((dcpTaken s.m x req).cmdResult scConfig 2 s.m.sets.previous.state 0 0xFFFF)
  refine ⟨_, hj, replies_inRange rfl h (by decide) rfl ?_⟩
  dsimp only
  rw [h.only.sets, if_neg hp, h.only.adopts, if_neg (by simp [ha]), h.only.slotFits, if_neg (by simp [hf]),
    h.only.actSweepOf, hk]
  dsimp only
  rw [(SessOnly.of_only hj).conf?, h.only.conf?, if_neg (by simpa [Option.isNone_iff_eq_none] using hc)]

theorem configRevert_atOnce (hc : s.m.conf? = none) : ∃ j, JournalOnly (dcpTaken s.m x req) j ∧
    Replies (.configRevert req k) s x req 0x0305 j.takePrevious stOk 0 (le 4 s.m.sweep.j) := by
  have hj := (dcpTaken s.m x req).jotDirect_only (dcpSession x req) req.seq 0x0305 stOk scConfig 2 act 0xFFFF
    ((dcpTaken s.m x req).cmdResult scConfig 2 s.m.sets.previous.state 0 0xFFFF)
  refine ⟨_, hj, replies_inRange rfl h (by decide) rfl ?_⟩
  dsimp only
  rw [h.only.sets, if_neg hp, h.only.adopts, if_neg (by simp [ha]), h.only.slotFits, if_neg (by simp [hf]),
    h.only.actSweepOf, hk]
  dsimp only
  rw [(SessOnly.of_only hj).conf?, h.only.conf?, hc, if_pos Option.isNone_none, (SessOnly.of_only hj).sweep, h.only.sweep]

end

theorem exec_setActivation (hr : s.m.runs = true) (hl : s.m.leads = true ∨ s.m.pair.role = .ready) :
    exec .setActivation s = .next { s with m := s.m.pendingDue.revertDue } := by
  show execSetActivation s = _
  unfold execSetActivation
  rw [onModule_eq, if_pos (by rcases hl with hl | hl <;> simp [hr, hl])]

theorem exec_setActivation_idle (hl : s.m.leads = false) (hr : s.m.pair.role ≠ .ready) :
    exec .setActivation s = .next s := by
  show execSetActivation s = _
  unfold execSetActivation
  rw [onModule_eq, if_neg (by simp [hl, hr])]

section
variable {m : Module}

theorem Module.pendingDue_takes (hp : m.sets.pending.state = 8) (hd : m.boundaryDue m.sets.pending.actSweep = true)
    (hm : m.mapPermits (m.sets.pending.content.getD {}) = true) (hf : m.slotFits m.sets.pending = true) :
    m.pendingDue = m.takePending := (if_pos ⟨hp, hd⟩).trans (if_pos ⟨hm, hf⟩)

theorem Module.pendingDue_refuses (hp : m.sets.pending.state = 8) (hd : m.boundaryDue m.sets.pending.actSweep = true)
    (hn : m.mapPermits (m.sets.pending.content.getD {}) = false ∨ m.slotFits m.sets.pending = false) :
    JournalOnly { m with sets := { m.sets with pending := { m.sets.pending with state := 4 } } } m.pendingDue := by
  have hne : ¬(m.mapPermits (m.sets.pending.content.getD {}) = true ∧ m.slotFits m.sets.pending = true) :=
    fun ⟨hm, hf⟩ => hn.elim (ne_false_of_eq_true hm) (ne_false_of_eq_true hf)
  rw [show m.pendingDue = _ from (if_pos ⟨hp, hd⟩).trans (if_neg hne)]
  exact Module.jot_only _ _ _ _ _ _ _ _ _ _

theorem Module.pendingDue_waits (h : m.sets.pending.state ≠ 8 ∨ m.boundaryDue m.sets.pending.actSweep = false) :
    m.pendingDue = m := if_neg fun ⟨hp, hd⟩ => h.elim (· hp) fun hb => by simp [hb] at hd

theorem Module.revertDue_none (h : m.sets.revertAt = none) : m.revertDue = m := by
  unfold Module.revertDue
  rw [h]

variable {k : Nat} (hk : m.sets.revertAt = some k)
include hk

theorem Module.revertDue_waits (hd : m.boundaryDue k = false) : m.revertDue = m := by
  unfold Module.revertDue
  rw [hk]
  exact if_neg (ne_true_of_eq_false hd)

theorem Module.revertDue_takes (hd : m.boundaryDue k = true)
    (hm : m.mapPermits (m.sets.previous.content.getD {}) = true) (hf : m.slotFits m.sets.previous = true) :
    m.revertDue = m.takePrevious := by
  unfold Module.revertDue
  rw [hk]
  exact (if_pos hd).trans (if_pos ⟨hm, hf⟩)

end

end

end Machine

/-- Settles O53: the path of a set, one lemma for each answer of a command and each end of a wait. -/
theorem configurationCommands : Obligations.ConfigurationCommands := by
  intro s req x
  refine ⟨configStatus_replies, fun size fmt id h1 h2 h => ⟨configBegin_busy h1 h2 h, configBegin_empties h1 h2 h⟩,
    fun off data h1 h2 h hh hp ho => ⟨configBlock_crc h1 h2 h hh hp ho, _, rfl, rfl, rfl, configBlock_writes h1 h2 h hh hp ho⟩,
    fun h => ⟨configCheck_begins h, configCheck_refused h⟩,
    fun hr hp => ⟨_, _, rfl, rfl, exec_configCheckDone_alone hr hp, exec_configCheckDone_streams hr hp⟩,
    exec_configCheckDone_idle, fun m l => m.checkPending_incomplete l,
    fun k h => ⟨configActivate_unchecked h, configActivate_incompatible h, configActivate_unfit h⟩,
    fun k hk h hp ha hf => ?_, fun k hk h hp ha hf => ?_, configAbort_empties,
    fun slot off len hs h1 h2 h => ⟨_, rfl, configRead_empty hs h1 h2 h, configRead_beyond hs h1 h2 h,
      fun he ho => ⟨configRead_returns hs h1 h2 h he ho, fun i b => s.m.slotBytes_held⟩⟩,
    exec_setActivation, exec_setActivation_idle,
    fun hp hd => ⟨Module.pendingDue_takes hp hd, Module.pendingDue_refuses hp hd⟩, Module.pendingDue_waits,
    fun k hk => ⟨Module.revertDue_waits hk, Module.revertDue_takes hk⟩, Module.revertDue_none⟩
  · obtain ⟨act, hact⟩ := Option.ne_none_iff_exists'.1 hk
    refine ⟨fun hc => ?_, fun hc => configActivate_atOnce h hp ha hf hact hc⟩
    obtain ⟨j, hj, hreply⟩ := configActivate_schedules h hp ha hf hact hc
    exact ⟨j, act, hj, hact, hreply⟩
  · obtain ⟨act, hact⟩ := Option.ne_none_iff_exists'.1 hk
    refine ⟨fun hc => ?_, fun hc => configRevert_atOnce h hp ha hf hact hc⟩
    obtain ⟨j, hj, hreply⟩ := configRevert_schedules h hp ha hf hact hc
    exact ⟨j, act, hj, hact, hreply⟩

end Sys2Proof

/-! ## An image from transfer to the end of its trial (R429 to R438, R446) -/

namespace Sys2Proof

open Machine

section
variable {m n : Module}

theorem SessOnly.upd (h : SessOnly m n) : n.upd = m.upd := h.field (·.upd) fun _ _ _ _ _ _ _ => rfl

theorem SessOnly.recUpdate (h : SessOnly m n) : n.recUpdate = m.recUpdate := h.field (·.recUpdate) fun _ _ _ _ _ _ _ => rfl

theorem SessOnly.updHeldByOther (h : SessOnly m n) (x : Session) : n.updHeldByOther x = m.updHeldByOther x :=
  h.field (·.updHeldByOther x) fun _ _ _ _ _ _ _ => rfl

theorem SessOnly.carapaceMay (h : SessOnly m n) : n.carapaceMay = m.carapaceMay :=
  h.field (·.carapaceMay) fun _ _ _ _ _ _ _ => rfl

end

namespace Machine

/-! ### Requests that may start the module anew -/

/-- A request on a command that may boot completes as any other where its own effect boots nothing. -/
theorem replies_onBoot {i : Instr} {s : State} {x : Session} {req : DcpReq} {op len st fl : Nat} {pl : List Byte}
    {run : Module → Session → Module × Option Answer} {n : Module}
    (he : exec i s = onBoot s (fun m => m.dcpRequest req op len true run)) (h : Served s.m x req op len)
    (hop : op ∈ definedOps) (hr : run (dcpTaken s.m x req) (dcpSession x req) = (n, some (st, fl, pl)))
    (hn : n.sup.bootNo = s.m.sup.bootNo) : Replies i s x req op n st fl pl := by
  have hserved := dcpRequest_served h hop run
  rw [hr] at hserved
  refine replies_of h hop (he.trans ?_) hr
  rw [onBoot, hserved, if_pos (by exact hn)]
  rfl

/-- A request refused in the present state boots nothing. -/
theorem replies_onBoot_refused {i : Instr} {s : State} {x : Session} {req : DcpReq} {op len scope id inst hold row : Nat}
    {run : Module → Session → Module × Option Answer}
    (he : exec i s = onBoot s (fun m => m.dcpRequest req op len true run)) (h : Served s.m x req op len)
    (hop : op ∈ definedOps) (hr : run (dcpTaken s.m x req) (dcpSession x req) =
      (dcpTaken s.m x req).refuse (dcpSession x req) req.seq op scope id inst hold row) :
    ∃ k, JournalOnly (dcpTaken s.m x req) k ∧
      Replies i s x req op k stStateReject 0 ((dcpTaken s.m x req).cmdResult scope id inst hold row) := by
  have honly := (dcpTaken s.m x req).refuse_only (dcpSession x req) req.seq op scope id inst hold row
  refine ⟨_, honly, replies_onBoot he h hop hr ?_⟩
  rw [(SessOnly.of_only honly).sup, h.only.sup]

theorem runs_of_dcpUp {m : Module} (h : m.dcpUp = true) : m.sup.recovery = false := by
  simp [Module.dcpUp, Module.runs] at h
  exact h.1.1.2

/-! ### Transfer (R430) -/

theorem UpdSt.begin_goesOn {u : UpdSt} {size v holder : Nat} {svc : Bool}
    (h : u.state ≠ 0 ∧ u.size = size ∧ u.version = v) : u.begin_ size v holder svc =
      { u with state := 1, holder := some holder, svc := u.svc && svc, staging := none, result := stOk } := if_pos h

theorem UpdSt.begin_afresh {u : UpdSt} {size v holder : Nat} {svc : Bool}
    (h : ¬(u.state ≠ 0 ∧ u.size = size ∧ u.version = v)) : u.begin_ size v holder svc =
      { u.discard with state := 1, size := size, version := v, holder := some holder, svc := svc, result := stOk } := if_neg h

section
variable {s : State} {req : DcpReq} {x : Session}

theorem updateStatus_replies (h : Served s.m x req 0x0600 0) :
    Replies (.updateStatus req) s x req 0x0600 (dcpTaken s.m x req) stOk 0 s.m.recUpdate := by
  refine replies_inRange rfl h (by decide) rfl ?_
  rw [h.only.recUpdate]

theorem updateBegin_begins {size v : Nat} (h1 : 1 ≤ size) (h2 : size ≤ 0x04000000) (h : Served s.m x req 0x0601 8)
    (hs : s.m.upd.state ∈ [0, 1, 3, 4]) (ho : s.m.updHeldByOther x = false) :
    Replies (.updateBegin req size v) s x req 0x0601 { dcpTaken s.m x req with
      upd := s.m.upd.begin_ size v x.id (decide (req.port = .svc)) } stOk 0 [] := by
  refine replies_inRange rfl h (by decide) (decide_eq_true ⟨h1, h2⟩) ?_
  rw [show (dcpTaken s.m x req).updHeldByOther (dcpSession x req) = (dcpTaken s.m x req).updHeldByOther x from rfl,
    h.only.updHeldByOther, ← h.only.upd] at *
  rw [if_neg (not_not.2 hs), if_neg (ne_true_of_eq_false ho)]
  rfl

theorem UpdSt.begin_spec (u : UpdSt) (size v holder : Nat) (svc : Bool) :
    (u.begin_ size v holder svc).state = 1 ∧ (u.begin_ size v holder svc).size = size ∧
    (u.begin_ size v holder svc).version = v ∧ (u.begin_ size v holder svc).holder = some holder ∧
    (u.begin_ size v holder svc).staging = none := by
  by_cases h : u.state ≠ 0 ∧ u.size = size ∧ u.version = v
  · rw [UpdSt.begin_goesOn h]
    obtain ⟨-, hsize, hv⟩ := h
    exact ⟨rfl, hsize, hv, rfl, rfl⟩
  · rw [UpdSt.begin_afresh h]
    exact ⟨rfl, rfl, rfl, rfl, rfl⟩

section
variable {off : Nat} {data : List Byte} (h1 : 1 ≤ data.length) (h2 : data.length ≤ 1024)
  (ho : off + data.length ≤ s.m.upd.size) (hz : s.m.upd.size ≤ 0x04000000)
  (h : Served s.m x req 0x0602 (12 + data.length)) (hs : s.m.upd.state = 1) (hh : s.m.upd.holder = some x.id)
include h1 h2 ho hz h hs hh

theorem updateBlock_crc :
    Replies (.updateBlock req off false data) s x req 0x0602 (dcpTaken s.m x req) stCrcError 0 [] := by
  have hown : (dcpTaken s.m x req).updHeldByOther (dcpSession x req) = false := by
    simp [Module.updHeldByOther, h.only.upd, hh, show (dcpSession x req).id = x.id from rfl]
  refine replies_inRange rfl h (by decide) (decide_eq_true ⟨h1, h2, by omega⟩) ?_
  rw [hown, if_neg (by decide), h.only.upd, if_neg (by simp [hs, hh]), if_neg (by omega), if_pos rfl]

theorem updateBlock_writes : Replies (.updateBlock req off true data) s x req 0x0602 { dcpTaken s.m x req with
    upd := { s.m.upd with
      blocks := addBlock s.m.upd.blocks off data, received := bytesHeld (addBlock s.m.upd.blocks off data)
      svc := s.m.upd.svc && decide (req.port = .svc) } } stOk 0 [] := by
  have hown : (dcpTaken s.m x req).updHeldByOther (dcpSession x req) = false := by
    simp [Module.updHeldByOther, h.only.upd, hh, show (dcpSession x req).id = x.id from rfl]
  refine replies_inRange rfl h (by decide) (decide_eq_true ⟨h1, h2, by omega⟩) ?_
  rw [← h.only.upd] at *
  rw [hown, if_neg (by decide), if_neg (by simp [hs, hh]), if_neg (by omega), if_neg (by decide)]
  rfl

end

/-! ### Verification (R431) -/

section
variable (h : Served s.m x req 0x0603 0)
include h

theorem updateVerify_begins (hs : s.m.upd.state = 1) (hr : s.m.upd.received = s.m.upd.size) :
    Replies (.updateVerify req) s x req 0x0603 { dcpTaken s.m x req with upd := { s.m.upd with state := 2 } }
      stAccepted 0 [] := by
  refine replies_inRange rfl h (by decide) rfl ?_
  rw [← h.only.upd] at *
  exact if_pos ⟨hs, hr⟩

theorem updateVerify_refused (hn : s.m.upd.state ≠ 1 ∨ s.m.upd.received ≠ s.m.upd.size) :
    ∃ k, JournalOnly (dcpTaken s.m x req) k ∧ Replies (.updateVerify req) s x req 0x0603 k stStateReject 0
      ((dcpTaken s.m x req).cmdResult scUpdate 0xFFFF s.m.upd.state 0 0xFFFF) := by
  refine replies_refused rfl h (by decide) rfl ?_
  rw [← h.only.upd] at *
  exact if_neg fun ⟨hs, hr⟩ => hn.elim (· hs) (· hr)

end

theorem exec_updateVerifyDone (hp : s.m.sup.phase = .on) (hs : s.m.upd.state = 2) {i : ImageFacts}
    (hi : i = readImage s.m.upd.ownerKey (assembled s.m.upd.blocks s.m.upd.size)) :
    exec .updateVerifyDone s = .next { s with m := { s.m with upd := { s.m.upd with
      state := if s.m.verifyImage i = stOk then 3 else 4, result := s.m.verifyImage i
      staging := if s.m.verifyImage i = stOk then some i else none } } } := by
  subst hi
  show execUpdateVerifyDone s = _
  unfold execUpdateVerifyDone Module.modUpd
  rw [onModule_eq, if_pos ⟨hp, hs⟩]
  dsimp only
  split <;> rfl

theorem exec_updateVerifyDone_idle (hs : s.m.upd.state ≠ 2) : exec .updateVerifyDone s = .next s := by
  show execUpdateVerifyDone s = _
  unfold execUpdateVerifyDone
  rw [onModule_eq, if_neg fun h => hs h.2]

theorem Module.verifyImage_unsigned (m : Module) (i : ImageFacts) (hr : m.sup.recovery = false) (hk : m.upd.ownerKey ≠ none)
    (ho : i.ownerSigned = false) : m.verifyImage i ≠ stOk := by
  have hsome : m.upd.ownerKey.isSome = true := Option.isSome_iff_ne_none.2 hk
  unfold Module.verifyImage
  dsimp only
  split
  · decide
  · split
    · decide
    · rw [if_pos ⟨hr, hsome, .inl ho⟩]
      decide

theorem Module.verifyImage_rolledBack (m : Module) (i : ImageFacts) (ht : i.target = 0) (hf : i.rollback < m.upd.floor) :
    m.verifyImage i ≠ stOk := by
  have hfloor : (if i.target = 1 then m.upd.caraFloor else m.upd.floor) = m.upd.floor := if_neg (by omega)
  unfold Module.verifyImage
  dsimp only
  rw [hfloor, if_pos hf]
  split
  · decide
  · split
    · decide
    · split <;> decide

/-! ### Activation, ABORT and the owner key (R432, R437, R438) -/

section
variable {act : Nat} (h : Served s.m x req 0x0604 8) (hs : s.m.upd.state = 3)
include h hs

theorem updateActivate_schedules (ht : (s.m.upd.staging.getD {}).target ≠ 1) (ha : act = 0 ∨ s.m.time.state ≠ .unset)
    (hl : s.m.isPair = false ∨ s.m.leads = false ∨ (s.m.linked = true ∧ s.m.pair.partnerRole = some .ready)) :
    Replies (.updateActivate req act) s x req 0x0604 { dcpTaken s.m x req with upd := (s.m.schedule act).upd } stOk 0 [] := by
  have hrec : (dcpTaken s.m x req).sup.recovery = false := by
    rw [h.only.sup]
    exact runs_of_dcpUp h.1
  refine replies_onBoot rfl h (by decide) ?_ (by rw [← h.only.sup])
  rw [h.only.upd, if_neg (not_not.2 hs), if_neg (ne_true_of_eq_false hrec), if_neg ht, h.only.time,
    if_neg (fun ⟨h0, hu⟩ => ha.elim h0 (· hu)), h.only.isPair, h.only.leads, h.only.linked, h.only.pair,
    if_neg (by rcases hl with hl | hl | ⟨hl, hr⟩ <;> simp [*])]
  unfold Module.schedule Module.modUpd
  rw [h.only.plant, h.only.upd]

theorem updateActivate_carapace (ht : (s.m.upd.staging.getD {}).target = 1) (hm : s.m.carapaceMay = true) :
    Replies (.updateActivate req act) s x req 0x0604 { dcpTaken s.m x req with
      upd := { s.m.upd with carapace := true, state := 0 } } stOk 0 [] := by
  have hrec : (dcpTaken s.m x req).sup.recovery = false := by
    rw [h.only.sup]
    exact runs_of_dcpUp h.1
  refine replies_onBoot rfl h (by decide) ?_ (by rw [← h.only.sup])
  rw [h.only.carapaceMay, hm, ← h.only.upd] at *
  rw [if_neg (not_not.2 hs), if_neg (ne_true_of_eq_false hrec), if_pos ht, if_pos rfl]
  rfl

theorem updateActivate_refused (ht : (s.m.upd.staging.getD {}).target = 1) (hm : s.m.carapaceMay = false) :
    ∃ j, JournalOnly (dcpTaken s.m x req) j ∧ Replies (.updateActivate req act) s x req 0x0604 j stStateReject 0
      ((dcpTaken s.m x req).cmdResult scUpdate 0xFFFF 3 0 0xFFFF) := by
  have hrec : (dcpTaken s.m x req).sup.recovery = false := by
    rw [h.only.sup]
    exact runs_of_dcpUp h.1
  refine replies_onBoot_refused rfl h (by decide) ?_
  rw [h.only.carapaceMay, hm, ← h.only.upd] at *
  rw [if_neg (not_not.2 hs), if_neg (ne_true_of_eq_false hrec), if_pos ht, if_neg (by decide), Module.updRefuses, hs]

end

theorem updateActivate_recovers {act : Nat} (hp : s.m.sup.phase = .on) (hr : s.m.sup.recovery = true)
    (hs : s.m.upd.state = 3) (he : req.port = .eth1) (hu : req.unauth = true) (hses : req.session = 0) (hlen : req.len = 8) :
    Boots (.updateActivate req act) s (s.m.emit (.dcp .eth1 req.src 0 req.seq 0x0604 stOk 5 [])).recoverImage := by
  refine boots_of_onBoot (show execUpdateActivate req act s = onBoot s _ from rfl) ?_
  unfold Module.dcpRequest Module.recoveryRequest
  rw [if_pos ⟨hp, hr⟩, if_pos ⟨by decide, by decide, he, hu, hses⟩, if_neg (not_not.2 hlen), if_neg (by decide)]
  dsimp only
  rw [if_neg (not_not.2 hs), if_pos hr, he]

/-- The module once its update is given up: what was prepared for it is undone. -/
def Module.abortedUpdate (m : Module) : Module :=
  m.unprepare.modUpd (fun u => { u.discard with state := 0, holder := none, actTime := 0, atOnce := false })

theorem updateAbort_aborts (h : Served s.m x req 0x0605 0) (hs : s.m.upd.state ∈ [1, 3, 4, 5]) :
    Replies (.updateAbort req) s x req 0x0605 (dcpTaken s.m x req).abortedUpdate stOk 0 [] := by
  refine replies_inRange rfl h (by decide) rfl ?_
  rw [← h.only.upd] at hs
  exact if_pos hs

section
variable {key : Nat} (h : Served s.m x req 0x0606 96)
include h

theorem updateOwnerKey_unsigned :
    Replies (.updateOwnerKey req key false) s x req 0x0606 (dcpTaken s.m x req) stSignatureError 0 [] :=
  replies_inRange rfl h (by decide) rfl rfl

theorem updateOwnerKey_takes (hc : s.m.calOk = true) : Replies (.updateOwnerKey req key true) s x req 0x0606
    { dcpTaken s.m x req with upd := { s.m.upd with ownerKey := if key = 0 then none else some key } } stOk 0 [] := by
  refine replies_inRange rfl h (by decide) rfl ?_
  rw [if_neg (by decide), h.only.calOk, hc, if_neg (by decide), ← h.only.upd]
  rfl

end

end

/-! ### Before and at ACT_TIME (R438) -/

section
variable (m : Module)

/-- A lease that cannot be sent fails its command alone. -/
theorem Module.order_lease_upd (w : Wk) (op str : Nat) (payload : List Byte) :
    (m.order w op payload (.lease str)).upd = m.upd := by
  unfold Module.order Module.sendCounted
  split
  · rfl
  · split
    · rfl
    · unfold Module.startCounted
      split
      · rfl
      · rw [Module.sendRing, Module.sendEnd_eq]
        rfl

theorem Module.grantLease_upd (str secs : Nat) : (m.grantLease str secs).upd = m.upd := by
  unfold Module.grantLease Module.noteLease
  split
  · exact m.order_lease_upd _ _ _ _
  · exact m.order_lease_upd _ _ _ _

/-- Closed strings get a lease that outlasts the install. -/
def Module.installLease (m : Module) (n : Nat) : Module :=
  if 3 ≤ (m.sInst n).state ∧ (m.sInst n).state ≤ 6 then m.grantLease n 120 else m

theorem Module.installLeases_upd (l : List Nat) : (l.foldl Module.installLease m).upd = m.upd := by
  induction l generalizing m with
  | nil => rfl
  | cons n t ih =>
    rw [List.foldl_cons, ih, Module.installLease]
    split
    · exact m.grantLease_upd _ _
    · rfl

end

section
variable {s : State}

theorem exec_updatePrepare (hr : s.m.runs = true) (hp : s.m.isPair = false) (hs : s.m.upd.state = 5) :
    exec .updatePrepare s = .next { s with m := { s.m.strNos.foldl Module.installLease s.m with
      ver := { (s.m.strNos.foldl Module.installLease s.m).ver with zeroed := true }
      upd := { (s.m.strNos.foldl Module.installLease s.m).upd with prepared := true } } } := by
  have hlease : (fun (m : Module) (n : Nat) =>
      if (decide (3 ≤ (m.sInst n).state) && decide ((m.sInst n).state ≤ 6)) = true then m.grantLease n 120 else m) =
        Module.installLease := by
    funext m n
    simp [Module.installLease]
  show execUpdatePrepare s = _
  unfold execUpdatePrepare
  rw [onModule_eq, if_pos ⟨hr, hp, hs⟩, hlease]

theorem exec_updatePrepare_idle (h : s.m.isPair = true ∨ s.m.upd.state ≠ 5) : exec .updatePrepare s = .next s := by
  show execUpdatePrepare s = _
  unfold execUpdatePrepare
  rw [onModule_eq, if_neg fun ⟨_, hp, hs⟩ => h.elim (ne_true_of_eq_false hp) (· hs)]

/-- What ACT_TIME does to a module with a scheduled update. -/
def Module.actTimeDue (m : Module) : Module :=
  if m.isPair && m.leads then
    if m.partnerReady then Module.startHandover { m with pair := { m.pair with then_ := 2 } }
    else m.pulse .pri cHandoverFailed sevWarning
  else m.beginInstall

theorem exec_updateActTime :
    exec .updateActTime s = onBoot s fun m => if m.runs ∧ m.upd.state = 5 then m.actTimeDue else m := rfl

section
variable (hr : s.m.runs = true) (hs : s.m.upd.state = 5)
include hr hs

theorem updateActTime_installs (hp : s.m.isPair = false ∨ s.m.leads = false) : Boots .updateActTime s s.m.beginInstall := by
  refine boots_of_onBoot exec_updateActTime ?_
  rw [if_pos ⟨hr, hs⟩]
  exact if_neg (by rcases hp with hp | hp <;> simp [hp])

variable (hp : s.m.isPair = true) (hl : s.m.leads = true)
include hp hl

theorem updateActTime_handsOver (hq : s.m.partnerReady = true) : exec .updateActTime s =
    .next { s with m := Module.startHandover { s.m with pair := { s.m.pair with then_ := 2 } } } := by
  have hdue : s.m.actTimeDue = Module.startHandover { s.m with pair := { s.m.pair with then_ := 2 } } :=
    (if_pos (by simp [hp, hl])).trans (if_pos hq)
  have hf : (if s.m.runs ∧ s.m.upd.state = 5 then s.m.actTimeDue else s.m) =
      Module.startHandover { s.m with pair := { s.m.pair with then_ := 2 } } := (if_pos ⟨hr, hs⟩).trans hdue
  obtain ⟨he, -, -⟩ := answers_of_onBoot (s := s) exec_updateActTime
    (by rw [hf, Module.startHandover, Module.offerHandover_eq])
  rw [he, hf]

theorem updateActTime_keepsLead (hq : s.m.partnerReady = false) :
    ∃ t, Answers .updateActTime s t ∧ JournalOnly s.m t.m := by
  have hdue : s.m.actTimeDue = s.m.pulse .pri cHandoverFailed sevWarning :=
    (if_pos (by simp [hp, hl])).trans (if_neg (ne_true_of_eq_false hq))
  have honly : JournalOnly s.m (s.m.pulse .pri cHandoverFailed sevWarning) :=
    (Module.raise_only _ _ _ _ _ _ _ _).trans (Module.clear_only _ _ _ _ _)
  refine ⟨_, answers_of_onBoot exec_updateActTime ?_, ?_⟩
  · rw [if_pos ⟨hr, hs⟩, hdue, (SessOnly.of_only honly).sup]
  · show JournalOnly s.m (if s.m.runs ∧ s.m.upd.state = 5 then s.m.actTimeDue else s.m)
    rw [if_pos ⟨hr, hs⟩, hdue]
    exact honly

end

/-! ### Installation and the trial (R433 to R436) -/

section
variable (hp : s.m.sup.phase = .weevil)
include hp

theorem exec_installPhaseDone_copied (ok : Bool) (hu : s.m.upd.phase = 1) : exec (.installPhaseDone ok) s =
    .next { s with m := { s.m with upd := { s.m.upd with retreat := s.m.upd.running, phase := 2 } } } := by
  show execInstallPhaseDone ok s = _
  unfold execInstallPhaseDone
  rw [onModule_eq, if_pos hp, if_pos hu]
  rfl

variable (hu : s.m.upd.phase ≠ 1)
include hu

theorem exec_installPhaseDone_failed : exec (.installPhaseDone false) s = .next { s with m := { s.m with
    upd := { s.m.upd with running := { s.m.upd.staging.getD s.m.upd.running with hashOk := false } } } } := by
  show execInstallPhaseDone false s = _
  unfold execInstallPhaseDone
  rw [onModule_eq, if_pos hp, if_neg hu]
  rfl

theorem exec_installPhaseDone_written : exec (.installPhaseDone true) s = .next { s with m := Module.bootNew { s.m with
    upd := { s.m.upd with running := { s.m.upd.staging.getD s.m.upd.running with hashOk := true } } } } := by
  show execInstallPhaseDone true s = _
  unfold execInstallPhaseDone Module.modUpd
  rw [onModule_eq, if_pos hp, if_neg hu]
  dsimp only
  rw [if_pos rfl]

end

/-- The module once the trial of its image has ended well. -/
def Module.trialEnded (m : Module) : Module :=
  { m with upd := { m.upd with trial := none, floor := max m.upd.floor m.upd.running.rollback, state := 0, result := stOk } }

theorem exec_imageConfirm (hr : s.m.runs = true) (ht : s.m.upd.trial ≠ none) (hh : s.m.healthy = true)
    (hc : s.m.calOk = true) : exec .imageConfirm s =
      .next { s with m := s.m.trialEnded.jotUpdate sevInfo s.m.upd.running.version stOk } := by
  show execImageConfirm s = _
  unfold execImageConfirm
  rw [onModule_eq, if_pos ⟨hr, Option.isSome_iff_ne_none.2 ht, hh, hc⟩]
  rfl

theorem exec_imageConfirm_idle (h : s.m.upd.trial = none ∨ s.m.healthy = false) : exec .imageConfirm s = .next s := by
  show execImageConfirm s = _
  unfold execImageConfirm
  rw [onModule_eq, if_neg fun ⟨_, ht, hh, _⟩ => h.elim (Option.isSome_iff_ne_none.1 ht) (ne_false_of_eq_true hh)]

theorem trialExpire_restarts {tr : Trial} (ht : s.m.upd.trial = some tr) (hr : s.m.runs = true) : Boots .trialExpire s
    (Module.restart { s.m with upd := { s.m.upd with trial := some { tr with leftMs := 0 } } }) := by
  refine boots_of_onBoot (show execTrialExpire s = onBoot s _ from rfl) ?_
  rw [ht]
  exact if_pos hr

theorem exec_trialExpire_idle (ht : s.m.upd.trial = none) : exec .trialExpire s = .next s := by
  show execTrialExpire s = _
  unfold execTrialExpire
  rw [onBoot, ht, if_pos rfl]
  rfl

/-! ### The end of a SAFE_HOLD (R446) -/

theorem exec_safeHoldExpire_late (hr : s.m.runs = true) (hs : s.m.sets.safeHold = true) (hl : s.m.sets.safeLate = false)
    (ho : s.m.scarabOn = false) : exec .safeHoldExpire s =
      .next { s with m := { s.m with sets := { s.m.sets with safeLate := true } } } := by
  show execSafeHoldExpire s = _
  unfold execSafeHoldExpire
  rw [onModule_eq, if_pos ⟨hr, hs, hl⟩]
  dsimp only
  rw [if_neg (by exact ne_true_of_eq_false ho)]

theorem exec_safeHoldExpire_idle (hs : s.m.sets.safeHold = false) : exec .safeHoldExpire s = .next s := by
  show execSafeHoldExpire s = _
  unfold execSafeHoldExpire
  rw [onModule_eq, if_neg fun ⟨_, h, _⟩ => ne_false_of_eq_true h hs]

end

end Machine

/-- Settles O54: transfer, verification and scheduling, each command by the update state it leaves. -/
theorem updateTransfer : Obligations.UpdateTransfer := by
  intro s req x
  refine ⟨updateStatus_replies, fun size v h1 h2 h hs ho => ⟨_, updateBegin_begins h1 h2 h hs ho, ?_⟩,
    fun off data h1 h2 ho hz h hs hh => ⟨updateBlock_crc h1 h2 ho hz h hs hh, _, rfl, updateBlock_writes h1 h2 ho hz h hs hh⟩,
    fun h => ⟨updateVerify_begins h, updateVerify_refused h⟩, fun hp hs => ⟨_, rfl, exec_updateVerifyDone hp hs rfl⟩,
    exec_updateVerifyDone_idle, s.m.verifyImage_unsigned, s.m.verifyImage_rolledBack,
    fun act h _ hs ht ha hl => ⟨_, rfl, rfl, updateActivate_schedules h hs ht ha hl⟩,
    fun act h _ hs ht => ⟨updateActivate_carapace h hs ht, updateActivate_refused h hs ht⟩,
    fun act hp hr hs he hu hses hlen => ⟨_, rfl, updateActivate_recovers hp hr hs he hu hses hlen⟩,
    fun h hs => ⟨_, updateAbort_aborts h hs, rfl, rfl, rfl, rfl, rfl⟩,
    fun key h => ⟨updateOwnerKey_unsigned h, updateOwnerKey_takes h⟩⟩
  obtain ⟨hstate, hsize, hv, hholder, hstaging⟩ := s.m.upd.begin_spec size v x.id (decide (req.port = .svc))
  refine ⟨hstate, hsize, hv, hholder, hstaging, fun h0 hz hver => ?_, fun hn => ?_⟩
  · rw [UpdSt.begin_goesOn ⟨h0, hz, hver⟩]
    exact ⟨rfl, rfl⟩
  · rw [UpdSt.begin_afresh fun ⟨h0, hz, hver⟩ => hn.elim h0 (·.elim (· hz) (· hver))]
    exact ⟨rfl, rfl⟩

/-- Settles O55: what each event of an install does, from the leases before ACT_TIME to the end of the trial. -/
theorem updateInstall : Obligations.UpdateInstall := by
  intro s
  exact ⟨fun hr hp hs => ⟨_, rfl, exec_updatePrepare hr hp hs, s.m.installLeases_upd _⟩, exec_updatePrepare_idle,
    fun hr hs hp => updateActTime_installs hr hs hp, fun hr hs hp hl hq => ⟨_, rfl, updateActTime_handsOver hr hs hp hl hq⟩,
    fun hr hs hp hl hq => updateActTime_keepsLead hr hs hp hl hq, fun ok hp hu => exec_installPhaseDone_copied hp ok hu,
    fun hp hu => ⟨exec_installPhaseDone_failed hp hu, _, rfl, exec_installPhaseDone_written hp hu⟩,
    fun hr ht hh hc => ⟨_, ⟨exec_imageConfirm hr ht hh hc, rfl, rfl⟩, Module.jot_only _ _ _ _ _ _ _ _ _ _⟩, exec_imageConfirm_idle, fun tr ht hr => ⟨_, rfl, trialExpire_restarts ht hr⟩,
    exec_trialExpire_idle, exec_safeHoldExpire_late, exec_safeHoldExpire_idle⟩

end Sys2Proof

/-! ## The CAN controllers (R397, R400 to R402, R404, R406, R407, R412) -/

namespace Sys2Proof

open Machine

/-- Of the module only the controllers and what is journalled may differ. -/
def CanMoves (m n : Module) : Prop := JournalOnly { m with can := n.can } n

theorem CanMoves.refl (m : Module) : CanMoves m m := rfl

theorem CanMoves.of_only {m n : Module} (h : JournalOnly m n) : CanMoves m n := by
  have hcan : n.can = m.can := h.field (·.can) fun _ _ _ _ => rfl
  unfold CanMoves
  rw [hcan]
  exact h

theorem CanMoves.trans {a b c : Module} (h : CanMoves a b) (g : CanMoves b c) : CanMoves a c := by
  unfold CanMoves JournalOnly at *
  rw [g, h]

/-- A view of the module that reads neither the controllers nor what is journalled is as it was. -/
theorem CanMoves.field {m n : Module} {α : Type} (f : Module → α) (h : CanMoves m n)
    (hf : ∀ m can al jou outbox, f { m with can := can, al := al, jou := jou, outbox := outbox } = f m) : f n = f m := by
  unfold CanMoves JournalOnly at h
  rw [h]
  exact hf m n.can n.al n.jou n.outbox

theorem JournalOnly.foldl {α : Type} {f : Machine.Module → α → Machine.Module} (hf : ∀ m x, JournalOnly m (f m x)) (l : List α)
    (m : Machine.Module) : JournalOnly m (l.foldl f m) := by
  induction l generalizing m with
  | nil => exact .refl m
  | cons x t ih => exact (hf m x).trans (ih _)

/-- Of the module only controllers and journalling have moved, and controller `c` stands at `y`. -/
def CanTo (c : Nat) (m n : Module) (y : CanCtl) : Prop := CanMoves m n ∧ c < n.can.ctl.length ∧ n.canCtl c = y

section
variable {c : Nat} {m n k : Module} {y : CanCtl}

theorem CanTo.moves (h : CanTo c m n y) : CanMoves m n := h.1

theorem CanTo.ctl (h : CanTo c m n y) : n.canCtl c = y := h.2.2

theorem CanTo.start (h : c < m.can.ctl.length) : CanTo c m m (m.canCtl c) := ⟨.refl m, h, rfl⟩

theorem CanTo.journal (h : CanTo c m n y) (g : JournalOnly n k) : CanTo c m k y := by
  have hcan : k.can = n.can := g.field (·.can) fun _ _ _ _ => rfl
  obtain ⟨hm, hc, hy⟩ := h
  exact ⟨hm.trans (.of_only g), by rw [hcan]; exact hc, by rw [← hy]; exact congrArg (fun x => x.ctl.getD c {}) hcan⟩

theorem CanTo.modCan (h : CanTo c m n y) (f : CanCtl → CanCtl) : CanTo c m (n.modCan c f) (f y) := by
  obtain ⟨hm, hc, hy⟩ := h
  exact ⟨hm.trans rfl, by rw [Module.modCan, modAt_length]; exact hc,
    by rw [← hy]; exact modAt_getD_same _ _ _ _ hc⟩

theorem CanTo.modOther (h : CanTo c m n y) {d : Nat} (hd : d ≠ c) (f : CanCtl → CanCtl) : CanTo c m (n.modCan d f) y := by
  obtain ⟨hm, hc, hy⟩ := h
  exact ⟨hm.trans rfl, by rw [Module.modCan, modAt_length]; exact hc,
    by rw [← hy]; exact modAt_getD_other _ _ _ _ _ hd⟩

/-- A move of another field of the field bus island. -/
theorem CanTo.lastLimit (h : CanTo c m n y) (t : Nat) : CanTo c m { n with can := { n.can with lastLimit := t } } y := by
  obtain ⟨hm, hc, hy⟩ := h
  exact ⟨hm.trans rfl, hc, hy⟩

/-- The age of the PCS link starts anew, or runs on. -/
theorem CanTo.limitAge (h : CanTo c m n y) (q : Prop) [Decidable q] :
    CanTo c m (if q then { n with can := { n.can with lastLimit := n.time.now } } else n) y := by
  split
  · exact h.lastLimit _
  · exact h

end

namespace Machine

theorem Module.limitAge_holds (n : Module) (q : Prop) [Decidable q] (code scope inst : Nat) :
    Module.holds (if q then { n with can := { n.can with lastLimit := n.time.now } } else n) code scope inst =
      n.holds code scope inst := by
  split <;> rfl

/-! ### Counters and error states (R406, R412) -/

/-- A controller with one of its counters advanced (R412). -/
def CanCtl.counted (x : CanCtl) (i : Nat) : CanCtl :=
  { x with
    nRxOk := if i = 0 then bump16 x.nRxOk else x.nRxOk, nRxUn := if i = 1 then bump16 x.nRxUn else x.nRxUn
    nTxOk := if i = 2 then bump16 x.nTxOk else x.nTxOk, nTxFail := if i = 3 then bump16 x.nTxFail else x.nTxFail
    nBusOff := if i = 4 then bump16 x.nBusOff else x.nBusOff, nPex := if i = 5 then bump16 x.nPex else x.nPex }

theorem Module.canConds_only (m : Module) (c : Nat) : JournalOnly m (m.canConds c) :=
  ((Module.setCond_only _ _ _ _ _ _ _ _).trans (Module.setCond_only _ _ _ _ _ _ _ _)).trans
    (Module.setCond_only _ _ _ _ _ _ _ _)

section
variable {c : Nat} {m n : Module} {y : CanCtl} (h : CanTo c m n y)
include h

theorem canTo_countCan (i : Nat) : CanTo c m (n.countCan c i) (y.counted i) :=
  (h.modCan _).journal (Module.satCheck_only _ _ _ _)

theorem canTo_setErr (e : CanErr) : CanTo c m (n.setErr c e) { y with err := e } := by
  unfold Module.setErr
  split
  case isTrue he =>
    rw [h.ctl] at he
    rw [← he]
    exact h
  case isFalse =>
    exact ((h.modCan _).journal (Module.canConds_only _ c)).journal (Module.canState_only _ c)

/-- While TEC is at most 255 the counters give ERROR_ACTIVE or ERROR_PASSIVE. -/
theorem canTo_canCount (ho : y.offBus = false) (ht : y.tec ≤ 255) : CanTo c m (n.canCount c)
    { y with err := if 128 ≤ y.tec ∨ 128 ≤ y.rec_ then .passive else .active } := by
  unfold Module.canCount
  rw [h.ctl, if_neg (ne_true_of_eq_false ho), if_neg (Nat.not_lt.2 ht)]
  exact canTo_setErr h _

/-- An error active controller with low counters stays as it is. -/
theorem canTo_canCount_active (he : y.err = .active) (ht : y.tec ≤ 127) (hr : y.rec_ ≤ 127) :
    CanTo c m (n.canCount c) y := by
  have hstep := canTo_canCount h (by simp [CanCtl.offBus, he]) (by omega)
  rw [if_neg (by omega), ← he] at hstep
  exact hstep

/-- The timeout of a receive object ends. -/
theorem canTo_canHeard (obj : Nat) : CanTo c m (n.canHeard c obj)
    { y with rx := put y.rx obj { look {} y.rx obj with timedOut := false } } := by
  have hal := (h.modCan (fun x => { x with rx := put x.rx obj { look {} x.rx obj with timedOut := false } })).journal
    (.of_fields { n.al with canObjs := n.al.canObjs.filter (fun o => o.1 ≠ c || o.2.1 ≠ obj) } n.jou n.outbox)
  exact hal.journal (Module.clear_only _ .fbi cCanRxTimeout scCan (canInst c obj))

end

/-! ### Sending (R404) -/

/-- A pending frame is taken as begun where its object is the one that starts. -/
def CanPend.begins (p q : CanPend) : CanPend := if samePend p q then { q with begun := true } else q

theorem CanPend.begins_eq (p q : CanPend) : p.begins q = { q with begun := (p.begins q).begun } := by
  unfold CanPend.begins
  split <;> rfl

theorem samePend_begins (p q r : CanPend) : samePend r (p.begins q) = samePend r q := by
  rw [CanPend.begins_eq]
  rfl

/-- What a start of its first pending frame does to a controller, if it starts one. -/
def CanCtl.Starts (y z : CanCtl) : Prop :=
  z = y ∨ ∃ p stamp, z = { y with cur := some p, stamp := stamp, pend := y.pend.map p.begins }

theorem canFirst_ne_none {p : CanPend} {t : List CanPend} : canFirst (p :: t) ≠ none := by
  unfold canFirst
  split
  · exact Option.some_ne_none _
  · split <;> exact Option.some_ne_none _

theorem Module.canStart_sends (m : Module) (c : Nat) :
    m.canStart c = { m with can := (m.canStart c).can, outbox := (m.canStart c).outbox } := by
  unfold Module.canStart
  dsimp only
  split
  · split <;> rfl
  · rfl

theorem Module.canStart_al (m : Module) (c : Nat) : (m.canStart c).al = m.al := by
  rw [m.canStart_sends c]

section
variable {c : Nat} {m n : Module} {y : CanCtl} (h : CanTo c m n y)
include h

theorem canTo_canStart : ∃ z, CanTo c m (n.canStart c) z ∧ y.Starts z := by
  unfold Module.canStart
  dsimp only
  split
  · split
    case h_1 p _ => exact ⟨_, (h.modCan _).journal (Module.emit_only _ _), .inr ⟨p, _, rfl⟩⟩
    case h_2 => exact ⟨y, h, .inl rfl⟩
  · exact ⟨y, h, .inl rfl⟩

/-- A free controller with a pending frame starts one. -/
theorem canStart_starts (hn : n.canNormal c = true) (ho : y.offBus = false) (hcur : y.cur = none) (hp : y.pend ≠ []) :
    ((n.canStart c).canCtl c).cur ≠ none := by
  obtain ⟨q, t, hq⟩ := List.exists_cons_of_ne_nil hp
  obtain ⟨p, hfirst⟩ := Option.ne_none_iff_exists'.1 (canFirst_ne_none (p := q) (t := t))
  have hstart := (h.modCan (fun x => { x with
    cur := some p, stamp := n.canClock 0, pend := x.pend.map p.begins })).ctl
  unfold Module.canStart
  dsimp only
  rw [h.ctl, if_pos (by simp [hn, ho, hcur]), hq, hfirst]
  exact fun hnone => Option.some_ne_none p ((congrArg CanCtl.cur hstart).symm.trans hnone)

end

section
variable {y z : CanCtl} (h : y.Starts z)
include h

/-- A start moves only the frame on the bus, its timestamp and which pending frame has begun. -/
theorem CanCtl.Starts.fields : z = { y with cur := z.cur, stamp := z.stamp, pend := z.pend } := by
  rcases h with rfl | ⟨p, stamp, rfl⟩ <;> rfl

theorem CanCtl.Starts.of_mem {q : CanPend} (hq : q ∈ y.pend) : ∃ q' ∈ z.pend, q' = { q with begun := q'.begun } := by
  rcases h with rfl | ⟨p, stamp, rfl⟩
  · exact ⟨q, hq, rfl⟩
  · exact ⟨p.begins q, List.mem_map_of_mem hq, p.begins_eq q⟩

theorem CanCtl.Starts.mem_of {q' : CanPend} (hq : q' ∈ z.pend) : ∃ q ∈ y.pend, q' = { q with begun := q'.begun } := by
  rcases h with rfl | ⟨p, stamp, rfl⟩
  · exact ⟨q', hq, rfl⟩
  · obtain ⟨q, hmem, rfl⟩ := List.mem_map.1 hq
    exact ⟨q, hmem, p.begins_eq q⟩

end

/-! ### A frame received (R400, R401) -/

section
variable {s : State} {c : Nat}

/-- The module once a controller has counted a frame received without error. -/
def Module.canReceived (m : Module) (c : Nat) (f : CanFrame) : Module :=
  (((m.modCan c (fun x => { x with rec_ := recAfterFrame m.free x.rec_ })).canCount c).countCan c 0).modCan c
    (fun x => { x with stamp := m.canClock f.sofNs })

/-- A frame is kept in the receive object that takes it, and journalled where the object asks for it. -/
def Module.canKept (m : Module) (c : Nat) (f : CanFrame) (stamp obj : Nat) (cfg : CanRxCfg) : Module :=
  let lost := !(look {} (m.canCtl c).rx obj).taken
  let n := (m.canHeard c obj).modCan c (fun x => { x with
    rx := put x.rx obj { frame := some f, stamp := stamp, lost := lost, taken := false, timedOut := false } })
  if cfg.journal ∧ (look {} (m.canCtl c).rx obj).frame.map (·.data) ≠ some f.data then
    n.jot .fbi eCanRx sevTrace scCan (canInst c obj) naCurrent (canRxBytes f stamp lost)
  else n

/-- What a controller keeps of a frame received while it is error active with low counters. -/
def CanCtl.received (x : CanCtl) (stamp : Nat) : CanCtl :=
  { x with rec_ := x.rec_ - 1, nRxOk := bump16 x.nRxOk, stamp := stamp }

/-- The newest record of a receive object that takes a frame. -/
def CanRxSt.taking (x : CanRxSt) (f : CanFrame) (stamp : Nat) : CanRxSt :=
  { frame := some f, stamp := stamp, lost := !x.taken, taken := false, timedOut := false }

theorem canTo_canKept {m n : Module} {y : CanCtl} (h : CanTo c m n y) (f : CanFrame) (stamp obj : Nat) (cfg : CanRxCfg) :
    CanTo c m (n.canKept c f stamp obj cfg) { y with
      rx := put (put y.rx obj { look {} y.rx obj with timedOut := false }) obj ((look {} y.rx obj).taking f stamp) } := by
  have hkept := (canTo_canHeard h obj).modCan (fun x => { x with rx := put x.rx obj ((look {} y.rx obj).taking f stamp) })
  unfold Module.canKept
  dsimp only
  rw [h.ctl]
  split
  · exact hkept.journal (Module.jot_only _ _ _ _ _ _ _ _ _ _)
  · exact hkept

variable (hc : c < s.m.can.ctl.length) {f : CanFrame}
include hc

theorem canTo_canReceived (hr : (s.m.canCtl c).rec_ ≤ 127) (ht : (s.m.canCtl c).tec ≤ 127)
    (he : (s.m.canCtl c).err = .active) :
    CanTo c s.m (s.m.canReceived c f) ((s.m.canCtl c).received (s.m.canClock f.sofNs)) := by
  have hrec : recAfterFrame s.m.free (s.m.canCtl c).rec_ = (s.m.canCtl c).rec_ - 1 := if_pos (by omega)
  have hfirst := (CanTo.start hc).modCan (fun x => { x with rec_ := recAfterFrame s.m.free x.rec_ })
  rw [hrec] at hfirst
  exact (canTo_countCan (canTo_canCount_active hfirst he ht (Nat.le_trans (Nat.sub_le _ _) hr)) 0).modCan _

theorem exec_canFrameRx (hh : s.m.canHears c = true) (ho : (s.m.canCtl c).offBus = false) (hf : f.remote = false)
    (hr : (s.m.canCtl c).rec_ ≤ 127) (ht : (s.m.canCtl c).tec ≤ 127) (he : (s.m.canCtl c).err = .active) :
    exec (.canFrameRx c f) s = .next { s with m := match s.m.rxMatch c f with
      | none => (s.m.canReceived c f).countCan c 1
      | some (obj, cfg) => (s.m.canReceived c f).canKept c f (s.m.canClock f.sofNs) obj cfg } := by
  have hto := canTo_canReceived hc (f := f) hr ht he
  have hmatch : (s.m.canReceived c f).rxMatch c f = s.m.rxMatch c f := by
    unfold Module.rxMatch Module.canCfg
    rw [hto.ctl, hto.moves.field (·.cfg) fun _ _ _ _ _ => rfl]
    rfl
  have hclock : ((s.m.modCan c (fun x => { x with rec_ := recAfterFrame s.m.free x.rec_ })).canCount c).canClock f.sofNs =
      s.m.canClock f.sofNs := by
    have hcount := canTo_canCount ((CanTo.start hc).modCan (fun x => { x with rec_ := recAfterFrame s.m.free x.rec_ })) ho
      (Nat.le_trans ht (by decide))
    exact hcount.moves.field (·.canClock f.sofNs) fun _ _ _ _ _ => rfl
  show execCanFrameRx c f s = _
  unfold execCanFrameRx
  rw [onModule_eq, if_pos (by simp [hh, ho, hf])]
  dsimp only
  rw [if_pos (by omega), hclock]
  rw [← hmatch]
  rfl

theorem canFrameRx_unmatched (hh : s.m.canHears c = true) (ho : (s.m.canCtl c).offBus = false) (hf : f.remote = false)
    (hr : (s.m.canCtl c).rec_ ≤ 127) (ht : (s.m.canCtl c).tec ≤ 127) (he : (s.m.canCtl c).err = .active)
    (hn : s.m.rxMatch c f = none) : ∃ t, Answers (.canFrameRx c f) s t ∧ CanMoves s.m t.m ∧
      t.m.canCtl c = { (s.m.canCtl c).received (s.m.canClock f.sofNs) with nRxUn := bump16 (s.m.canCtl c).nRxUn } := by
  have hto := canTo_countCan (canTo_canReceived hc (f := f) hr ht he) 1
  have hexec := exec_canFrameRx hc hh ho hf hr ht he
  rw [hn] at hexec
  dsimp only at hexec
  generalize (s.m.canReceived c f).countCan c 1 = n at hto hexec
  exact ⟨_, ⟨hexec, rfl, rfl⟩, hto.moves, hto.ctl⟩

theorem canFrameRx_taken (hh : s.m.canHears c = true) (ho : (s.m.canCtl c).offBus = false) (hf : f.remote = false)
    (hr : (s.m.canCtl c).rec_ ≤ 127) (ht : (s.m.canCtl c).tec ≤ 127) (he : (s.m.canCtl c).err = .active) {obj : Nat}
    {cfg : CanRxCfg} (hm : s.m.rxMatch c f = some (obj, cfg)) : ∃ t, Answers (.canFrameRx c f) s t ∧ CanMoves s.m t.m ∧
      t.m.canCtl c = { (s.m.canCtl c).received (s.m.canClock f.sofNs) with rx := (t.m.canCtl c).rx } ∧
      look {} (t.m.canCtl c).rx obj = (look {} (s.m.canCtl c).rx obj).taking f (s.m.canClock f.sofNs) ∧
      ∀ o, o ≠ obj → look {} (t.m.canCtl c).rx o = look {} (s.m.canCtl c).rx o := by
  have hrec := canTo_canReceived hc (f := f) hr ht he
  have hexec := exec_canFrameRx hc hh ho hf hr ht he
  rw [hm] at hexec
  have hto := canTo_canKept hrec f (s.m.canClock f.sofNs) obj cfg
  refine ⟨_, ⟨hexec, rfl, rfl⟩, hto.moves, ?_, ?_, fun o hne => ?_⟩
  · rw [hto.ctl]
  · rw [hto.ctl]
    exact look_put_same _ _ _ _
  · rw [hto.ctl]
    exact (look_put_other _ _ _ _ _ hne.symm).trans (look_put_other _ _ _ _ _ hne.symm)

end

section
variable {s : State} {c : Nat}

/-! ### Timeouts, receive errors and protocol exceptions (R397, R402, R406) -/

theorem Module.enqueue_canObjs (m : Module) (k : Bool) (r : JRec) : (m.enqueue k r).al.canObjs = m.al.canObjs := by
  unfold Module.enqueue
  split
  · split <;> rfl
  · split <;> rfl

theorem Module.jotCond_canObjs (m : Module) (src : Island) (code sev scope inst : Nat) (v : Int) (p : List Byte)
    (fall : Bool) : (m.jotCond src code sev scope inst v p fall).al.canObjs = m.al.canObjs := by
  unfold Module.jotCond
  dsimp only
  split
  · split
    · exact m.enqueue_canObjs _ _
    · split
      · exact m.enqueue_canObjs _ _
      · rfl
  · exact m.enqueue_canObjs _ _

theorem Module.raise_canObjs (m : Module) (src : Island) (code sev scope inst : Nat) (v : Int) (p : List Byte) :
    (m.raise src code sev scope inst v p).al.canObjs = m.al.canObjs := by
  unfold Module.raise
  split
  · rfl
  · exact Module.jotCond_canObjs _ _ _ _ _ _ _ _ _

/-- The source of a receive object that has timed out is live, and its bit sticks. -/
theorem Module.stick_canObjs (m : Module) {o : Nat × Nat × Nat} (h : o ∈ m.al.canObjs) : o.2.2 ∈ m.stick.al.sticky :=
  (mem_addAll _ _ _).2 (.inr ((mem_addAll _ _ _).2 (.inr (List.mem_map_of_mem h))))

/-- The module once receive object `obj` has timed out under alert source `alert`. -/
def Module.rxTimedOut (m : Module) (c obj alert : Nat) : Module :=
  let n := m.modCan c (fun x => { x with rx := put x.rx obj { look {} x.rx obj with timedOut := true } })
  (Module.raise { n with al := { n.al with canObjs := addTo n.al.canObjs (c, obj, alert) } } .fbi cCanRxTimeout sevWarning
    scCan (canInst c obj)).stick

theorem exec_canRxTimeout {obj : Nat} {cfg : CanRxCfg} (hf : find (s.m.canCfg c).rx obj = some cfg)
    (hh : s.m.canHears c = true) (hb : obj ∉ (s.m.canCtl c).badRx) (ha : cfg.timeoutAlert = true) (ht : 0 < cfg.timeout) :
    exec (.canRxTimeout c obj) s = .next { s with m := s.m.rxTimedOut c obj cfg.alert } := by
  show execCanRxTimeout c obj s = _
  unfold execCanRxTimeout
  rw [onModule_eq, hf]
  dsimp only
  rw [if_pos ⟨hh, hb, ha, ht⟩]
  rfl

theorem canTo_rxTimedOut (hc : c < s.m.can.ctl.length) (obj alert : Nat) : CanTo c s.m (s.m.rxTimedOut c obj alert)
    { s.m.canCtl c with rx := put (s.m.canCtl c).rx obj { look {} (s.m.canCtl c).rx obj with timedOut := true } } := by
  have hal := ((CanTo.start hc).modCan (fun x => { x with
    rx := put x.rx obj { look {} x.rx obj with timedOut := true } })).journal
      (.of_fields { s.m.al with canObjs := addTo s.m.al.canObjs (c, obj, alert) } s.m.jou s.m.outbox)
  exact (hal.journal (Module.raise_only _ .fbi cCanRxTimeout sevWarning scCan (canInst c obj) _ _)).journal
    (.of_fields _ _ _)

theorem Module.rxTimedOut_alerts (m : Module) (c obj alert : Nat) : alert ∈ (m.rxTimedOut c obj alert).al.sticky ∧
    (m.rxTimedOut c obj alert).holds cCanRxTimeout scCan (canInst c obj) = true := by
  refine ⟨Module.stick_canObjs _ (o := (c, obj, alert)) ?_, Module.raise_holds _ _ _ _ _ _ _ _⟩
  rw [Module.raise_canObjs]
  exact (mem_addTo _ _ _).2 (.inr rfl)

theorem exec_canFrameRx_idle {f : CanFrame} (h : f.remote = true ∨ s.m.canHears c = false) :
    exec (.canFrameRx c f) s = .next s := by
  show execCanFrameRx c f s = _
  unfold execCanFrameRx
  rw [onModule_eq, if_neg (by rcases h with h | h <;> simp [h])]

theorem canRxError_counts (hc : c < s.m.can.ctl.length) (r : Nat) (hh : s.m.canHears c = true)
    (ho : (s.m.canCtl c).offBus = false) (ht : (s.m.canCtl c).tec ≤ 255) :
    ∃ t, Answers (.canRxError c r) s t ∧ (t.m.canCtl c).rec_ = r ∧
      (t.m.canCtl c).err = (if 128 ≤ (s.m.canCtl c).tec ∨ 128 ≤ r then .passive else .active) ∧ CanMoves s.m t.m := by
  have hto := canTo_canCount ((CanTo.start hc).modCan (fun x => { x with rec_ := r })) ho ht
  have hexec : exec (.canRxError c r) s = .next { s with
      m := (s.m.modCan c (fun x => { x with rec_ := r })).canCount c } := by
    show execCanRxError c r s = _
    unfold execCanRxError
    rw [onModule_eq, if_pos (by simp [hh, ho])]
  refine ⟨_, ⟨hexec, rfl, rfl⟩, ?_, ?_, hto.moves⟩
  · rw [hto.ctl]
  · rw [hto.ctl]

theorem canProtocolException_counts (hc : c < s.m.can.ctl.length) (hh : s.m.canHears c = true) :
    ∃ t, Answers (.canProtocolException c) s t ∧
      t.m.canCtl c = { s.m.canCtl c with nPex := bump16 (s.m.canCtl c).nPex } ∧ CanMoves s.m t.m := by
  have hto := canTo_countCan (CanTo.start hc) 5
  have hexec : exec (.canProtocolException c) s = .next { s with m := s.m.countCan c 5 } := by
    show execCanProtocolException c s = _
    unfold execCanProtocolException
    rw [onModule_eq, if_pos hh]
  exact ⟨_, ⟨hexec, rfl, rfl⟩, hto.ctl, hto.moves⟩

/-! ### A frame becomes pending (R404, R407) -/

/-- A controller on which a frame has become pending. -/
def CanCtl.pending (x : CanCtl) (p : CanPend) : CanCtl :=
  { x with
    clean := if !p.mirrored && x.pend.any (samePend p) then put x.clean p.obj 0 else x.clean
    pend := x.pend.filter (fun q => !samePend p q) ++ [p] }

theorem samePend_self (p : CanPend) : samePend p p = true := by simp [samePend]

theorem CanCtl.mem_pending {x : CanCtl} {p q : CanPend} :
    q ∈ (x.pending p).pend ↔ (q ∈ x.pend ∧ samePend p q = false) ∨ q = p := by
  simp [CanCtl.pending]

theorem Module.canPending_sends (m : Module) (c : Nat) (p : CanPend) :
    m.canPending c p = { m with can := (m.canPending c p).can, outbox := (m.canPending c p).outbox } := by
  unfold Module.canPending
  rw [Module.canStart_sends]
  rfl

theorem canTo_canPending {m n : Module} {y : CanCtl} (h : CanTo c m n y) (p : CanPend) :
    ∃ z, CanTo c m (n.canPending c p) z ∧ (y.pending p).Starts z := canTo_canStart (h.modCan (fun x => x.pending p))

theorem Module.canPending_starts {m n : Module} {y : CanCtl} (h : CanTo c m n y) (p : CanPend) (hn : n.canNormal c = true)
    (ho : y.offBus = false) (hcur : y.cur = none) : ((n.canPending c p).canCtl c).cur ≠ none := by
  have hnormal : (n.modCan c (fun x => x.pending p)).canNormal c = true := by
    have hk := h.modCan (fun x => x.pending p)
    have hok : ((n.modCan c (fun x => x.pending p)).canCtl c).ok = (n.canCtl c).ok := by
      rw [hk.ctl, h.ctl]
      rfl
    unfold Module.canNormal Module.canHears at *
    rw [hok]
    exact hn
  refine canStart_starts (h.modCan (fun x => x.pending p)) hnormal ho hcur ?_
  simp [CanCtl.pending]

/-- Mirroring on the other channel of the pair leaves a controller as it is. -/
theorem canTo_canMirror_other {m n : Module} {y : CanCtl} (h : CanTo c m n y) (hc : c < 2) (obj : Nat) (t : CanTxCfg) :
    CanTo c m (n.canMirror c obj t) y := by
  have hne : 1 - c ≠ c := by omega
  unfold Module.canMirror
  dsimp only
  split
  · exact h
  · split
    · exact h.journal (Module.raise_only _ _ _ _ _ _ _ _)
    · unfold Module.canPending Module.canStart
      dsimp only
      split
      · split
        · exact ((h.modOther hne _).modOther hne _).journal (Module.emit_only _ _)
        · exact h.modOther hne _
      · exact h.modOther hne _

theorem exec_canTxPeriod {obj : Nat} {x : CanTxCfg} (hx : s.m.canTx? c obj = some x) (hn : s.m.canNormal c = true) :
    exec (.canTxPeriod c obj) s = .next { s with
      m := if c < 2 ∧ limitKind x ∧ ((s.m.canPending c (s.m.canFrameOf obj x false)).canCtl (1 - c)).mirroring then
          (s.m.canPending c (s.m.canFrameOf obj x false)).canMirror c obj x
        else s.m.canPending c (s.m.canFrameOf obj x false) } := by
  show execCanTxPeriod c obj s = _
  unfold execCanTxPeriod
  rw [onModule_eq, hx]
  dsimp only
  rw [if_pos hn]

theorem exec_canTxPeriod_idle {obj : Nat} (hx : s.m.canTx? c obj = none) : exec (.canTxPeriod c obj) s = .next s := by
  show execCanTxPeriod c obj s = _
  unfold execCanTxPeriod
  rw [onModule_eq, hx]

theorem canTxPeriod_pends (hc : c < s.m.can.ctl.length) {obj : Nat} {x : CanTxCfg} (hx : s.m.canTx? c obj = some x)
    (hn : s.m.canNormal c = true) : ∃ t, Answers (.canTxPeriod c obj) s t ∧
      (∃ q ∈ (t.m.canCtl c).pend, q = { s.m.canFrameOf obj x false with begun := q.begun }) ∧
      (∀ q ∈ (t.m.canCtl c).pend, q.obj = obj → q.mirrored = false →
        q = { s.m.canFrameOf obj x false with begun := q.begun }) ∧
      ((s.m.canCtl c).offBus = false → (s.m.canCtl c).cur = none → (t.m.canCtl c).cur ≠ none) ∧
      (limitKind x = false → t.m = { s.m with can := t.m.can, outbox := t.m.outbox }) ∧ CanMoves s.m t.m := by
  obtain ⟨z, hz, hstarts⟩ := canTo_canPending (CanTo.start hc) (s.m.canFrameOf obj x false)
  have hcur := fun ho hc0 => Module.canPending_starts (CanTo.start hc) (s.m.canFrameOf obj x false) hn ho hc0
  rw [hz.ctl] at hcur
  have hsends := s.m.canPending_sends c (s.m.canFrameOf obj x false)
  have hexec := exec_canTxPeriod hx hn
  generalize s.m.canPending c (s.m.canFrameOf obj x false) = n at *
  obtain ⟨k, hk⟩ : ∃ k, k = if c < 2 ∧ limitKind x ∧ (n.canCtl (1 - c)).mirroring then n.canMirror c obj x else n := ⟨_, rfl⟩
  rw [← hk] at hexec
  have hto : CanTo c s.m k z := by
    rw [hk]
    split
    case isTrue h => exact canTo_canMirror_other hz h.1 obj x
    case isFalse => exact hz
  refine ⟨_, ⟨hexec, rfl, rfl⟩, ?_, fun q hq hobj hmir => ?_, ?_, fun hlim => ?_, hto.moves⟩
  · rw [hto.ctl]
    exact hstarts.of_mem (CanCtl.mem_pending.2 (.inr rfl))
  · rw [hto.ctl] at hq
    obtain ⟨r, hr, hqr⟩ := hstarts.mem_of hq
    rcases CanCtl.mem_pending.1 hr with ⟨-, hne⟩ | rfl
    · have hsame : samePend (s.m.canFrameOf obj x false) r = true := by
        rw [hqr] at hobj hmir
        simp [samePend, Module.canFrameOf, show r.obj = obj from hobj, show r.mirrored = false from hmir]
      exact absurd hsame (ne_true_of_eq_false hne)
    · exact hqr
  · rw [hto.ctl]
    exact hcur
  · show k = { s.m with can := k.can, outbox := k.outbox }
    rw [hk, if_neg (by simp [hlim])]
    exact hsends


/-! ### What the end of mirroring leaves (R407) -/

section
variable (m : Module)

theorem Module.clearAll_only (src : Island) (code : Nat) : JournalOnly m (m.clearAll src code) :=
  JournalOnly.trans (.of_fields _ _ _) (JournalOnly.foldl (fun m _ => m.jotCond_only _ _ _ _ _ _ _ _) _ _)

theorem jotConds_conds {src : Island} {code : Nat} (c : Cond) (hc : c.code ≠ cJournalQueueFull) (l : List Cond) (n : Module) :
    c ∈ (l.foldl (fun m (d : Cond) => m.jotCond src code sevTrace d.scope d.inst naCurrent [] true) n).al.conds ↔
      c ∈ n.al.conds := by
  induction l generalizing n with
  | nil => rfl
  | cons d t ih =>
    rw [List.foldl_cons, ih]
    exact ⟨fun g => (Module.jotCond_new _ _ _ _ _ _ _ _ _ c g).resolve_right hc, fun g => Module.jotCond_conds _ _ _ _ _ _ _ _ _ c g⟩

theorem Module.clearAll_other (src : Island) {code : Nat} (code' scope' inst' : Nat) (hne : code' ≠ code)
    (hf : code' ≠ cJournalQueueFull) :
    (m.clearAll src code).holds code' scope' inst' = m.holds code' scope' inst' := by
  refine Module.holds_of_conds (m.clearAll_only src code) _ _ _ fun c hc => ?_
  refine (jotConds_conds c (hc ▸ hf) _ _).trans ?_
  simp [hc, hne]

theorem Module.jot_other (src : Island) (code sev scope inst : Nat) (v : Int) (p : List Byte) (row alert : Nat)
    (code' scope' inst' : Nat) (hf : code' ≠ cJournalQueueFull) :
    (m.jot src code sev scope inst v p row alert).holds code' scope' inst' = m.holds code' scope' inst' :=
  Module.holds_of_conds (m.jot_only _ _ _ _ _ _ _ _ _) _ _ _ fun c hc =>
    ⟨fun g => (Module.enqueue_new _ _ _ c g).resolve_right (hc ▸ hf), Module.enqueue_conds _ _ _ c⟩

end

section
variable {c : Nat} {m n : Module} {y : CanCtl} (h : CanTo c m n y)
include h

/-- The objects given up on some controller. -/
theorem canTo_abandoned (d : Nat) (g : List Nat → List Nat) :
    ∃ l, CanTo c m (n.modCan d (fun x => { x with abandoned := g x.abandoned })) { y with abandoned := l } := by
  by_cases hd : d = c
  · rw [hd]
    exact ⟨_, h.modCan _⟩
  · exact ⟨y.abandoned, h.modOther hd _⟩

theorem canTo_cleanCheck : CanTo c m (n.cleanCheck c) y := by
  unfold Module.cleanCheck
  split
  case isTrue hc =>
    have hne : 1 - c ≠ c := by omega
    unfold Module.endMirror
    split
    · exact ((h.modOther hne _).journal (Module.clearAll_only _ .fbi cCanMirrorConflict)).journal (Module.canState_only _ _)
    · exact h
  case isFalse => exact h

end

theorem Module.endMirror_other (m : Module) (c code scope inst : Nat) (hne : code ≠ cCanMirrorConflict)
    (hf : code ≠ cJournalQueueFull) : (m.endMirror c).holds code scope inst = m.holds code scope inst := by
  unfold Module.endMirror
  split
  · exact (Module.jot_other _ _ _ _ _ _ _ _ _ _ _ _ _ hf).trans (Module.clearAll_other _ _ _ _ _ hne hf)
  · rfl

theorem Module.cleanCheck_other (m : Module) (c code scope inst : Nat) (hne : code ≠ cCanMirrorConflict)
    (hf : code ≠ cJournalQueueFull) : (m.cleanCheck c).holds code scope inst = m.holds code scope inst := by
  unfold Module.cleanCheck
  split
  · exact m.endMirror_other _ _ _ _ hne hf
  · rfl

theorem Module.canStart_holds (m : Module) (c code scope inst : Nat) :
    (m.canStart c).holds code scope inst = m.holds code scope inst := by
  rw [m.canStart_sends c]
  rfl

/-! ### The end of a transmission (R404, R408) -/

/-- The frame belongs to a limit object. -/
def Module.sendsLimit (m : Module) (c : Nat) (p : CanPend) : Bool :=
  match m.canTx? (canOwner c p) p.obj with | some t => limitKind t | none => false

/-- A controller whose frame is sent: TEC falls, and the frame waits no more. -/
def CanCtl.sent (x : CanCtl) (p : CanPend) (limit : Bool) : CanCtl :=
  { x with
    cur := none, tec := x.tec - 1
    pend := x.pend.filter (fun q => !(samePend p q && q.begun))
    clean := if limit && !p.mirrored then put x.clean p.obj (if 0 < p.retries then 0 else look 0 x.clean p.obj + 1)
      else x.clean }

/-- Of the frames that waited those of the object sent remain only where they have not begun. -/
theorem CanCtl.mem_sent {x : CanCtl} {p q : CanPend} {limit : Bool} (h : q ∈ (x.sent p limit).pend) :
    q ∈ x.pend ∧ (samePend p q = true → q.begun = false) := by
  obtain ⟨hmem, hkept⟩ := List.mem_filter.1 h
  exact ⟨hmem, fun hsame => by simpa [hsame] using hkept⟩

/-- The module once a controller has counted its frame as sent, and its object is given up no more. -/
def Module.canSent (m : Module) (c : Nat) (p : CanPend) : Module :=
  ((((m.modCan c (fun x => x.sent p (m.sendsLimit c p))).countCan c 2).canCount c).modCan (canOwner c p)
    (fun x => { x with abandoned := dropFrom x.abandoned p.obj })).clear .fbi cTxAbandoned scCan (canInst (canOwner c p) p.obj)

section
variable {p : CanPend} (hcur : (s.m.canCtl c).cur = some p)
include hcur

theorem exec_canTxDone : exec (.canTxDone c p.obj p.mirrored) s = .next { s with
    m := ((if s.m.sendsLimit c p = true ∧ c < 2 then
        { s.m.canSent c p with can := { (s.m.canSent c p).can with lastLimit := (s.m.canSent c p).time.now } }
      else s.m.canSent c p).cleanCheck c).canStart c } := by
  show execCanTxDone c p.obj p.mirrored s = _
  unfold execCanTxDone
  rw [onModule_eq, hcur]
  dsimp only
  rw [if_pos ⟨rfl, rfl⟩]
  rfl

theorem canTxDone_counts (hc : c < s.m.can.ctl.length) (ht : (s.m.canCtl c).tec ≤ 100) (hr : (s.m.canCtl c).rec_ ≤ 100)
    (he : (s.m.canCtl c).err = .active) : ∃ t, Answers (.canTxDone c p.obj p.mirrored) s t ∧ CanMoves s.m t.m ∧
      (t.m.canCtl c).tec = (s.m.canCtl c).tec - 1 ∧ (t.m.canCtl c).rec_ = (s.m.canCtl c).rec_ ∧
      (t.m.canCtl c).nTxOk = bump16 (s.m.canCtl c).nTxOk ∧
      ((∀ q ∈ (s.m.canCtl c).pend, samePend p q = true → q.begun = true) →
        ∀ q ∈ (t.m.canCtl c).pend, samePend p q = false) ∧
      t.m.holds cTxAbandoned scCan (canInst (canOwner c p) p.obj) = false := by
  have hcount := canTo_canCount_active (canTo_countCan ((CanTo.start hc).modCan (fun x => x.sent p (s.m.sendsLimit c p))) 2)
    he (by exact Nat.le_trans (Nat.sub_le _ _) (Nat.le_trans ht (by decide))) (by exact Nat.le_trans hr (by decide))
  obtain ⟨l, hab⟩ := canTo_abandoned hcount (canOwner c p) (dropFrom · p.obj)
  have hsent := hab.journal (Module.clear_only _ .fbi cTxAbandoned scCan (canInst (canOwner c p) p.obj))
  have hends : (s.m.canSent c p).holds cTxAbandoned scCan (canInst (canOwner c p) p.obj) = false :=
    Module.clear_holds _ _ _ _ _ (by decide)
  have hexec := exec_canTxDone hcur
  change CanTo c s.m (s.m.canSent c p) _ at hsent
  generalize s.m.canSent c p = n at *
  have hto := hsent.limitAge (s.m.sendsLimit c p = true ∧ c < 2)
  have hholds := (n.limitAge_holds (s.m.sendsLimit c p = true ∧ c < 2) cTxAbandoned scCan
    (canInst (canOwner c p) p.obj)).trans hends
  generalize (if s.m.sendsLimit c p = true ∧ c < 2 then _ else n) = k at *
  obtain ⟨z, hz, hstarts⟩ := canTo_canStart (canTo_cleanCheck hto)
  refine ⟨_, ⟨hexec, rfl, rfl⟩, hz.moves, ?_, ?_, ?_, fun hb q hq => ?_, ?_⟩
  · rw [hz.ctl, hstarts.fields]
    rfl
  · rw [hz.ctl, hstarts.fields]
    rfl
  · rw [hz.ctl, hstarts.fields]
    rfl
  · rw [hz.ctl] at hq
    obtain ⟨r, hr, hqr⟩ := hstarts.mem_of hq
    obtain ⟨hmem, hkept⟩ := CanCtl.mem_sent (p := p) (limit := s.m.sendsLimit c p) hr
    rw [hqr]
    exact eq_false_of_ne_true fun hsame => ne_true_of_eq_false (hkept hsame) (hb r hmem hsame)
  · rw [Module.canStart_holds, Module.cleanCheck_other _ _ _ _ _ (by decide) (by decide)]
    exact hholds

end

/-! ### A failed attempt (R404, R406) -/

/-- The pending frame whose attempt is on the bus. -/
def CanPend.onBus (p q : CanPend) : Bool := samePend p q && q.begun

/-- The frame has used up its retries and is dropped, unless new content has replaced it meanwhile. -/
def Module.canGone (m : Module) (c : Nat) (p : CanPend) : Bool :=
  decide (((m.canTx? (canOwner c p) p.obj).getD {}).retryLimit ≤ p.retries) && (m.canCtl c).pend.any p.onBus

theorem Module.canGone_iff (m : Module) (c : Nat) (p : CanPend) : m.canGone c p = true ↔
    ((m.canTx? (canOwner c p) p.obj).getD {}).retryLimit ≤ p.retries ∧
      ∃ q ∈ (m.canCtl c).pend, samePend p q = true ∧ q.begun = true := by
  simp [Module.canGone, CanPend.onBus]

/-- A controller whose attempt failed. -/
def CanCtl.failed (x : CanCtl) (p : CanPend) (counted gone limit : Bool) : CanCtl :=
  { x with
    cur := none, tec := if counted then x.tec + 8 else x.tec
    pend := if gone then x.pend.filter (fun q => !p.onBus q)
      else x.pend.map (fun q => if p.onBus q then { q with retries := q.retries + 1, begun := false } else q)
    clean := if limit && !p.mirrored then put x.clean p.obj 0 else x.clean }

/-- An object of a controller is given up, and TX_ABANDONED tells so. -/
def Module.canGivenUp (m : Module) (d obj : Nat) : Module :=
  (m.modCan d (fun x => { x with abandoned := addTo x.abandoned obj })).raise .fbi cTxAbandoned sevWarning scCan (canInst d obj)

theorem canTo_canGivenUp {m n : Module} {y : CanCtl} (h : CanTo c m n y) (d obj : Nat) :
    ∃ l, CanTo c m (n.canGivenUp d obj) { y with abandoned := l } := by
  obtain ⟨l, hl⟩ := canTo_abandoned h d (addTo · obj)
  exact ⟨l, hl.journal (Module.raise_only _ _ _ _ _ _ _ _)⟩

/-- The module once a controller has counted the failed attempt. -/
def Module.canFailed (m : Module) (c : Nat) (p : CanPend) (counted : Bool) : Module :=
  ((m.modCan c (fun x => x.failed p counted (m.canGone c p)
    (limitKind ((m.canTx? (canOwner c p) p.obj).getD {})))).countCan c 3).canCount c

section
variable {p : CanPend} (hcur : (s.m.canCtl c).cur = some p) (counted : Bool)
include hcur

theorem exec_canTxError : exec (.canTxError c p.obj p.mirrored counted) s = .next { s with
    m := (if s.m.canGone c p then (s.m.canFailed c p counted).canGivenUp (canOwner c p) p.obj
      else s.m.canFailed c p counted).canStart c } := by
  show execCanTxError c p.obj p.mirrored counted s = _
  unfold execCanTxError
  rw [onModule_eq, hcur]
  dsimp only
  rw [if_pos ⟨rfl, rfl⟩]
  rfl

variable (hc : c < s.m.can.ctl.length) (ht : (s.m.canCtl c).tec ≤ 100) (hr : (s.m.canCtl c).rec_ ≤ 100)
  (he : (s.m.canCtl c).err = .active)
include hc ht hr he

omit hcur in
theorem canTo_canFailed : CanTo c s.m (s.m.canFailed c p counted) (((s.m.canCtl c).failed p counted (s.m.canGone c p)
    (limitKind ((s.m.canTx? (canOwner c p) p.obj).getD {}))).counted 3) := by
  refine canTo_canCount_active (canTo_countCan ((CanTo.start hc).modCan _) 3) he ?_ (by exact Nat.le_trans hr (by decide))
  show (if counted then (s.m.canCtl c).tec + 8 else (s.m.canCtl c).tec) ≤ 127
  split <;> omega

theorem canTxError_gone (hg : s.m.canGone c p = true) : ∃ t, Answers (.canTxError c p.obj p.mirrored counted) s t ∧
    CanMoves s.m t.m ∧ (t.m.canCtl c).tec = (s.m.canCtl c).tec + (if counted then 8 else 0) ∧
    (t.m.canCtl c).nTxFail = bump16 (s.m.canCtl c).nTxFail ∧
    t.m.holds cTxAbandoned scCan (canInst (canOwner c p) p.obj) = true := by
  have hexec := exec_canTxError hcur counted
  rw [if_pos hg] at hexec
  obtain ⟨l, hl⟩ := canTo_canGivenUp (canTo_canFailed (p := p) counted hc ht hr he) (canOwner c p) p.obj
  have hholds : ((s.m.canFailed c p counted).canGivenUp (canOwner c p) p.obj).holds cTxAbandoned scCan
      (canInst (canOwner c p) p.obj) = true := Module.raise_holds _ _ _ _ _ _ _ _
  generalize (s.m.canFailed c p counted).canGivenUp (canOwner c p) p.obj = n at *
  obtain ⟨z, hz, hstarts⟩ := canTo_canStart hl
  refine ⟨_, ⟨hexec, rfl, rfl⟩, hz.moves, ?_, ?_, ?_⟩
  · rw [hz.ctl, hstarts.fields]
    cases counted <;> rfl
  · rw [hz.ctl, hstarts.fields]
    rfl
  · rw [Module.canStart_holds]
    exact hholds

theorem canTxError_repeats (hg : s.m.canGone c p = false) : ∃ t, Answers (.canTxError c p.obj p.mirrored counted) s t ∧
    CanMoves s.m t.m ∧ (t.m.canCtl c).tec = (s.m.canCtl c).tec + (if counted then 8 else 0) ∧
    (t.m.canCtl c).nTxFail = bump16 (s.m.canCtl c).nTxFail ∧
    ∀ q ∈ (s.m.canCtl c).pend, samePend p q = true → q.begun = true → ∃ q' ∈ (t.m.canCtl c).pend,
      q' = { q with retries := q.retries + 1, begun := q'.begun } := by
  have hexec := exec_canTxError hcur counted
  rw [if_neg (ne_true_of_eq_false hg)] at hexec
  have hfailed := canTo_canFailed (p := p) counted hc ht hr he
  rw [hg] at hfailed
  generalize s.m.canFailed c p counted = n at *
  obtain ⟨z, hz, hstarts⟩ := canTo_canStart hfailed
  refine ⟨_, ⟨hexec, rfl, rfl⟩, hz.moves, ?_, ?_, fun q hq hsame hb => ?_⟩
  · rw [hz.ctl, hstarts.fields]
    cases counted <;> rfl
  · rw [hz.ctl, hstarts.fields]
    rfl
  · rw [hz.ctl]
    obtain ⟨q', hq', heq⟩ := hstarts.of_mem (List.mem_map_of_mem (f := fun q =>
      if p.onBus q then { q with retries := q.retries + 1, begun := false } else q) hq)
    rw [if_pos (by simp [CanPend.onBus, hsame, hb])] at heq
    exact ⟨q', hq', heq⟩

end

/-! ### Ends of transmissions that are not on the bus -/

section
variable {obj : Nat} {b : Bool}

/-- No attempt of this object is on the bus. -/
def CanCtl.notOnBus (x : CanCtl) (obj : Nat) (b : Bool) : Prop := ∀ p, x.cur = some p → p.obj ≠ obj ∨ p.mirrored ≠ b

theorem exec_canTxDone_idle (h : (s.m.canCtl c).notOnBus obj b) : exec (.canTxDone c obj b) s = .next s := by
  show execCanTxDone c obj b s = _
  unfold execCanTxDone
  rw [onModule_eq]
  cases hcur : (s.m.canCtl c).cur with
  | none => rfl
  | some p =>
    dsimp only
    rw [if_neg fun ⟨ho, hb⟩ => (h p hcur).elim (· ho) (· hb)]

theorem exec_canTxError_idle (h : (s.m.canCtl c).notOnBus obj b) (k : Bool) :
    exec (.canTxError c obj b k) s = .next s := by
  show execCanTxError c obj b k s = _
  unfold execCanTxError
  rw [onModule_eq]
  cases hcur : (s.m.canCtl c).cur with
  | none => rfl
  | some p =>
    dsimp only
    rw [if_neg fun ⟨ho, hb⟩ => (h p hcur).elim (· ho) (· hb)]

end

/-! ### Recovery from bus off (R406) -/

/-- Controller `c` has reached a record with the error state and the counters of `y`. -/
def ErrTo (c : Nat) (m n : Module) (y : CanCtl) : Prop :=
  ∃ z, CanTo c m n z ∧ z.err = y.err ∧ z.tec = y.tec ∧ z.rec_ = y.rec_

theorem errTo_canStart {m n : Module} {y : CanCtl} (h : ErrTo c m n y) : ErrTo c m (n.canStart c) y := by
  obtain ⟨z, hz, herr, htec, hrec⟩ := h
  obtain ⟨w, hw, hstarts⟩ := canTo_canStart hz
  rw [hstarts.fields] at hw
  exact ⟨_, hw, herr, htec, hrec⟩

theorem errTo_canMirror {m n : Module} {y : CanCtl} {failed : Nat} (hf : 1 - failed = c) (h : ErrTo c m n y) (obj : Nat)
    (t : CanTxCfg) : ErrTo c m (n.canMirror failed obj t) y := by
  unfold Module.canMirror
  dsimp only
  rw [hf]
  obtain ⟨z, hz, herr, htec, hrec⟩ := h
  split
  · exact ⟨z, hz, herr, htec, hrec⟩
  · split
    · exact ⟨z, hz.journal (Module.raise_only _ _ _ _ _ _ _ _), herr, htec, hrec⟩
    · obtain ⟨w, hw, hstarts⟩ := canTo_canPending hz (n.canFrameOf obj t true)
      rw [hstarts.fields] at hw
      exact ⟨_, hw, herr, htec, hrec⟩

theorem errTo_canMirrors {m : Module} {y : CanCtl} {failed : Nat} (hf : 1 - failed = c) (l : List (Nat × CanTxCfg))
    (n : Module) (h : ErrTo c m n y) :
    ErrTo c m (l.foldl (fun m (o : Nat × CanTxCfg) => m.canMirror failed o.1 o.2) n) y := by
  induction l generalizing n with
  | nil => exact h
  | cons o t ih => exact ih _ (errTo_canMirror hf h o.1 o.2)

theorem errTo_startMirror {m n : Module} {y : CanCtl} {failed : Nat} (hf : 1 - failed = c) (h : ErrTo c m n y) :
    ErrTo c m (n.startMirror failed) y := by
  unfold Module.startMirror
  dsimp only
  rw [hf]
  obtain ⟨z, hz, hsame⟩ := h
  split
  · exact errTo_canMirrors hf _ _ ⟨_, (hz.modCan _).journal (Module.canState_only _ c), hsame⟩
  · exact ⟨z, hz, hsame⟩

theorem busOffRecovery_recovers (hc : c < s.m.can.ctl.length) (he : (s.m.canCtl c).err = .busOff)
    (hh : s.m.canHears c = true) : ∃ t, Answers (.busOffRecovery c) s t ∧ CanMoves s.m t.m ∧
      (t.m.canCtl c).err = .active ∧ (t.m.canCtl c).tec = 0 ∧ (t.m.canCtl c).rec_ = 0 := by
  have hactive := canTo_setErr ((CanTo.start hc).modCan (fun x => { x with
    tec := 0, rec_ := 0, recoveries := s.m.ms :: x.recoveries.filter (fun t => s.m.ms < t + 60000)
    pend := x.pend.map (fun p => { p with retries := 0 }) })) .active
  have hexec : ∃ n, ErrTo c s.m n { err := .active } ∧ exec (.busOffRecovery c) s = .next { s with m := n.canStart c } := by
    show ∃ n, _ ∧ execBusOffRecovery c s = _
    unfold execBusOffRecovery
    rw [onModule_eq, if_pos ⟨he, hh⟩]
    refine ⟨_, ?_, rfl⟩
    split
    case isTrue h2 => exact errTo_startMirror (by omega) ⟨_, hactive, rfl, rfl, rfl⟩
    case isFalse => exact ⟨_, hactive, rfl, rfl, rfl⟩
  obtain ⟨n, hn, hexec⟩ := hexec
  obtain ⟨z, hz, herr, htec, hrec⟩ := errTo_canStart hn
  refine ⟨_, ⟨hexec, rfl, rfl⟩, hz.moves, ?_⟩
  rw [hz.ctl]
  exact ⟨herr, htec, hrec⟩

theorem exec_busOffRecovery_idle (he : (s.m.canCtl c).err ≠ .busOff) : exec (.busOffRecovery c) s = .next s := by
  show execBusOffRecovery c s = _
  unfold execBusOffRecovery
  rw [onModule_eq, if_neg fun h => he h.1]

end

end Machine

/-- Settles O59: each event of a controller by what it does to that controller, and nothing else but journalling moves. -/
theorem canControllers : Obligations.CanControllers := by
  intro s c hc
  refine ⟨fun f hh ho hf hr ht he => ⟨fun hn => ?_, fun obj cfg hm => ?_⟩, fun f => exec_canFrameRx_idle,
    fun obj cfg hf hh hb ha ht => ?_, fun obj x hx hn => canTxPeriod_pends hc hx hn, fun obj => exec_canTxPeriod_idle,
    fun p hcur ht hr he => ⟨canTxDone_counts hcur hc ht hr he, fun counted hg => ?_, fun counted hg => ?_⟩,
    fun p obj b hcur hne => ?_, fun hcur obj b => ?_, fun he hh => busOffRecovery_recovers hc he hh,
    exec_busOffRecovery_idle, fun r hh ho ht => canRxError_counts hc r hh ho ht, canProtocolException_counts hc⟩
  · obtain ⟨t, ht', hmoves, hctl⟩ := canFrameRx_unmatched hc hh ho hf hr ht he hn
    exact ⟨t, ht', hmoves, hctl⟩
  · obtain ⟨t, ht', hmoves, hctl, hobj, hother⟩ := canFrameRx_taken hc hh ho hf hr ht he hm
    exact ⟨t, ht', hmoves, hctl, hobj, hother⟩
  · have hto := canTo_rxTimedOut hc obj cfg.alert
    obtain ⟨hsticky, hholds⟩ := s.m.rxTimedOut_alerts c obj cfg.alert
    exact ⟨_, ⟨exec_canRxTimeout hf hh hb ha ht, rfl, rfl⟩, hto.moves, by rw [hto.ctl], by rw [hto.ctl], hsticky, hholds⟩
  · exact canTxError_gone hcur counted hc ht hr he ((s.m.canGone_iff c p).2 hg)
  · exact canTxError_repeats hcur counted hc ht hr he (eq_false_of_ne_true fun h => hg ((s.m.canGone_iff c p).1 h))
  · have hidle : (s.m.canCtl c).notOnBus obj b := fun q hq => Option.some.inj (hcur.symm.trans hq) ▸ hne
    exact ⟨exec_canTxDone_idle hidle, exec_canTxError_idle hidle⟩
  · have hidle : (s.m.canCtl c).notOnBus obj b := fun q hq => absurd (hcur.symm.trans hq) nofun
    exact ⟨exec_canTxDone_idle hidle, exec_canTxError_idle hidle⟩

end Sys2Proof

/-! ## Switch channels: attempts, latches, refresh and tests (R297 to R309, R313, R314) -/

namespace Sys2Proof

open Machine

namespace Machine

section
variable {s : State} {c : Nat}

/-- A command that is one step of a channel answers with the channel at its new value. -/
theorem answers_of_swStep {i : Instr} {f : Module → Module} {ch : SwCh} (he : exec i s = onModule s f)
    (h : SwStep c s.m (f s.m) ch) (hc : c < s.m.sw.chans.length) :
    ∃ t, Answers i s t ∧ SwKeeps c s.m t.m ∧ t.m.swc c = ch := by
  obtain ⟨hkeeps, -, hch⟩ := h
  exact ⟨_, ⟨he, rfl, rfl⟩, hkeeps, hch hc⟩

theorem answers_of_swMoved {i : Instr} {n : Module} {ch : SwCh} (he : exec i s = .next { s with m := n })
    (h : SwStep c s.m n ch) (hc : c < s.m.sw.chans.length) :
    ∃ t, Answers i s t ∧ SwKeeps c s.m t.m ∧ t.m.swc c = ch := answers_of_swStep (f := fun _ => n) he h hc

/-- A command whose condition on the channel does not hold does nothing. -/
theorem exec_of_onModule_id {i : Instr} {f : Module → Module} (he : exec i s = onModule s f) (hf : f s.m = s.m) :
    exec i s = .next s := by
  rw [he, onModule_eq, hf]

/-! ### Turn-on (R297, R299) -/

section
variable (h1 : (s.m.swc c).state = 1) (hc : c < s.m.sw.chans.length)
include h1 hc

theorem turnOnComplete_steady
    (hl : ((s.m.swCfg c).load ≠ .coil ∧ (s.m.swCfg c).load ≠ .motor) ∨ (s.m.swc c).driveDone = true) :
    ∃ t, Answers (.turnOnComplete c) s t ∧ SwKeeps c s.m t.m ∧
      t.m.swc c = { (s.m.swc c).calm with state := 2, shortNow := 0, driveDone := true } := by
  refine answers_of_swStep (show execTurnOnComplete c s = onModule s _ from rfl) ?_ hc
  dsimp only
  rw [if_pos ⟨h1, hl⟩]
  split
  · exact (s.m.modSw_step c _).only (Module.emit_only _ _)
  · exact s.m.modSw_step c _

theorem drivePhaseEnd_done : ∃ t, Answers (.drivePhaseEnd c) s t ∧ SwKeeps c s.m t.m ∧
    t.m.swc c = { s.m.swc c with driveDone := true } := by
  refine answers_of_swStep rfl ?_ hc
  rw [if_pos h1]
  exact s.m.modSw_step c _

theorem blankingEnd_clear : ∃ t, Answers (.blankingEnd c false) s t ∧ SwKeeps c s.m t.m ∧
    t.m.swc c = { s.m.swc c with blankOver := true, inLimit := false } := by
  refine answers_of_swStep rfl ?_ hc
  rw [if_pos h1]
  exact s.m.modSw_step c _

end

theorem exec_turnOnComplete_driving (hl : (s.m.swCfg c).load = .coil ∨ (s.m.swCfg c).load = .motor)
    (hd : (s.m.swc c).driveDone = false) : exec (.turnOnComplete c) s = .next s :=
  exec_of_onModule_id rfl (if_neg fun ⟨_, h⟩ => h.elim (fun ⟨hcoil, hmotor⟩ => hl.elim hcoil hmotor)
    (ne_true_of_eq_false hd))

section
variable (h1 : (s.m.swc c).state ≠ 1)
include h1

theorem exec_turnOnComplete_idle : exec (.turnOnComplete c) s = .next s := exec_of_onModule_id rfl (if_neg fun h => h1 h.1)

theorem exec_drivePhaseEnd_idle : exec (.drivePhaseEnd c) s = .next s := exec_of_onModule_id rfl (if_neg h1)

theorem exec_blankingEnd_idle (b : Bool) : exec (.blankingEnd c b) s = .next s := exec_of_onModule_id rfl (if_neg h1)

end

/-! ### A channel that waits (R298, R300, R303) -/

section
variable {m : Module}

theorem Module.cameSw_waiting (h3 : (m.swc c).state = 3) : m.cameSw c = m.restartSw c := if_pos h3

theorem SwCh.came_waiting {ch : SwCh} (h3 : ch.state = 3) : ch.came m c = ch.reattempted m c := if_pos h3

theorem Module.restartSw_thermal (hs : (m.swc c).afterShort = false) (ht : (m.swc c).afterThermal = true)
    (hl : (m.swc c).thermalOn = true ∨ (m.swCfg c).load ≠ .lamp) : m.restartSw c = m.latchSw c 4 :=
  (if_neg (ne_true_of_eq_false hs)).trans (if_pos ⟨ht, hl⟩)

section
variable {ch : SwCh} (hd : m.dipped c = false) (hg : m.groupHot c = false)
include hd hg

theorem SwCh.reattempted_short (hs : ch.afterShort = true) : ch.reattempted m c = ch.attempt m.ms := by
  rw [SwCh.reattempted, if_pos hs, Module.hold_free hd hg]

/-- A waiting lamp that has attempts left begins the next one, counted. -/
theorem SwCh.reattempted_counted (hs : ch.afterShort = false)
    (hn : ¬(ch.afterThermal = true ∧ (ch.thermalOn = true ∨ (m.swCfg c).load ≠ .lamp)))
    (ha : ch.attempts < (m.swCfg c).lampRetries) :
    ch.reattempted m c = { ch.attempt m.ms with attempts := ch.attempts + 1 } := by
  rw [SwCh.reattempted, if_neg (ne_true_of_eq_false hs), if_neg hn, SwCh.counted, if_neg (Nat.not_le.2 ha),
    Module.hold_free hd hg]

end

end

section
variable (h3 : (s.m.swc c).state = 3) (hd : s.m.dipped c = false) (hg : s.m.groupHot c = false)
  (hc : c < s.m.sw.chans.length)
include h3 hd hg hc

theorem shortGapExpire_attempts (hs : (s.m.swc c).afterShort = true) : ∃ t, Answers (.shortGapExpire c) s t ∧
    SwKeeps c s.m t.m ∧ t.m.swc c = (s.m.swc c).attempt s.m.ms := by
  refine answers_of_swStep rfl ?_ hc
  rw [if_pos hs, ← SwCh.reattempted_short hd hg hs, ← SwCh.came_waiting h3]
  exact s.m.cameSw_step c

variable (hs : (s.m.swc c).afterShort = false) (hl : (s.m.swCfg c).load = .lamp)
  (ha : (s.m.swc c).attempts < (s.m.swCfg c).lampRetries)
include hs hl ha

theorem lampRetryStart_attempts (ht : (s.m.swc c).afterThermal = false) : ∃ t, Answers (.lampRetryStart c) s t ∧
    SwKeeps c s.m t.m ∧ t.m.swc c = { (s.m.swc c).attempt s.m.ms with attempts := (s.m.swc c).attempts + 1 } := by
  refine answers_of_swStep (show execLampRetryStart c s = onModule s _ from rfl) ?_ hc
  dsimp only
  rw [if_pos ⟨hl, hs, ht⟩, ← SwCh.reattempted_counted hd hg hs (by simp [ht]) ha, ← SwCh.came_waiting h3]
  exact s.m.cameSw_step c

theorem junctionRestart_attempts (ht : (s.m.swc c).afterThermal = true) (hon : (s.m.swc c).thermalOn = false) :
    ∃ t, Answers (.junctionRestart c) s t ∧ SwKeeps c s.m t.m ∧
      t.m.swc c = { (s.m.swc c).attempt s.m.ms with attempts := (s.m.swc c).attempts + 1 } := by
  refine answers_of_swStep rfl ?_ hc
  rw [if_pos ht, ← SwCh.reattempted_counted hd hg hs (by simp [hon, hl]) ha, ← SwCh.came_waiting h3]
  exact s.m.cameSw_step c

end

theorem exec_junctionRestart_latches (h3 : (s.m.swc c).state = 3) (hs : (s.m.swc c).afterShort = false)
    (ht : (s.m.swc c).afterThermal = true) (hl : (s.m.swc c).thermalOn = true ∨ (s.m.swCfg c).load ≠ .lamp) :
    exec (.junctionRestart c) s = .next { s with m := s.m.latchSw c 4 } := by
  show execJunctionRestart c s = _
  unfold execJunctionRestart
  rw [onModule_eq, if_pos ht, Module.cameSw_waiting h3, Module.restartSw_thermal hs ht hl]

/-! ### Shorts (R298) -/

/-- A channel that has counted one more short. -/
def SwCh.shorted (ch : SwCh) : SwCh := { ch with shorts := bump8 ch.shorts }

/-- A channel that waits for its second attempt after a short. -/
def SwCh.shortGap (ch : SwCh) : SwCh :=
  { ch.calm with state := 3, shortNow := 1, afterShort := true, attempts := if ch.state = 2 then 0 else ch.attempts }

theorem exec_switchShortAttempt (hon : (s.m.swc c).state = 1 ∨ (s.m.swc c).state = 2) :
    exec (.switchShortAttempt c) s = .next { s with
      m := if (s.m.swc c).shortNow = 0 then (s.m.modSw c SwCh.shorted).modSw c (fun ch => s.m.hold c ch.shortGap)
        else (s.m.modSw c SwCh.shorted).latchSw c 1 } := by
  show execSwitchShortAttempt c s = _
  unfold execSwitchShortAttempt
  rw [onModule_eq, if_pos hon]
  rfl

section
variable (hc : c < s.m.sw.chans.length) (hon : (s.m.swc c).state = 1 ∨ (s.m.swc c).state = 2)
include hc hon

theorem switchShortAttempt_waits (h0 : (s.m.swc c).shortNow = 0) (hd : s.m.dipped c = false) (hg : s.m.groupHot c = false) :
    ∃ t, Answers (.switchShortAttempt c) s t ∧ SwKeeps c s.m t.m ∧ t.m.swc c = (s.m.swc c).shorted.shortGap := by
  have hstep := (s.m.modSw_step c SwCh.shorted).trans
    ((s.m.modSw c SwCh.shorted).modSw_step c (fun ch => s.m.hold c ch.shortGap))
  rw [Module.swc_mod _ _ _ hc, Module.hold_free hd hg] at hstep
  exact answers_of_swMoved ((exec_switchShortAttempt hon).trans (by rw [if_pos h0])) hstep hc

theorem switchShortAttempt_latches (h0 : (s.m.swc c).shortNow ≠ 0) : ∃ t, Answers (.switchShortAttempt c) s t ∧
    SwKeeps c s.m t.m ∧ t.m.swc c = (s.m.swc c).shorted.latched 1 := by
  have hstep := (s.m.modSw_step c SwCh.shorted).trans ((s.m.modSw c SwCh.shorted).latchSw_step c 1)
  rw [Module.swc_mod _ _ _ hc] at hstep
  exact answers_of_swMoved ((exec_switchShortAttempt hon).trans (by rw [if_neg h0])) hstep hc

end

/-! ### Hot junctions (R300) -/

theorem junctionShutdown_waits (hc : c < s.m.sw.chans.length) (hon : (s.m.swc c).state = 1 ∨ (s.m.swc c).state = 2)
    (hd : s.m.dipped c = false) (hg : s.m.groupHot c = false) (hl : (s.m.swc c).state = 2 ∨ (s.m.swCfg c).load ≠ .lamp ∨
      (s.m.swc c).attempts < (s.m.swCfg c).lampRetries) :
    ∃ t, Answers (.junctionShutdown c) s t ∧ SwKeeps c s.m t.m ∧ t.m.swc c = { (s.m.swc c).calm with
      state := 3, shortNow := 0, afterThermal := true, thermalOn := decide ((s.m.swc c).state = 2) } := by
  refine answers_of_swStep (show execJunctionShutdown c s = onModule s _ from rfl) ?_ hc
  dsimp only
  have hmore : ¬((s.m.swc c).state = 1 ∧ (s.m.swCfg c).load = .lamp ∧ (s.m.swCfg c).lampRetries ≤ (s.m.swc c).attempts) := by
    rintro ⟨h1, hlamp, ha⟩
    rcases hl with h2 | hother | hleft
    · omega
    · exact hother hlamp
    · omega
  rw [if_neg hmore, if_pos hon]
  have hstep := s.m.modSw_step c (fun ch => s.m.hold c { ch.calm with
    state := 3, shortNow := 0, afterThermal := true, thermalOn := decide (ch.state = 2) })
  rw [Module.hold_free hd hg] at hstep
  exact hstep

theorem exec_junctionShutdown_latches (h1 : (s.m.swc c).state = 1) (hl : (s.m.swCfg c).load = .lamp)
    (ha : (s.m.swCfg c).lampRetries ≤ (s.m.swc c).attempts) :
    exec (.junctionShutdown c) s = .next { s with m := s.m.latchSw c 3 } := by
  show execJunctionShutdown c s = _
  unfold execJunctionShutdown
  rw [onModule_eq, if_pos ⟨h1, hl, ha⟩]

/-! ### Overloads (R299) -/

theorem Module.cutOff_latches {m : Module} (h : (m.swCfg c).load ≠ .lamp ∨ (m.swc c).state ≠ 1) :
    m.cutOff c = m.latchSw c 2 := if_neg fun ⟨hl, h1⟩ => h.elim (· hl) (· h1)

section
variable (hon : (s.m.swc c).state = 2 ∨ ((s.m.swc c).state = 1 ∧ (s.m.swc c).blankOver = true))
  (hl : (s.m.swCfg c).load ≠ .lamp ∨ (s.m.swc c).state ≠ 1)
include hon hl

theorem exec_currentLimitExpire_latches : exec (.currentLimitExpire c) s = .next { s with m := s.m.latchSw c 2 } := by
  show execCurrentLimitExpire c s = _
  unfold execCurrentLimitExpire
  rw [onModule_eq, if_pos hon, Module.cutOff_latches hl]

theorem exec_overloadExpire_latches : exec (.overloadExpire c) s = .next { s with m := s.m.latchSw c 2 } := by
  show execOverloadExpire c s = _
  unfold execOverloadExpire
  rw [onModule_eq, if_pos hon, Module.cutOff_latches hl]

end

section
variable (h1 : (s.m.swc c).state = 1) (hb : (s.m.swc c).blankOver = false)
include h1 hb

theorem exec_currentLimitExpire_blanked : exec (.currentLimitExpire c) s = .next s := by
  show execCurrentLimitExpire c s = _
  unfold execCurrentLimitExpire
  rw [onModule_eq, if_neg (by simp [h1, hb])]

theorem exec_overloadExpire_blanked : exec (.overloadExpire c) s = .next s := by
  show execOverloadExpire c s = _
  unfold execOverloadExpire
  rw [onModule_eq, if_neg (by simp [h1, hb])]

end

/-- A channel still in current limit as its blanking ends. -/
def SwCh.limited (ch : SwCh) : SwCh := { ch with blankOver := true, inLimit := true }

section
variable (hc : c < s.m.sw.chans.length) (h1 : (s.m.swc c).state = 1)
include hc h1

omit hc in
theorem exec_blankingEnd_limited : exec (.blankingEnd c true) s = .next { s with
    m := (s.m.modSw c SwCh.limited).cutOff c } := by
  show execBlankingEnd c true s = _
  unfold execBlankingEnd
  rw [onModule_eq, if_pos h1]
  rfl

theorem blankingEnd_latches (hl : (s.m.swCfg c).load ≠ .lamp) : ∃ t, Answers (.blankingEnd c true) s t ∧
    SwKeeps c s.m t.m ∧ t.m.swc c = (s.m.swc c).limited.latched 2 := by
  have hstep := (s.m.modSw_step c SwCh.limited).trans ((s.m.modSw c SwCh.limited).latchSw_step c 2)
  rw [Module.swc_mod _ _ _ hc] at hstep
  exact answers_of_swMoved ((exec_blankingEnd_limited h1).trans (by rw [Module.cutOff_latches (m := s.m.modSw c SwCh.limited) (.inl hl)])) hstep hc

theorem blankingEnd_lampWaits (hl : (s.m.swCfg c).load = .lamp) (hd : s.m.dipped c = false) (hg : s.m.groupHot c = false)
    (ha : (s.m.swc c).attempts < (s.m.swCfg c).lampRetries) : ∃ t, Answers (.blankingEnd c true) s t ∧
      SwKeeps c s.m t.m ∧ t.m.swc c = { (s.m.swc c).calm with state := 3, shortNow := 0 } := by
  have hcut : (s.m.swc c).limited.cut (s.m.modSw c SwCh.limited) c = { (s.m.swc c).calm with state := 3, shortNow := 0 } := by
    rw [SwCh.cut, if_pos (by exact ⟨hl, h1⟩), SwCh.lampOver, if_neg (by exact Nat.not_le.2 ha),
      Module.hold_free (by exact hd) (by exact hg)]
    rfl
  have hstep := (s.m.modSw_step c SwCh.limited).trans ((s.m.modSw c SwCh.limited).cutOff_step c)
  rw [Module.swc_mod _ _ _ hc, hcut] at hstep
  exact answers_of_swMoved (exec_blankingEnd_limited h1) hstep hc

end

/-! ### The windows of a lamp and of a pause (R301, R303) -/

theorem exec_warmupWindowExpire_latches
    (h : (s.m.swc c).state = 1 ∨ ((s.m.swc c).state = 3 ∧ (s.m.swc c).thermalOn = false))
    (hl : (s.m.swCfg c).load = .lamp) : exec (.warmupWindowExpire c) s = .next { s with m := s.m.latchSw c 3 } := by
  show execWarmupWindowExpire c s = _
  unfold execWarmupWindowExpire
  rw [onModule_eq, if_pos ⟨hl, h⟩]

theorem exec_pauseExpire_latches (h4 : (s.m.swc c).state = 4) (hp : (s.m.swc c).dipPause = false) :
    exec (.pauseExpire c) s = .next { s with m := s.m.latchSw c 4 } := by
  show execPauseExpire c s = _
  unfold execPauseExpire
  rw [onModule_eq, if_pos ⟨h4, hp⟩]

theorem exec_pauseExpire_dipped (hp : (s.m.swc c).dipPause = true) : exec (.pauseExpire c) s = .next s := by
  show execPauseExpire c s = _
  unfold execPauseExpire
  rw [onModule_eq, if_neg (by simp [hp])]

end

/-! ### The refresh (R308, R309) -/

section
variable (ch : SwCh) (m : Module) (n : Nat) (on : Bool)

theorem SwCh.turnedOn_reads : (ch.turnedOn m n).current = ch.current := by
  unfold SwCh.turnedOn
  split
  · rfl
  · rw [Module.hold_eq]
    rfl

/-- What a channel does about a state it was told moves neither that state nor what the SWI reads of it. -/
theorem SwCh.obeyed_keeps : (ch.obeyed m n on).commanded = ch.commanded ∧ (ch.obeyed m n on).current = ch.current := by
  unfold SwCh.obeyed
  split_ifs
  any_goals exact ⟨rfl, rfl⟩
  exact ⟨ch.turnedOn_commanded m n, ch.turnedOn_reads m n⟩

/-- A latched channel stays latched, whatever it is told (R308). -/
theorem SwCh.applied_latched (h5 : ch.state = 5) (hu : (m.swCfg n).load ≠ .unused) : (ch.applied m n on).state = 5 := by
  have htold : (ch.told m n on).state = 5 := h5
  rw [SwCh.applied, SwCh.obeyed, if_neg hu, if_pos htold, htold]

/-- A channel that is off and told ON begins a turn-on that nothing forbids. -/
theorem SwCh.applied_on (h0 : ch.state = 0) (hu : (m.swCfg n).load ≠ .unused) (hf : m.follows = false)
    (ho : m.sup.outputsOff = false) (hd : m.dipped n = false) (hg : m.groupHot n = false) :
    (ch.applied m n true).state = 1 := by
  have htold : (ch.told m n true).state = 0 := h0
  rw [SwCh.applied, SwCh.obeyed, if_neg hu, if_neg (by omega), if_neg (by simp [ho]), if_neg (by decide),
    if_neg (by simp [hf]), if_pos htold, SwCh.turnedOn_free _ m n ho hd hg]
  rfl

/-- What the SWI reports of a channel with a refresh (R318). -/
def SwCh.reported (ch : SwCh) (n : Nat) (is : List Int) (vs : List Nat) : SwCh :=
  { ch with current := is.getD n ch.current, vOut := vs.getD n ch.vOut }

/-- The module whose switch watchdog a refresh has answered. -/
def Module.refreshed (m : Module) (is : List Int) (vs : List Nat) : Module :=
  { m with sw := { m.sw with
    expired := false, suspended := false
    chans := m.sw.chans.zipIdx.map (fun (p : SwCh × Nat) => p.1.reported p.2 is vs) } }

/-- What leaves with a refresh: the image to the SWI, the follower's currents and the leader's image to the partner. -/
def Module.sendRefresh (m : Module) (source : RefreshFrom) : Module :=
  let m := m.emit (.refresh (if source = .vsi then some m.sw.image else none))
  let m := if m.follows then m.emit (.pairImage none (m.sw.chans.map (·.current))) else m
  if source = .vsi ∧ m.leads ∧ m.isPair then m.emit (.pairImage (some m.sw.image) []) else m

theorem Module.sendRefresh_sends (source : RefreshFrom) :
    m.sendRefresh source = { m with outbox := (m.sendRefresh source).outbox } := by
  unfold Module.sendRefresh
  dsimp only
  split_ifs <;> rfl

theorem Module.refreshed_swc (is : List Int) (vs : List Nat) (h : n < m.sw.chans.length) (source : RefreshFrom) :
    ((m.refreshed is vs).sendRefresh source).swc n = (m.swc n).reported n is vs := by
  rw [Module.sendRefresh_sends]
  exact getD_zipIdx_map_of_lt m.sw.chans (fun p => p.1.reported p.2 is vs) h {} {}

end

section
variable {s : State}

theorem exec_swRefresh_bad (source : RefreshFrom) (is : List Int) (vs : List Nat) :
    exec (.swRefresh source false is vs) s = .next s := by
  show execSwRefresh source false is vs s = _
  unfold execSwRefresh
  rw [onModule_eq, if_neg (by simp)]

theorem exec_swRefresh_mgi (is : List Int) (vs : List Nat) (h : s.m.swiServes = true) (hu : s.m.up .mgi = true) :
    exec (.swRefresh .mgi true is vs) s = .next { s with m := (s.m.refreshed is vs).sendRefresh .mgi } := by
  show execSwRefresh .mgi true is vs s = _
  unfold execSwRefresh
  rw [onModule_eq, if_pos ⟨rfl, h, hu⟩]
  rfl

theorem exec_swRefresh_vsi (is : List Int) (vs : List Nat) (h : s.m.swiServes = true) (hu : s.m.up .vsi = true)
    (hset : s.m.conf?.isSome = true) (hslot : s.m.sup.slot ≠ .invalid) :
    exec (.swRefresh .vsi true is vs) s = .next { s with
      m := ((s.m.refreshed is vs).sendRefresh .vsi).eachSw (fun m n => m.applySw n (m.sw.image.getD n false)) } := by
  have hsends := (s.m.refreshed is vs).sendRefresh_sends .vsi
  have hcond : RefreshFrom.vsi = .vsi ∧ ((s.m.refreshed is vs).sendRefresh .vsi).conf?.isSome = true ∧
      ((s.m.refreshed is vs).sendRefresh .vsi).sup.slot ≠ .invalid := by
    rw [hsends]
    exact ⟨rfl, hset, hslot⟩
  show execSwRefresh .vsi true is vs s = _
  unfold execSwRefresh
  rw [onModule_eq, if_pos ⟨rfl, h, hu⟩]
  exact congrArg (fun k => Host.Outcome.next { s with m := k }) (if_pos hcond)

/-- A refresh of the VSI takes each channel to what its image says of it. -/
theorem swRefresh_vsi_channels (is : List Int) (vs : List Nat) (hl : s.m.sw.chans.length = 24) (h : s.m.swiServes = true)
    (hu : s.m.up .vsi = true) (hset : s.m.conf?.isSome = true) (hslot : s.m.sup.slot ≠ .invalid) :
    ∃ t, Answers (.swRefresh .vsi true is vs) s t ∧ SwSame ((s.m.refreshed is vs).sendRefresh .vsi) t.m ∧
      ∀ c, c < 24 → t.m.swc c = ((s.m.swc c).reported c is vs).applied ((s.m.refreshed is vs).sendRefresh .vsi) c
        (s.m.sw.image.getD c false) := by
  have hsends := (s.m.refreshed is vs).sendRefresh_sends .vsi
  have hlen : ((s.m.refreshed is vs).sendRefresh .vsi).sw.chans.length = 24 := by
    rw [hsends]
    simpa [Module.refreshed] using hl
  have himage : ((s.m.refreshed is vs).sendRefresh .vsi).sw.image = s.m.sw.image := by
    rw [hsends]
    rfl
  obtain ⟨t, ht, hsame, hall⟩ := answers_of_eachSw (g := fun m n ch => ch.applied m n (m.sw.image.getD n false))
    (exec_swRefresh_vsi is vs h hu hset hslot) (fun m n hn => m.applySw_step n _ hn) (fun m m' n ch hsame => by
      rw [SwCh.applied_same hsame, show m'.sw.image = m.sw.image by rw [hsame]]) hlen
  refine ⟨t, ht, hsame, fun c hc => ?_⟩
  rw [hall c hc, Module.refreshed_swc _ _ _ _ (by omega), himage]

/-! ### The open-load tests (R305, R306) -/

section
variable {c : Nat} (hc : c < s.m.sw.chans.length)
include hc

theorem openLoadOnExpire_tests (i : Int) (h2 : (s.m.swc c).state = 2) (he : (s.m.swCfg c).openOnEn = true)
    (hf : s.m.follows = false) {low : Bool}
    (hlow : low = decide (i + (if s.m.isPair then s.m.sw.partnerCur.getD c 0 else 0) < ((s.m.swCfg c).iOpen : Int))) :
    ∃ t, Answers (.openLoadOnExpire c i) s t ∧ SwKeeps c s.m t.m ∧ t.m.swc c = { s.m.swc c with openOn := low } ∧
      t.m.holds cOpenLoadOn scSwitch c = low := by
  have hexec : exec (.openLoadOnExpire c i) s = .next { s with
      m := (s.m.modSw c (fun ch => { ch with openOn := low })).setCond low .swi cOpenLoadOn sevWarning scSwitch c } := by
    show execOpenLoadOnExpire c i s = _
    unfold execOpenLoadOnExpire
    rw [onModule_eq, if_pos ⟨h2, he, hf⟩, hlow]
  obtain ⟨hkeeps, -, hch⟩ := (s.m.modSw_step c (fun ch => { ch with openOn := low })).only
    (Module.setCond_only _ low .swi cOpenLoadOn sevWarning scSwitch c _)
  exact ⟨_, ⟨hexec, rfl, rfl⟩, hkeeps, hch hc, Module.setCond_holds _ _ _ _ _ _ _ _ (by decide)⟩

end

/-- A channel after an off-state test that found `found`: 1 nothing, 2 an open load, 3 a short to the supply. The third in
a row counts. -/
def SwCh.offTested (ch : SwCh) (found : Nat) : SwCh :=
  let run := if ch.offLast = found then min 3 (ch.offRun + 1) else 1
  let x : SwCh := { ch with offLast := found, offRun := run }
  if run < 3 then x
  else if found = 1 then { x with openOff := false, shortSup := false }
  else if found = 2 then { x with openOff := true }
  else { x with shortSup := true }

/-- The same of the module's channel, with the conditions that follow it. -/
def Module.offTested (m : Module) (c found : Nat) : Module :=
  let run := if (m.swc c).offLast = found then min 3 ((m.swc c).offRun + 1) else 1
  let n := m.modSw c (fun ch => { ch with offLast := found, offRun := run })
  if run < 3 then n
  else if found = 1 then
    ((n.modSw c (fun ch => { ch with openOff := false, shortSup := false })).clear .swi cOpenLoadOff scSwitch c).clear .swi
      cShortToSupply scSwitch c
  else if found = 2 then (n.modSw c (fun ch => { ch with openOff := true })).raise .swi cOpenLoadOff sevWarning scSwitch c
  else (n.modSw c (fun ch => { ch with shortSup := true })).raise .swi cShortToSupply sevWarning scSwitch c

section
variable (m : Module) (c found : Nat) (hc : c < m.sw.chans.length)
include hc

theorem Module.offTested_step : SwStep c m (m.offTested c found) ((m.swc c).offTested found) := by
  unfold Module.offTested SwCh.offTested
  dsimp only
  generalize (if (m.swc c).offLast = found then min 3 ((m.swc c).offRun + 1) else 1) = run
  have hrun := m.modSw_step c (fun ch => { ch with offLast := found, offRun := run })
  have hnext : ∀ f : SwCh → SwCh, SwStep c m ((m.modSw c (fun ch => { ch with offLast := found, offRun := run })).modSw c f)
      (f { m.swc c with offLast := found, offRun := run }) := fun f => by
    have hstep := hrun.trans (Module.modSw_step _ c f)
    rwa [Module.swc_mod _ _ _ hc] at hstep
  split
  · exact hrun
  · split
    · exact ((hnext _).only (Module.clear_only _ _ _ _ _)).only (Module.clear_only _ _ _ _ _)
    · split
      · exact (hnext _).only (Module.raise_only _ _ _ _ _ _ _ _)
      · exact (hnext _).only (Module.raise_only _ _ _ _ _ _ _ _)

end

theorem SwCh.offTested_last (ch : SwCh) (found : Nat) : (ch.offTested found).offLast = found := by
  unfold SwCh.offTested
  dsimp only
  split_ifs <;> rfl

/-- A finding other than the last begins a new run and changes nothing yet. -/
theorem SwCh.offTested_new {ch : SwCh} {found : Nat} (h : ch.offLast ≠ found) :
    ch.offTested found = { ch with offLast := found, offRun := 1 } := by
  unfold SwCh.offTested
  dsimp only
  rw [if_neg h, if_pos (by decide)]

section
variable {m : Module} {c found : Nat} (h : (m.swc c).offLast = found) (hr : 2 ≤ (m.swc c).offRun)
include h hr

/-- The third finding in a row counts. -/
theorem SwCh.offTested_third : (m.swc c).offTested found =
    (if found = 1 then { m.swc c with offLast := found, offRun := 3, openOff := false, shortSup := false }
    else if found = 2 then { m.swc c with offLast := found, offRun := 3, openOff := true }
    else { m.swc c with offLast := found, offRun := 3, shortSup := true }) := by
  have hrun : min 3 ((m.swc c).offRun + 1) = 3 := by omega
  unfold SwCh.offTested
  dsimp only
  rw [if_pos h, hrun, if_neg (by decide)]

theorem Module.offTested_clears (h1 : found = 1) : (m.offTested c found).holds cOpenLoadOff scSwitch c = false ∧
    (m.offTested c found).holds cShortToSupply scSwitch c = false := by
  have hrun : min 3 ((m.swc c).offRun + 1) = 3 := by omega
  unfold Module.offTested
  dsimp only
  rw [if_pos h, hrun, if_neg (by decide), if_pos h1]
  refine ⟨?_, Module.clear_holds _ _ _ _ _ (by decide)⟩
  rw [Module.clear_other _ _ _ _ _ _ _ _ (by decide) (by decide)]
  exact Module.clear_holds _ _ _ _ _ (by decide)

theorem Module.offTested_open (h2 : found = 2) : (m.offTested c found).holds cOpenLoadOff scSwitch c = true := by
  have hrun : min 3 ((m.swc c).offRun + 1) = 3 := by omega
  unfold Module.offTested
  dsimp only
  rw [if_pos h, hrun, if_neg (by decide), if_neg (by omega), if_pos h2]
  exact Module.raise_holds _ _ _ _ _ _ _ _

theorem Module.offTested_short (h3 : found = 3) : (m.offTested c found).holds cShortToSupply scSwitch c = true := by
  have hrun : min 3 ((m.swc c).offRun + 1) = 3 := by omega
  unfold Module.offTested
  dsimp only
  rw [if_pos h, hrun, if_neg (by decide), if_neg (by omega), if_neg (by omega)]
  exact Module.raise_holds _ _ _ _ _ _ _ _

end

/-- What the readings of an off-state test find. -/
def offFinding (upHigh downHigh : Bool) : Nat := if upHigh = false then 1 else if downHigh = false then 2 else 3

theorem exec_offStateTest {c : Nat} {u d : Bool} (h0 : (s.m.swc c).state = 0) (he : (s.m.swCfg c).openOffEn = true)
    (hf : s.m.follows = false) (hp : (s.m.swc c).partnerOn = false) (hud : u = true ∨ d = false) :
    exec (.offStateTest c u d) s = .next { s with m := s.m.offTested c (offFinding u d) } := by
  show execOffStateTest c u d s = _
  unfold execOffStateTest
  rw [onModule_eq, if_pos ⟨h0, he, hf, hp, hud⟩]
  rfl

/-! ### A follower's turn-on (R314) -/

section
variable {c : Nat} (hc : c < s.m.sw.chans.length)
include hc

theorem partnerChannelOn_turnsOn (hf : s.m.follows = true) (hs : s.m.swiServes = true) (h0 : (s.m.swc c).state = 0)
    (hcmd : (s.m.swc c).commanded = true) (hu : (s.m.swCfg c).load ≠ .unused) (ho : s.m.sup.outputsOff = false)
    (hd : s.m.dipped c = false) : ∃ t, Answers (.partnerChannelOn c) s t ∧ SwKeeps c s.m t.m ∧
      (t.m.swc c).state = 2 ∧ (t.m.swc c).partnerOn = true := by
  have hmod := s.m.modSw_step c (fun ch => { ch with partnerOn := true })
  obtain ⟨hkeeps, hlen, hch⟩ := hmod
  have hstep := (s.m.modSw_step c (fun ch => { ch with partnerOn := true })).trans
    ((s.m.modSw c (fun ch => { ch with partnerOn := true })).applySw_step c true (by omega))
  have happlied : ({ s.m.swc c with partnerOn := true } : SwCh).applied
      (s.m.modSw c (fun ch => { ch with partnerOn := true })) c true =
        { (({ s.m.swc c with partnerOn := true } : SwCh).told (s.m.modSw c (fun ch => { ch with partnerOn := true })) c true).calm
          with state := 2 } := by
    rw [SwCh.applied, SwCh.obeyed, if_neg (by exact hu), if_neg (by simp [SwCh.told, h0]), if_neg (by simp [ho]),
      if_neg (by decide), if_pos (by exact hf), if_pos (by exact .inl h0), if_pos (by simp [SwCh.told]),
      if_neg (by exact ne_true_of_eq_false hd)]
  rw [hch hc, happlied] at hstep
  have hexec : exec (.partnerChannelOn c) s = .next { s with
      m := (s.m.modSw c (fun ch => { ch with partnerOn := true })).applySw c true } := by
    show execPartnerChannelOn c s = _
    unfold execPartnerChannelOn
    rw [onModule_eq]
    dsimp only
    rw [if_pos (by rw [hch hc]; exact ⟨hf, hs, h0, hcmd⟩)]
  obtain ⟨t, ht, hk, hsw⟩ := answers_of_swMoved hexec hstep hc
  refine ⟨t, ht, hk, ?_⟩
  rw [hsw]
  exact ⟨rfl, by simp [SwCh.calm, SwCh.told]⟩

theorem partnerChannelOn_notes (hf : s.m.follows = false) : ∃ t, Answers (.partnerChannelOn c) s t ∧ SwKeeps c s.m t.m ∧
    t.m.swc c = { s.m.swc c with partnerOn := true } := by
  refine answers_of_swMoved ?_ (s.m.modSw_step c (fun ch => { ch with partnerOn := true })) hc
  show execPartnerChannelOn c s = _
  unfold execPartnerChannelOn
  rw [onModule_eq]
  dsimp only
  rw [if_neg fun h => absurd (show s.m.follows = true from h.1) (ne_true_of_eq_false hf)]

end

end

end Machine

/-- Settles O18: each event of an attempt and each latch as one step of its channel. -/
theorem switchAttemptsAndLatches : Obligations.SwitchAttemptsAndLatches := by
  refine ⟨fun s c hc => ⟨fun h1 => ⟨turnOnComplete_steady h1 hc, exec_turnOnComplete_driving, drivePhaseEnd_done h1 hc,
      blankingEnd_clear h1 hc⟩,
    fun h1 => ⟨exec_turnOnComplete_idle h1, exec_drivePhaseEnd_idle h1, exec_blankingEnd_idle h1⟩,
    fun h3 hd hg => ⟨shortGapExpire_attempts h3 hd hg hc, fun hs ht hl ha => lampRetryStart_attempts h3 hd hg hc hs hl ha ht,
      fun hs ht => ⟨exec_junctionRestart_latches h3 hs ht,
        fun hon hl ha => junctionRestart_attempts h3 hd hg hc hs hl ha ht hon⟩⟩⟩,
    fun s c hc => ⟨fun k => ?_, fun hon => ⟨fun h0 hd hg => ?_, fun h0 => ?_, fun hd hg hl => ?_⟩,
      exec_junctionShutdown_latches,
      fun h2 => ⟨exec_currentLimitExpire_latches (.inl h2) (.inr (by omega)),
        exec_overloadExpire_latches (.inl h2) (.inr (by omega))⟩,
      fun h1 hb => ⟨exec_currentLimitExpire_blanked h1 hb, exec_overloadExpire_blanked h1 hb⟩,
      fun h1 hl => ⟨?_, fun hb => ⟨exec_currentLimitExpire_latches (.inr ⟨h1, hb⟩) (.inl hl),
        exec_overloadExpire_latches (.inr ⟨h1, hb⟩) (.inl hl)⟩⟩,
      fun h1 hl hd hg ha => blankingEnd_lampWaits hc h1 hl hd hg ha, exec_warmupWindowExpire_latches,
      exec_pauseExpire_latches, exec_pauseExpire_dipped⟩⟩
  · obtain ⟨hkeeps, -, hch⟩ := s.m.latchSw_step c k
    rw [hch hc]
    exact ⟨hkeeps, rfl, rfl, rfl, s.m.latchSw_holds c k⟩
  · obtain ⟨t, ht, hkeeps, hch⟩ := switchShortAttempt_waits hc hon h0 hd hg
    refine ⟨t, ht, hkeeps, ?_⟩
    rw [hch]
    exact ⟨rfl, rfl, rfl, rfl⟩
  · obtain ⟨t, ht, hkeeps, hch⟩ := switchShortAttempt_latches hc hon h0
    refine ⟨t, ht, hkeeps, ?_⟩
    rw [hch]
    exact ⟨rfl, rfl, rfl⟩
  · obtain ⟨t, ht, hkeeps, hch⟩ := junctionShutdown_waits hc hon hd hg hl
    refine ⟨t, ht, hkeeps, ?_⟩
    rw [hch]
    exact ⟨rfl, rfl, rfl⟩
  · obtain ⟨t, ht, hkeeps, hch⟩ := blankingEnd_latches hc h1 hl
    refine ⟨t, ht, hkeeps, ?_⟩
    rw [hch]
    exact ⟨rfl, rfl⟩

/-- Settles O21: a refresh through what each channel is told, the tests through their run of three, and the follower's
turn-on. -/
theorem switchRefreshAndTests : Obligations.SwitchRefreshAndTests := by
  intro s hl
  have lt : ∀ {c}, c < 24 → c < s.m.sw.chans.length := fun hc => hl.symm ▸ hc
  refine ⟨exec_swRefresh_bad, fun is vs h hu => ⟨_, ⟨exec_swRefresh_mgi is vs h hu, rfl, rfl⟩, ?_,
      fun c hc => Module.refreshed_swc _ _ _ _ (lt hc) _⟩,
    fun is vs h hu hset hslot => ?_, fun c i hc h2 he hf => openLoadOnExpire_tests (lt hc) i h2 he hf rfl,
    fun c hc h0 he hf hp => ⟨fun u d hud => ?_, fun hlast hrun => ?_, fun hlast hrun => ?_, fun hlast hrun => ?_⟩,
    fun c hc hf hs h0 hcmd hu ho hd => partnerChannelOn_turnsOn (lt hc) hf hs h0 hcmd hu ho hd,
    fun c hc hf => partnerChannelOn_notes (lt hc) hf⟩
  · rw [Module.sendRefresh_sends]
    rfl
  · obtain ⟨t, ht, hsame, hall⟩ := swRefresh_vsi_channels is vs hl h hu hset hslot
    rw [Module.sendRefresh_sends] at hsame hall
    refine ⟨t, ht, hsame, fun c hc => ?_⟩
    rw [hall c hc]
    obtain ⟨hcommanded, hcurrent⟩ := SwCh.obeyed_keeps (((s.m.swc c).reported c is vs).told
      { s.m.refreshed is vs with outbox := ((s.m.refreshed is vs).sendRefresh .vsi).outbox } c (s.m.sw.image.getD c false))
      { s.m.refreshed is vs with outbox := ((s.m.refreshed is vs).sendRefresh .vsi).outbox } c (s.m.sw.image.getD c false)
    refine ⟨hcommanded, fun h5 hu => SwCh.applied_latched _ _ _ _ h5 hu, hcurrent, fun h5 hoff => ?_,
      fun h0 hon hu hf ho hd hg => ?_⟩
    · rw [hoff]
      exact SwCh.applied_off _ _ _ h5
    · rw [hon]
      exact SwCh.applied_on _ _ _ h0 hu hf ho hd hg
  · obtain ⟨t, ht, hkeeps, hch⟩ := answers_of_swMoved (exec_offStateTest h0 he hf hp hud)
      (s.m.offTested_step c _ (lt hc)) (lt hc)
    refine ⟨t, ht, hkeeps, ?_, fun hne => ?_⟩
    · rw [hch, SwCh.offTested_last]
      rfl
    · rw [hch, SwCh.offTested_last] at hne
      rw [hch, SwCh.offTested_new hne]
      exact ⟨rfl, rfl, rfl⟩
  · obtain ⟨hkeeps, -, hch⟩ := s.m.offTested_step c 1 (lt hc)
    rw [SwCh.offTested_third hlast hrun] at hch
    exact ⟨_, ⟨exec_offStateTest h0 he hf hp (.inr rfl), rfl, rfl⟩, hkeeps, congrArg SwCh.openOff (hch (lt hc)),
      congrArg SwCh.shortSup (hch (lt hc)), Module.offTested_clears hlast hrun rfl⟩
  · obtain ⟨hkeeps, -, hch⟩ := s.m.offTested_step c 2 (lt hc)
    rw [SwCh.offTested_third hlast hrun] at hch
    exact ⟨_, ⟨exec_offStateTest h0 he hf hp (.inl rfl), rfl, rfl⟩, hkeeps, congrArg SwCh.openOff (hch (lt hc)),
      Module.offTested_open hlast hrun rfl⟩
  · obtain ⟨hkeeps, -, hch⟩ := s.m.offTested_step c 3 (lt hc)
    rw [SwCh.offTested_third hlast hrun] at hch
    exact ⟨_, ⟨exec_offStateTest h0 he hf hp (.inl rfl), rfl, rfl⟩, hkeeps, congrArg SwCh.shortSup (hch (lt hc)),
      Module.offTested_short hlast hrun rfl⟩

end Sys2Proof

/-! ## Resynchronisation and the leader's sets over the pair link (R349, R350, R440, R444) -/

namespace Sys2Proof

open Machine

namespace Machine

/-! ### What each frame does once it is heard -/

/-- A block of the leader's snapshot comes to a follower that has asked for it. -/
def Module.hearChunk (m : Module) (b : Nat) (last : Bool) (img : Option StateImage) : Module :=
  if m.pair.role = .syncing ∧ m.pair.resync.requested then
    let r := m.pair.resync.count b
    let m : Module := { m with pair := { m.pair with resync := r } }
    if r.lost = [] ∧ (last ∨ imageCount ≤ r.next) then
      match img with
      | some i => m.completeResync i
      | none => m
    else if last then m.emit (.pairCtrl 1 0 0 r.lost)
    else m
  else m

/-- A follower with a generation asks the leader for a snapshot. -/
def Module.hearResync (m : Module) (g : Nat) : Module :=
  if m.leads then
    let m : Module := { m with pair := { m.pair with partnerGen := some g, equalRun := 0 } }
    match m.sharedGen g with
    | some own => { m with pair := { m.pair with gen := own, serve := true } }
    | none => m
  else m

/-- A follower names blocks of the snapshot that it lacks. -/
def Module.hearResend (m : Module) (bs : List Nat) : Module :=
  if m.leads ∧ bs ≠ [] then
    match m.pair.snap with
    | some i => m.emit (.pairState i)
    | none => m
  else m

/-- A follower asks for a set. -/
def Module.hearSetWish (m : Module) (slot : Nat) : Module :=
  if m.leads then m.streamSet slot (if slot = 0 then m.sets.active else m.sets.pending) else m

/-- Bytes of a set of the leader come. -/
def Module.hearSetChunk (m : Module) (slot offset : Nat) (data : List Byte) : Module :=
  if m.follows && (decide (slot ≠ 0) || m.pair.setWanted) then
    let held := takeChunk (if slot = 0 then m.pair.setBuf else m.sets.pending.blocks) offset data
    let whole := decide (setSize? held = some (bytesHeld held))
    let b := assembled held (bytesHeld held)
    if slot = 0 then
      let m : Module := { m with pair := { m.pair with setBuf := if whole then [] else held } }
      if whole then m.takeActive b else m
    else if whole then m.takeStreamed b
    else { m with sets := { m.sets with
      pending := { state := 1, size := (setSize? held).getD 0, blocks := held, received := bytesHeld held } } }
  else m

section
variable {s : State} {h : PairHdr}

theorem exec_stateChunkRx {b : Nat} {last : Bool} {img : Option StateImage} : exec (.stateChunkRx h b last img) s =
    .next { s with m := s.m.hears h (fun m => m.hearChunk b last img) } := rfl

theorem exec_streamCtrlResync {g : Nat} : exec (.streamCtrlResync h g) s =
    .next { s with m := s.m.hears h (fun m => m.hearResync g) } := rfl

theorem exec_streamCtrlResend {bs : List Nat} : exec (.streamCtrlResend h bs) s =
    .next { s with m := s.m.hears h (fun m => m.hearResend bs) } := rfl

theorem exec_streamCtrlSet {slot : Nat} : exec (.streamCtrlSet h slot) s =
    .next { s with m := s.m.hears h (fun m => m.hearSetWish slot) } := rfl

theorem exec_setChunkRx {slot offset : Nat} {data : List Byte} : exec (.setChunkRx h slot offset data) s =
    .next { s with m := s.m.hears h (fun m => m.hearSetChunk slot offset data) } := rfl

end

/-! ### Blocks of a snapshot (R349) -/

section
variable {r : Resync} {b : Nat}

theorem Resync.count_next (hb : b = r.next) (hl : r.lost = []) : (r.count b).lost = [] ∧ (r.count b).next = b + 1 := by
  subst hb
  simp [Resync.count, hl]

/-- Every block between the one awaited and the one that came is noted as lost. -/
theorem Resync.mem_count_lost {c : Nat} (h1 : r.next ≤ c) (h2 : c < b) : c ∈ (r.count b).lost := by
  rw [Resync.count, if_pos (by omega)]
  exact List.mem_append_right _ (List.mem_map.2 ⟨c - r.next, List.mem_range.2 (by omega), by omega⟩)

end

/-- The module with its resynchronisation at `r`. -/
def Module.atBlock (m : Module) (r : Resync) : Module := { m with pair := { m.pair with resync := r } }

section
variable {m : Module} {b : Nat} {r : Resync}

theorem Module.hearChunk_idle {last : Bool} {img : Option StateImage} (hr : m.pair.role ≠ .syncing) :
    m.hearChunk b last img = m := if_neg fun e => hr e.1

variable (hr : m.pair.role = .syncing) (he : m.pair.resync = r) (hq : r.requested = true)
include hr he hq

theorem Module.hearChunk_gap {last : Bool} {img : Option StateImage} (hl : (r.count b).lost ≠ []) :
    m.hearChunk b last img =
      if last then (m.atBlock (r.count b)).emit (.pairCtrl 1 0 0 (r.count b).lost) else m.atBlock (r.count b) := by
  subst he
  exact (if_pos ⟨hr, hq⟩).trans (if_neg fun e => hl e.1)

theorem Module.hearChunk_complete {img : StateImage} (hl : (r.count b).lost = []) :
    m.hearChunk b true (some img) = (m.atBlock (r.count b)).completeResync img := by
  subst he
  exact (if_pos ⟨hr, hq⟩).trans (if_pos ⟨hl, .inl rfl⟩)

theorem Module.hearChunk_more {img : Option StateImage} (hn : (r.count b).next < imageCount) :
    m.hearChunk b false img = m.atBlock (r.count b) := by
  subst he
  refine (if_pos ⟨hr, hq⟩).trans ((if_neg fun e => ?_).trans (if_neg Bool.false_ne_true))
  rcases e.2 with e | e
  · exact Bool.false_ne_true e
  · exact absurd hn (Nat.not_lt.2 e)

end

/-! ### What the leader serves (R349, R350, R440, R444) -/

section
variable {m : Module}

theorem Module.hearResync_shared {g own : Nat} (hl : m.leads = true) (hg : m.sharedGen g = some own) :
    m.hearResync g = { m with pair := { m.pair with
      partnerGen := some g, equalRun := 0, gen := own, serve := true } } := by
  have hg' : Module.sharedGen { m with pair := { m.pair with partnerGen := some g, equalRun := 0 } } g = some own := hg
  simp only [Module.hearResync, hl, if_true, hg']

theorem Module.hearResync_none {g : Nat} (hl : m.leads = true) (hg : m.sharedGen g = none) :
    m.hearResync g = { m with pair := { m.pair with partnerGen := some g, equalRun := 0 } } := by
  have hg' : Module.sharedGen { m with pair := { m.pair with partnerGen := some g, equalRun := 0 } } g = none := hg
  simp only [Module.hearResync, hl, if_true, hg']

theorem Module.hearResend_snap {bs : List Nat} {i : StateImage} (hl : m.leads = true) (hb : bs ≠ [])
    (hi : m.pair.snap = some i) : m.hearResend bs = m.emit (.pairState i) := by
  simp only [Module.hearResend, if_pos (And.intro hl hb), hi]

variable (hl : m.leads = false)
include hl

theorem Module.hearResync_follower (g : Nat) : m.hearResync g = m := if_neg (Bool.eq_false_iff.1 hl)

theorem Module.hearResend_follower (bs : List Nat) : m.hearResend bs = m := if_neg fun e => Bool.eq_false_iff.1 hl e.1

theorem Module.hearSetWish_follower (slot : Nat) : m.hearSetWish slot = m := if_neg (Bool.eq_false_iff.1 hl)

end

/-- The piece in place `i` is what stands from `n * i` on. -/
theorem pieces_at {α : Type} (n : Nat) {c : List α} (k : Nat) (l : List α) (i : Nat)
    (h : (pieces n k l)[i]? = some c) : c = (l.drop (n * i)).take n := by
  induction k generalizing l i with
  | zero => simp [pieces] at h
  | succ k ih =>
    cases i with
    | zero => simpa [pieces] using h.symm
    | succ i =>
      have hi := ih (l.drop n) i (by simpa [pieces] using h)
      rw [hi, List.drop_drop, Nat.mul_succ, Nat.add_comm]

theorem Module.foldl_emit {α : Type} (f : α → Out) (l : List α) (m : Module) :
    l.foldl (fun m x => m.emit (f x)) m = { m with outbox := (l.map f).reverse ++ m.outbox } := by
  induction l generalizing m with
  | nil => rfl
  | cons x t ih =>
    rw [List.foldl_cons, ih]
    simp [Module.emit]

/-- The frames in which a set slot leaves, the newest first. -/
def SetSlot.frames (slot : Nat) (x : SetSlot) : List Out :=
  ((pieces 4096 ((x.size + 4095) / 4096) x.bytes).zipIdx.map (fun c => Out.pairSet slot (4096 * c.2) c.1)).reverse

theorem Module.streamSet_eq (m : Module) (slot : Nat) (x : SetSlot) :
    m.streamSet slot x = { m with outbox := x.frames slot ++ m.outbox } :=
  Module.foldl_emit (fun (c : List Byte × Nat) => Out.pairSet slot (4096 * c.2) c.1) _ m

/-- A frame of a set carries the bytes from its offset on. -/
theorem SetSlot.mem_frames {slot : Nat} {x : SetSlot} {o : Out} (h : o ∈ x.frames slot) :
    ∃ at_, o = .pairSet slot at_ ((x.bytes.drop at_).take 4096) := by
  obtain ⟨⟨c, i⟩, hc, rfl⟩ := List.mem_map.1 (List.mem_reverse.1 h)
  exact ⟨4096 * i, by rw [← pieces_at 4096 _ _ i (List.mem_zipIdx_iff_getElem?.1 hc)]⟩

/-! ### Bytes of a set (R350, R444) -/

section
variable {m : Module} (hf : m.follows = true) (offset : Nat) (data : List Byte)

theorem Module.hearSetChunk_leader (hl : m.leads = true) (slot : Nat) : m.hearSetChunk slot offset data = m := by
  simp [Module.hearSetChunk, Module.leads_not_follows hl]

variable {held : List (Nat × List Byte)}
include hf

theorem Module.hearSetChunk_pending (hh : takeChunk m.sets.pending.blocks offset data = held) :
    m.hearSetChunk 1 offset data = if setSize? held = some (bytesHeld held) then
        m.takeStreamed (assembled held (bytesHeld held))
      else { m with sets := { m.sets with
        pending := { state := 1, size := (setSize? held).getD 0, blocks := held, received := bytesHeld held } } } := by
  subst hh
  simp [Module.hearSetChunk, hf]

theorem Module.hearSetChunk_active (hw : m.pair.setWanted = true) (hh : takeChunk m.pair.setBuf offset data = held) :
    m.hearSetChunk 0 offset data = if setSize? held = some (bytesHeld held) then
        Module.takeActive { m with pair := { m.pair with setBuf := [] } } (assembled held (bytesHeld held))
      else { m with pair := { m.pair with setBuf := held } } := by
  subst hh
  by_cases hwhole : setSize? (takeChunk m.pair.setBuf offset data) =
      some (bytesHeld (takeChunk m.pair.setBuf offset data)) <;> simp [Module.hearSetChunk, hf, hw, hwhole]

end

/-! ### The minute after a failed resynchronisation (R349) -/

section
variable {s : State}

theorem exec_resyncRetryExpire_asks (hp : s.m.pairServes = true) (hf : s.m.follows = true)
    (hr : s.m.pair.resync.failed = true) : exec .resyncRetryExpire s = .next { s with
      m := Module.askState { s.m with pair := { s.m.pair with resync := { s.m.pair.resync with failed := false } } } } := by
  show execResyncRetryExpire s = _
  unfold execResyncRetryExpire
  rw [onModule_eq, if_pos ⟨hp, hf, hr⟩]

theorem exec_resyncRetryExpire_idle (hr : s.m.pair.resync.failed = false) : exec .resyncRetryExpire s = .next s :=
  exec_of_onModule_id rfl (if_neg fun e => Bool.eq_false_iff.1 hr e.2.2)

end

end Machine

/-- Settles O34: every frame is heard first and then taken under the role it finds. -/
theorem pairResynchronisation : Obligations.PairResynchronisation := by
  intro s h hp n
  have hears (take : Machine.Module → Machine.Module) : s.m.hears h take = take n := Module.hears_served hp
  have hrole : n.pair.role = s.m.pair.role := s.m.heardPair_role h
  have hpair := s.m.heardPair_pair h
  have hresync : n.pair.resync = s.m.pair.resync := by rw [hpair]
  have hsnap : n.pair.snap = s.m.pair.snap := by rw [hpair]
  have hbuf : n.pair.setBuf = s.m.pair.setBuf := by rw [hpair]
  have hwanted : n.pair.setWanted = s.m.pair.setWanted := by rw [hpair]
  have hleads : n.leads = s.m.leads := s.m.heardPair_leads h
  have hfollows : n.follows = s.m.follows := s.m.heardPair_follows h
  have hsets : n.sets = s.m.sets := Module.heardPair_field Module.sets _ _ fun _ _ _ _ _ _ => rfl
  have hshared : ∀ g, n.sharedGen g = s.m.sharedGen g := fun g =>
    Module.heardPair_field (fun m => m.sharedGen g) _ _ fun _ _ _ _ _ _ => rfl
  simp only [exec_stateChunkRx, exec_streamCtrlResync, exec_streamCtrlResend, exec_setChunkRx, hears]
  refine ⟨fun hr hq b => ⟨n.atBlock (s.m.pair.resync.count b), rfl, fun hl => ⟨fun img => ?_, fun img => ?_⟩, fun hl =>
      ⟨fun img => ?_, fun hn img => ?_⟩⟩, fun hr b last img => ?_, fun r b hb hl => Resync.count_next hb hl,
    fun r b c h1 h2 => Resync.mem_count_lost h1 h2, fun hl => ⟨fun g own hg => ?_, fun g hg => ?_, fun bs i hb hi => ?_,
      fun slot => ?_⟩, fun hl => ⟨fun g => ?_, fun bs => ?_, fun slot => ?_⟩, fun hf off data => ⟨_, rfl, fun hw => ?_,
      fun hw => ?_⟩, fun hf hs off data => ⟨_, rfl, fun hw => ?_, fun hw => ?_⟩, fun hl slot off data => ?_,
    fun hf hr => ⟨_, rfl, exec_resyncRetryExpire_asks hp hf hr⟩, exec_resyncRetryExpire_idle⟩
  · rw [Module.hearChunk_gap (hrole.trans hr) hresync hq hl]
    rfl
  · rw [Module.hearChunk_gap (hrole.trans hr) hresync hq hl]
    rfl
  · rw [Module.hearChunk_complete (hrole.trans hr) hresync hq hl]
  · rw [Module.hearChunk_more (hrole.trans hr) hresync hq hn]
  · rw [Module.hearChunk_idle (hrole ▸ hr)]
  · rw [Module.hearResync_shared (hleads.trans hl) ((hshared g).trans hg)]
  · rw [Module.hearResync_none (hleads.trans hl) ((hshared g).trans hg)]
  · rw [Module.hearResend_snap (hleads.trans hl) hb (hsnap.trans hi)]
  · have hwish : s.m.hears h (fun m => m.hearSetWish slot) = { n with
        outbox := SetSlot.frames slot (if slot = 0 then s.m.sets.active else s.m.sets.pending) ++ n.outbox } := by
      rw [hears, Module.hearSetWish, if_pos (hleads.trans hl), Module.streamSet_eq, hsets]
    refine ⟨_, ⟨exec_streamCtrlSet, rfl, rfl⟩, ?_⟩
    dsimp only
    rw [hwish]
    refine ⟨rfl, _, rfl, fun o ho => ?_, fun at_ data ho => ?_⟩
    · obtain ⟨at_, rfl⟩ := SetSlot.mem_frames ho
      exact ⟨at_, _, rfl, List.length_take_le _ _⟩
    · obtain ⟨at', he⟩ := SetSlot.mem_frames ho
      injection he with _ hat hdata
      rw [hdata, hat]
  · rw [Module.hearResync_follower (hleads.trans hl)]
  · rw [Module.hearResend_follower (hleads.trans hl)]
  · rw [exec_streamCtrlSet, hears, Module.hearSetWish_follower (hleads.trans hl)]
  · rw [Module.hearSetChunk_pending (hfollows.trans hf) off data (by rw [hsets]), if_pos hw]
  · rw [Module.hearSetChunk_pending (hfollows.trans hf) off data (by rw [hsets]), if_neg hw]
  · rw [Module.hearSetChunk_active (hfollows.trans hf) off data (hwanted.trans hs) (by rw [hbuf]), if_pos hw]
  · rw [Module.hearSetChunk_active (hfollows.trans hf) off data (hwanted.trans hs) (by rw [hbuf]), if_neg hw]
  · rw [Module.hearSetChunk_leader off data (hleads.trans hl)]

end Sys2Proof

/-! ## Leadership over the pair link: handover, failover, silence and the token (R339 to R342, R351 to R358) -/

namespace Sys2Proof

open Machine

/-- A command that may start the module anew, and leaves it in the same boot, completes with what its own effect leaves. -/
theorem exec_of_onBoot {i : Instr} {s : State} {f : Machine.Module → Machine.Module} {n : Machine.Module}
    (he : exec i s = onBoot s f) (hn : f s.m = n) (hb : n.sup.bootNo = s.m.sup.bootNo) :
    exec i s = .next { s with m := n } := by
  subst hn
  exact (answers_of_onBoot he hb).1

theorem pointDone_serving {m : Machine.Module} (h : m.sup.parking = false) : pointDone m = m :=
  if_neg fun e => Bool.eq_false_iff.1 h e.1

namespace Machine

/-! ### What leaves supply, lever and pair link as they are -/

section
variable (m : Module)

theorem Module.applySw_sameSupPair (n : Nat) (on : Bool) : SupPairSame m (m.applySw n on) := by
  unfold Module.applySw Module.turnOn
  dsimp only
  split_ifs <;> exact ⟨rfl, rfl⟩

theorem Module.takeSwitches_sameSupPair : SupPairSame m m.takeSwitches := by
  unfold Module.takeSwitches
  split
  · exact SupPairSame.foldl (f := fun m n => m.applySw n (m.sw.image.getD n false))
      (fun m n => m.applySw_sameSupPair n _) _ m
  · exact .refl m

theorem Module.setErr_sameSupPair (c : Nat) (e : CanErr) : SupPairSame m (m.setErr c e) := by
  unfold Module.setErr
  split
  · exact .refl m
  · exact ((m.modCan_sameSupPair c _).trans (.of_only (Module.canConds_only _ c))).trans (.of_only (Module.canState_only _ c))

theorem Module.canInit_sameSupPair (c : Nat) : SupPairSame m (m.canInit c) :=
  ((m.endMirror_sameSupPair c).trans (Module.modCan_sameSupPair _ c _)).trans (Module.setErr_sameSupPair _ c _)

theorem Module.canHandover_sameSupPair : SupPairSame m m.canHandover := by
  refine SupPairSame.foldl (fun m c => ?_) _ m
  split
  · exact m.modCan_sameSupPair c _
  · exact m.canInit_sameSupPair c

theorem Module.enablePorts_sameSupPair : SupPairSame m m.enablePorts := by
  unfold Module.enablePorts
  split
  · obtain ⟨hsup, hpair⟩ := Module.portsDead_sameSupPair { m with
      ports := m.ports.zipIdx.map (fun (p : PortSt × Nat) => { p.1 with
        enabled := decide (p.2 ∈ m.cfg.rings.flatMap (fun r => [m.ownPort r false, m.ownPort r true].filterMap id)) }) }
      (fun p => decide (p ∉ m.cfg.rings.flatMap (fun r => [m.ownPort r false, m.ownPort r true].filterMap id)))
    exact ⟨hsup, hpair⟩
  · exact .refl m

theorem Module.sendKeepalive_sameSupPair : SupPairSame m m.sendKeepalive := by
  unfold Module.sendKeepalive
  split <;> exact ⟨rfl, rfl⟩

/-- Where the source of the time is lost, only the time and its conditions move. -/
theorem Module.sourceGone_only : JournalOnly { m with time := m.sourceGone.time } m.sourceGone := by
  by_cases h : m.time.state = .locked
  · exact (Module.sourceGone_spec h).1
  · rw [Module.sourceGone, if_neg h]
    rfl

theorem Module.sourceGone_sameSupPair : SupPairSame m m.sourceGone := by
  rw [m.sourceGone_only]
  exact ⟨rfl, rfl⟩

/-! ### What leaves the supply and the lever as they are -/

theorem Module.askState_sup : m.askState.sup = m.sup := by
  unfold Module.askState
  split <;> rfl

theorem Module.askLeader_sup : m.askLeader.sup = m.sup := by
  unfold Module.askLeader
  split
  · split <;> rfl
  · exact m.askState_sup

theorem Module.deposed_sup : m.deposed.sup = m.sup :=
  (Module.askLeader_sup _).trans ((Module.enablePorts_sameSupPair _).1.trans (m.dropLead_sup_role .syncing).1)

theorem Module.pulse_only (src : Island) (code sev : Nat) : JournalOnly m (m.pulse src code sev) :=
  (m.raise_only _ _ _ _ _ _ _).trans (Module.clear_only _ _ _ _ _)

theorem Module.offerHandover_sup (h : Nat) : (m.offerHandover h).sup = m.sup := by
  rw [Module.offerHandover_eq]

theorem Module.offerFailed_sup (h : Nat) : (m.offerFailed h).sup = m.sup := by
  unfold Module.offerFailed
  dsimp only
  split
  · exact Module.offerHandover_sup _ _
  · obtain ⟨psup, -⟩ := SupPairSame.of_only (Module.pulse_only { m with
      pair := { m.pair with offered := none, offerFails := 0, wantHandover := false, then_ := 0 } } .pri cHandoverFailed sevWarning)
    split
    · exact (SupPairSame.of_only (Module.raise_only _ _ _ _ _ _ _ _)).1.trans psup
    · exact psup

end

/-! ### Taking the lead (Table 14-7) -/

/-- The module as a leader that drives LEAD_TOKEN low or does not, before its conditions, its time and its outputs follow. -/
def Module.inLead (m : Module) (a : Bool) : Module :=
  { m with
    ver := { m.ver with fast := [] }
    sweep := { m.sweep with running := true, prov := none }
    can := { m.can with lastLimit := m.time.now }
    pair := { m.pair with
      stopped := false, driving := a, holdRun := a, tokenLow := a || m.pair.tokenLow, vsiDepart := false, bootWait := false
      offered := none, accepted := none, offerFails := 0, depart := none, breaks := [], noGeyser := false
      splitDone := false, setWanted := false, wantHandover := false
      resync := { m.pair.resync with
        requested := false, next := 0, lost := [], steps := [], buffered := [], failed := false } } }

/-- The conditions that a follower holds end with its lead. -/
def Module.followerClear (m : Module) : Module :=
  ((m.clear .pri cPairSyncFailed).clear .pri cPairDigestMismatch).clear .pri cTokenFault

theorem Module.followerClear_only (m : Module) : JournalOnly m m.followerClear :=
  ((m.clear_only _ _ _ _).trans (Module.clear_only _ _ _ _ _)).trans (Module.clear_only _ _ _ _ _)

/-- The time of a new leader goes over to its own source. -/
def Module.leaderTime (m : Module) : Module := if m.ownSource then m else m.sourceGone

theorem Module.leaderTime_sameSupPair (m : Module) : SupPairSame m m.leaderTime := by
  unfold Module.leaderTime
  split
  · exact .refl m
  · exact m.sourceGone_sameSupPair

theorem Module.takeLead_eq (m : Module) : m.takeLead = ((((m.setRole .leader).inLead
    (decide (m.sup.slot = .a))).followerClear.leaderTime).takeSwitches.canHandover.enablePorts).sendKeepalive := rfl

section
variable {m : Module}

theorem Module.takeLead_pair : m.takeLead.pair = ((m.setRole .leader).inLead (decide (m.sup.slot = .a))).pair := by
  obtain ⟨-, hclear⟩ := SupPairSame.of_only
    ((m.setRole .leader).inLead (decide (m.sup.slot = .a))).followerClear_only
  rw [Module.takeLead_eq, (Module.sendKeepalive_sameSupPair _).2, (Module.enablePorts_sameSupPair _).2,
    (Module.canHandover_sameSupPair _).2, (Module.takeSwitches_sameSupPair _).2, (Module.leaderTime_sameSupPair _).2, hclear]

theorem Module.takeLead_role : m.takeLead.pair.role = .leader := by
  rw [Module.takeLead_pair]
  exact m.setRole_role .leader

/-- In slot A the new leader drives LEAD_TOKEN low (R341). -/
theorem Module.takeLead_drives (h : m.sup.slot = .a) : m.takeLead.pair.tokenLow = true ∧ m.takeLead.pair.driving = true := by
  rw [Module.takeLead_pair]
  simp [Module.inLead, h]

/-! ### When a failover may come (R354) -/

theorem Module.mayTakeOver_spec (h : m.mayTakeOver = true) : m.follows = true ∧ m.wirePermits = true ∧
    m.sup.lever = .locked ∧ (m.pair.depart ≠ none ∨ (m.pair.silent = true ∧ m.ringEvidence = true)) := by
  simp only [Module.mayTakeOver, Bool.and_eq_true, Bool.or_eq_true, decide_eq_true_eq, Option.isSome_iff_ne_none] at h
  obtain ⟨⟨⟨⟨⟨hf, -⟩, hw⟩, hl⟩, -⟩, hd⟩ := h
  exact ⟨hf, hw, hl, hd⟩

end

/-! ### A planned handover: offer, answer, point (R351 to R353) -/

/-- A follower answers an offer. -/
def Module.hearOffer (m : Module) (k : Nat) : Module :=
  if m.leads then m
  else if m.pair.role = .ready ∧ m.sup.lever = .locked ∧ 2 ≤ m.pair.equalRun ∧ m.pair.depart = none ∧
      m.activatesAt k = false then
    Module.emit { m with pair := { m.pair with accepted := some k } } (.pairHandover 1 k)
  else Module.emit { m with pair := { m.pair with accepted := none } } (.pairHandover 2 k)

/-- The leader's offer is accepted. -/
def Module.hearAccept (m : Module) (k : Nat) : Module :=
  if m.leads ∧ m.pair.offered = some k then { m with pair := { m.pair with offered := none, accepted := some k } } else m

/-- The leader's offer is declined. -/
def Module.hearDecline (m : Module) (k : Nat) : Module :=
  if m.leads ∧ m.pair.offered = some k then m.offerFailed k else m

/-- A handover point before the outputs of a parking module end. -/
def Module.pointTaken (m : Module) : Module :=
  if m.isPair = false then m else if m.leads then m.leaderPoint else if m.follows then m.followerPoint else m

section
variable {s : State} {h : PairHdr} {k : Nat}

theorem exec_handoverOffer : exec (.handoverOffer h k) s =
    .next { s with m := s.m.hears h (fun m => m.hearOffer k) } := rfl

theorem exec_handoverAccept : exec (.handoverAccept h k) s =
    .next { s with m := s.m.hears h (fun m => m.hearAccept k) } := rfl

theorem exec_handoverDecline : exec (.handoverDecline h k) s =
    .next { s with m := s.m.hears h (fun m => m.hearDecline k) } := rfl

theorem exec_handoverPoint : exec .handoverPoint s =
    onBoot s (fun m => if m.runs then pointDone m.pointTaken else m) := rfl

end

section
variable {m : Module} {k : Nat}

theorem Module.hearOffer_accepts (hr : m.pair.role = .ready) (hl : m.sup.lever = .locked) (he : 2 ≤ m.pair.equalRun)
    (hd : m.pair.depart = none) (ha : m.activatesAt k = false) : m.hearOffer k =
      Module.emit { m with pair := { m.pair with accepted := some k } } (.pairHandover 1 k) := by
  have hleads : m.leads = false := by simp [Module.leads, hr]
  exact (if_neg (Bool.eq_false_iff.1 hleads)).trans (if_pos ⟨hr, hl, he, hd, ha⟩)

theorem Module.hearOffer_declines (hl : m.leads = false) (hn : m.pair.role ≠ .ready ∨ m.sup.lever ≠ .locked ∨
    m.pair.equalRun < 2 ∨ m.pair.depart ≠ none ∨ m.activatesAt k = true) : m.hearOffer k =
      Module.emit { m with pair := { m.pair with accepted := none } } (.pairHandover 2 k) := by
  refine (if_neg (Bool.eq_false_iff.1 hl)).trans (if_neg fun e => ?_)
  obtain ⟨hr, hlev, he, hd, ha⟩ := e
  rcases hn with h | h | h | h | h
  · exact h hr
  · exact h hlev
  · exact absurd he (Nat.not_le.2 h)
  · exact h hd
  · exact Bool.false_ne_true (ha.symm.trans h)

/-! ### The handover point of the leader -/

theorem Module.leaderPoint_gives (ha : m.pair.accepted = some k) (hd : m.handoverDue k = true)
    (hr : m.pair.partnerRole = some .ready) (hl : m.pair.keep.leverLocked = true) : m.leaderPoint = m.giveLead := by
  simp only [Module.leaderPoint, ha, hd, hr, hl, and_self, if_true]

theorem Module.leaderPoint_fails (ha : m.pair.accepted = some k) (hd : m.handoverDue k = true)
    (hn : m.pair.partnerRole ≠ some .ready ∨ m.pair.keep.leverLocked = false) :
    m.leaderPoint = Module.offerFailed { m with pair := { m.pair with accepted := none } } k := by
  have hno : ¬ (m.pair.partnerRole = some .ready ∧ m.pair.keep.leverLocked = true) := fun e => by
    rcases hn with h | h
    · exact h e.1
    · exact Bool.false_ne_true (h.symm.trans e.2)
  simp only [Module.leaderPoint, ha, hd, if_true, if_neg hno]

section
variable (ha : m.pair.accepted = none)
include ha

theorem Module.leaderPoint_unanswered (ho : m.pair.offered = some k) (hd : m.handoverDue k = true) :
    m.leaderPoint = m.offerFailed k := by
  simp only [Module.leaderPoint, ha, ho, hd, if_true]

variable (ho : m.pair.offered = none)
include ho

theorem Module.leaderPoint_takes (ht : m.pair.takeover = true) (hd : m.pair.takeAt + 1000000 ≤ m.time.now) :
    m.leaderPoint = m.takeoverPoint := by
  simp only [Module.leaderPoint, ha, ho, ht, hd, decide_true, Bool.and_self, if_true]

theorem Module.leaderPoint_idle (ht : m.pair.takeover = false) : m.leaderPoint = m := by
  simp only [Module.leaderPoint, ha, ho, ht, Bool.false_and, Bool.false_eq_true, if_false]

end

/-! ### The handover point of a follower -/

theorem Module.followerPoint_gains (ha : m.pair.accepted = some k) (hd : m.handoverDue k = true)
    (hr : m.pair.role = .ready) (hl : m.sup.lever = .locked)
    (hw : m.sup.slot = .a ∨ m.wireMine = true ∨ (m.pair.depart = none ∧ m.pair.silent = false)) :
    m.followerPoint = m.gainLead := by
  simp only [Module.followerPoint, ha, hd, if_true]
  exact if_pos ⟨hr, hl, hw⟩

theorem Module.followerPoint_idle (ha : m.pair.accepted = none) : m.followerPoint = m := by
  simp only [Module.followerPoint, ha]

/-! ### The point of a pair module -/

variable (hp : m.pairServes = true)
include hp

theorem Module.pairServes_spec : m.runs = true ∧ m.isPair = true ∧ m.up .pri = true := by
  simpa [Module.pairServes, and_assoc] using hp

theorem Module.point_leader (hl : m.leads = true) :
    (if m.runs then pointDone m.pointTaken else m) = pointDone m.leaderPoint := by
  obtain ⟨hr, hpair, -⟩ := Module.pairServes_spec hp
  simp only [Module.pointTaken, hr, hpair, hl, if_true, Bool.true_eq_false, if_false]

theorem Module.point_follower (hf : m.follows = true) :
    (if m.runs then pointDone m.pointTaken else m) = pointDone m.followerPoint := by
  obtain ⟨hr, hpair, -⟩ := Module.pairServes_spec hp
  simp only [Module.pointTaken, hr, hpair, Module.follows_not_leads hf, hf, if_true, Bool.true_eq_false,
    Bool.false_eq_true, if_false]

end

section
variable {s : State} {k : Nat} (hp : s.m.pairServes = true)
include hp

/-- At its handover point a leader comes to what its point gives. -/
theorem handoverPoint_leader {n : Module} (hl : s.m.leads = true) (hn : s.m.leaderPoint = n) :
    Boots .handoverPoint s (pointDone n) :=
  boots_of_onBoot exec_handoverPoint ((Module.point_leader hp hl).trans (congrArg pointDone hn))

/-- A leader that does not park, and whose supply and lever stand as they did, has no more to do at its point. -/
theorem handoverPoint_stays {n : Module} (hl : s.m.leads = true) (hpark : s.m.sup.parking = false)
    (hn : s.m.leaderPoint = n) (hsup : n.sup = s.m.sup) : exec .handoverPoint s = .next { s with m := n } := by
  have hdone : pointDone n = n := pointDone_serving (by rw [hsup, hpark])
  refine exec_of_onBoot exec_handoverPoint ((Module.point_leader hp hl).trans ?_) (by rw [hsup])
  rw [hn, hdone]

theorem handoverPoint_gains (hr : s.m.pair.role = .ready) (ha : s.m.pair.accepted = some k)
    (hd : s.m.handoverDue k = true) (hl : s.m.sup.lever = .locked)
    (hw : s.m.sup.slot = .a ∨ s.m.wireMine = true ∨ (s.m.pair.depart = none ∧ s.m.pair.silent = false)) :
    Boots .handoverPoint s (pointDone s.m.gainLead) := by
  have hf : s.m.follows = true := by simp [Module.follows, hr]
  exact boots_of_onBoot exec_handoverPoint
    ((Module.point_follower hp hf).trans (congrArg pointDone (Module.followerPoint_gains ha hd hr hl hw)))

theorem handoverPoint_parks (hf : s.m.follows = true) (hpark : s.m.sup.parking = true) (ho : s.m.sup.outputsOff = false)
    (ha : s.m.pair.accepted = none) : exec .handoverPoint s = .next { s with m := s.m.parkPoint } := by
  refine exec_of_onBoot exec_handoverPoint ((Module.point_follower hp hf).trans ?_) (by rw [s.m.parkPoint_sup_pair.1])
  rw [Module.followerPoint_idle ha]
  exact if_pos ⟨hpark, Module.follows_not_leads hf, ho⟩

/-! ### Failover, silence and the lanes (R344, R349, R354) -/

theorem exec_failoverTakeover (hm : s.m.mayTakeOver = true) :
    exec .failoverTakeover s = .next { s with m := s.m.failover } := by
  obtain ⟨-, hpair, -⟩ := Module.pairServes_spec hp
  show execFailoverTakeover s = _
  unfold execFailoverTakeover
  rw [onModule_eq, hpair, hm]
  rfl

theorem exec_splitRingSilence (hs : s.m.pair.silent = true) : exec .splitRingSilence s =
    .next { s with m := { s.m with pair := { s.m.pair with splitDone := true } } } := by
  show execSplitRingSilence s = _
  unfold execSplitRingSilence
  rw [onModule_eq, if_pos ⟨hp, hs⟩]

section
variable (hw : s.m.dorm.phase ≠ .dormant)
include hw

theorem Module.lanesWatched_awake : s.m.lanesWatched = true := by
  simp [Module.lanesWatched, hp, hw]

theorem exec_pairLaneDown (lane : Nat) : exec (.pairLaneDown lane) s = .next { s with
    m := Module.raise { s.m with pair := { s.m.pair with lanes := modAt s.m.pair.lanes lane (fun _ => false) } } .pri
      cPairLaneDown sevWarning scModule lane } := by
  show execPairLaneDown lane s = _
  unfold execPairLaneDown
  rw [onModule_eq, if_pos (Module.lanesWatched_awake hp hw)]

theorem pairLaneDown_raises (lane : Nat) : ∃ t, Answers (.pairLaneDown lane) s t ∧
    JournalOnly { s.m with pair := { s.m.pair with lanes := modAt s.m.pair.lanes lane (fun _ => false) } } t.m ∧
    t.m.holds cPairLaneDown scModule lane = true :=
  ⟨_, ⟨exec_pairLaneDown hp hw lane, rfl, rfl⟩, Module.raise_only _ _ _ _ _ _ _ _, Module.raise_holds _ _ _ _ _ _ _ _⟩

end

end

section
variable {s : State}

theorem exec_pairLaneDown_asleep (hw : s.m.dorm.phase = .dormant) (lane : Nat) :
    exec (.pairLaneDown lane) s = .next s :=
  exec_of_onModule_id rfl (if_neg (by simp [Module.lanesWatched, hw]))

theorem exec_pairLinkSilent_asleep (hw : s.m.dorm.phase = .dormant) (seen : List Nat) :
    exec (.pairLinkSilent seen) s = .next s :=
  exec_of_onModule_id rfl (if_neg (by simp [Module.lanesWatched, hw]))

theorem exec_failoverTakeover_idle (hm : s.m.mayTakeOver = false) : exec .failoverTakeover s = .next s :=
  exec_of_onModule_id rfl (if_neg (by simp [hm]))

end

/-! ### The silent link (R349, R354) -/

/-- The module that counts the link as silent. -/
def Module.linkSilent (m : Module) (seen : List Nat) : Module :=
  { m with pair := { m.pair with silent := true, serve := false, noGeyser := decide (seen = []) } }

/-- What a module does on a silent link, once a resynchronisation under way is abandoned. -/
def Module.silence (m : Module) (seen : List Nat) : Module :=
  let m := m.linkSilent seen
  let m := if m.follows ∧ m.up .mgi then m.sourceGone else m
  if m.follows ∧ seen ≠ [] then (m.raise .pri cPairLinkLost).loseSync else m

theorem exec_pairLinkSilent {s : State} {seen : List Nat} : exec (.pairLinkSilent seen) s =
    .next { s with m := if s.m.lanesWatched then s.m.abandonResync.silence seen else s.m } := rfl

/-- The resynchronisation of a module that has abandoned it. -/
def Resync.abandoned (r : Resync) (now : Nat) : Resync :=
  let aborts := now :: r.aborts.filter (fun t => decide (now < t + 600000))
  { r with
    requested := false, next := 0, lost := [], steps := [], buffered := [], aborts := aborts
    failed := decide (3 ≤ aborts.length) }

section
variable {m : Module}

theorem Module.abandonResync_idle (h : m.pair.resync.requested = false) : m.abandonResync = m :=
  if_neg (Bool.eq_false_iff.1 h)

theorem Module.abandonResync_only (h : m.pair.resync.requested = true) :
    JournalOnly (m.atBlock (m.pair.resync.abandoned m.ms)) m.abandonResync := by
  unfold Module.abandonResync
  rw [if_pos h]
  dsimp only
  split
  · exact Module.raise_only _ _ _ _ _ _ _ _
  · exact .refl _

/-- Whether it follows, and which islands are up, stands as before. -/
theorem Module.abandonResync_keeps : m.abandonResync.follows = m.follows ∧ ∀ i, m.abandonResync.up i = m.up i := by
  cases h : m.pair.resync.requested with
  | false => simp only [Module.abandonResync_idle h, implies_true, and_self]
  | true =>
    have honly := Module.abandonResync_only h
    exact ⟨honly.field (·.follows) fun _ _ _ _ => rfl, fun i => honly.field (·.up i) fun _ _ _ _ => rfl⟩

variable {seen : List Nat}

theorem Module.silence_leader (hf : m.follows = false) : m.silence seen = m.linkSilent seen := by
  have hf' : (m.linkSilent seen).follows = false := hf
  simp [Module.silence, hf']

theorem Module.silence_follower (hf : m.follows = true) : m.silence seen =
    if seen ≠ [] then
      ((if m.up .mgi then (m.linkSilent seen).sourceGone else m.linkSilent seen).raise .pri cPairLinkLost).loseSync
    else if m.up .mgi then (m.linkSilent seen).sourceGone else m.linkSilent seen := by
  have hf' : (m.linkSilent seen).follows = true := hf
  have hg : (m.linkSilent seen).sourceGone.follows = true := by
    rw [Module.follows, (Module.sourceGone_sameSupPair _).2]
    exact hf
  have hu : (m.linkSilent seen).up .mgi = m.up .mgi := rfl
  unfold Module.silence
  cases hm : m.up .mgi <;> simp [hf', hg, hu, hm]

end

/-! ### The token (R340, R341, Table 14-2) -/

/-- The module with the wire as it reads. -/
def Module.wireAt (m : Module) (low : Bool) : Module := { m with pair := { m.pair with tokenLow := low } }

/-- What a module of a pair does as the wire reads otherwise. -/
def Module.wireHeeded (m : Module) : Module :=
  if m.leads ∧ m.wireMine = false then
    if m.sup.slot = .b then (if m.pair.accepted.isSome then m.giveLead else m.deposed)
    else { m with pair := { m.pair with stopped := true } }
  else if m.leads ∧ m.pair.driving then { m with pair := { m.pair with stopped := false } }
  else m.roleCheck

theorem Module.roleCheck_holding {m : Module} (h : m.pair.role ≠ .none_) : m.roleCheck = m := by
  simp [Module.roleCheck, h]

/-- A slot B leader that the wire leaves gives the lead within an accepted handover, and is deposed without one. -/
theorem Module.wireHeeded_b {m : Module} (hl : m.leads = true) (hb : m.sup.slot = .b) : (m.wireAt true).wireHeeded =
    if (m.wireAt true).pair.accepted.isSome then (m.wireAt true).giveLead else (m.wireAt true).deposed := by
  have hmine : (m.wireAt true).wireMine = false := by simp [Module.wireMine, Module.wireAt, hb]
  exact (if_pos ⟨hl, hmine⟩).trans (if_pos hb)

section
variable {s : State} {low : Bool} (hp : s.m.pairServes = true)

theorem exec_leadTokenChange : exec (.leadTokenChange low) s =
    onBoot s (fun m => if (m.wireAt low).pairServes then (m.wireAt low).wireHeeded else m.wireAt low) := rfl

include hp

theorem wire_served : (if (s.m.wireAt low).pairServes then (s.m.wireAt low).wireHeeded else s.m.wireAt low) =
    (s.m.wireAt low).wireHeeded := if_pos (show (s.m.wireAt low).pairServes = true from hp)

theorem leadTokenChange_noted (hr : s.m.pair.role ≠ .none_) (hl : s.m.leads = false) :
    exec (.leadTokenChange low) s = .next { s with m := s.m.wireAt low } := by
  have hl' : (s.m.wireAt low).leads = false := hl
  refine exec_of_onBoot exec_leadTokenChange ((wire_served hp).trans ?_) rfl
  simp only [Module.wireHeeded, hl', Bool.false_eq_true, false_and, if_false]
  exact Module.roleCheck_holding hr

section
variable (hl : s.m.leads = true)
include hl

section
variable (hb : s.m.sup.slot = .b)
include hb

theorem leadTokenChange_deposes (ha : s.m.pair.accepted = none) :
    exec (.leadTokenChange true) s = .next { s with m := (s.m.wireAt true).deposed } := by
  have hno : ¬ (s.m.wireAt true).pair.accepted.isSome = true := by simp [Module.wireAt, ha]
  refine exec_of_onBoot exec_leadTokenChange ((wire_served hp).trans ((Module.wireHeeded_b hl hb).trans (if_neg hno))) ?_
  rw [Module.deposed_sup]
  rfl

theorem leadTokenChange_gives {k : Nat} (ha : s.m.pair.accepted = some k) :
    Boots (.leadTokenChange true) s (s.m.wireAt true).giveLead := by
  have hyes : (s.m.wireAt true).pair.accepted.isSome = true := by simp [Module.wireAt, ha]
  exact boots_of_onBoot exec_leadTokenChange ((wire_served hp).trans ((Module.wireHeeded_b hl hb).trans (if_pos hyes)))

end

section
variable (ha : s.m.sup.slot = .a)
include ha

theorem leadTokenChange_stops : exec (.leadTokenChange false) s = .next { s with
    m := { s.m with pair := { s.m.pair with tokenLow := false, stopped := true } } } := by
  have hmine : (s.m.wireAt false).wireMine = false := by simp [Module.wireMine, Module.wireAt, ha]
  have hb : (s.m.wireAt false).sup.slot ≠ .b := by simp [Module.wireAt, ha]
  exact exec_of_onBoot exec_leadTokenChange ((wire_served hp).trans ((if_pos ⟨hl, hmine⟩).trans (if_neg hb))) rfl

theorem leadTokenChange_resumes (hd : s.m.pair.driving = true) : exec (.leadTokenChange true) s = .next { s with
    m := { s.m with pair := { s.m.pair with tokenLow := true, stopped := false } } } := by
  have hmine : ¬ ((s.m.wireAt true).leads ∧ (s.m.wireAt true).wireMine = false) := by
    simp [Module.wireMine, Module.wireAt, ha]
  exact exec_of_onBoot exec_leadTokenChange ((wire_served hp).trans ((if_neg hmine).trans (if_pos ⟨hl, hd⟩))) rfl

theorem exec_tokenFault (hd : s.m.pair.driving = true) :
    exec .tokenFault s = .next { s with m := (s.m.raise .pri cTokenFault).deposed } := by
  show execTokenFault s = _
  unfold execTokenFault
  rw [onModule_eq, if_pos ⟨hp, ha, hl, hd⟩]

/-- The module that releases the wire and says so. -/
def Module.wireReleased (m : Module) : Module :=
  Module.emit { m with pair := { m.pair with driving := false, holdRun := false, tokenLow := false } } (.pairDepart 3)

theorem exec_tokenHoldExpire (hh : s.m.pair.holdRun = true) : exec .tokenHoldExpire s = .next { s with
    m := if s.m.up .vsi then s.m.wireReleased.deposed
      else { s.m.wireReleased.prechargeLow with pair := { s.m.wireReleased.pair with stopped := true } } } := by
  show execTokenHoldExpire s = _
  unfold execTokenHoldExpire
  rw [onModule_eq, if_pos ⟨hp, ha, hl, hh⟩]
  rfl

end

end

/-! ### The boot of a module that hears no partner (R342) -/

theorem exec_pairBootTimeout (hr : s.m.pair.role = .none_) (hs : s.m.pair.silent = true) :
    exec .pairBootTimeout s = .next { s with
      m := Module.roleCheck { s.m with pair := { s.m.pair with bootWait := true } } } := by
  show execPairBootTimeout s = _
  unfold execPairBootTimeout
  rw [onModule_eq, if_pos ⟨hp, hr, hs⟩]

end

section
variable {s : State}

theorem exec_tokenFault_idle (hd : s.m.pair.driving = false) : exec .tokenFault s = .next s :=
  exec_of_onModule_id rfl (if_neg (by simp [hd]))

theorem exec_tokenHoldExpire_idle (hh : s.m.pair.holdRun = false) : exec .tokenHoldExpire s = .next s :=
  exec_of_onModule_id rfl (if_neg (by simp [hh]))

theorem exec_pairBootTimeout_idle (hr : s.m.pair.role ≠ .none_) : exec .pairBootTimeout s = .next s :=
  exec_of_onModule_id rfl (if_neg (by simp [hr]))

end

theorem PreCh.low_outputsLow (ch : PreCh) : PreCh.outputsLow ch.low := ⟨rfl, rfl, rfl, rfl⟩

end Machine

/-! ### Assembly -/

/-- An offer is taken, or declined, by a module that has heard it. -/
theorem offer_answered (s : State) (h : PairHdr) (hp : s.m.pairServes = true) (k : Nat) :
    (s.m.pair.role = .ready → s.m.sup.lever = .locked → 2 ≤ s.m.pair.equalRun → s.m.pair.depart = none →
      (s.m.heardPair h).activatesAt k = false → exec (.handoverOffer h k) s = .next { s with
        m := Module.emit { s.m.heardPair h with pair := { (s.m.heardPair h).pair with accepted := some k } }
          (.pairHandover 1 k) }) ∧
    (s.m.pair.role = .syncing ∨ (s.m.leads = false ∧ (s.m.sup.lever ≠ .locked ∨ s.m.pair.equalRun < 2 ∨
        s.m.pair.depart ≠ none ∨ (s.m.heardPair h).activatesAt k = true)) → exec (.handoverOffer h k) s = .next { s with
        m := Module.emit { s.m.heardPair h with pair := { (s.m.heardPair h).pair with accepted := none } }
          (.pairHandover 2 k) }) := by
  have hrole := s.m.heardPair_role h
  have hleads := s.m.heardPair_leads h
  have hsup : (s.m.heardPair h).sup = s.m.sup := Module.heardPair_field Module.sup _ _ fun _ _ _ _ _ _ => rfl
  have hrun : (s.m.heardPair h).pair.equalRun = s.m.pair.equalRun := by rw [s.m.heardPair_pair h]
  have hdep : (s.m.heardPair h).pair.depart = s.m.pair.depart := by rw [s.m.heardPair_pair h]
  rw [exec_handoverOffer, Module.hears_served hp, ← hrole, ← hleads, ← hsup, ← hrun, ← hdep]
  generalize s.m.heardPair h = n
  refine ⟨fun hr hl he hd ha => ?_, fun hn => ?_⟩
  · rw [Module.hearOffer_accepts hr hl he hd ha]
  · rcases hn with hr | ⟨hl, hn⟩
    · rw [Module.hearOffer_declines (by simp [Module.leads, hr]) (.inl (by simp [hr]))]
    · rw [Module.hearOffer_declines hl (.inr hn)]

/-- The leader takes the answer to its own offer, and lets any other be. -/
theorem answer_taken (s : State) (h : PairHdr) (hp : s.m.pairServes = true) (k : Nat) :
    (s.m.leads = true → s.m.pair.offered = some k →
      exec (.handoverAccept h k) s = .next { s with m := { s.m.heardPair h with
        pair := { (s.m.heardPair h).pair with offered := none, accepted := some k } } } ∧
      exec (.handoverDecline h k) s = .next { s with m := (s.m.heardPair h).offerFailed k }) ∧
    (s.m.leads = false ∨ s.m.pair.offered ≠ some k →
      exec (.handoverAccept h k) s = .next { s with m := s.m.heardPair h } ∧
      exec (.handoverDecline h k) s = .next { s with m := s.m.heardPair h }) := by
  have hleads := s.m.heardPair_leads h
  have hoff : (s.m.heardPair h).pair.offered = s.m.pair.offered := by rw [s.m.heardPair_pair h]
  rw [exec_handoverAccept, exec_handoverDecline, Module.hears_served hp, Module.hears_served hp, ← hleads, ← hoff]
  generalize s.m.heardPair h = n
  refine ⟨fun hl ho => ?_, fun hn => ?_⟩
  · rw [Module.hearAccept, Module.hearDecline, if_pos ⟨hl, ho⟩, if_pos ⟨hl, ho⟩]
    exact ⟨rfl, rfl⟩
  · have hno : ¬ (n.leads = true ∧ n.pair.offered = some k) := fun e => by
      rcases hn with h | h
      · exact Bool.false_ne_true (h.symm.trans e.1)
      · exact h e.2
    rw [Module.hearAccept, Module.hearDecline, if_neg hno, if_neg hno]
    exact ⟨rfl, rfl⟩

/-- Settles O35: an offer is answered and an answer taken once it is heard; the handover point, the failover, the silent link
and the token each go by the role and the wire. That an accepted handover falls where the partner is not READY, and what the
wire of a follower in slot B must read, is log 93; that a stopped leader stays so until the wire reads low is log 180; that the
Carapace reads its slot code at each boot is log 151. -/
theorem leadershipMoves : Obligations.LeadershipMoves := by
  refine ⟨fun m => ⟨Module.takeLead_role, Module.takeLead_drives⟩, fun m => Module.mayTakeOver_spec, fun s h hp => ?_⟩
  refine ⟨fun k => (offer_answered s h hp k).1, fun k => (offer_answered s h hp k).2, fun k => (answer_taken s h hp k).1,
    fun k => (answer_taken s h hp k).2, fun hl hpark => ⟨fun k ha hd hr hk => ?_, fun k ha hd hn => ?_,
      fun k ha ho hd => ?_, fun ha ho ht hd => ?_, fun ha ho ht => ?_⟩,
    fun hr k ha hd hl hw => handoverPoint_gains hp hr ha hd hl hw,
    fun hf hpark ho ha => handoverPoint_parks hp hf hpark ho ha, exec_failoverTakeover hp, exec_failoverTakeover_idle,
    pairLaneDown_raises hp, fun hw seen hl hq => ?_, fun hw hf => ?_, fun hw => ⟨exec_pairLaneDown_asleep hw,
      exec_pairLinkSilent_asleep hw⟩, exec_splitRingSilence hp, fun low hr hl => leadTokenChange_noted hp hr hl,
    fun hb hl => ⟨_, rfl, leadTokenChange_deposes hp hl hb, fun k => leadTokenChange_gives hp hl hb⟩,
    fun ha hl => leadTokenChange_stops hp hl ha, fun ha hl hd => leadTokenChange_resumes hp hl ha hd,
    fun ha hl hd => ⟨_, Module.raise_only _ _ _ _ _ _ _ _, Module.raise_holds _ _ _ _ _ _ _ _,
      exec_tokenFault hp hl ha hd⟩, exec_tokenFault_idle, fun ha hl hh => ?_, exec_tokenHoldExpire_idle,
    fun hr hs => ⟨_, rfl, exec_pairBootTimeout hp hr hs⟩, exec_pairBootTimeout_idle⟩
  · exact handoverPoint_leader hp hl (Module.leaderPoint_gives ha hd hr hk)
  · exact ⟨_, rfl, _, ⟨handoverPoint_stays hp hl hpark (Module.leaderPoint_fails ha hd hn) (Module.offerFailed_sup _ _), rfl,
      rfl⟩, rfl⟩
  · exact ⟨_, ⟨handoverPoint_stays hp hl hpark (Module.leaderPoint_unanswered ha ho hd) (Module.offerFailed_sup _ _), rfl,
      rfl⟩, rfl⟩
  · exact handoverPoint_leader hp hl (Module.leaderPoint_takes ha ho ht hd)
  · exact handoverPoint_stays hp hl hpark (Module.leaderPoint_idle ha ho ht) rfl
  · rw [exec_pairLinkSilent, if_pos (Module.lanesWatched_awake hp hw), Module.abandonResync_idle hq,
      Module.silence_leader (Module.leads_not_follows hl)]
    rfl
  · obtain ⟨hfollow, hup⟩ := s.m.abandonResync_keeps
    have hsilent (seen : List Nat) : exec (.pairLinkSilent seen) s =
        .next { s with m := s.m.abandonResync.silence seen } := by
      rw [exec_pairLinkSilent, if_pos (Module.lanesWatched_awake hp hw)]
    simp only [hsilent, Module.silence_follower (hfollow.trans hf), hup]
    refine ⟨_, rfl, fun seen hs => ⟨s.m.abandonResync.linkSilent seen, ?_, ?_⟩, s.m.abandonResync.linkSilent [], rfl, rfl⟩
    · rw [Module.linkSilent, decide_eq_false hs]
    · rw [if_pos hs]
  · refine ⟨s.m.wireReleased, rfl, fun hu => ?_, fun hu => ⟨_, ⟨exec_tokenHoldExpire hp hl ha hh, rfl, rfl⟩, ?_, ?_⟩⟩
    · rw [exec_tokenHoldExpire hp hl ha hh, if_pos hu]
    · rw [if_neg (Bool.eq_false_iff.1 hu)]
      rfl
    · simp only [if_neg (Bool.eq_false_iff.1 hu)]
      intro ch hch
      obtain ⟨ch', -, rfl⟩ := List.mem_map.1 hch
      exact ch'.low_outputsLow

end Sys2Proof
